-- ==== Sys2Proof/Word.lean ====
section
/-! DEFINITION. The word types of the WL7720: the 20-bit sample or coefficient word (R76), the
32-bit host word, and the sparse tables in which the model keeps arrays. -/

namespace Sys2Proof

/-- A 20-bit sample or coefficient word, two's complement (R76). -/
abbrev Sample := BitVec 20

/-- A 32-bit host word. -/
abbrev Word := BitVec 32

/-- A sparse array: pairs of index and element, indices strictly rising, no element equal to the
array's default. Reading and writing are `Tab.get` and `Tab.set` of `Machine/Tab.lean`. -/
abbrev Tab (α : Type) := List (Nat × α)

end Sys2Proof
end

