-- ==== Sys2Proof/Syntax.lean ====
section
/-! DEFINITION. The commands of the WL7720: one constructor of `Instr` for each row of
spec/opcode_table.json, with the operands of the operation or what the device sees of the event. -/

namespace Sys2Proof

/-- The target of an IND operand (R80). -/
inductive IndT | scr | led | nb | sqr
  deriving DecidableEq, Repr

/-- A general operand specifier (R80). -/
inductive Opnd
  | reg (r : Fin 8)
  | imm (v : BitVec 13)
  | scr (a : BitVec 13)
  | led (a : BitVec 13)
  | gld (a : BitVec 13)
  | sqr (a : BitVec 13)
  | nb (a : BitVec 13)
  | ind (t : IndT) (step : BitVec 9) (p : Fin 4)
  deriving DecidableEq, Repr

/-- What a port's TDM_DIN shows from the frame-start edge of a frame on: its level at each rising and at each falling
edge of the bit clock (R211). -/
structure FrameIn where
  port : Nat
  rise : List Bool
  fall : List Bool
  deriving DecidableEq, Repr

/-- What the pins and clocks present at a Bell: the time since the domain's previous Bell in ps; of the frames attached to
that Bell, how many bits each clock group has clocked (R214) and what the data pins showed; what each Sieve's filter makes of
the PDM edges about that Bell (Sieve number and 2d - 1 in units of 2^-22, R222). -/
structure BellEnv where
  interval : Nat
  bits : List Nat
  frames : List FrameIn
  sieves : List (Nat × Int)
  deriving DecidableEq, Repr

/-- What a flash declares through SFDP (R476, R477): revision B or later, 4 KiB and 64 KiB erases, suspend and resume, the
4-byte table; bits 3 to 0 of `reads` for 1-4-4, 1-1-4, 1-2-2 and 1-1-2 fast read, mode and dummy cycles of these and of
1-1-1; the page, the resume-to-suspend intervals of an erase and of a program in ns, and whether quad enable has a volatile
write. Of each instruction the code with 24-bit and that with 32-bit addresses: the five reads in the same order and the page
program; the erases of 4 KiB and 64 KiB with their maximum times in ms; the maximum time of a program in us; the suspend and
resume of an erase and of a program; and the declared quad-enable method. -/
structure Sfdp where
  revB : Bool := true
  erases : Bool := true
  suspends : Bool := true
  fourByte : Bool := true
  reads : BitVec 4 := 0
  cycles : List (Nat × Nat) := []
  page : Nat := 256
  gap : Nat := 0
  quadVolatile : Bool := true
  readOps : List (Nat × Nat) := []
  programOp : Nat × Nat := (0, 0)
  eraseOps : List (Nat × Nat) := []
  eraseMax : List Nat := []
  programMax : Nat := 0
  suspendOps : List Nat := []
  programGap : Nat := 0
  quadMethod : Nat := 0
  deriving DecidableEq, Repr

/-- What a boot step sees outside the always-on logic: whether the ROM self-test passed, the bits
in which the two fuse reads differ (R340), the pins BOOTSEL and PAIR_POS, the usable size of each
flash found through SFDP (0: absent, R476) and whether the crystal runs (R503). -/
structure BootEnv where
  selfTest : Bool
  fuseDiff : BitVec 2048
  bootsel : BitVec 2
  pos : Bool
  size0 : Nat
  size1 : Nat
  crystal : Bool
  sfdp0 : Sfdp := {}
  sfdp1 : Sfdp := {}
  deriving DecidableEq, Repr

/-- Rails other than VDD_AON: VDD_CORE, VDD_SRAM and VDD_LINK together, VDD_OSC, VDDIO_A, VDDIO_H (R505, R506). -/
structure Rails where
  core : Bool := false
  osc : Bool := false
  audio : Bool := false
  host : Bool := false
  deriving DecidableEq, Repr

/-- What VDD_AON power-good brings: the boot inputs, RESET_N, DUTY_IN, the rails that are good. -/
structure PowerEnv where
  boot : BootEnv
  resetN : Bool
  dutyIn : Bool
  rails : Bool
  vddioH : Bool
  vddioA : Bool
  vddOsc : Bool
  deriving DecidableEq, Repr

/-- A Jexolaryn control packet of the Twin link (R180, R253, R281, R302, R128). -/
inductive TwinMsg
  | stage (set : Fin 8) (q : Fin 128) (kind : Fin 3) (addr : Nat) (v : Sample) (glide : Nat)
  | discard (set : Fin 8)
  | ack (swap : Bool) (n : Fin 8) (ok : Bool)
  | planWord (off : Nat) (w : Word)
  | campaign (what : Fin 4) (bell : BitVec 48)
  | zone (z : BitVec 8) (phase : Fin 7) (verdict : Fin 8) (tries : Nat) (reasons : Word) (counts : List Nat)
  | crierPlay (w : Word)
  | crierStop
  | armState (a : Fin 6)
  | armFail (code : BitVec 8) (d : Option (Fin 4))
  | armRequest (joiner : Bool) (mode : Fin 16) (bundles : List (BitVec 384)) (busy : Bool) (doms : List Word)
      (tx rx : List Nat)
  | service (words : List Word) (crcs : List Word) (c1 : BitVec 48)
  | own (d : Fin 4) (bell : BitVec 48) (glides : List (Nat × Nat × Sample × Nat))
  deriving DecidableEq, Repr

/-- A copy packet (R304, R305). -/
inductive CopyPacket
  | rows (addr : Nat) (words : List Sample)
  | lineIdx (e : Fin 4096) (widx : Nat)
  | ledger (q : Fin 128) (shadow : Bool) (first : Nat) (words : List Sample)
  | capture (q : Fin 128) (scratch nb slots : List Sample) (glides : List (Sample × Sample × Nat))
  | bulkDone
  | joinAt (d : Fin 4) (bell : BitVec 48)
  | captureDone
  | dirtyLost
  deriving DecidableEq, Repr

/-- Who writes a register (R13, R373): the host through the window, or a Reeve. -/
inductive Writer
  | host
  | reeve (r : Fin 4) (user : Bool)
  deriving DecidableEq, Repr

/-- One command for each row of spec/opcode_table.json. -/
inductive Instr
  /-- NOP, R84. Quern instruction that occupies one program slot and does nothing. -/
  | nop (q : Fin 128)
  /-- REP, R99. Quern instruction that makes the next instruction execute n times in total. -/
  | rep (q : Fin 128) (n : BitVec 13)
  /-- MPY, R85. Quern multiply of a sample by a coefficient into an accumulator. -/
  | mpy (q : Fin 128) (acc1 : Fin 4) (cf : Bool) (a : Opnd) (b : Opnd)
  /-- MAC, R85. Quern multiply-accumulate with 52-bit saturation. -/
  | mac (q : Fin 128) (acc1 : Fin 4) (cf : Bool) (a : Opnd) (b : Opnd)
  /-- MSU, R85. Quern multiply-subtract with 52-bit saturation. -/
  | msu (q : Fin 128) (acc1 : Fin 4) (cf : Bool) (a : Opnd) (b : Opnd)
  /-- PMPY, R85. Quern pair multiply into two accumulators. -/
  | pmpy (q : Fin 128) (acc1 : Fin 4) (acc2 : Fin 4) (cf : Bool) (a : Opnd) (b : Opnd)
  /-- PMAC, R85. Quern pair multiply-accumulate into two accumulators. -/
  | pmac (q : Fin 128) (acc1 : Fin 4) (acc2 : Fin 4) (cf : Bool) (a : Opnd) (b : Opnd)
  /-- PMSU, R85. Quern pair multiply-subtract from two accumulators. -/
  | pmsu (q : Fin 128) (acc1 : Fin 4) (acc2 : Fin 4) (cf : Bool) (a : Opnd) (b : Opnd)
  /-- DMPY, R85. Quern dual multiply whose two products are summed into one accumulator. -/
  | dmpy (q : Fin 128) (acc1 : Fin 4) (cf : Bool) (a : Opnd) (b : Opnd)
  /-- DMAC, R85. Quern dual multiply-accumulate with one saturation. -/
  | dmac (q : Fin 128) (acc1 : Fin 4) (cf : Bool) (a : Opnd) (b : Opnd)
  /-- DMSU, R85. Quern dual multiply-subtract with one saturation. -/
  | dmsu (q : Fin 128) (acc1 : Fin 4) (cf : Bool) (a : Opnd) (b : Opnd)
  /-- LDA, R85. Quern load of an aligned operand into an accumulator. -/
  | lda (q : Fin 128) (acc1 : Fin 4) (cf : Bool) (a : Opnd)
  /-- ADDA, R85. Quern addition of an aligned operand to an accumulator. -/
  | adda (q : Fin 128) (acc1 : Fin 4) (cf : Bool) (a : Opnd)
  /-- SUBA, R85. Quern subtraction of an aligned operand from an accumulator. -/
  | suba (q : Fin 128) (acc1 : Fin 4) (cf : Bool) (a : Opnd)
  /-- CLRA, R85. Quern clear of an accumulator. -/
  | clra (q : Fin 128) (acc1 : Fin 4)
  /-- MOVA, R85. Quern copy of one accumulator to another. -/
  | mova (q : Fin 128) (acc1 : Fin 4) (acc2 : Fin 4)
  /-- ADDAA, R85. Quern saturating sum of two accumulators. -/
  | addaa (q : Fin 128) (acc1 : Fin 4) (acc2 : Fin 4)
  /-- SUBAA, R85. Quern saturating difference of two accumulators. -/
  | subaa (q : Fin 128) (acc1 : Fin 4) (acc2 : Fin 4)
  /-- SHA, R85. Quern accumulator shift, saturating left and convergent right. -/
  | sha (q : Fin 128) (acc1 : Fin 4) (sh : BitVec 13)
  /-- STA, R78. Quern store conversion of an accumulator into a data register. -/
  | sta (q : Fin 128) (acc1 : Fin 4) (dd : Fin 8) (sh : BitVec 13)
  /-- STAM, R78. Quern store conversion of an accumulator into a memory word. -/
  | stam (q : Fin 128) (acc1 : Fin 4) (a : Opnd) (sh : BitVec 13)
  /-- MOV, R86. Quern bit-exact copy of an operand into a data register. -/
  | mov (q : Fin 128) (dd : Fin 8) (a : Opnd)
  /-- ADD, R86. Quern saturating 20-bit addition. -/
  | add (q : Fin 128) (dd : Fin 8) (a : Opnd) (b : Opnd)
  /-- SUB, R86. Quern saturating 20-bit subtraction. -/
  | sub (q : Fin 128) (dd : Fin 8) (a : Opnd) (b : Opnd)
  /-- ABS, R86. Quern saturating absolute value. -/
  | abs (q : Fin 128) (dd : Fin 8) (a : Opnd)
  /-- NEG, R86. Quern saturating negation. -/
  | neg (q : Fin 128) (dd : Fin 8) (a : Opnd)
  /-- MIN, R86. Quern signed minimum of two operands. -/
  | min (q : Fin 128) (dd : Fin 8) (a : Opnd) (b : Opnd)
  /-- MAX, R86. Quern signed maximum of two operands. -/
  | max (q : Fin 128) (dd : Fin 8) (a : Opnd) (b : Opnd)
  /-- SHF, R86. Quern 20-bit shift, saturating left and convergent right. -/
  | shf (q : Fin 128) (dd : Fin 8) (a : Opnd) (sh : BitVec 13)
  /-- ST, R86. Quern store of a data register or immediate into a memory word. -/
  | st (q : Fin 128) (a : Opnd) (b : Opnd)
  /-- SETP, R98. Quern write of one field of a pointer. -/
  | setp (q : Fin 128) (field : Fin 4) (ptr : Fin 4) (b : Opnd)
  /-- CMP, R89. Quern signed compare that sets the N and Z conditions. -/
  | cmp (q : Fin 128) (a : Opnd) (b : Opnd)
  /-- CMPA, R89. Quern 52-bit compare of two accumulators. -/
  | cmpa (q : Fin 128) (acc1 : Fin 4) (acc2 : Fin 4)
  /-- TSTF, R89. Quern test of the VALID and LATE flags of a Square slot. -/
  | tstf (q : Fin 128) (a : Opnd)
  /-- SEL, R90. Quern conditional selection of a data register value. -/
  | sel (q : Fin 128) (cond : Fin 16) (dd : Fin 8) (a : Opnd) (b : Opnd)
  /-- SELA, R90. Quern conditional selection between two accumulators. -/
  | sela (q : Fin 128) (acc1 : Fin 4) (acc2 : Fin 4) (cond : Fin 16)
  /-- LOG2, R91. Quern fixed integer approximation of log2 of a sample. -/
  | log2 (q : Fin 128) (dd : Fin 8) (a : Opnd)
  /-- EXP2, R92. Quern fixed integer approximation of 2 to the power of an octave value. -/
  | exp2 (q : Fin 128) (dd : Fin 8) (a : Opnd)
  /-- ENV, R93. Quern envelope advance with attack or release coefficient. -/
  | env (q : Fin 128) (cf : Bool) (dd : Fin 8) (a : Opnd) (b : Opnd)
  /-- PEAK, R94. Quern running peak of a sample magnitude. -/
  | peak (q : Fin 128) (dd : Fin 8) (a : Opnd)
  /-- TAP, R95. Quern read of a delay line at an integer offset. -/
  | tap (q : Fin 128) (dd : Fin 8) (win : Fin 32) (b : Opnd)
  /-- TAPF, R95. Quern interpolated read of a delay line at a fractional offset. -/
  | tapf (q : Fin 128) (dd : Fin 8) (win : Fin 32) (b : Opnd)
  /-- PUT, R97. Quern write of a data register at the write index of an owned line. -/
  | put (q : Fin 128) (win : Fin 32) (src : Fin 8)
  /-- BELL, R27. A Bell of a rate domain runs the ordered actions 1 to 8 for that domain. -/
  | bell (d : Fin 4) (e : BellEnv)
  /-- PASS_END, R514. A Quern pass finishes, posting its Square writes or, if late, leaving its put buffer to be written. -/
  | passEnd (q : Fin 128) (dur : Nat)
  /-- REFERENCE_LOSS, R53. A domain declares its reference lost and enters HOLDOVER. -/
  | referenceLoss (d : Fin 4)
  /-- REFERENCE_MONITOR_RUN, R517. A run of 256 accepted reference edges completes and yields a measured rate, return or rate change. -/
  | referenceMonitorRun (d : Fin 4) (ticks : Nat)
  /-- SLEW_LOCK, R56. A slewing domain enters LOCKED after 256 edges within phase tolerance. -/
  | slewLock (d : Fin 4)
  /-- ACQUIRE_TIMEOUT, R49. After 100 ms in ACQUIRE without a valid rate the domain sets RATE_CHANGE. -/
  | acquireTimeout (d : Fin 4)
  /-- RECONFIG_RAMP_DONE, R59. The 10 ms output ramp of a rate reconfiguration completes. -/
  | reconfigRampDone (d : Fin 4)
  /-- SWITCHING_BELL_TIMEOUT, R60. No qualifying edge within 100 ms, so the generator issues the switching Bell itself. -/
  | switchingBellTimeout (d : Fin 4)
  /-- MUTE_RELEASE, R59. Jexolaryn commits the new-rate ledgers and releases the mute of a reconfigured domain. -/
  | muteRelease (d : Fin 4) (since : Nat)
  /-- GROUP_CLOCK_STOP, R219. No BCLK edge for 8 periods makes the slave group LOST. -/
  | groupClockStop (g : Fin 8)
  /-- GROUP_FRAME_STOP, R219. No frame-start edge within 1.5 periods makes the slave group LOST. -/
  | groupFrameStop (g : Fin 8)
  /-- GROUP_LOST_EXIT, R220. A LOST group leaves LOST after 16 consecutive good frames. -/
  | groupLostExit (g : Fin 8)
  /-- PORT_MONITOR_RUN, R218. A port monitor completes a run and reports rate and rate code. -/
  | portMonitorRun (pin : Fin 10) (ticks : Nat)
  /-- MONITOR_EDGE_TIMEOUT, R218. A monitored pin without edges for 1.5 periods reports rate 0 and code 0xF. -/
  | monitorEdgeTimeout (pin : Fin 10)
  /-- SIEVE_STUCK_DETECT, R223. A Sieve input unchanged for 1 ms is declared stuck. -/
  | sieveStuckDetect (i : Fin 32)
  /-- SIEVE_RECOVER, R223. A stuck Sieve input toggling for 10 ms posts with VALID again. -/
  | sieveRecover (i : Fin 32)
  /-- DETOUR_AUTO_RETURN, R202. Triggers clear for RETURN_HOLD seconds return the channel to its primary. -/
  | detourAutoReturn (o : Fin 512)
  /-- SYNC_IN_EDGE, R66. A SYNC_IN rising edge fixes the start Bell of armed aligned groups; `since` is the time in ps since the
  latest Bell of each domain. -/
  | syncInEdge (since : List Nat)
  /-- GOERTZEL_BLOCK_END, R256. A detector completes a block, computes LEVEL and moves its state. -/
  | goertzelBlockEnd (k : Fin 64)
  /-- PILOT_NOT_FOUND, R257. A detector in ACQUIRE for 1 s makes Jexolaryn post PILOT_NOT_FOUND. -/
  | pilotNotFound (k : Fin 64)
  /-- XFORM_DONE, R242. The transform unit completes a lane and sets XFORM_DONE. -/
  | xformDone
  /-- SEXTON_VISIT_DONE, R156. A Sexton visit ends with restore, repeat or repair of the row. -/
  | sextonVisitDone (bk : Fin 128) (obs : List (Nat × BitVec 20))
  /-- SEXTON_FULL_TEST_DONE, R162. The destructive full test of a bank completes and sets FULL_DONE. -/
  | sextonFullTestDone (bk : Fin 128) (obs : List (Nat × List (Nat × BitVec 20)))
  /-- LEAVE_REQUEST, R315. A block requests leave of a class and is granted or queued. -/
  | leaveRequest (cls : Fin 10) (key : Nat)
  /-- LEAVE_RETURN, R317. A block returns its grant and the units are freed. -/
  | leaveReturn (cls : Fin 10) (key : Nat)
  /-- LEAVE_WITHDRAW, R317. A waiting leave request is withdrawn after its timeout or a STOP. -/
  | leaveWithdraw (cls : Fin 10) (key : Nat)
  /-- WARDEN_STEP_DOWN, R324. After DWELL the Warden steps VDD_CORE down 5 mV when every condition holds. -/
  | wardenStepDown
  /-- AVS_FRAME_END, R326. An AVSBus frame completes, its readback is checked and a failed frame is repeated. -/
  | avsFrameEnd (ok : Bool) (rd : Nat)
  /-- PACE_REPORT, R320. Each pace monitor reports t_pace every 1 µs. -/
  | paceReport (h : Fin 8) (ps : Nat)
  /-- THERMAL_READING, R327. A new hottest sensor reading sets or clears WARM, HOT or CRIT. -/
  | thermalReading (tj : BitVec 10)
  /-- VDD_AON_POWER_GOOD, R334. VDD_AON power-good with RESET_N high starts a cold boot. -/
  | vddAonPowerGood (e : PowerEnv)
  /-- VDD_AON_LOSS, R263. Loss of VDD_AON power-good returns the Crier to OFF and ends everything. -/
  | vddAonLoss
  /-- RAIL_POWER_LOSS, R506. Loss of another rail outside SLEEP acts as RESET_N held low. -/
  | railPowerLoss (r : Rails)
  /-- RAIL_POWER_RETURN, R506. Return of a lost rail ends the reset and a cold boot follows. -/
  | railPowerReturn (r : Rails) (e : BootEnv)
  /-- RESET_N_LOW, R33. RESET_N held low for at least 1 µs resets the device. -/
  | resetNLow
  /-- RESET_N_RELEASE, R334. RESET_N rising after a qualifying low starts BOOT at step 1. -/
  | resetNRelease (e : BootEnv)
  /-- CRIER_STORE_VERIFIED, R336. A Crier store slot passes verification and the Crier is released or its copy installed. -/
  | crierStoreVerified
  /-- CRIER_RELEASE_TIMEOUT, R336. At 300 ms the Crier is released with playback disabled. -/
  | crierReleaseTimeout
  /-- HOST_LOAD_WINDOW_END, R337. The 10 s host-load window ends and boot continues from flash. -/
  | hostLoadWindowEnd
  /-- BOOT_BACKOFF_EXPIRY, R357. A FIELD back-off ends and the next boot attempt starts. -/
  | bootBackoffExpiry (e : BootEnv)
  /-- HOLD_TIMEOUT, R360. HOLD clears 60 s after the last GH_RCV_CTL write. -/
  | holdTimeout (e : BootEnv)
  /-- SLOT_ERASE, R359. Recovery operation that retires and erases an image slot. -/
  | slotErase (slot : Fin 2) (hold : Bool)
  /-- SLOT_PROGRAM, R359. Recovery operation that programs buffer words into an image slot. -/
  | slotProgram (slot : Fin 2) (len : BitVec 11) (off : Word) (hold : Bool)
  /-- SLOT_COMMIT, R359. Recovery operation that commits a slot through steps U4 to U8. -/
  | slotCommit (slot : Fin 2) (hold : Bool)
  /-- RAM_LOAD, R359. Recovery operation that copies buffer words into the image region. -/
  | ramLoad (len : BitVec 11) (off : Word) (hold : Bool)
  /-- RAM_BOOT, R359. Recovery operation that verifies and boots the host-loaded image. -/
  | ramBoot (hold : Bool)
  /-- RETRY, R359. Recovery operation that starts a boot attempt at once. -/
  | retry (hold : Bool) (e : BootEnv)
  /-- FUSE_KEY, R359. Recovery operation that programs a key digest and its KEY_LOCK in BLANK. -/
  | fuseKey (off : Word) (hold : Bool)
  /-- LC_SET, R359. Recovery operation that moves BLANK to DEVELOP or MANUFACTURE. -/
  | lcSet (off : Word) (hold : Bool)
  /-- RECOVERY_OP_DONE, R359. A recovery operation ends with DONE and a RESULT. -/
  | recoveryOpDone (flashOk : Bool)
  /-- WAKE_N_LOW, R331. WAKE_N low begins a wake from SLEEP. -/
  | wakeNLow
  /-- AON_TIMER_EXPIRY, R331. The AON timer expires and begins a wake from SLEEP. -/
  | aonTimerExpiry
  /-- FAST_WAKE, R362. With rails good and WAKE_N high the Gatehouse checks the seal and takes the fast path or boots slowly. -/
  | fastWake (e : BootEnv)
  /-- ALARM_TRIGGER, R264. An alarm input held low for 5 ms activates the Crier with ALARM_SEQ. -/
  | alarmTrigger (a : Bool) (b : Bool) (held : Bool)
  /-- ALARM_END, R264. Both alarm inputs high for 5 ms end the alarm trigger. -/
  | alarmEnd
  /-- CRIER_BLOCK_READ, R270. The Crier reads and checks a store block, stopping other flash frames. -/
  | crierBlockRead
  /-- CRIER_MESSAGE_END, R266. A Crier message ends and the sequence, repeat or ARMED return follows. -/
  | crierMessageEnd
  /-- CRIER_GAP_END, R267. The GAP_MS silence between sequence repetitions ends. -/
  | crierGapEnd
  /-- CRIER_SAMPLE, R271. Each 16 kHz period the Crier forms its mix and forced channel values. -/
  | crierSample (mic : Sample) (valid : Bool) (clk : BitVec 8)
  /-- WATCHDOG_EXPIRY, R265. A watched Reeve misses service for 1.0 s and the firmware watchdog expires. -/
  | watchdogExpiry (r : Fin 2)
  /-- WDOG_SVC, R378. A Reeve write of 0xA5A5 restarts its watchdog count. -/
  | wdogSvc (who : Fin 4) (n : Fin 2) (v : Word)
  /-- DUTY_IN_DEASSERT, R298. DUTY_IN deasserts and a STANDBY device takes over or a SINGLE device claims outputs. -/
  | dutyInDeassert
  /-- DUTY_IN_ASSERT, R293. DUTY_IN asserted makes a position-B device not in DUTY release DUTY_OUT. -/
  | dutyInAssert
  /-- DUTY_IN_SETTLE, R293. DUTY_IN deasserted for 4 ms lets a position-B device assert DUTY_OUT. -/
  | dutyInSettle
  /-- LINK_TRAINING_DONE, R284. Twin link training completes and the link reaches UP or stays in TRAIN. -/
  | linkTrainingDone (peerPos : Bool) (peerProto : BitVec 8) (peerRelease : Word)
  /-- LINK_ALIGN_LOSS, R284. Loss of lane alignment returns the Twin link to DOWN. -/
  | linkAlignLoss
  /-- LINK_RTT_MEASURE, R285. Every 1 s the link measures its round trip and updates LATENCY. -/
  | linkRttMeasure (ns : Nat)
  /-- BELL_FRAME_RECEIVED, R291. A complete Bell frame arrives, `since` ps after the domain's last Bell; its digest is compared and its records and mirror applied. -/
  | bellFrameReceived (d : Fin 4) (frame : List Word) (since : Nat)
  /-- TWIN_FRAME_MISSING, R298. A Bell frame misses its deadline and missing frames may trigger takeover or link loss. -/
  | twinFrameMissing (d : Fin 4) (badCrc : Bool)
  /-- LINK_LOST_TIMEOUT, R298. Frames missing with DUTY_IN asserted for 4 ms make the device SINGLE. -/
  | linkLostTimeout
  /-- HANDOVER_PACKET_RECEIVED, R297. The STANDBY device receives a handover packet and acknowledges if IN_STEP. -/
  | handoverPacketReceived (d : Fin 4) (bell : BitVec 48) (crcOk : Bool)
  /-- HANDOVER_ACK_RECEIVED, R297. The outgoing device receives the handover acknowledgement. -/
  | handoverAckReceived (early crcOk : Bool)
  /-- HANDOVER, R295. At the handover edge the outgoing device releases DUTY_OUT and becomes SINGLE. -/
  | handover
  /-- TWIN_MESSAGE_RECEIVED, R180. A Jexolaryn control packet arrives, such as a staging mirror, plan or Crier command. -/
  | twinMessageReceived (msg : TwinMsg) (crcOk : Bool)
  /-- COPY_PACKET_RECEIVED, R304. The joiner receives a copy packet of granary rows or ledgers. -/
  | copyPacketReceived (p : CopyPacket) (crcOk : Bool)
  /-- JOIN_TIMEOUT, R307. Digests fail to match 256 Bells within 1 s and the join attempt fails. -/
  | joinTimeout
  /-- NOP_FRAME, R409. Host frame that reads zeros and changes nothing. -/
  | nopFrame (code : BitVec 8) (nbits : Nat)
  /-- READ_FRAME, R409. Host frame that reads consecutive window words. -/
  | readFrame (addr : BitVec 16) (nbits : Nat) (slow : Bool)
  /-- WRITE_FRAME, R413. Host frame whose buffered writes apply at the rise of HOST_CS_N. -/
  | writeFrame (addr : BitVec 16) (data : List Word) (nbits : Nat)
  /-- WRITE_RING, R421. Host frame that writes a mailbox from word 0 and rings its doorbell. -/
  | writeRing (addr : BitVec 16) (data : List Word) (nbits : Nat)
  /-- DOORBELL_LATCH, R419. A ringing mailbox's doorbell is latched and the mailbox becomes QUEUED. -/
  | doorbellLatch (m : Fin 8)
  /-- EVENT_POP, R429. A one-word read of EVENT_POP removes the head event entry. -/
  | eventPop
  /-- MB_RELEASE, R424. A write to MB_RELEASE frees READY mailboxes and returns their credits. -/
  | mbRelease (v : Word)
  /-- HP_COUNT_CLR, R416. A write of CLEAR clears HP_COUNTS and EVQ_STATUS.LOST. -/
  | hpCountClr (v : Word)
  /-- REGISTER_WRITE, R13. A write to a register with no row of its own, such as a W1C clear or RW field. -/
  | registerWrite (who : Writer) (addr : Word) (v : Word)
  /-- EVENT_POST, R430. Jexolaryn posts an event that is appended, replaced by the overflow marker or refused. -/
  | eventPost (code : BitVec 16) (payload : List Word)
  /-- EVENTS_LOST, R465. When the queue has room again Jexolaryn posts the summary of lost codes. -/
  | eventsLost
  /-- FAULT_RAISE, R489. Jexolaryn raises a catalogued fault, posts FAULT_RAISED and sets FAULT_FW. -/
  | faultRaise (code : BitVec 16) (payload : List Word)
  /-- FAULT_CLEAR_TIMEOUT, R489. A fault condition absent for 5 s clears its C clear. -/
  | faultClearTimeout (code : BitVec 16) (payload : List Word)
  /-- FAULT_LOG_RECORD, R492. A raise, clear or acknowledgement is written to the fault-log ring. -/
  | faultLogRecord
  /-- QUERN_AUTO_RESTORE, R132. After 1 s of timely passes Jexolaryn restores a late-muted Quern. -/
  | quernAutoRestore (q : Fin 128)
  /-- SHADOW_RESYNC_DONE, R175. Jexolaryn finishes updating the shadows after a commit and releases the set. -/
  | shadowResyncDone (d : Fin 4)
  /-- ROUTE_COPY_DONE, R193. Jexolaryn finishes copying the new active routing entries into the staged copies. -/
  | routeCopyDone (d : Fin 4)
  /-- BUNDLE_LOAD_DONE, R121. A bundle load completes and the bundle becomes STAGED or is refused. -/
  | bundleLoadDone
  /-- FLASH_OP_DONE, R481. A flash erase or program completes, is verified and returns its leave. -/
  | flashOpDone (sel : Fin 2) (ok : Bool)
  /-- AMBIENT_METER_SAMPLE, R459. Every 100 ms Jexolaryn takes a meter reading for ambient gain. -/
  | ambientMeterSample (z : Fin 256)
  /-- AMBIENT_UPDATE, R459. Every UPDATE seconds Jexolaryn commits the new ambient gain. -/
  | ambientUpdate (z : Fin 256) (since : Nat)
  /-- PLAYER_LINE_FILL, R454. Jexolaryn keeps the player line lead filled and reports underrun. -/
  | playerLineFill (src : BitVec 8)
  /-- CAMPAIGN_START_TIME, R248. The device clock reaches START_TIME and an armed campaign starts or is recorded NOT_RUN. -/
  | campaignStartTime
  /-- WINDOW_END, R251. WINDOW_END is reached and no further round starts. -/
  | windowEnd
  /-- VIGIL_ROUND_END, R250. Every zone of a round has a record or is re-queued and the next round starts. -/
  | vigilRoundEnd
  /-- STEWARD_DELAY_EXPIRY, R386. A delayed task becomes READY at its expiry tick. -/
  | stewardDelayExpiry
  /-- WAIT_TIMEOUT, R382. A wait with a timeout wakes with status TIMEOUT. -/
  | waitTimeout (t : BitVec 8)
  /-- QUANTUM_EXPIRY, R385. A group 1-7 task exceeding ST_QUANTUM receives a dispatch interrupt. -/
  | quantumExpiry (r : Fin 4)
  /-- SET_FLAGS, R382. Steward operation that ORs flags into a slot and may wake it. -/
  | setFlags (r : Fin 4) (t : BitVec 8) (flags : Word)
  /-- WAIT, R382. Steward operation that blocks a task on its flags. -/
  | wait (r : Fin 4) (mask : Word) (all : Bool) (timeout : Word)
  /-- DELAY, R386. Steward operation that places a task on the delay list. -/
  | delay (r : Fin 4) (ticks : Word)
  /-- YIELD, R390. Steward operation that gives up the Reeve. -/
  | yieldOp (r : Fin 4)
  /-- POST, R387. Steward operation that posts an entry to a queue or is refused FULL. -/
  | post (r : Fin 4) (qn : Fin 64) (entry : BitVec 64)
  /-- TAKE, R387. Steward operation that takes an entry from a queue. -/
  | take (r : Fin 4) (qn : Fin 64)
  /-- EXIT, R390. Steward operation that frees the calling task's slot. -/
  | exitOp (r : Fin 4)
  /-- READY, R390. Steward operation that makes a FREE or SUSPENDED task READY. -/
  | readyOp (r : Fin 4) (t : BitVec 8)
  /-- SUSPEND, R390. Steward operation that suspends a task. -/
  | suspend (r : Fin 4) (t : BitVec 8)
  /-- RELEASE, R390. Steward operation that frees a task slot and removes it from every list. -/
  | release (r : Fin 4) (t : BitVec 8)
  /-- USER_ACCESS_FAULT, R371. A user-state access outside its regions traps and the task is marked FAULTED. -/
  | userAccessFault (r : Fin 4) (addr : Word) (wr : Bool)
  /-- CH_START, R397. A write of START starts a DMA channel or sets START_REFUSED. -/
  | chStart (r : Fin 4) (c : Fin 32) (v : Word)
  /-- CH_STOP, R397. A write of STOP stops a DMA channel. -/
  | chStop (r : Fin 4) (c : Fin 32)
  /-- DMA_CHANNEL_END, R396. A DMA channel ends and appends its completion record or waits for ring room. -/
  | dmaChannelEnd (c : Fin 32)
  /-- DMA_PACE_RESUME, R398. A paced DMA channel resumes when its queue FILL falls. -/
  | dmaPaceResume (c : Fin 32)
  /-- CQ_RD_WRITE, R399. The consumer writes RD, freeing slots for held completion records. -/
  | cqRdWrite (r : Fin 4) (n : Fin 4) (v : Word)
  /-- QUEUE_CFG_WRITE, R388. A write of QUEUE_CFG configures or disables and empties a queue. -/
  | queueCfgWrite (r : Fin 4) (qn : Fin 64) (v : Word)
  /-- XFORM_START, R259. A write of START begins the transform of a lane or is refused. -/
  | xformStart (lane : Fin 32)
  /-- SEAL, R379. Gatehouse request that seals an object under a derived key. -/
  | seal (r : Fin 4) (purpose : BitVec 2) (svn : BitVec 6) (src : Word) (dst : Word) (len : Word)
  /-- OPEN, R379. Gatehouse request that opens a sealed object. -/
  | openObj (r : Fin 4) (purpose : BitVec 2) (svn : BitVec 6) (src : Word) (dst : Word) (len : Word)
  /-- WAKE_SEAL, R361. Gatehouse request that computes and stores the wake seal. -/
  | wakeSeal (r : Fin 4) (src : Word) (len : Word)
  /-- GH_REQUEST_DONE, R379. A Gatehouse sealing request ends with DONE and a RESULT. -/
  | ghRequestDone
  /-- BANK_OWNER_WRITE, R151. A write of BANK_OWNER changes bank ownership or is refused. -/
  | bankOwnerWrite (r : Fin 4) (bk : Fin 128) (v : Word)
  /-- COMMIT_SLOT_ARM, R172. A write that sets ARMED in a commit slot arms it or records MISSED. -/
  | commitSlotArm (r : Fin 4) (d : Fin 4) (k : Fin 8) (ctl : Word) (lo : Word) (mask : BitVec 128)
  /-- ROUTE_SWAP_ARM, R192. A write that sets ARMED in the route swap slot arms it or records MISSED. -/
  | routeSwapArm (r : Fin 4) (d : Fin 4) (ctl : Word) (lo : Word)
  /-- LINE_ENTRY_WRITE, R138. A write of a delay-line table entry, where setting VALID zeroes WIDX. -/
  | lineEntryWrite (r : Fin 4) (e : Fin 4096) (w : Fin 4) (v : Word)
  /-- EXT_PER_SUBMIT, R463. Extension request that submits peripheral entries. -/
  | extPerSubmit (t : BitVec 8) (replyQ : Fin 64) (seq : BitVec 8) (addr : Word)
  /-- HOST_EVENT, R463. Extension request that posts a TASK_EVENT to the host. -/
  | hostEvent (t : BitVec 8) (replyQ : Fin 64) (seq : BitVec 8) (addr : Word)
  /-- EXT_SEAL, R463. Extension request that seals task data. -/
  | extSeal (t : BitVec 8) (replyQ : Fin 64) (seq : BitVec 8) (addr : Word)
  /-- EXT_OPEN, R463. Extension request that opens sealed task data. -/
  | extOpen (t : BitVec 8) (replyQ : Fin 64) (seq : BitVec 8) (addr : Word)
  /-- STORE, R463. Extension request that stores a sealed object in task storage. -/
  | store (t : BitVec 8) (replyQ : Fin 64) (seq : BitVec 8) (addr : Word)
  /-- LOAD, R463. Extension request that loads a sealed object from task storage. -/
  | load (t : BitVec 8) (replyQ : Fin 64) (seq : BitVec 8) (addr : Word)
  /-- PER_ENTRY_START, R472. A peripheral entry starts once its select and the bus have been idle long enough. -/
  | perEntryStart (idleUs : Nat)
  /-- PER_ENTRY_DONE, R470. A peripheral entry completes and its ticket advances or ends. -/
  | perEntryDone (miso : List Word)
  /-- PER_FOREIGN_SELECT, R473. A foreign low on a SHARED select releases the bus and ends the ticket MM_FAULT. -/
  | perForeignSelect (miso : List Word)
  /-- SYSTEM_STATUS, R442. Command that returns the system status. -/
  | systemStatus (m : Fin 8)
  /-- SERVICE_START, R443. Command that moves MAINTENANCE to SERVICE. -/
  | serviceStart (m : Fin 8)
  /-- SERVICE_STOP, R443. Command that moves SERVICE to MAINTENANCE. -/
  | serviceStop (m : Fin 8)
  /-- DEVICE_RESET, R444. Command that resets the device as RESET_N. -/
  | deviceReset (m : Fin 8)
  /-- CONFIG_SAVE, R445. Command that seals and saves the configuration. -/
  | configSave (m : Fin 8)
  /-- CONFIG_ERASE, R445. Command that removes the saved configuration. -/
  | configErase (m : Fin 8)
  /-- TIME_SET, R446. Command that sets the device clock. -/
  | timeSet (m : Fin 8)
  /-- COUNTERS_CLEAR, R442. Command that clears the selected counters. -/
  | countersClear (m : Fin 8)
  /-- IMAGE_WRITE, R348. Command that writes a segment of a control image to the non-running slot. -/
  | imageWrite (m : Fin 8)
  /-- IMAGE_COMMIT, R348. Command that commits the written image slot. -/
  | imageCommit (m : Fin 8)
  /-- IMAGE_STATUS, R368. Command that reports the image slots and Gatehouse state. -/
  | imageStatus (m : Fin 8)
  /-- ACCEPT_UNTESTED, R345. Command that accepts the untested combination. -/
  | acceptUntested (m : Fin 8)
  /-- FUSE_WRITE, R368. Command that programs a key digest, revocation or SVN floor. -/
  | fuseWrite (m : Fin 8)
  /-- LIFECYCLE_ADVANCE, R355. Command that advances the life-cycle state. -/
  | lifecycleAdvance (m : Fin 8)
  /-- BUNDLE_WRITE, R441. Command that writes a bundle segment to a flash bundle slot. -/
  | bundleWrite (m : Fin 8)
  /-- BUNDLE_LOAD, R115. Command that checks and stages a bundle. -/
  | bundleLoad (m : Fin 8)
  /-- PROGRAM_SWAP, R123. Command that swaps a staged bundle into a domain at a Bell. -/
  | programSwap (m : Fin 8) (since : Nat)
  /-- BUNDLE_UNLOAD, R124. Command that unloads a bundle. -/
  | bundleUnload (m : Fin 8)
  /-- BUNDLE_STATUS, R120. Command that reports a bundle's state. -/
  | bundleStatus (m : Fin 8)
  /-- QUERN_RESTORE, R132. Command that ends a Quern's late-mute at once. -/
  | quernRestore (m : Fin 8)
  /-- PARAM_SET_OPEN, R168. Command that opens a staging set. -/
  | paramSetOpen (m : Fin 8)
  /-- PARAM_STAGE, R169. Command that stages values to a handle. -/
  | paramStage (m : Fin 8)
  /-- PARAM_COMMIT, R171. Command that arms a commit of a set for a Bell. -/
  | paramCommit (m : Fin 8) (since : Nat)
  /-- PARAM_DISCARD, R518. Command that discards a staging set. -/
  | paramDiscard (m : Fin 8)
  /-- PARAM_READ, R183. Command that reads active or staged values of a handle. -/
  | paramRead (m : Fin 8)
  /-- PARAM_SET_STATUS, R183. Command that reports a staging set's state. -/
  | paramSetStatus (m : Fin 8)
  /-- METER_READ, R184. Command that reads Noticeboard out-region words. -/
  | meterRead (m : Fin 8)
  /-- DOMAIN_CONFIG, R60. Command that configures a rate domain. -/
  | domainConfig (m : Fin 8)
  /-- ROUTE_INPUT_WRITE, R207. Command that writes staged input-map entries. -/
  | routeInputWrite (m : Fin 8)
  /-- ROUTE_OUTPUT_WRITE, R207. Command that writes staged output-map entries. -/
  | routeOutputWrite (m : Fin 8)
  /-- STILE_WRITE, R207. Command that writes a staged Stile configuration. -/
  | stileWrite (m : Fin 8)
  /-- DETOUR_WRITE, R199. Command that writes staged detour entries. -/
  | detourWrite (m : Fin 8)
  /-- ROUTE_SWAP, R193. Command that arms a route swap at a Bell. -/
  | routeSwap (m : Fin 8) (since : Nat)
  /-- DETOUR_CONTROL, R202. Command that returns or forces a detour. -/
  | detourControl (m : Fin 8)
  /-- ROUTE_STATUS, R207. Command that reports routing, detour and Stile status. -/
  | routeStatus (m : Fin 8)
  /-- CLOCK_GROUP_CONFIG, R210. Command that configures a TDM clock group. -/
  | clockGroupConfig (m : Fin 8)
  /-- PORT_CONFIG, R234. Command that configures a TDM port. -/
  | portConfig (m : Fin 8)
  /-- PDM_CONFIG, R221. Command that configures a PDM clock or Sieve. -/
  | pdmConfig (m : Fin 8)
  /-- MCLK_CONFIG, R224. Command that configures an MCLK output. -/
  | mclkConfig (m : Fin 8)
  /-- ALIGN_GROUP_CONFIG, R235. Command that sets the membership of an aligned group. -/
  | alignGroupConfig (m : Fin 8)
  /-- ALIGN_GROUP_START, R227. Command that starts or arms aligned groups. -/
  | alignGroupStart (m : Fin 8) (since : List Nat)
  /-- PORT_STATUS, R234. Command that reports a clock group's ports and status. -/
  | portStatus (m : Fin 8)
  /-- ZONE_CONFIG, R453. Command that configures a zone. -/
  | zoneConfig (m : Fin 8)
  /-- ZONE_STATUS, R461. Command that reports a zone. -/
  | zoneStatus (m : Fin 8)
  /-- SOURCE_CONFIG, R454. Command that configures a source. -/
  | sourceConfig (m : Fin 8)
  /-- PRIORITY_CONFIG, R458. Command that sets the fades and chime of a priority. -/
  | priorityConfig (m : Fin 8)
  /-- ANNOUNCE_START, R455. Command that starts an announcement. -/
  | announceStart (m : Fin 8) (since : Nat)
  /-- ANNOUNCE_STOP, R456. Command that stops an announcement. -/
  | announceStop (m : Fin 8) (since : Nat)
  /-- ANNOUNCE_STATUS, R461. Command that reports an announcement. -/
  | announceStatus (m : Fin 8)
  /-- MESSAGE_WRITE, R484. Command that writes a message segment. -/
  | messageWrite (m : Fin 8)
  /-- MESSAGE_STATUS, R461. Command that reports a message. -/
  | messageStatus (m : Fin 8)
  /-- MESSAGE_ERASE, R484. Command that frees a message. -/
  | messageErase (m : Fin 8)
  /-- AMBIENT_CONFIG, R459. Command that configures ambient gain of a zone. -/
  | ambientConfig (m : Fin 8)
  /-- AMBIENT_STATUS, R461. Command that reports ambient gain of a zone. -/
  | ambientStatus (m : Fin 8)
  /-- BACKGROUND_SET, R461. Command that sets a zone's background source and gain. -/
  | backgroundSet (m : Fin 8) (since : Nat)
  /-- VIGIL_PLAN_WRITE, R450. Command that writes plan words. -/
  | vigilPlanWrite (m : Fin 8)
  /-- VIGIL_PLAN_READ, R261. Command that reads plan words. -/
  | vigilPlanRead (m : Fin 8)
  /-- VIGIL_START, R247. Command that starts or arms a campaign. -/
  | vigilStart (m : Fin 8)
  /-- VIGIL_ABORT, R251. Command that aborts or cancels a campaign. -/
  | vigilAbort (m : Fin 8) (since : Nat)
  /-- VIGIL_STATUS, R261. Command that reports campaign progress. -/
  | vigilStatus (m : Fin 8)
  /-- VIGIL_RESULT_READ, R254. Command that reads a results record. -/
  | vigilResultRead (m : Fin 8)
  /-- VIGIL_BASELINE_READ, R261. Command that reads a baseline. -/
  | vigilBaselineRead (m : Fin 8)
  /-- VIGIL_BASELINE_WRITE, R261. Command that writes a baseline. -/
  | vigilBaselineWrite (m : Fin 8)
  /-- VIGIL_BASELINE_ACCEPT, R254. Command that accepts a results record as a baseline. -/
  | vigilBaselineAccept (m : Fin 8)
  /-- PILOT_CONFIG, R256. Command that configures a Goertzel detector. -/
  | pilotConfig (m : Fin 8)
  /-- PILOT_STATUS, R261. Command that reports detector status. -/
  | pilotStatus (m : Fin 8)
  /-- TWIN_STATUS, R310. Command that reports pair status. -/
  | twinStatus (m : Fin 8)
  /-- TWIN_ARM, R302. Command that arms the joiner into a pair. -/
  | twinArm (m : Fin 8)
  /-- TWIN_DISARM, R310. Command that disarms the pair. -/
  | twinDisarm (m : Fin 8)
  /-- TWIN_HANDOVER, R310. Command that hands DUTY to the partner. -/
  | twinHandover (m : Fin 8)
  /-- TWIN_CONFIG, R309. Command that writes TWIN_CFG. -/
  | twinConfig (m : Fin 8)
  /-- LEAVE_STATUS, R332. Command that reports the leave books. -/
  | leaveStatus (m : Fin 8)
  /-- LEAVE_CONFIG, R312. Command that sets POOL and RESERVE and rebooks BASE. -/
  | leaveConfig (m : Fin 8)
  /-- LEAVE_COST_WRITE, R313. Command that sets the cost of a leave class. -/
  | leaveCostWrite (m : Fin 8)
  /-- SLEEP_ENTER, R329. Command that takes the device into SLEEP. -/
  | sleepEnter (m : Fin 8)
  /-- POWER_STATUS, R332. Command that reports Warden and power status. -/
  | powerStatus (m : Fin 8)
  /-- WARDEN_CONFIG, R322. Command that configures the Warden and clears AVS faults. -/
  | wardenConfig (m : Fin 8)
  /-- FAULT_STATUS, R451. Command that reports active faults. -/
  | faultStatus (m : Fin 8)
  /-- FAULT_LOG_READ, R492. Command that reads fault-log records. -/
  | faultLogRead (m : Fin 8)
  /-- FAULT_ACK, R490. Command that acknowledges a fault code. -/
  | faultAck (m : Fin 8)
  /-- FAULT_LOG_ERASE, R492. Command that erases the fault log. -/
  | faultLogErase (m : Fin 8)
  /-- PER_CONFIG, R468. Command that configures a peripheral select. -/
  | perConfig (m : Fin 8)
  /-- PER_SUBMIT, R469. Command that queues a peripheral ticket. -/
  | perSubmit (m : Fin 8)
  /-- PER_RESULT, R471. Command that returns a ticket's status and data. -/
  | perResult (m : Fin 8)
  /-- PER_CANCEL, R471. Command that cancels a ticket's unstarted entries. -/
  | perCancel (m : Fin 8)
  /-- TASK_INSTALL, R404. Command that writes a task image segment. -/
  | taskInstall (m : Fin 8)
  /-- TASK_START, R377. Command that starts an installed task. -/
  | taskStart (m : Fin 8)
  /-- TASK_STOP, R403. Command that stops a task and frees its resources. -/
  | taskStop (m : Fin 8)
  /-- TASK_REMOVE, R404. Command that removes an installed task. -/
  | taskRemove (m : Fin 8)
  /-- TASK_STATUS, R403. Command that reports a task. -/
  | taskStatus (m : Fin 8)
  /-- CRIER_STATUS, R281. Command that reports the Crier. -/
  | crierStatus (m : Fin 8)
  /-- CRIER_PLAY, R264. Command that starts the host trigger of the Crier. -/
  | crierPlay (m : Fin 8)
  /-- CRIER_STOP, R264. Command that ends the host trigger of the Crier. -/
  | crierStop (m : Fin 8)
  /-- CRIER_STORE_WRITE, R281. Command that writes a Crier store segment to the unused slot. -/
  | crierStoreWrite (m : Fin 8)
  /-- CRIER_STORE_VERIFY, R281. Command that verifies the written Crier store slot. -/
  | crierStoreVerify (m : Fin 8)
  /-- FALLBACK_ENTER, R277. Command that enters FALLBACK. -/
  | fallbackEnter (m : Fin 8)
  /-- TRACE_CONFIG, R393. Command that configures the Steward trace. -/
  | traceConfig (m : Fin 8)
  /-- TRACE_READ, R403. Command that reads trace records. -/
  | traceRead (m : Fin 8)
  /-- LINE_READ, R452. Command that reads delay-line table entries. -/
  | lineRead (m : Fin 8)
  /-- QSTAT_READ, R452. Command that reads QSTAT words. -/
  | qstatRead (m : Fin 8)
  /-- BANK_READ, R452. Command that reads BANK_OWNER and BANK_SPARE pairs. -/
  | bankRead (m : Fin 8)
  /-- REFERENCE_EDGE, R48. A reference edge of a domain arrives and is accepted to steer the generator, or ignored as a glitch that increments GLITCH_COUNT and sets GLITCH. -/
  | referenceEdge (d : Fin 4) (dt : Nat) (phase : Int) (since : Nat)
  /-- FRAME_START_EDGE, R219. A frame-start edge of a slave clock group arrives and is judged for frame length and phase window, which may set FRAME_ERR or PHASE_ERR and make the group LOST. -/
  | frameStartEdge (g : Fin 8) (bclks : Nat) (dt : Nat) (phase : Int)
  /-- FRAME_COUNT_END, R219. The BCLK count of a slave group reaches 32 times its TDM slots with no frame-start edge, which sets FRAME_ERR and makes the group LOST. -/
  | frameCountEnd (g : Fin 8)
  /-- RECONFIG_RAMP_UP_DONE, R59. 10 ms after the mute release of a rate reconfiguration, the outputs reach full level and the domain enters LOCKED (or HOLDOVER) with LOCKED_EV set. -/
  | reconfigRampUpDone (d : Fin 4)
  /-- FREE_UPDATE_TIMEOUT, R318. With domain 0 OFF, 125 µs after a set-point step the Warden writes the new FREE and ends the repricing pause. -/
  | freeUpdateTimeout
  /-- AON_TICK_SOURCE_CHANGE, R503. When the crystal starts or stops running, the AON tick changes between the crystal and the internal oscillator at a tick boundary, and boot step 3 may proceed once the crystal runs. -/
  | aonTickSourceChange (running : Bool) (e : BootEnv)
  deriving DecidableEq, Repr

end Sys2Proof
end

