-- ==== Sys2Proof/WellFormed.lean ====
section
/-! DEFINITION. Which Quern instructions the program loader accepts (R80, R83, R105): the lowest
loader code an instruction fails, or none. The checks that need the program around the word (0x07,
0x0C, 0x0E, 0x0F, 0x10) stand with the bundle load. -/

namespace Sys2Proof

/-- Bits of a direct index that R80 marks 0 are 0. -/
def Opnd.zeroBits : Opnd → Bool
  | .scr a => a.toNat < 1024
  | .led a => a.toNat < 4096
  | .gld a => a.toNat < 64
  | .nb a => a.toNat < 256
  | _ => true

/-- The operand can be written: SCR, LED, SQR, NB or IND (R84 "Mem"). -/
def Opnd.isMem : Opnd → Bool
  | .scr _ | .led _ | .sqr _ | .nb _ | .ind _ _ _ => true
  | _ => false

/-- The memory an operand lies in, counting IND by its target (R105 code 0x05). -/
def Opnd.memory : Opnd → Option IndT
  | .scr _ => some .scr
  | .led _ => some .led
  | .nb _ => some .nb
  | .sqr _ => some .sqr
  | .ind t _ _ => some t
  | _ => none

/-- The pointer an operand names. -/
def Opnd.pointer : Opnd → Option (Fin 4)
  | .ind _ _ p => some p
  | _ => none

/-- Both operands in one memory, or one pointer named twice (0x05). -/
def clash (a b : Opnd) : Bool :=
  (a.memory.isSome && a.memory == b.memory) || (a.pointer.isSome && a.pointer == b.pointer)

/-- The second word of a pair lies within its space (0x04). -/
def Opnd.pairFits : Opnd → Bool
  | .scr a => a.toNat ≠ 1023
  | .led a => a.toNat ≠ 4095
  | .sqr a => a.toNat ≠ 8191
  | .nb a => a.toNat ≠ 255
  | .gld a => a.toNat ≠ 63
  | _ => true

/-- A REG pair starts at an even register (0x08). -/
def Opnd.evenReg : Opnd → Bool
  | .reg r => r.val % 2 == 0
  | _ => true

/-- A direct Noticeboard write stays in the out region (0x0B). -/
def Opnd.nbOut : Opnd → Bool
  | .nb a => ¬ (192 ≤ a.toNat ∧ a.toNat < 256)
  | _ => true

/-- Offsets of TAP and TAPF: REG, IMM, SCR, LED or GLD (R84). -/
def Opnd.isOffset : Opnd → Bool
  | .reg _ | .imm _ | .scr _ | .led _ | .gld _ => true
  | _ => false

/-- REG or IMM. -/
def Opnd.isRegImm : Opnd → Bool
  | .reg _ | .imm _ => true
  | _ => false

/-- SQR, or IND with target SQR (TSTF). -/
def Opnd.isSquare : Opnd → Bool
  | .sqr _ | .ind .sqr _ _ => true
  | _ => false

/-- A shift count within a range (0x0D). -/
def shiftIn (b : BitVec 13) (lo hi : Int) : Bool := decide (lo ≤ b.toInt ∧ b.toInt ≤ hi)

/-- The failures of one list of checks: code and whether the check holds. -/
def failing (l : List (Nat × Bool)) : List Nat := (l.filter (fun c => !c.2)).map (·.1)

/-- Checks of two general operands. -/
def twoOps (a b : Opnd) : List (Nat × Bool) :=
  [(0x02, a.zeroBits && b.zeroBits), (0x05, !clash a b)]

/-- Checks of two pair operands. -/
def twoPairs (a b : Opnd) : List (Nat × Bool) :=
  twoOps a b ++ [(0x04, a.pairFits && b.pairFits), (0x08, a.evenReg && b.evenReg)]

/-- The checks of R105 that one Quern instruction must pass; no checks for the other commands. -/
def loaderChecks : Instr → List (Nat × Bool)
  | .rep _ n => [(0x06, decide (1 ≤ n.toNat ∧ n.toNat ≤ 1024))]
  | .mpy _ _ _ a b | .mac _ _ _ a b | .msu _ _ _ a b => twoOps a b
  | .pmpy _ x y _ a b | .pmac _ x y _ a b | .pmsu _ x y _ a b =>
      twoPairs a b ++ [(0x09, x != y)]
  | .dmpy _ _ _ a b | .dmac _ _ _ a b | .dmsu _ _ _ a b => twoPairs a b
  | .lda _ _ _ a | .adda _ _ _ a | .suba _ _ _ a => [(0x02, a.zeroBits)]
  | .sha _ _ sh => [(0x0D, shiftIn sh (-24) 24)]
  | .sta _ _ _ sh => [(0x0D, shiftIn sh (-12) 18)]
  | .stam _ _ a sh =>
      [(0x02, a.zeroBits), (0x03, a.isMem), (0x0B, a.nbOut), (0x0D, shiftIn sh (-12) 18)]
  | .mov _ _ a | .abs _ _ a | .neg _ _ a | .log2 _ _ a | .exp2 _ _ a | .peak _ _ a =>
      [(0x02, a.zeroBits)]
  | .add _ _ a b | .sub _ _ a b | .min _ _ a b | .max _ _ a b | .cmp _ a b => twoOps a b
  | .shf _ _ a sh => [(0x02, a.zeroBits), (0x0D, shiftIn sh (-19) 19)]
  | .st _ a b => [(0x02, a.zeroBits && b.zeroBits), (0x03, a.isMem && b.isRegImm), (0x0B, a.nbOut)]
  | .setp _ _ _ b => [(0x02, b.zeroBits), (0x03, b.isRegImm)]
  | .tstf _ a => [(0x02, a.zeroBits), (0x03, a.isSquare)]
  | .sel _ c _ a b => twoOps a b ++ [(0x0A, decide (c.val < 10))]
  | .sela _ _ _ c => [(0x0A, decide (c.val < 10))]
  | .env _ _ _ a b => twoOps a b ++ [(0x04, b.pairFits), (0x08, b.evenReg)]
  | .tap _ _ _ b | .tapf _ _ _ b => [(0x02, b.zeroBits), (0x03, b.isOffset)]
  | _ => []

/-- The lowest of a list of codes. -/
def lowest : List Nat → Option Nat
  | [] => none
  | c :: cs => match lowest cs with
    | none => some c
    | some m => some (Nat.min c m)

/-- The lowest loader code the instruction fails; none: it is well formed. -/
def loaderCode (i : Instr) : Option Nat := lowest (failing (loaderChecks i))

/-- Well-formed commands: every command but a Quern instruction the loader refuses. -/
def WellFormed (i : Instr) : Bool := (loaderCode i).isNone

end Sys2Proof
end

