-- ==== Sys2Proof/Decode.lean ====
section
/-! DEFINITION. Reading the 48-bit Quern instruction word (R79 to R84, R105). The rows of
spec/opcode_table.json have no bits, so a table word spells no command. -/

namespace Sys2Proof

/-- The command a word spells by the bits of spec/opcode_table.json: the table gives no row any. -/
def decodeTableWord (_nbits _w : Nat) : Option Instr := none

/-- Bits [lo + len - 1 : lo] of a 48-bit word, as a number. -/
def bits48 (w : BitVec 48) (lo len : Nat) : Nat := (w.toNat >>> lo) % 2 ^ len

/-- The general operand specifier of R80, from its space code and index. -/
def opndOf (f : Nat) : Opnd :=
  let i := f % 8192
  match f / 8192 % 8 with
  | 0 => .reg (Fin.ofNat 8 i)
  | 1 => .imm (BitVec.ofNat 13 i)
  | 2 => .scr (BitVec.ofNat 13 i)
  | 3 => .led (BitVec.ofNat 13 i)
  | 4 => .gld (BitVec.ofNat 13 i)
  | 5 => .sqr (BitVec.ofNat 13 i)
  | 6 => .nb (BitVec.ofNat 13 i)
  | _ => .ind (match i / 2048 with | 0 => .scr | 1 => .led | 2 => .nb | _ => .sqr)
           (BitVec.ofNat 9 (i / 4)) (Fin.ofNat 4 i)

/-- A REG specifier has [12:3] = 0 (R80). -/
def regZero (f : Nat) : Bool := f / 8192 % 8 != 0 || f % 8192 < 8

/-- The fields of an instruction word. -/
structure QFields where
  op : Nat
  acc1 : Fin 4
  acc2 : Fin 4
  cf : Bool
  dreg : Fin 8
  cond : Fin 16
  field : Fin 4
  ptr : Fin 4
  sel : Nat
  a : Nat
  b : Nat

/-- The fields of R79. -/
def qFields (w : BitVec 48) : QFields :=
  let s := bits48 w 32 8
  { op := bits48 w 40 8, acc1 := Fin.ofNat 4 (s / 64), acc2 := Fin.ofNat 4 (s / 16),
    cf := s / 8 % 2 == 1, dreg := Fin.ofNat 8 s, cond := Fin.ofNat 16 (s / 16),
    field := Fin.ofNat 4 (s / 4), ptr := Fin.ofNat 4 s, sel := s,
    a := bits48 w 16 16, b := bits48 w 0 16 }

/-- An operand field that must be 0. -/
def zeroField (f : Nat) : Nat × Bool := (0x02, f == 0)

/-- Select-byte bits that must be 0, given as a mask. -/
def selZero (x : QFields) (mask : Nat) : Nat × Bool := (0x02, x.sel &&& mask == 0)

/-- A window operand (R84): 0x03 for a nonzero [15:13], else 0x02 for a nonzero [12:5]. -/
def winChecks (f : Nat) : List (Nat × Bool) :=
  [(0x03, f / 8192 == 0), (0x02, f / 8192 != 0 || f < 32)]

/-- A specifier field: the index bits its space marks 0 are 0 (R80), whether or not the position
accepts the space. -/
def genField (f : Nat) : Nat × Bool := (0x02, regZero f && (opndOf f).zeroBits)

/-- A field that accepts IMM only. -/
def immField (f : Nat) : Nat × Bool := (0x03, f / 8192 == 1)

/-- Form checks on an instruction word and the instruction it spells; none: reserved opcode. -/
def qParse (q : Fin 128) (x : QFields) : Option (List (Nat × Bool) × Instr) :=
  let a := opndOf x.a
  let b := opndOf x.b
  let ga := genField x.a
  let gb := genField x.b
  let za := zeroField x.a
  let zb := zeroField x.b
  let ib : BitVec 13 := BitVec.ofNat 13 x.b
  let mul := [selZero x 0x37, ga, gb]
  let pmul := [selZero x 0x07, ga, gb]
  let one := [selZero x 0x37, ga, zb]
  let accs := [selZero x 0x0F, za, zb]
  let dd2 := [selZero x 0xF8, ga, gb]
  let dd1 := [selZero x 0xF8, ga, zb]
  match x.op with
  | 0x00 => some ([selZero x 0xFF, za, zb], .nop q)
  | 0x01 => some ([selZero x 0xFF, za, gb, immField x.b], .rep q ib)
  | 0x10 => some (mul, .mpy q x.acc1 x.cf a b)
  | 0x11 => some (mul, .mac q x.acc1 x.cf a b)
  | 0x12 => some (mul, .msu q x.acc1 x.cf a b)
  | 0x13 => some (pmul, .pmpy q x.acc1 x.acc2 x.cf a b)
  | 0x14 => some (pmul, .pmac q x.acc1 x.acc2 x.cf a b)
  | 0x15 => some (pmul, .pmsu q x.acc1 x.acc2 x.cf a b)
  | 0x16 => some (mul, .dmpy q x.acc1 x.cf a b)
  | 0x17 => some (mul, .dmac q x.acc1 x.cf a b)
  | 0x18 => some (mul, .dmsu q x.acc1 x.cf a b)
  | 0x20 => some (one, .lda q x.acc1 x.cf a)
  | 0x21 => some (one, .adda q x.acc1 x.cf a)
  | 0x22 => some (one, .suba q x.acc1 x.cf a)
  | 0x23 => some ([selZero x 0x3F, za, zb], .clra q x.acc1)
  | 0x24 => some (accs, .mova q x.acc1 x.acc2)
  | 0x25 => some (accs, .addaa q x.acc1 x.acc2)
  | 0x26 => some (accs, .subaa q x.acc1 x.acc2)
  | 0x27 => some ([selZero x 0x3F, za, gb, immField x.b], .sha q x.acc1 ib)
  | 0x28 => some ([selZero x 0x38, za, gb, immField x.b], .sta q x.acc1 x.dreg ib)
  | 0x29 => some ([selZero x 0x38, ga, gb, immField x.b], .stam q x.acc1 a ib)
  | 0x30 => some (dd1, .mov q x.dreg a)
  | 0x31 => some (dd2, .add q x.dreg a b)
  | 0x32 => some (dd2, .sub q x.dreg a b)
  | 0x33 => some (dd1, .abs q x.dreg a)
  | 0x34 => some (dd1, .neg q x.dreg a)
  | 0x35 => some (dd2, .min q x.dreg a b)
  | 0x36 => some (dd2, .max q x.dreg a b)
  | 0x37 => some ([selZero x 0xF8, ga, gb, immField x.b], .shf q x.dreg a ib)
  | 0x38 => some ([selZero x 0xFF, ga, gb], .st q a b)
  | 0x39 => some ([selZero x 0xF0, za, gb], .setp q x.field x.ptr b)
  | 0x40 => some ([selZero x 0xFF, ga, gb], .cmp q a b)
  | 0x41 => some (accs, .cmpa q x.acc1 x.acc2)
  | 0x42 => some ([selZero x 0xFF, ga, zb], .tstf q a)
  | 0x44 => some ([selZero x 0x08, ga, gb], .sel q x.cond x.dreg a b)
  | 0x45 => some ([selZero x 0x0F, (0x02, x.a < 16), zb], .sela q x.acc1 x.acc2 (Fin.ofNat 16 x.a))
  | 0x50 => some (dd1, .log2 q x.dreg a)
  | 0x51 => some (dd1, .exp2 q x.dreg a)
  | 0x52 => some ([selZero x 0xF0, ga, gb], .env q x.cf x.dreg a b)
  | 0x53 => some (dd1, .peak q x.dreg a)
  | 0x60 => some ([selZero x 0xF8, gb] ++ winChecks x.a, .tap q x.dreg (Fin.ofNat 32 x.a) b)
  | 0x61 => some ([selZero x 0xF8, gb] ++ winChecks x.a, .tapf q x.dreg (Fin.ofNat 32 x.a) b)
  | 0x62 => some ([selZero x 0xFF, gb, (0x03, x.b / 8192 == 0)] ++ winChecks x.a,
      .put q (Fin.ofNat 32 x.a) (Fin.ofNat 8 x.b))
  | _ => none

/-- The codes of the loader's word checks that a word fails. -/
def qFailing (q : Fin 128) (w : BitVec 48) : List Nat :=
  match qParse q (qFields w) with
  | none => [0x01]
  | some (cs, i) => failing cs ++ failing (loaderChecks i)

/-- An instruction word of Quern q: the instruction, or the lowest loader code it fails (R105). -/
def decodeQuern (q : Fin 128) (w : BitVec 48) : Except Nat Instr :=
  match qParse q (qFields w) with
  | none => .error 0x01
  | some (_, i) => match lowest (qFailing q w) with
    | none => .ok i
    | some c => .error c

end Sys2Proof
end

