-- ==== Sys2Proof/Machine/State.lean ====
section
/-! DEFINITION. The state of the WL7720 as plain data, and its value at reset. Records are named
after the unit that holds them; a field's docstring cites the rule of spec/ that names it. Arrays
are sparse tables (`Tab`); an index a table does not list holds the record's default, which is the
value after reset. -/

namespace Sys2Proof.Machine

/-- The state of a rate domain's generator, DOM_STATUS.STATE (R69). -/
inductive DomState | off | acquire | locked | holdover | slew | switching
  deriving DecidableEq, Repr
/-- Progress of a rate reconfiguration (R59): none, ramping the outputs to zero, waiting for the
new rate and the mute release, ramping up. -/
inductive ReconfigStep | none | rampDown | muted | rampUp
  deriving DecidableEq, Repr
/-- Phase of a Sexton visit (R156): none, save, March, restore, or held between a failure and its repeat (R159). -/
inductive VisitPhase | idle | save | march | restore | held
  deriving DecidableEq, Repr
/-- Phase of a channel's concealment (R204, R205): none, conceal with the count of Bells since it
began, rejoin with the place in the ramp. -/
inductive Conceal | none | conceal (j : Nat) | rejoin (k : Nat)
  deriving DecidableEq, Repr
/-- A glide that Jexolaryn's own commit carries (R447): Quern, glide register, target, length, the
purpose (0 rate, 1 announcement c1, 2 announcement c2, 3 ambient gain, 4 Vigil) and the zone. -/
structure OwnGlide where
  quern : Nat
  reg : Nat
  target : Sample
  len : Nat
  why : Nat
  zone : Nat
  deriving DecidableEq, Repr
/-- A word staged to a host set (R169): Quern, kind (0 ledger word, 1 glide register, 2 Noticeboard
word), address, value, glide length. -/
structure StagedVal where
  quern : Nat
  kind : Nat
  addr : Nat
  value : Sample
  glide : Nat
  deriving DecidableEq, Repr
/-- A ledger image of a bundle (R111): Quern, RATE (15: every other rate), words. -/
structure LedgerImage where
  quern : Nat
  rate : Nat
  words : List Sample
  deriving DecidableEq, Repr
/-- CRIER_STATUS.STATE (R263, R280). -/
inductive CrierState | off | armed | active
  deriving DecidableEq, Repr
/-- A GROUPS entry of a Crier store (R267). -/
structure CrierGroup where
  group : Nat
  format : Nat
  slots : Nat
  master : Bool
  bclkInv : Bool
  fsInv : Bool
  dataDelay : Bool
  outWl : Nat
  deriving DecidableEq, Repr
/-- TWIN_STATUS.ROLE (R308). -/
inductive Role | single | duty | standby
  deriving DecidableEq, Repr
/-- TWIN_STATUS.ARM_STATE (R308). -/
inductive ArmState | idle | check | copy | join | catchup | verify
  deriving DecidableEq, Repr
/-- TWIN_STATUS.LINK (R308). -/
inductive Link | down | train | up
  deriving DecidableEq, Repr
/-- Where the boot sequence of R334 stands: off, held in reset, waiting for the crystal and the
flash (step 3), waiting for the Crier's release (step 4), in the host-load window (R337), waiting
for the set-point to be in force (step 8, R323), Reeves released, halted (R356), in back-off
(R357), asleep, woken and waiting for the rails (R331). -/
inductive BootPhase
  | off | inReset | waitCrystal | waitCrier | hostLoad | waitSetpoint | running | halted | backoff
  | asleep | waking
  deriving DecidableEq, Repr
/-- A mailbox state (R416, R419). -/
inductive MbState | free | ringing | queued | accepted | ready
  deriving DecidableEq, Repr
/-- Run state of a Reeve (R277, R370). -/
inductive ReeveRun | inReset | running | halted | restricted
  deriving DecidableEq, Repr
/-- TASK_CFG.STATE (R381). -/
inductive TState | free | ready | running | waiting | delayed | suspended
  deriving DecidableEq, Repr
/-- CH_STATUS.STATE (R395). -/
inductive ChState | idle | waitLeave | run | paced | cqWait
  deriving DecidableEq, Repr
/-- The bulk read of a flash, lanes of command, address and data (R477). -/
inductive ReadKind | r144 | r114 | r122 | r112 | r111
  deriving DecidableEq, Repr
/-- The frames of the flash port (R477, R478, R480). -/
inductive FrameKind | read | program | erase | writeEnable | status | suspend | resume
  deriving DecidableEq, Repr
/-- One flash operation (R481): the erase of so many bytes from a byte address, or the program of some bytes there. Where
the contents of an area are a field of their own its programs carry no bytes. -/
inductive FlashStep
  | erase (addr n : Nat) | program (addr : Nat) (bytes : List (BitVec 8))
  deriving DecidableEq, Repr
/-- What is done when the last of a row of flash operations ends (R481): the command in a mailbox, a part of it that another
follows, a fault-log record, a task's STORE request (slot, reply queue, sequence, length, half), the results record of Vigil,
and at a start the retirement of the other image slot (R350), the configuration sealed again (R353) and the baseline sector
completed from its journal (R484). -/
inductive FlashWork
  | none | cmd (m : Nat) | part (m n : Nat) | log | store (slot replyQ seq len half : Nat) | results | retire | reseal | journal
  deriving DecidableEq, Repr
/-- State of a loaded bundle (BUNDLE_STATUS, R120). -/
inductive BState | staged | active | replaced
  deriving DecidableEq, Repr
/-- State of a host staging set (PARAM_SET_STATUS, R184). -/
inductive SetState | free | opened | armed | deferred | resync | missed | discarded
  deriving DecidableEq, Repr
/-- State of a Vigil campaign (VIGIL_STATUS, R261). -/
inductive VState | idle | running | restoring | armed
  deriving DecidableEq, Repr
/-- The modes of R20 with the codes of MODE.MODE. -/
inductive Mode | sleep | boot | maintenance | service | vigil | fallback
  deriving DecidableEq, Repr

/-- One Square slot: the 20-bit sample word and its two flags, always posted together (R186). -/
structure Slot where
  /-- unposted slot holds 0. (20 bits; R186) -/
  word : Sample := 0
  /-- VALID. (1 bit; R186) -/
  valid : Bool := false
  /-- LATE. (1 bit; R186) -/
  late : Bool := false
  deriving DecidableEq, Repr

/-- A pointer P0-P3 of a Quern (R71, R82). -/
structure Pointer where
  /-- ADDR; 0 at pass start. (13 bits; R71, R82) -/
  addr : BitVec 13 := 0
  /-- BASE. (13 bits; R71, R82) -/
  base : BitVec 13 := 0
  /-- LEN. (13 bits; R71, R82) -/
  len : BitVec 13 := 0
  deriving DecidableEq, Repr

/-- A glide register: value in force, start value, target, length N and step counter k (R177). No glide runs while k = len. -/
structure Glide where
  /-- value in force. (20 bits; R71, R126) -/
  value : Sample := 0
  /-- v0. (20 bits; R177) -/
  start : Sample := 0
  /-- t. (20 bits; R177) -/
  target : Sample := 0
  /-- N. (16 bits; R169, R177) -/
  len : Nat := 0
  /-- k. (16 bits; R177) -/
  k : Nat := 0
  deriving DecidableEq, Repr

/-- The staging place of a glide register: a staged target and the glide length given with it (R169). -/
structure StagedGlide where
  /-- (20 bits; R169) -/
  target : Sample := 0
  /-- (16 bits; R169) -/
  len : Nat := 0
  deriving DecidableEq, Repr

/-- A window register Wn (R104). -/
structure Window where
  /-- ENTRY. (12 bits; R104) -/
  entry : Nat := 0
  /-- BIAS. (22 bits; R104) -/
  bias : Nat := 0
  /-- BOUND. (1 bit; R104) -/
  bound : Bool := false
  deriving DecidableEq, Repr

/-- A program of a program store with its descriptor, windows and owned Square slots (R106, R110). -/
structure Program where
  /-- QUERN. (7 bits; R106) -/
  quern : Nat := 0
  /-- DOMAIN. (2 bits; R106) -/
  domain : Nat := 0
  /-- KEEP_SCRATCH. (1 bit; R106) -/
  keepScratch : Bool := false
  /-- VARIANT. (1 bit; R106) -/
  variant : Bool := false
  /-- RATE_MASK. (8 bits; R106) -/
  rateMask : BitVec 8 := 0
  /-- L. (13 bits; R106, R101) -/
  l : Nat := 0
  /-- WORD_COUNT. (13 bits; R106) -/
  wordCount : Nat := 0
  /-- WORK_BASE. (13 bits; R106, R75) -/
  workBase : Nat := 0
  /-- WINDOW_COUNT. (6 bits; R106) -/
  windowCount : Nat := 0
  /-- GRANARY_ACC. (10 bits; R106) -/
  granaryAcc : Nat := 0
  /-- CROSS_ACC. (7 bits; R106) -/
  crossAcc : Nat := 0
  /-- STALL_HS. (11 bits; R106) -/
  stallHs : Nat := 0
  /-- OUT_COUNT. (14 bits; R106) -/
  outCount : Nat := 0
  /-- NAME_INDEX. (16 bits; R106) -/
  nameIndex : Nat := 0
  /-- a reserved descriptor bit was not 0 (checked under 0x02). (1 bit; R106) -/
  reservedBits : Bool := false
  /-- (up to 8191 Square slot numbers; R110) -/
  owned : List Nat := []
  /-- (up to 32 windows; R110, R104) -/
  windows : List Window := []
  /-- (up to 4096 48-bit instruction words; R71, R110) -/
  words : List (BitVec 48) := []
  /-- BUNDLE_ID of the bundle it came with. (32 bits; R108) -/
  bundle : Nat := 0
  deriving DecidableEq, Repr

/-- What a Quern's capture epilogue writes into its staged store (R305). -/
structure Capture where
  /-- (1024 x 20 bits; R305) -/
  scratch : List Sample := []
  /-- Noticeboard. (256 x 20 bits; R305) -/
  nb : List Sample := []
  /-- ledger working region. (up to 4096 x 20 bits; R305) -/
  work : List Sample := []
  /-- owned Square slots. (slots; R305) -/
  slots : List Sample := []
  /-- start, target and 65,536 N + k of each register. (192 words; R305) -/
  glides : List (Sample × Sample × Nat) := []
  deriving DecidableEq, Repr

/-- One Quern (R71), with its pass, its lateness state (R62, R129-R133) and QSTAT (R103). -/
structure Quern where
  /-- none: QSTAT.ACTIVE clear. (active program store, descriptor and windows; R71) -/
  active : Option Program := none
  /-- none: QSTAT.STAGED clear. (staged program store; R71, R105) -/
  staged : Option Program := none
  /-- QSTAT.STAGED: the staged store holds a checked program that is ready (old programs kept for REVERT do not set it). (1 bit; R103) -/
  stagedOk : Bool := false
  /-- state captured at the end of pass J - 1, in the staged store. (up to 8192 words; R305) -/
  capture : Option Capture := none
  /-- active ledger. (4096 x 20 bits; R71) -/
  ledgerA : Tab Sample := []
  /-- shadow ledger. (4096 x 20 bits; R71) -/
  ledgerS : Tab Sample := []
  /-- G0-G63. (64 registers; R71) -/
  glides : Tab Glide := []
  /-- (64 staging places; R169) -/
  stagedGlides : Tab StagedGlide := []
  /-- (1024 x 20 bits; R71) -/
  scratch : Tab Sample := []
  /-- Noticeboard. (256 x 20 bits; R71, R74) -/
  nb : Tab Sample := []
  /-- in-region snapshot taken at action 6. (64 x 20 bits; R74) -/
  nbIn : Tab Sample := []
  /-- in-region shadow. (64 x 20 bits; R169) -/
  nbShadow : Tab Sample := []
  /-- A0-A3; cleared at pass start. (4 x 52 bits; R71, R72) -/
  acc : Tab (BitVec 52) := []
  /-- D0-D7; cleared at pass start. (8 x 20 bits; R71, R72) -/
  d : Tab Sample := []
  /-- P0-P3; cleared at pass start. (4 pointers; R71, R72) -/
  p : Tab Pointer := []
  /-- condition N. (1 bit; R71, R89) -/
  cN : Bool := false
  /-- condition Z. (1 bit; R71, R89) -/
  cZ : Bool := false
  /-- condition V. (1 bit; R71, R89) -/
  cV : Bool := false
  /-- condition L. (1 bit; R71, R89) -/
  cL : Bool := false
  /-- sticky OVA. (1 bit; R71) -/
  ova : Bool := false
  /-- sticky SAT. (1 bit; R71) -/
  sat : Bool := false
  /-- sticky PF. (1 bit; R71) -/
  pf : Bool := false
  /-- QSTAT.OVA. (1 bit; R103) -/
  qOva : Bool := false
  /-- QSTAT.SAT. (1 bit; R103) -/
  qSat : Bool := false
  /-- QSTAT.PF. (1 bit; R103) -/
  qPf : Bool := false
  /-- QSTAT.PF_WORD. (12 bits; R103) -/
  qPfWord : Nat := 0
  /-- QSTAT flags OVA, SAT and PF that Jexolaryn has reported since they were last cleared. (3 bits; R103) -/
  qSeen : BitVec 3 := 0
  /-- a pass is running. (1 bit; R27) -/
  running : Bool := false
  /-- program word of the next slot. (0-4096; R71) -/
  pc : Nat := 0
  /-- repetitions of the next instruction left by REP; 0: none. (11 bits; R99) -/
  rep : Nat := 0
  /-- (Square writes of this pass; R88) -/
  outs : Tab Sample := []
  /-- WIDX of each window's line at the Bell on which the pass started. (32 write indices; R129) -/
  winIdx : Tab Nat := []
  /-- front page as it stood on the Bell on which the pass started. (8192 slots; R26, R25) -/
  pageIn : Tab Slot := []
  /-- glide values in force on the Bell on which the pass started. (64 registers; R26) -/
  glideIn : Tab Sample := []
  /-- a pass ended in time since the last Bell. (1 bit; R88) -/
  posted : Bool := false
  /-- values last posted by a pass that finished in time. (owned slots; R130) -/
  lastPosted : Tab Slot := []
  /-- slots hold with LATE until the next timely posting. (1 bit; R130) -/
  hold : Bool := false
  /-- marked late at the last Bell. (1 bit; R62) -/
  lateNow : Bool := false
  /-- (markings of this pass; R62) -/
  lateBells : Nat := 0
  /-- Bell intervals that this pass has outlasted. (ps; R62, R321) -/
  lateTime : Nat := 0
  /-- overrunning passes in a row. (0-3; R131) -/
  overruns : Nat := 0
  /-- this pass has been counted. (1 bit; R131) -/
  counted : Bool := false
  /-- late-muted. (1 bit; R131) -/
  muted : Bool := false
  /-- k of the mute ramp; 0 none. (0-96 Bells; R131) -/
  rampDown : Nat := 0
  /-- k of the restore ramp; 0 none. (0-96 Bells; R132) -/
  rampUp : Nat := 0
  /-- late-mutes of this Quern, latest first. (AON ticks; R133) -/
  muteTicks : List Nat := []
  /-- consecutive Bells with passes in time since late-mute. (Bells; R132) -/
  timely : Nat := 0
  /-- duration of the last pass. (ps; R62) -/
  dur : Nat := 0
  /-- slack at the last Bell. (units of 5.09 ns; R62) -/
  slack : Nat := 0
  /-- stops at the next Bell (unload of an ACTIVE bundle, FALLBACK). (1 bit; R124) -/
  stopNext : Bool := false
  /-- the stop at the next Bell keeps the program in the staged store (R124). (1 bit; R124) -/
  stopKeep : Bool := false
  /-- a program swap deferred because the Quern was late. (1 bit; R123, R28) -/
  swapDue : Bool := false
  /-- bundle of the deferred swap. (BUNDLE_ID; R28, R123) -/
  swapFor : Nat := 0
  /-- ledger image of a program swapped in at this Bell, to be exchanged in at action 6. (ledger; R28, R123) -/
  swapImage : Option (Tab Sample) := none
  /-- shadow being brought up to date. (1 bit; R175) -/
  resync : Bool := false
  deriving DecidableEq, Repr

/-- A commit slot of a domain (R172); the mask is COMMIT_MASK0-3. -/
structure CommitSlot where
  /-- ARMED. (1 bit; R172) -/
  armed : Bool := false
  /-- NEXT. (1 bit; R172) -/
  next : Bool := false
  /-- FIRED. (1 bit; R172) -/
  fired : Bool := false
  /-- MISSED. (1 bit; R172) -/
  missed : Bool := false
  /-- DEFERRED. (1 bit; R172) -/
  deferred : Bool := false
  /-- some Querns of the present arming have been deferred. (1 bit; R174) -/
  waits : Bool := false
  /-- BELL_HI, BELL_LO. (48 bits; R172) -/
  bell : BitVec 48 := 0
  /-- COMMIT_MASK0-3. (128 bits; R172) -/
  mask : BitVec 128 := 0
  /-- host set the slot serves; none: own commit. (3 bits; R174, R464) -/
  set : Option Nat := none
  /-- glides of Jexolaryn carried by the slot. (own glides; R447) -/
  own : List OwnGlide := []
  /-- own commit of a rate reconfiguration. (ledger images; R59) -/
  images : List LedgerImage := []
  deriving DecidableEq, Repr

/-- The route swap slot of a domain (R192). -/
structure RouteSlot where
  /-- ARMED. (1 bit; R192) -/
  armed : Bool := false
  /-- NEXT. (1 bit; R192) -/
  next : Bool := false
  /-- FIRED. (1 bit; R192) -/
  fired : Bool := false
  /-- MISSED. (1 bit; R192) -/
  missed : Bool := false
  /-- BELL_HI, BELL_LO. (48 bits; R192) -/
  bell : BitVec 48 := 0
  deriving DecidableEq, Repr

/-- One rate domain: DOM_* registers (R68-R70), the generator's and monitor's state, its Square pages, commit slots and route swap slot. -/
structure Domain where
  /-- DOM_CFG.ENABLE. (1 bit; R68) -/
  enable : Bool := false
  /-- DOM_CFG.RATE_MASK. (8 bits; R68) -/
  rateMask : BitVec 8 := 0
  /-- DOM_CFG.POLICY. (1 bit; R68) -/
  policy : Bool := false
  /-- DOM_CFG.RATE. (3 bits; R68) -/
  rate : Nat := 0
  /-- DOM_CFG.SRC_GROUP. (3 bits; R68) -/
  srcGroup : Nat := 0
  /-- DOM_CFG.SRC. (4 bits; R68) -/
  src : Nat := 0
  /-- LOCKED_EV. (1 bit; R69) -/
  lockedEv : Bool := false
  /-- LATE. (1 bit; R69) -/
  late : Bool := false
  /-- GLITCH. (1 bit; R69) -/
  glitch : Bool := false
  /-- RATE_CHANGE. (1 bit; R69) -/
  rateChange : Bool := false
  /-- RETURN. (1 bit; R69) -/
  returnEv : Bool := false
  /-- LOSS. (1 bit; R69) -/
  loss : Bool := false
  /-- NEW_RATE. (4 bits; R69) -/
  newRate : Nat := 15
  /-- STATE. (3 bits; R69) -/
  state : DomState := .off
  /-- DOM_BELL_HI, DOM_BELL_LO. (48 bits; R50, R70) -/
  bell : BitVec 48 := 0
  /-- DOM_RATE. (24 bits, 0.01 Hz; R70) -/
  bellRate : Nat := 0
  /-- DOM_REF_RATE. (24 bits, 0.01 Hz; R70) -/
  refRate : Nat := 0
  /-- LOSS_COUNT. (16 bits; R70) -/
  lossCount : Nat := 0
  /-- GLITCH_COUNT. (16 bits; R70) -/
  glitchCount : Nat := 0
  /-- LATE_COUNT. (32 bits; R70) -/
  lateCount : Nat := 0
  /-- measured rate in band while in ACQUIRE. (1 bit; R49) -/
  acqOk : Bool := false
  /-- an accepted edge has been seen since the last loss. (1 bit; R48) -/
  edgeSeen : Bool := false
  /-- phase error of the previous accepted edge. (ps; R53) -/
  phaseErr : Int := 0
  /-- Bell rate held at the last accepted edge while slewing. (0.01 Hz; R54) -/
  heldRate : Nat := 0
  /-- part of the permitted change of frequency not yet used. (numerator over 10^16; R56) -/
  slewRem : Nat := 0
  /-- RETURN as it was before a return at this instant. (1 bit, or no such return; R67) -/
  returnedFrom : Option Bool := none
  /-- sources lost since the domain was last LOCKED: SRC and SRC_GROUP of each. (lists of 4 and 3 bits; R54) -/
  lostRefs : List (Nat × Nat) := []
  /-- Bell counts at which recent glitches came. (Bell counts; R53) -/
  glitchBells : List Nat := []
  /-- accepted edges in the run of the reference monitor; none: no run. (0-256; R517) -/
  runEdges : Option Nat := none
  /-- consecutive accepted edges within the tolerance while slewing. (0-256; R56) -/
  lockRun : Nat := 0
  /-- new rate code of a reconfiguration. (3 bits; R59, R60) -/
  target : Option Nat := none
  /-- progress of a rate reconfiguration. (step of R59; R59) -/
  step : ReconfigStep := .none
  /-- reconfiguration commanded by DOMAIN_CONFIG. (1 bit; R60) -/
  commanded : Bool := false
  /-- a change to SRC 4 is taken at the next Bell. (1 bit; R60) -/
  toSynth : Bool := false
  /-- Bells before the switching Bell of a reconfiguration; none: not yet known. (Bells; R59, R60) -/
  switchIn : Option Nat := none
  /-- the switching Bell is issued without an edge. (1 bit; R60) -/
  timedOut : Bool := false
  /-- place in the output ramp of a reconfiguration. (Bells; R59) -/
  rampK : Nat := 0
  /-- place in the output ramp of step 2 of an entry to SLEEP; 0 none. (Bells; R329) -/
  sleepK : Nat := 0
  /-- rate code before the reconfiguration. (3 bits; R59) -/
  fromRate : Nat := 0
  /-- front page. (8192 slots; R27, R186) -/
  front : Tab Slot := []
  /-- back page. (8192 slots; R27, R186) -/
  back : Tab Slot := []
  /-- commit slots. (8 slots; R172) -/
  slots : Tab CommitSlot := []
  /-- (route swap slot; R192) -/
  route : RouteSlot := {}
  /-- active entries being copied to the staged ones. (1 bit; R193) -/
  routeBusy : Bool := false
  /-- channels whose entries that copy covers. (up to 512 channels; R193) -/
  copyChans : List Nat := []
  /-- Stiles whose configurations that copy covers. (up to 64 Stiles; R193) -/
  copyStiles : List Nat := []
  /-- digest of each recent Bell, latest first. (recent Bells; R290) -/
  digests : List (BitVec 48 × BitVec 32) := []
  /-- (QUERN grants of displaced programs, returned at the next Bell; R317) -/
  displaced : List Nat := []
  /-- consecutive Bells with a late marking while the partner shows none. (Bells; R296) -/
  lateRun : Nat := 0
  deriving DecidableEq, Repr

/-- A delay-line table entry (R137) and its put buffer (R144). -/
structure Line where
  /-- VALID. (1 bit; R137) -/
  valid : Bool := false
  /-- CROSS. (1 bit; R137) -/
  cross : Bool := false
  /-- DOMAIN. (2 bits; R137) -/
  domain : Nat := 0
  /-- BASE. (25 bits; R137) -/
  base : Nat := 0
  /-- OWNER. (7 bits; R137) -/
  owner : Nat := 0
  /-- LENGTH. (22 bits; R137) -/
  length : Nat := 0
  /-- WIDX. (22 bits; R137, R140) -/
  widx : Nat := 0
  /-- STORED. (1 bit; R137) -/
  stored : Bool := false
  /-- FREEZE. (1 bit; R137) -/
  freeze : Bool := false
  /-- CLAMPED. (1 bit; R137) -/
  clamped : Bool := false
  /-- BUS_ERR. (1 bit; R137) -/
  busErr : Bool := false
  /-- put buffer. (index and word; R144) -/
  put : Option (Nat × Sample) := none
  deriving DecidableEq, Repr

/-- A BANK_REMAPn register (R164). -/
structure Remap where
  /-- VALID. (1 bit; R164) -/
  valid : Bool := false
  /-- BAD. (1 bit; R164) -/
  bad : Bool := false
  /-- ROW. (14 bits; R164) -/
  row : Nat := 0
  deriving DecidableEq, Repr

/-- A granary bank: BANK_OWNER (R150), BANK_SPARE and BANK_REMAPn (R164) and a Sexton visit in progress (R156). LINES is computed from the line table. -/
structure Bank where
  /-- OWNER. (3 bits; R150) -/
  owner : Nat := 0
  /-- CHANNEL. (5 bits; R150) -/
  channel : Nat := 0
  /-- REFUSED. (1 bit; R150) -/
  refused : Bool := false
  /-- BUS_ERR. (1 bit; R150) -/
  busErr : Bool := false
  /-- ERR_MASTER. (4 bits; R150) -/
  errMaster : Nat := 0
  /-- UNREPAIRED. (1 bit; R164) -/
  unrepaired : Bool := false
  /-- SOFT. (1 bit; R164) -/
  soft : Bool := false
  /-- REPAIR_EV. (1 bit; R164) -/
  repairEv : Bool := false
  /-- FULL_DONE. (1 bit; R164) -/
  fullDone : Bool := false
  /-- ROW_PTR. (14 bits; R164) -/
  rowPtr : Nat := 0
  /-- SWEEPS. (8 bits; R164) -/
  sweeps : Nat := 0
  /-- BANK_REMAP0-15. (16 registers; R164) -/
  remap : Tab Remap := []
  /-- a visit is in progress. (1 bit; R156) -/
  visiting : Bool := false
  /-- the row failed once; its data is in the save row. (1 bit; R159) -/
  again : Bool := false
  /-- phase of the visit. (R156) -/
  phase : VisitPhase := .idle
  /-- copy pointer c. (0-16; R156) -/
  copied : Nat := 0
  /-- save row in use. (spare row number; R156) -/
  save : Option Nat := none
  /-- rows that failed once and passed their repeat since SOFT was last cleared. (row numbers; R159) -/
  softRows : List Nat := []
  /-- rows repaired since REPAIR_EV was last cleared. (row numbers; R159) -/
  repairRows : List Nat := []
  /-- rows that could not be repaired since UNREPAIRED was last cleared. (row numbers; R160) -/
  lostRows : List Nat := []
  /-- change from SHARED waiting for the visit in progress. (owner and channel; R151) -/
  ownerNext : Option (Nat × Nat) := none
  deriving DecidableEq, Repr

/-- The Sexton registers (R163) and its place in the bank order (R155). -/
structure Sexton where
  /-- SEXTON_CFG.ENABLE. (1 bit; R163) -/
  enable : Bool := false
  /-- SEXTON_CFG.DOMAIN. (2 bits; R163) -/
  domain : Nat := 0
  /-- SEXTON_SET0-3. (128 bits; R163) -/
  set : BitVec 128 := 0
  /-- last bank visited. (7 bits; R155) -/
  last : Nat := 127
  deriving DecidableEq, Repr

/-- An input-map entry (R188); CONCEALED is kept with the channel. -/
structure InEntry where
  /-- SOURCE. (2 bits; R188) -/
  source : Nat := 0
  /-- MIRROR_TX. (1 bit; R188) -/
  mirrorTx : Bool := false
  /-- RAW. (1 bit; R188) -/
  raw : Bool := false
  deriving DecidableEq, Repr

/-- The concealment state of an input channel or Stile (R204-R206) and the one-Bell delay of a mirrored input (R64, R189). -/
structure Channel where
  /-- (concealment phase; R204, R205) -/
  phase : Conceal := .none
  /-- h. (20 bits; R204) -/
  h : Sample := 0
  /-- last value posted with VALID set. (20 bits; R204) -/
  last : Sample := 0
  /-- value posted at the previous Bell. (20 bits; R206) -/
  prev : Sample := 0
  /-- local copy held back one Bell. (one slot; R64, R189) -/
  delayed : Slot := {}
  deriving DecidableEq, Repr

/-- An output-map entry (R190). -/
structure OutEntry where
  /-- ENABLE. (1 bit; R190) -/
  enable : Bool := false
  /-- SRC_SLOT. (13 bits; R190) -/
  src : Nat := 0
  deriving DecidableEq, Repr

/-- Configuration words 0-1 of a detour entry (R198). -/
structure Detour where
  /-- ENABLE. (1 bit; R198) -/
  enable : Bool := false
  /-- TRIG_CLK. (1 bit; R198) -/
  trigClk : Bool := false
  /-- TRIG_AMP. (1 bit; R198) -/
  trigAmp : Bool := false
  /-- TRIG_PILOT. (1 bit; R198) -/
  trigPilot : Bool := false
  /-- RETURN_AUTO. (1 bit; R198) -/
  returnAuto : Bool := false
  /-- ALT_PORT. (5 bits; R198) -/
  altPort : Nat := 0
  /-- ALT_SLOT. (4 bits; R198) -/
  altSlot : Nat := 0
  /-- PILOT. (6 bits; R198) -/
  pilot : Nat := 0
  /-- RETURN_HOLD. (7 bits; R198) -/
  returnHold : Nat := 0
  /-- AMP_DEBOUNCE. (4 bits; R198) -/
  ampDebounce : Nat := 0
  /-- AMP_BIT. (5 bits; R198) -/
  ampBit : Nat := 0
  /-- AMP_CHAN. (9 bits; R198) -/
  ampChan : Nat := 0
  deriving DecidableEq, Repr

/-- Status word 2 of a detour entry (R198) and the dynamic detour state (R199-R202). -/
structure DetourStat where
  /-- DETOURED. (1 bit; R198) -/
  detoured : Bool := false
  /-- CONFLICT. (1 bit; R198) -/
  conflict : Bool := false
  /-- BLOCKED. (1 bit; R198) -/
  blocked : Bool := false
  /-- SWITCH_EV. (1 bit; R198) -/
  switchEv : Bool := false
  /-- RETURN_EV. (1 bit; R198) -/
  returnEv : Bool := false
  /-- CAUSE. (3 bits; R198) -/
  cause : BitVec 3 := 0
  /-- detour forced by the host. (1 bit; R202) -/
  forced : Bool := false
  /-- consecutive Bells of the amplifier condition. (0-16 Bells; R199) -/
  ampRun : Nat := 0
  /-- a return waits for action 7. (1 bit; R202) -/
  returning : Bool := false
  deriving DecidableEq, Repr

/-- Word 0 of a Stile (R194). -/
structure StileCfg where
  /-- ENABLE. (1 bit; R194) -/
  enable : Bool := false
  /-- SRC_DOMAIN. (2 bits; R194) -/
  srcDom : Nat := 0
  /-- DST_DOMAIN. (2 bits; R194) -/
  dstDom : Nat := 0
  /-- SRC_SLOT. (13 bits; R194) -/
  srcSlot : Nat := 0
  deriving DecidableEq, Repr

/-- Word 1 of a Stile (R194) with its concealment. -/
structure StileStat where
  /-- TRACKING. (1 bit; R194) -/
  tracking : Bool := false
  /-- SLIP. (1 bit; R194) -/
  slip : Bool := false
  /-- RANGE. (1 bit; R194) -/
  range : Bool := false
  /-- RATIO. (24 bits; R194) -/
  ratio : Nat := 0
  /-- (concealment state; R196) -/
  chan : Channel := {}
  /-- a re-centre is due at the next destination Bell. (1 bit; R196) -/
  recentre : Bool := false
  /-- its configuration changed at a route swap: it restarts at the next destination Bell. (1 bit; R196) -/
  restart : Bool := false
  /-- source slot at the latest source Bells, latest first. (512 slots; R195) -/
  hist : List Slot := []
  /-- interpolation phase for the next Bell. (26 bits; R197) -/
  phase : Nat := 0
  deriving DecidableEq, Repr

/-- A clock group: GROUP_CFG (R230), GROUP_STATUS and GROUP_RATE (R231). -/
structure Group where
  /-- ENABLE. (1 bit; R230) -/
  enable : Bool := false
  /-- MASTER. (1 bit; R230) -/
  master : Bool := false
  /-- DOMAIN. (2 bits; R230) -/
  domain : Nat := 0
  /-- FORMAT. (2 bits; R230) -/
  format : Nat := 0
  /-- DATA_DELAY. (1 bit; R230) -/
  dataDelay : Bool := false
  /-- BCLK_INV. (1 bit; R230) -/
  bclkInv : Bool := false
  /-- FS_INV. (1 bit; R230) -/
  fsInv : Bool := false
  /-- GATED. (1 bit; R230) -/
  gated : Bool := false
  /-- SLOTS. (5 bits; R230) -/
  slots : Nat := 0
  /-- PHASE. (8 bits; R231) -/
  phase : Nat := 255
  /-- BCLKS. (10 bits; R231) -/
  bclks : Nat := 0
  /-- RATE_EV. (1 bit; R231) -/
  rateEv : Bool := false
  /-- PHASE_ERR. (1 bit; R231) -/
  phaseErr : Bool := false
  /-- FRAME_ERR. (1 bit; R231) -/
  frameErr : Bool := false
  /-- CLK_LOSS. (1 bit; R231) -/
  clkLoss : Bool := false
  /-- UNDERRUN. (1 bit; R231) -/
  underrun : Bool := false
  /-- RATE_CODE. (4 bits; R231) -/
  rateCode : Nat := 15
  /-- STATE. (2 bits; R231) -/
  state : Nat := 0
  /-- FS_RATE. (24 bits, 0.01 Hz; R231) -/
  rate : Nat := 0
  /-- consecutive good frames while LOST. (0-16 frames; R220) -/
  good : Nat := 0
  /-- LOST when the last Bell of its domain began. (1 bit; R219) -/
  lostSeen : Bool := false
  /-- LOST as it was when action 3 of the last Bell began. (1 bit; R200, R219) -/
  lostWas : Bool := false
  /-- a frame-start edge has been seen since the group was configured. (1 bit; R215, R219) -/
  seen : Bool := false
  /-- the edge that began the present frame lay in the phase window. (1 bit; R220) -/
  startOk : Bool := false
  /-- a Bell of its domain has begun since it was enabled, so that a frame is attached to the previous Bell. (1 bit; R219) -/
  begun : Bool := false
  /-- it has had its first frame under the core's configuration since it was enabled. (1 bit; R273) -/
  passed : Bool := false
  /-- the interlock let its outputs be driven as the frame in progress began. (1 bit; R297, R298) -/
  drives : Bool := false
  /-- its outputs are driven to the end of the frame in which the device handed over. (1 bit; R297) -/
  tail : Bool := false
  deriving DecidableEq, Repr

/-- A WCLK_RATE register (R231). -/
structure Wclk where
  /-- RATE_CODE. (4 bits; R231) -/
  rateCode : Nat := 15
  /-- RATE_EV. (1 bit; R231) -/
  rateEv : Bool := false
  /-- RATE. (24 bits, 0.01 Hz; R231) -/
  rate : Nat := 0
  deriving DecidableEq, Repr

/-- A PORT_CFG register (R232), with the frame on which the port started (R226). -/
structure Port where
  /-- IN_EN. (1 bit; R232) -/
  inEn : Bool := false
  /-- OUT_EN. (1 bit; R232) -/
  outEn : Bool := false
  /-- GROUP. (3 bits; R232) -/
  group : Nat := 0
  /-- IN_WL. (2 bits; R232) -/
  inWl : Nat := 0
  /-- OUT_WL. (2 bits; R232) -/
  outWl : Nat := 0
  /-- ALIGN. (3 bits; R232) -/
  align : Nat := 0
  /-- ALIGNED. (1 bit; R232) -/
  aligned : Bool := false
  /-- IN_SAT. (16 bits; R232) -/
  inSat : Nat := 0
  /-- the port has started. (1 bit; R226) -/
  started : Bool := false
  /-- the port is concealed. (1 bit; R204, R205) -/
  concealed : Bool := false
  /-- at the last Bell its frames were withheld: group LOST or reference not in force. (1 bit; R205, R206) -/
  withheld : Bool := false
  /-- Bell at which a port added to a RUNNING group starts. (Bell; R226) -/
  startAt : Option (BitVec 48) := none
  deriving DecidableEq, Repr

/-- An aligned group: ALIGN_STATUS (R232). -/
structure Align where
  /-- STATE. (2 bits; R232) -/
  state : Nat := 0
  /-- DOMAIN. (2 bits; R232) -/
  domain : Nat := 0
  /-- ON_SYNC. (1 bit; R232) -/
  onSync : Bool := false
  /-- START_HI, START_LO. (48 bits; R232) -/
  start : BitVec 48 := 0
  deriving DecidableEq, Repr

/-- PDM_CLK_CFG (R233). -/
structure PdmClk where
  /-- ENABLE. (1 bit; R233) -/
  enable : Bool := false
  /-- DOMAIN. (2 bits; R233) -/
  domain : Nat := 0
  /-- RATIO. (9 bits; R233) -/
  ratio : Nat := 0
  deriving DecidableEq, Repr

/-- SIEVE_CFG (R233). -/
structure SieveCfg where
  /-- ENABLE. (1 bit; R233) -/
  enable : Bool := false
  /-- GAIN_SHIFT. (2 bits; R233) -/
  gainShift : Nat := 0
  /-- HPF. (1 bit; R233) -/
  hpf : Bool := false
  deriving DecidableEq, Repr

/-- MCLK_CFG (R233). -/
structure MclkCfg where
  /-- ENABLE. (1 bit; R233) -/
  enable : Bool := false
  /-- DOMAIN. (2 bits; R233) -/
  domain : Nat := 0
  /-- MODE. (2 bits; R233) -/
  mode : Nat := 0
  deriving DecidableEq, Repr

/-- The audio ports, maps, Stiles and detours (chapters 7 and 8). -/
structure Audio where
  /-- (8 groups; R230, R231) -/
  groups : Tab Group := []
  /-- (2 pins; R231) -/
  wclk : Tab Wclk := []
  /-- (32 ports; R232) -/
  ports : Tab Port := []
  /-- (8 groups; R232) -/
  aligns : Tab Align := []
  /-- SIEVE_STUCK. (32 bits; R232) -/
  sieveStuck : BitVec 32 := 0
  /-- SIEVE_EV. (32 bits; R232) -/
  sieveEv : BitVec 32 := 0
  /-- (4 words; R233) -/
  pdmClks : Tab PdmClk := []
  /-- (32 words; R233) -/
  sieves : Tab SieveCfg := []
  /-- transmitted Sieves held back one Bell. (32 slots; R288) -/
  sieveDelay : Tab Slot := []
  /-- filtered samples of each Sieve on their way to the Square, latest first. (32 lists of samples; R63, R222) -/
  sieveHist : Tab (List Int) := []
  /-- (4 words; R233) -/
  mclks : Tab MclkCfg := []
  /-- SYNC_OUT pin. (1 bit; R66) -/
  syncOut : Bool := false
  /-- domain and start Bell s of each committed interval. (committed SYNC_OUT intervals; R227) -/
  syncResv : List (Nat × BitVec 48) := []
  /-- active input map. (512 entries; R188) -/
  inA : Tab InEntry := []
  /-- staged input map. (512 entries; R188) -/
  inS : Tab InEntry := []
  /-- (512 channels; R204) -/
  inChan : Tab Channel := []
  /-- active output map. (512 entries; R190) -/
  outA : Tab OutEntry := []
  /-- staged output map. (512 entries; R190) -/
  outS : Tab OutEntry := []
  /-- output buffers filled at action 7. (512 words; R191) -/
  outBuf : Tab Sample := []
  /-- TDM slots of the output frames that start at the latest Bell; none: not sent. (512 words of 32 bits; R209, R214, R217) -/
  tx : Tab (Option (BitVec 32)) := []
  /-- active detour words 0-1. (512 entries; R198) -/
  detA : Tab Detour := []
  /-- staged detour words 0-1. (512 entries; R198) -/
  detS : Tab Detour := []
  /-- detour word 2. (512 entries; R198) -/
  detStat : Tab DetourStat := []
  /-- active Stile word 0. (64 words; R194) -/
  stileA : Tab StileCfg := []
  /-- staged Stile word 0. (64 words; R194) -/
  stileS : Tab StileCfg := []
  /-- Stile word 1. (64 words; R194) -/
  stileStat : Tab StileStat := []
  deriving DecidableEq, Repr

/-- A Tally lane (R258). Its points lie in its granary bank (R239). -/
structure Lane where
  /-- ENABLE. (1 bit; R258) -/
  enable : Bool := false
  /-- DOMAIN. (2 bits; R258) -/
  domain : Nat := 0
  /-- BANK. (7 bits; R258) -/
  bank : Nat := 0
  /-- PERIODS. (16 bits; R258) -/
  periods : Nat := 0
  /-- SRC_SLOT. (13 bits; R258) -/
  srcSlot : Nat := 0
  /-- ORIGIN_HI, ORIGIN_LO. (48 bits; R258) -/
  origin : BitVec 48 := 0
  /-- DONE. (1 bit; R258) -/
  done : Bool := false
  /-- FAULT. (1 bit; R258) -/
  fault : Bool := false
  /-- XFORM_DONE. (1 bit; R258) -/
  xformDone : Bool := false
  /-- INVALID. (1 bit; R258) -/
  invalid : Bool := false
  /-- PERIODS_DONE. (16 bits; R258) -/
  periodsDone : Nat := 0
  /-- the lane has started. (1 bit; R240) -/
  running : Bool := false
  /-- DONE was set since ENABLE. (1 bit; R242) -/
  hasData : Bool := false
  /-- the Bell of the first accumulation. (48 bits; R240, R254) -/
  start : BitVec 48 := 0
  deriving DecidableEq, Repr

/-- A Goertzel detector (R260) and the block in progress (R256, R257). -/
structure Detector where
  /-- ENABLE. (1 bit; R260) -/
  enable : Bool := false
  /-- DOMAIN. (2 bits; R260) -/
  domain : Nat := 0
  /-- SRC_SLOT. (13 bits; R260) -/
  srcSlot : Nat := 0
  /-- FREQ. (16 bits; R260) -/
  freq : Nat := 0
  /-- BLOCK. (10 bits; R260) -/
  block : Nat := 0
  /-- LOSS_BLOCKS. (4 bits; R260) -/
  lossBlocks : Nat := 0
  /-- LOSS_LEVEL. (8 bits, 0.5 dB; R260) -/
  lossLevel : Nat := 0
  /-- HYST. (6 bits, 0.5 dB; R260) -/
  hyst : Nat := 0
  /-- STATE. (2 bits; R260) -/
  state : Nat := 0
  /-- LOSS_EV. (1 bit; R260) -/
  lossEv : Bool := false
  /-- PRESENT_EV. (1 bit; R260) -/
  presentEv : Bool := false
  /-- LEVEL. (16 bits, 0.01 dB; R260) -/
  level : Nat := 65535
  /-- x[n] of the block in progress, latest first. (samples of the block; R256) -/
  xs : List Int := []
  /-- the block holds a sample with VALID clear. (1 bit; R256) -/
  bad : Bool := false
  /-- a block has begun. (1 bit; R256) -/
  inBlock : Bool := false
  /-- consecutive blocks towards the next state. (blocks; R257) -/
  run : Nat := 0
  deriving DecidableEq, Repr

/-- Tally: lanes, transform unit and detectors (chapter 9). -/
structure Tally where
  /-- (32 lanes; R258) -/
  lanes : Tab Lane := []
  /-- (64 detectors; R260) -/
  dets : Tab Detector := []
  /-- TALLY_XFORM.BUSY. (1 bit; R259) -/
  xBusy : Bool := false
  /-- TALLY_XFORM.REFUSED. (1 bit; R259) -/
  xRefused : Bool := false
  /-- TALLY_XFORM.LANE. (5 bits; R259) -/
  xLane : Nat := 0
  /-- the lane whose transform is running. (5 bits; R242) -/
  xRun : Nat := 0
  deriving DecidableEq, Repr

/-- The Crier's always-on copy of a store: header and block table (R267, R268). -/
structure CrierStore where
  /-- slot the store came from; 0 A, 1 B. (1 bit; R268) -/
  slot : Nat := 0
  /-- SEQ. (32 bits; R267) -/
  seq : Nat := 0
  /-- PCM_OFFSET. (32 bits; R267) -/
  pcmOffset : Nat := 0
  /-- BLOCK_COUNT. (0-1875; R267) -/
  blockCount : Nat := 0
  /-- first block and sample count of each message. (up to 8; R267) -/
  msgs : List (Nat × Nat) := []
  /-- ALARM_SEQ. (up to 8; R267) -/
  alarmSeq : List Nat := []
  /-- FAULT_SEQ. (up to 8; R267) -/
  faultSeq : List Nat := []
  /-- GAP_MS. (16 bits; R267) -/
  gapMs : Nat := 0
  /-- MIC_SRC. (0-2; R267) -/
  micSrc : Nat := 0
  /-- MIC_PDM. (5 bits; R267) -/
  micPdm : Nat := 0
  /-- MIC_TDM. (9 bits; R267) -/
  micTdm : Nat := 0
  /-- MIC_GAIN, Q4.16. (20 bits; R267) -/
  micGain : BitVec 20 := 0
  /-- DUCK_DB. (0-40; R267) -/
  duckDb : Nat := 0
  /-- VOX_DB. (0-90; R267) -/
  voxDb : Nat := 0
  /-- forced channels: output channel and GAIN. (1-64; R267) -/
  chans : List (Nat × Sample) := []
  /-- GROUPS entries. (1-8; R267) -/
  groups : List CrierGroup := []
  /-- PORT_GROUPS. (32 bytes; R267) -/
  portGroups : List Nat := []
  /-- block table. (up to 1875; R267, R270) -/
  crcs : List (BitVec 32) := []
  deriving DecidableEq, Repr

/-- The material the Crier plays (R266, R270). -/
structure CrierPlay where
  /-- 0 alarm, 1 host, 2 internal. (0-2; R266) -/
  rank : Nat := 0
  /-- the sequence. (1-8 messages; R264, R266) -/
  seq : List Nat := []
  /-- place in the sequence of the message in progress. (0-8; R270) -/
  pos : Nat := 0
  /-- repetitions left after the one in progress; none: until stopped. (8 bits; R264, 0xD1) -/
  repeats : Option Nat := none
  /-- block in progress, from the message's first. (0-1875; R270) -/
  block : Nat := 0
  /-- the block in progress has been read and checked. (1 bit; R270) -/
  blockOk : Bool := false
  /-- sample of the message played next. (0-1920000; R271) -/
  sample : Nat := 0
  /-- in the GAP_MS silence. (1 bit; R267) -/
  gap : Bool := false
  /-- samples left of a ramp to zero; 0 none. (0-160 samples; R266, R270) -/
  ramp : Nat := 0
  /-- length of that ramp. (samples; R266, R270) -/
  rampLen : Nat := 0
  /-- after the ramp: 0 stop, 1 next message, 2 material of higher rank. (0-2; R266, R270) -/
  rampNext : Nat := 0
  /-- the ramp is that of a block that failed, from the sample held. (1 bit; R270) -/
  frozen : Bool := false
  /-- last sample of the message in progress, ramp included. (20 bits; R270) -/
  held : Sample := 0
  /-- the message in progress plays to its end and the Crier then stops. (1 bit; R264) -/
  finishing : Bool := false
  deriving DecidableEq, Repr

/-- The Crier (chapter 10): CRIER_STATUS, CRIER_EVENTS (R280), its store copy, playback and forced values. -/
structure Crier where
  /-- (CRIER_STATUS.STATE; R263, R280) -/
  state : CrierState := .off
  /-- STORE. (2 bits; R280) -/
  store : Nat := 0
  /-- PLAY_OK. (1 bit; R280) -/
  playOk : Bool := false
  /-- MSG. (3 bits; R280) -/
  msg : Nat := 0
  /-- REQ_A. (1 bit; R280) -/
  reqA : Bool := false
  /-- REQ_B. (1 bit; R280) -/
  reqB : Bool := false
  /-- CAUSE bit 15. (1 bit; R264, R280) -/
  alarm : Bool := false
  /-- CAUSE bit 16. (1 bit; R264, R280) -/
  host : Bool := false
  /-- CAUSE bit 17. (1 bit; R264, R280) -/
  wdog : Bool := false
  /-- CAUSE bit 18. (1 bit; R264, R280) -/
  overrun : Bool := false
  /-- CAUSE bit 19. (1 bit; R264, R280) -/
  bootFail : Bool := false
  /-- CAUSE bit 20. (1 bit; R264, R280) -/
  fbCmd : Bool := false
  /-- BAD_MSG. (8 bits; R280) -/
  badMsg : BitVec 8 := 0
  /-- BLOCK_ERR. (1 bit; R280) -/
  blockErr : Bool := false
  /-- GROUP_ERR. (1 bit; R280) -/
  groupErr : Bool := false
  /-- END_EV. (1 bit; R280) -/
  endEv : Bool := false
  /-- ACT_EV. (1 bit; R280) -/
  actEv : Bool := false
  /-- store copy. (header and block table; R268) -/
  copy : Option CrierStore := none
  /-- replacement waiting for ARMED. (header and block table; R269) -/
  newCopy : Option CrierStore := none
  /-- material in progress. (playback; R266, R270) -/
  play : Option CrierPlay := none
  /-- material named by CRIER_PLAY. (1-8; R264) -/
  hostSeq : List Nat := []
  /-- REPEAT of CRIER_PLAY; none: until stopped. (8 bits; 0xD1) -/
  hostRepeat : Option Nat := none
  /-- envelope of the microphone above the threshold. (1 bit; R271) -/
  voxOpen : Bool := false
  /-- x of the latest sample period. (20 bits; R271) -/
  x : Sample := 0
  /-- value of each forced output channel at 16 kHz. (64 forced channels; R271) -/
  values : Tab Sample := []
  /-- TDM slots of the Crier-clocked ports in the three frames of the 16 kHz period, 512 apart; none: nothing is driven.
  (3 x 512 words of 32 bits; R272, R273) -/
  tx : Tab (Option (BitVec 32)) := []
  /-- Crier-clocked slave groups whose external clock is not within 0.5 % of 48 kHz. (8 bits; R273) -/
  badGroups : BitVec 8 := 0
  /-- watchdog activation held for the handover. (1 bit; R299) -/
  heldWdog : Bool := false
  /-- overrun activation held for the handover. (1 bit; R299) -/
  heldOverrun : Bool := false
  /-- FALLBACK_ENTER activation held for the handover. (1 bit; R299) -/
  heldFb : Bool := false
  /-- slot A passed. (1 bit; R268, 0xD0) -/
  slotAOk : Bool := false
  /-- slot B passed. (1 bit; R268, 0xD0) -/
  slotBOk : Bool := false
  /-- bit r: the material of rank r has started since its triggers began to hold. (3 bits; R266) -/
  begun : BitVec 3 := 0
  deriving DecidableEq, Repr

/-- What the latest Bell frames of the partner say of one domain (R287, R291). -/
structure Peer where
  /-- HEARTBEAT of the latest frame. (8 bits; R287) -/
  heartbeat : Nat := 0
  /-- a frame of this domain has arrived. (1 bit; R286) -/
  seen : Bool := false
  /-- LATE. (1 bit; R287) -/
  late : Bool := false
  /-- IN_STEP. (1 bit; R287) -/
  inStep : Bool := false
  /-- SELF_FAULT. (1 bit; R287) -/
  selfFault : Bool := false
  /-- ARMING. (1 bit; R287) -/
  arming : Bool := false
  /-- CRIER. (1 bit; R287) -/
  crier : Bool := false
  /-- ROLE. (2 bits; R287) -/
  role : Nat := 0
  /-- consecutive frames missing. (frames; R298) -/
  missRun : Nat := 0
  /-- TWIN_MISMATCH.COUNTS of the domain. (0-8; R291, R308) -/
  mismatch : Nat := 0
  /-- first mismatching Bell of the run. (48 bits; R291) -/
  misBell : BitVec 48 := 0
  /-- consecutive matching digests. (0-256; R303) -/
  good : Nat := 0
  /-- mirrored samples of the latest frame; 512 + s for Sieve s. (544 channels; R287, R288) -/
  mirror : Tab Slot := []
  /-- the mirror of the latest frame holds. (1 bit; R288) -/
  mirrorOk : Bool := false
  /-- a whole frame of the partner has come since the last Bell of the domain. (1 bit; R197) -/
  frameNow : Bool := false
  /-- Bell number of the latest frame. (48 bits; R287) -/
  bell : BitVec 48 := 0
  /-- Bells since the catch-up ended. (Bells; R306) -/
  since : Nat := 0
  /-- Stile phase words. (64 x 26 bits; R287) -/
  phases : Tab Nat := []
  /-- forwarded Stile outputs. (64 Stiles; R287, R306) -/
  stileOut : Tab Slot := []
  /-- own HEARTBEAT. (8 bits; R287) -/
  hbOut : Nat := 0
  /-- the frame last sent for the domain. (frame words; R287) -/
  lastSent : List (BitVec 32) := []
  /-- records waiting for the next frame. (record words; R289) -/
  records : List (BitVec 32) := []
  deriving DecidableEq, Repr

/-- A Bell that the joiner buffers for its catch-up passes (R306). -/
structure ReplayBell where
  /-- domain. (2 bits; R306) -/
  domain : Nat := 0
  /-- frames and Sieve values. (inputs; R306) -/
  env : BellEnv := { interval := 0, bits := [], frames := [], sieves := [] }
  /-- mirrored inputs. (544 channels; R306) -/
  mirror : Tab Slot := []
  /-- the mirror holds. (1 bit; R306) -/
  mirrorOk : Bool := false
  /-- forwarded Stile outputs. (64 Stiles; R306) -/
  stileOut : Tab Slot := []
  deriving DecidableEq, Repr

/-- A handover in progress (R297). -/
structure Handover where
  /-- handover domain. (2 bits; R297) -/
  domain : Nat := 0
  /-- handover Bell. (48 bits; R297) -/
  bell : BitVec 48 := 0
  /-- acknowledged in time. (1 bit; R297) -/
  acked : Bool := false
  /-- this device is the incoming one. (1 bit; R297) -/
  incoming : Bool := false
  deriving DecidableEq, Repr

/-- The Twin link and the pair (chapter 11): TWIN_STATUS, TWIN_EVENTS, TWIN_MISMATCH, TWIN_LINK (R308), TWIN_CFG (R309). -/
structure Twin where
  /-- ROLE. (2 bits; R308) -/
  role : Role := .single
  /-- ARM_STATE. (3 bits; R308) -/
  arm : ArmState := .idle
  /-- IN_STEP. (1 bit; R308) -/
  inStep : Bool := false
  /-- DUTY_OUT. (1 bit; R308) -/
  dutyOut : Bool := false
  /-- DUTY_IN. (1 bit; R308) -/
  dutyIn : Bool := false
  /-- POS. (1 bit; R308) -/
  pos : Bool := false
  /-- LINK. (2 bits; R308) -/
  link : Link := .down
  /-- PEER_PROTO. (8 bits; R308) -/
  peerProto : Nat := 0
  /-- PROTO. (8 bits; R308) -/
  proto : Nat := 0
  /-- TWIN_EVENTS. (9 bits; R308) -/
  events : BitVec 9 := 0
  /-- domain of the latest takeover. (2 bits; R489) -/
  tookDom : Nat := 0
  /-- the latest takeover was by handover. (1 bit; R489) -/
  tookBy : Bool := false
  /-- LAST_DOMAIN. (2 bits; R308) -/
  lastDomain : Nat := 0
  /-- LATENCY. (16 bits, ns; R308) -/
  latency : Nat := 0
  /-- CRC_ERR. (8 bits; R308) -/
  crcErr : Nat := 0
  /-- MISSING. (8 bits; R308) -/
  missing : Nat := 0
  /-- LINK_EN. (1 bit; R309) -/
  linkEn : Bool := false
  /-- LATE_HO. (3 bits; R309) -/
  lateHo : Nat := 2
  /-- SIEVE_TX. (32 bits; R309) -/
  sieveTx : BitVec 32 := 0
  /-- SIEVE_RX. (32 bits; R309) -/
  sieveRx : BitVec 32 := 0
  /-- OWN_SRC. (28 bits; R309) -/
  ownSrc : BitVec 28 := 0
  /-- (4 domains; R287) -/
  peers : Tab Peer := []
  /-- first mismatching Bell. (domain and Bell; R291) -/
  firstMis : Option (Nat × BitVec 48) := none
  /-- self-fault raised. (1 bit; R296) -/
  selfFault : Bool := false
  /-- DUTY_OUT was released by a reset, and DUTY_IN has not been asserted or settled since. (1 bit; R296) -/
  released : Bool := false
  /-- (a handover; R297) -/
  handover : Option Handover := none
  /-- waiting up to 4 ms for DUTY_IN. (1 bit; R298) -/
  waitDuty : Bool := false
  /-- DUTY_IN has stayed deasserted for 4 ms. (1 bit; R293) -/
  settled : Bool := false
  /-- join Bell J. (4 Bells; R303, R305) -/
  joinBell : Tab (BitVec 48) := []
  /-- WIDX of the lines at their join Bells. (4096 x 22 bits; R305) -/
  joinIdx : Tab Nat := []
  /-- failed join attempts. (0-3; R307) -/
  attempts : Nat := 0
  /-- mailbox of the TWIN_ARM in progress. (3 bits; 0x81) -/
  armMb : Option Nat := none
  /-- Twin copy leave is held. (1 bit; R302) -/
  armLeave : Bool := false
  /-- checks 1 to 5 have passed against the partner. (1 bit; R302) -/
  armOk : Bool := false
  /-- ARM_STATE the partner has reported. (3 bits; R303) -/
  peerArm : Nat := 0
  /-- RELEASE of the partner. (32 bits; 0x80) -/
  peerRelease : Nat := 0
  /-- inputs buffered for the catch-up passes. (Bells from J onwards; R306) -/
  replay : List ReplayBell := []
  deriving DecidableEq, Repr

/-- An outstanding leave grant, or a request in the Warden's queue (R313-R315). -/
structure Grant where
  /-- class. (0-9; R313) -/
  cls : Nat := 0
  /-- what the grant is for. (requester; R313) -/
  key : Nat := 0
  /-- cost. (units at 0.85 V; R313) -/
  cost : Nat := 0
  /-- price in force. (units; R314) -/
  price : Nat := 0
  deriving DecidableEq, Repr

/-- The Warden (chapter 12): LEAVE_BOOK0-1 (R319), WARDEN_VCORE, WARDEN_THERM, WARDEN_EVENTS (R328), queue and settings. -/
structure Warden where
  /-- POOL. (12 bits; R319) -/
  pool : Nat := 0
  /-- RESERVE_NOW. (12 bits; R319) -/
  reserveNow : Nat := 0
  /-- FREE. (12 bits; R319) -/
  free : Nat := 0
  /-- GRANTED. (12 bits; R319) -/
  granted : Nat := 0
  /-- EPOCH. (8 bits; R319) -/
  epoch : Nat := 0
  /-- POOL setting. (12 bits; R312) -/
  cfgPool : Nat := 2600
  /-- RESERVE setting. (12 bits; R312) -/
  reserve : Nat := 300
  /-- overrides of the default costs (stored as cost + 1). (10 classes x 12 bits; R313) -/
  costs : Tab Nat := []
  /-- (outstanding grants; R312) -/
  grants : List Grant := []
  /-- in queue order. (waiting requests; R315) -/
  queue : List Grant := []
  /-- the new FREE is not yet written. (1 bit; R318) -/
  freePending : Bool := false
  /-- BASE is booked again once FREE is written. (1 bit; R318) -/
  baseDue : Bool := false
  /-- the Warden controls the rail. (1 bit; R323) -/
  inControl : Bool := false
  /-- FLOOR_MV. (10 bits, mV; R328) -/
  floor : Nat := 0
  /-- SETPOINT_MV. (10 bits, mV; R328) -/
  setpoint : Nat := 800
  /-- READ_MV. (10 bits, mV; R328) -/
  read : Nat := 0
  /-- target of the AVSBus write in progress. (10 bits, mV; R326) -/
  frame : Option Nat := none
  /-- target of the write that was acknowledged, until its readback. (10 bits, mV; R326) -/
  readback : Option Nat := none
  /-- consecutive failed frames. (0-3; R326) -/
  fails : Nat := 0
  /-- no further down-steps until WARDEN_CONFIG clears the fault. (1 bit; R326) -/
  avsBad : Bool := false
  /-- TJ. (10 bits signed, 0.25 C; R328) -/
  tj : Int := 0
  /-- PACE_OK. (8 bits; R328) -/
  paceOk : BitVec 8 := 0xFF
  /-- THERM_CRIT. (1 bit; R328) -/
  thermCrit : Bool := false
  /-- THERM_HOT. (1 bit; R328) -/
  thermHot : Bool := false
  /-- THERM_WARN. (1 bit; R328) -/
  thermWarn : Bool := false
  /-- WARDEN_EVENTS. (5 bits; R328) -/
  events : BitVec 5 := 0
  /-- t_pace. (8 x ps; R320) -/
  pace : Tab Nat := []
  /-- consecutive Bells of domain d with a failed check, index 8d + h. (8 hamlets x 4 domains; R321) -/
  paceBad : Tab Nat := []
  /-- DWELL. (1-100 ms; R324) -/
  dwell : Nat := 10
  /-- SLACK_MIN. (4-25 %; R324) -/
  slackMin : Nat := 10
  /-- WARM threshold. (80-105 C; R327) -/
  warm : Nat := 100
  /-- HOT threshold. (90-110 C; R327) -/
  hot : Nat := 105
  /-- RAIL_SEL. (0-14; R322) -/
  railSel : Nat := 0
  /-- AVS_CLK. (2 bits; R322) -/
  avsClk : Nat := 2
  /-- tick of the last step. (AON ticks; R324) -/
  stepTick : Option Nat := none
  /-- tick of the last late marking. (AON ticks; R324) -/
  lateTick : Option Nat := none
  /-- tick at which a slack last fell below SLACK_MIN. (AON ticks; R324) -/
  slackTick : Option Nat := none
  /-- the write of 800 mV at the start of a BOOT is in force. (1 bit; R323) -/
  bootWrite : Bool := false
  deriving DecidableEq, Repr

/-- GH_SLOT_A / GH_SLOT_B (R365), with the full sequence number (R342). -/
structure GhSlot where
  /-- STATE. (2 bits; R365) -/
  state : Nat := 0
  /-- SEQ_ERR. (1 bit; R365) -/
  seqErr : Bool := false
  /-- RESULT. (4 bits; R365) -/
  result : Nat := 0
  /-- SVN. (6 bits; R365) -/
  svn : Nat := 0
  /-- SEQ. (64 bits; SEQ_LO shows 16; R342, R365) -/
  seq : Nat := 0
  deriving DecidableEq, Repr

/-- The Gatehouse (chapter 13): GH_* registers (R365-R367), fuses (R339), boot, back-off, seal. -/
structure Gate where
  /-- LC. (3 bits; R365) -/
  lc : Nat := 0
  /-- LC has been decoded since power-good. (1 bit; R340) -/
  lcKnown : Bool := false
  /-- BOOT_SRC. (2 bits; R365) -/
  bootSrc : Nat := 0
  /-- UNTESTED. (1 bit; R365) -/
  untested : Bool := false
  /-- DUP_SEQ. (1 bit; R365) -/
  dupSeq : Bool := false
  /-- FAST_WAKE. (1 bit; R365) -/
  fastWake : Bool := false
  /-- WAKE_SLOW. (1 bit; R365) -/
  wakeSlow : Bool := false
  /-- SEAL_HELD. (1 bit; R365) -/
  sealHeld : Bool := false
  /-- BOOTSEL. (2 bits; R365) -/
  bootsel : Nat := 0
  /-- the attempt in progress has sampled BOOTSEL. (1 bit; R337) -/
  sampled : Bool := false
  /-- DEBUG_OPEN. (1 bit; R365) -/
  debugOpen : Bool := false
  /-- SVN. (6 bits; R365) -/
  svn : Nat := 0
  /-- SVN_FLOOR. (6 bits; R365) -/
  svnFloor : Nat := 0
  /-- BOOTCODE. (4 bits; R365) -/
  bootcode : Nat := 1
  /-- LAST_CODE. (4 bits; R365) -/
  lastCode : Nat := 0
  /-- BACKOFF. (8 bits, s; R365) -/
  backoff : Nat := 0
  /-- ENTRY0, ENTRY1, WAKE_ENTRY0, WAKE_ENTRY1 of the running image. (4 x 32 bits; R344) -/
  entries : List Nat := []
  /-- failed attempts of the present boot. (attempts; R357) -/
  tries : Nat := 0
  /-- tick at which the back-off ends. (32 bits, ms; R357) -/
  backEnd : Option Nat := none
  /-- ATTEMPTS. (16 bits; R365) -/
  attempts : Nat := 0
  /-- GH_SLOT_A, GH_SLOT_B. (2 registers; R365) -/
  slots : Tab GhSlot := []
  /-- HOLD. (1 bit; R366) -/
  hold : Bool := false
  /-- OP. (4 bits; R366) -/
  op : Nat := 0
  /-- SLOT. (1 bit; R366) -/
  slot : Nat := 0
  /-- LENGTH. (11 bits; R366) -/
  length : Nat := 0
  /-- OFFSET. (32 bits; R366) -/
  offset : Nat := 0
  /-- BUSY. (1 bit; R366) -/
  busy : Bool := false
  /-- DONE. (1 bit; R366) -/
  done : Bool := false
  /-- RESULT. (4 bits; R366) -/
  rcvResult : Nat := 0
  /-- GO_IGN. (1 bit; R366) -/
  goIgn : Bool := false
  /-- OP, SLOT, LENGTH and OFFSET as they stood at GO; empty: the operation is outside its window. (4 operands; R359) -/
  rcvJob : List Nat := []
  /-- fuse array; unprogrammed 0. (2048 bits; R339) -/
  fuses : BitVec 2048 := 0
  /-- where the boot sequence stands. (boot step; R334, R356, R357) -/
  phase : BootPhase := .off
  /-- the Crier has been released. (1 bit; R336) -/
  crierReleased : Bool := false
  /-- Crier store slots written since the boot began: not verified before the next. (2 bits; R281) -/
  crierWritten : BitVec 2 := 0
  /-- the last pair of fuse reads differed. (1 bit; R340) -/
  fuseBad : Bool := false
  /-- reason the latest attempt failed. (4 bits; R357) -/
  failCode : Nat := 0
  /-- 1 + the candidate tried first by the latest attempt. (0-2; R357) -/
  firstTried : Nat := 0
  /-- an attempt fell due while held. (1 bit; R360) -/
  dueHeld : Bool := false
  /-- BOOT_HALT_N asserted. (1 bit; R356) -/
  halt : Bool := false
  /-- nonce last returned. (64 bits; 0x15) -/
  nonce : Nat := 0
  /-- the nonce has not been used. (1 bit; 0x15) -/
  nonceOk : Bool := false
  /-- wake counter. (32 bits; R361) -/
  wakeCount : Nat := 0
  /-- stored tag. (384 bits; R361) -/
  sealTag : BitVec 384 := 0
  /-- resume range: start. (32 bits; R361) -/
  resBase : Nat := 0
  /-- resume range: length. (32 bits; R361) -/
  resLen : Nat := 0
  /-- K_boot. (256 bits; R361) -/
  kBoot : BitVec 256 := 0
  /-- KEY_SLOT of the running image. (2 bits; R344) -/
  imgKey : Nat := 0
  /-- LOAD_ADDR of the running image. (32 bits; R361) -/
  imgAddr : Nat := 0
  /-- LOAD_LEN of the running image. (32 bits; R361) -/
  imgLen : Nat := 0
  /-- RELEASE of the running image. (32 bits; R344) -/
  release : Nat := 0
  /-- digest of the running image. (384 bits; R345) -/
  imgDigest : BitVec 384 := 0
  /-- SLEEP_OK asserted. (1 bit; R329) -/
  sleepOk : Bool := false
  /-- GPIO of SLEEP_OK. (4 bits; R329) -/
  sleepGpio : Nat := 0
  /-- the boot in progress is a cold boot. (1 bit; R334) -/
  coldBoot : Bool := false
  deriving DecidableEq, Repr

/-- The Gatehouse request registers (R379). -/
structure Greq where
  /-- OP. (2 bits; R379) -/
  op : Nat := 0
  /-- PURPOSE. (2 bits; R379) -/
  purpose : Nat := 0
  /-- SVN. (6 bits; R379) -/
  svn : Nat := 0
  /-- SRC. (32 bits; R379) -/
  src : Nat := 0
  /-- DST. (32 bits; R379) -/
  dst : Nat := 0
  /-- LEN. (32 bits; R379) -/
  len : Nat := 0
  /-- BUSY. (1 bit; R379) -/
  busy : Bool := false
  /-- DONE. (1 bit; R379) -/
  done : Bool := false
  /-- RESULT. (3 bits; R379) -/
  result : Nat := 0
  /-- OP, PURPOSE, SVN, SRC, DST and LEN as they stood at GO. (6 operands; R379) -/
  job : List Nat := []
  deriving DecidableEq, Repr

/-- One mailbox (R419): its state and its 64 words. -/
structure Mailbox where
  /-- (3 bits; R416, R419) -/
  state : MbState := .free
  /-- command or reply words. (64 x 32 bits; R419) -/
  words : Tab (BitVec 32) := []
  deriving DecidableEq, Repr

/-- An event-queue entry (R427). -/
structure Event where
  /-- EVENT. (16 bits; R427) -/
  code : Nat := 0
  /-- SEQ. (16 bits; R427) -/
  seq : Nat := 0
  /-- TIME. (32 bits; R427) -/
  time : BitVec 32 := 0
  /-- TICK. (32 bits; R427) -/
  tick : Nat := 0
  /-- PAYLOAD. (5 words; R427) -/
  payload : List (BitVec 32) := []
  deriving DecidableEq, Repr

/-- The host port (chapter 15): interface registers (R416), status word of the latest frame (R410), mailboxes and event queue. -/
structure HostPort where
  /-- IRQ_ENABLE. (32 bits; R416) -/
  irqEnable : BitVec 32 := 0
  /-- HP_FLAGS.REJECTED. (1 bit; R416) -/
  fRejected : Bool := false
  /-- HP_FLAGS.UNDERRUN. (1 bit; R416) -/
  fUnderrun : Bool := false
  /-- HP_FLAGS.ADDR_OVER. (1 bit; R416) -/
  fAddrOver : Bool := false
  /-- HP_FLAGS.WR_DISCARD. (1 bit; R416) -/
  fWrDiscard : Bool := false
  /-- HP_FLAGS.RELEASE_IGN. (1 bit; R416) -/
  fReleaseIgn : Bool := false
  /-- REJECT_COUNT. (16 bits; R416) -/
  rejectCount : Nat := 0
  /-- WR_DISCARD. (16 bits; R416) -/
  wrDiscard : Nat := 0
  /-- SERVED. (1 bit; R416) -/
  served : Bool := false
  /-- (8 mailboxes; R419) -/
  mbs : Tab Mailbox := []
  /-- words of the firmware capability area that a Reeve has written. (64 x 32 bits; R373, R433) -/
  capFw : Tab (BitVec 32) := []
  /-- ACK_EV. (8 bits; R416) -/
  ackEv : BitVec 8 := 0
  /-- READY_EV. (8 bits; R416) -/
  readyEv : BitVec 8 := 0
  /-- QUEUED mailboxes in doorbell order. (up to 8; R419) -/
  doorbells : List Nat := []
  /-- event queue, oldest first. (64 entries; R427) -/
  evq : List Event := []
  /-- LOST. (16 bits; R416) -/
  lost : Nat := 0
  /-- OVERFLOW. (1 bit; R416) -/
  overflow : Bool := false
  /-- SEQ of the next entry. (16 bits; R427) -/
  evSeq : Nat := 0
  /-- codes not posted since the last EVENTS_LOST. (event codes; R430, R465) -/
  refused : List Nat := []
  /-- count not posted. (32 bits; R464) -/
  refusedCount : Nat := 0
  /-- REJECTED of the latest frame. (1 bit; R410) -/
  rejected : Bool := false
  /-- REASON. (3 bits; R410) -/
  reason : Nat := 0
  /-- UNDERRUN. (1 bit; R410) -/
  underrun : Bool := false
  /-- ADDR_OVER. (1 bit; R410) -/
  addrOver : Bool := false
  /-- FRESH. (1 bit; R410) -/
  fresh : Bool := true
  /-- SEQ. (4 bits; R410) -/
  seq : Nat := 0
  /-- BIT_COUNT. (16 bits; R410) -/
  bitCount : Nat := 0
  /-- words shifted out during the latest frame. (status word and data words; R409, R410) -/
  miso : List (BitVec 32) := []
  /-- transfer buffer of the Gatehouse. (512 words; R338) -/
  buf : Tab (BitVec 32) := []
  deriving DecidableEq, Repr

/-- One protection region (R371). -/
structure Region where
  /-- first byte. (32 bits; R371) -/
  base : Nat := 0
  /-- bytes. (32 bits; R371) -/
  len : Nat := 0
  /-- read permitted. (1 bit; R371) -/
  rd : Bool := false
  /-- write permitted. (1 bit; R371) -/
  wr : Bool := false
  /-- bytes from base that may be executed. (32 bits; R371, R376) -/
  exec : Nat := 0
  deriving DecidableEq, Repr

/-- One Reeve (chapter 14): run state, privilege state, protection regions, local RAM. -/
structure Reeve where
  /-- (run state; R370, R277) -/
  run : ReeveRun := .inReset
  /-- user state. (1 bit; R371) -/
  user : Bool := false
  /-- (8 regions; R371) -/
  regions : List Region := []
  /-- local RAM. (65,536 x 32 bits; R372) -/
  ram : Tab (BitVec 32) := []
  /-- entry address of the latest release. (32 bits; R334, R362) -/
  entry : Nat := 0
  /-- milliseconds since the last service. (0-1000 ms; R378) -/
  wdog : Nat := 0
  /-- held halted by the debug port in DEVELOP. (1 bit; R265) -/
  held : Bool := false
  deriving DecidableEq, Repr

/-- One Steward task slot: TASK_CFG (R381) and what a wake reports (R391). -/
structure TaskSlot where
  /-- STATE. (3 bits; R381) -/
  state : TState := .free
  /-- GROUP. (3 bits; R381) -/
  group : Nat := 0
  /-- PRIO. (5 bits; R381) -/
  prio : Nat := 0
  /-- GROUP of the latest dispatch, in force while RUNNING. (3 bits; R381) -/
  runGroup : Nat := 0
  /-- PRIO of the latest dispatch, in force while RUNNING. (5 bits; R381) -/
  runPrio : Nat := 0
  /-- AFFINITY. (4 bits; R381) -/
  affinity : BitVec 4 := 0
  /-- MODE_ALL. (1 bit; R381) -/
  modeAll : Bool := false
  /-- RUN_ON. (8 bits; R381) -/
  runOn : Nat := 0
  /-- FLAGS. (32 bits; R381) -/
  flags : BitVec 32 := 0
  /-- WAIT_MASK. (32 bits; R381) -/
  mask : BitVec 32 := 0
  /-- EXPIRY. (32 bits; R381) -/
  expiry : Nat := 0
  /-- tick at which the delay or wait timeout began. (32 bits; R382, R386) -/
  begun : Nat := 0
  /-- what the next dispatch reports. (status and flags; R391) -/
  wake : Option (Nat × BitVec 32) := none
  /-- ticks run since dispatch. (ticks; R385) -/
  ran : Nat := 0
  /-- pre-empted: redispatched without charge. (1 bit; R385) -/
  noCharge : Bool := false
  deriving DecidableEq, Repr

/-- One Steward queue (R387, R388). -/
structure SQueue where
  /-- ENABLE. (1 bit; R388) -/
  enable : Bool := false
  /-- CONSUMER. (8 bits; R388) -/
  consumer : Nat := 0
  /-- C_FLAG. (5 bits; R388) -/
  cFlag : Nat := 0
  /-- PRODUCER. (8 bits; R388) -/
  producer : Nat := 0
  /-- P_FLAG. (5 bits; R388) -/
  pFlag : Nat := 0
  /-- LOW_MARK. (4 bits; R388) -/
  lowMark : Nat := 0
  /-- POSTED. (16 bits; R388) -/
  posted : Nat := 0
  /-- TAKEN. (16 bits; R388) -/
  taken : Nat := 0
  /-- REFUSED. (16 bits; R388) -/
  refused : Nat := 0
  /-- entries, oldest first. (16 entries; R387) -/
  entries : List (BitVec 64) := []
  deriving DecidableEq, Repr

/-- The Steward port of one Reeve (R390, R391). -/
structure StPort where
  /-- ST_ARG0. (32 bits; R390) -/
  arg0 : BitVec 32 := 0
  /-- ST_ARG1. (32 bits; R390) -/
  arg1 : BitVec 32 := 0
  /-- ST_RESULT.STATUS. (4 bits; R391) -/
  status : Nat := 0
  /-- ST_RESULT.FILL. (5 bits; R391) -/
  fill : Nat := 0
  /-- ST_DATA0. (32 bits; R391) -/
  data0 : BitVec 32 := 0
  /-- ST_DATA1. (32 bits; R391) -/
  data1 : BitVec 32 := 0
  /-- ST_CURRENT. (8 bits; R391) -/
  current : Nat := 0
  deriving DecidableEq, Repr

/-- The Steward (R380-R393). -/
structure Steward where
  /-- (255 slots; R380) -/
  slots : Tab TaskSlot := []
  /-- in order of becoming READY. (READY slots; R383, R384) -/
  ready : List Nat := []
  /-- delay list. (slots by EXPIRY; R386) -/
  delays : List Nat := []
  /-- (7 credits; R384) -/
  credits : Tab Nat := []
  /-- last_charged. (3 bits; R384) -/
  lastCharged : Nat := 7
  /-- GROUP_WEIGHT stored as weight - 1 (reset weight 1). (7 x 1-64; R384) -/
  weights : Tab Nat := []
  /-- ST_QUANTUM. (8 bits; R385) -/
  quantum : Nat := 2
  /-- (4 ports; R390) -/
  ports : Tab StPort := []
  /-- (64 queues; R387) -/
  queues : Tab SQueue := []
  /-- TRACE_CTL.ENABLE. (1 bit; R393) -/
  trEnable : Bool := false
  /-- TRACE_CTL.FREEZE. (1 bit; R393) -/
  trFreeze : Bool := false
  /-- TRACE_CTL.KINDS. (5 bits; R393) -/
  trKinds : BitVec 5 := 0x1F
  /-- WRAPPED. (1 bit; R393) -/
  trWrapped : Bool := false
  /-- records written since ENABLE was set. (0-4096; R393) -/
  trSince : Nat := 0
  /-- NEXT. (12 bits; R393) -/
  trNext : Nat := 0
  /-- (4096 x 64 bits; R392) -/
  trace : Tab (BitVec 64) := []
  deriving DecidableEq, Repr

/-- A completion record held or being appended (R400). -/
structure DmaRec where
  /-- STATUS. (3 bits; R400) -/
  status : Nat := 0
  /-- COUNT_DONE. (23 bits; R400) -/
  count : Nat := 0
  /-- OFFSET. (32 bits; R400) -/
  offset : BitVec 32 := 0
  /-- TIME. (32 bits; R400) -/
  time : BitVec 32 := 0
  /-- TAG. (16 bits; R400) -/
  tag : Nat := 0
  deriving DecidableEq, Repr

/-- One DMA channel (R395). -/
structure Chan where
  /-- SRC. (32 bits; R395) -/
  src : Nat := 0
  /-- DST. (32 bits; R395) -/
  dst : Nat := 0
  /-- COUNT. (23 bits; R395) -/
  count : Nat := 0
  /-- MODE. (2 bits; R395) -/
  mode : Nat := 0
  /-- HEAVY. (1 bit; R395) -/
  heavy : Bool := false
  /-- PACE. (1 bit; R395) -/
  pace : Bool := false
  /-- POST. (1 bit; R395) -/
  post : Bool := false
  /-- RING. (2 bits; R395) -/
  ring : Nat := 0
  /-- TAG. (16 bits; R395) -/
  tag : Nat := 0
  /-- QUEUE. (6 bits; R395) -/
  queue : Nat := 0
  /-- HIGH. (5 bits; R395) -/
  high : Nat := 0
  /-- LOW. (5 bits; R395) -/
  low : Nat := 0
  /-- BLOCK_LOG2. (4 bits; R395) -/
  blockLog2 : Nat := 0
  /-- STATE. (3 bits; R395) -/
  state : ChState := .idle
  /-- CQ_FULL. (1 bit; R395) -/
  cqFull : Bool := false
  /-- DONE_EV. (1 bit; R395) -/
  doneEv : Bool := false
  /-- START_REFUSED. (1 bit; R395) -/
  startRefused : Bool := false
  /-- LAST_STATUS. (3 bits; R395) -/
  lastStatus : Nat := 0
  /-- REMAIN. (23 bits; R395) -/
  remain : Nat := 0
  /-- WIN_BASE. (32 bits; R395) -/
  winBase : Nat := 0
  /-- WIN_LIMIT. (32 bits; R395) -/
  winLimit : Nat := 0
  /-- held record. (record; R401) -/
  held : Option DmaRec := none
  /-- a refused post waits to be retried. (1 bit; R398) -/
  postDue : Bool := false
  deriving DecidableEq, Repr

/-- One completion ring (R399). -/
structure Ring where
  /-- BASE. (32 bits; R399) -/
  base : Nat := 0
  /-- SIZE. (13 bits; R399) -/
  size : Nat := 0
  /-- WR. (13 bits; R399) -/
  wr : Nat := 0
  /-- RD. (13 bits; R399) -/
  rd : Nat := 0
  deriving DecidableEq, Repr

/-- The DMA engine (R394-R401). -/
structure Dma where
  /-- (32 channels; R395) -/
  chans : Tab Chan := []
  /-- (4 rings; R399) -/
  rings : Tab Ring := []
  /-- channels in CQ_WAIT, oldest first. (channels; R401) -/
  heldOrder : List Nat := []
  deriving DecidableEq, Repr

/-- The erases and programs of one piece of work on a select (R481), each a flash operation of its own. -/
structure FlashOp where
  /-- select. (1 bit; R481) -/
  sel : Nat := 0
  /-- 1 + mailbox of the command; 0: work of Jexolaryn itself. (0-8; R481) -/
  mb : Nat := 0
  /-- leave class. (2 or 3; R481) -/
  cls : Nat := 0
  /-- the operation in progress and those that follow it. (operations; R481, R441) -/
  steps : List FlashStep := []
  /-- what is done when the last has ended. (R481) -/
  work : FlashWork := .none
  /-- detail code with which the command is answered when the operation in progress ends. (8 bits; R439) -/
  stop : Option Nat := none
  deriving DecidableEq, Repr

/-- The configuration of one peripheral select (R468). -/
structure PerSel where
  /-- w2 of PER_CONFIG in force. (32 bits; R468) -/
  cfg : BitVec 32 := 0
  /-- w2 that takes effect at the end of the entry in progress. (32 bits; R468) -/
  next : Option (BitVec 32) := none
  deriving DecidableEq, Repr

/-- One peripheral queue entry (R469). -/
structure PerEntry where
  /-- header word. (32 bits; R469) -/
  hdr : BitVec 32 := 0
  /-- (data words; R469) -/
  data : List (BitVec 32) := []
  deriving DecidableEq, Repr

/-- A ticket of the peripheral queue (R469-R471). -/
structure Ticket where
  /-- ticket number. (1-65535; R471) -/
  num : Nat := 0
  /-- host tag. (8 bits; 0xB1) -/
  tag : Nat := 0
  /-- 0 host; else Steward slot of the task. (0-255; R463) -/
  task : Nat := 0
  /-- reply queue of a task request. (6 bits; R463) -/
  replyQ : Nat := 0
  /-- sequence of a task request. (8 bits; R463) -/
  seq : Nat := 0
  /-- (entries left; R469) -/
  entries : List PerEntry := []
  /-- status. (0-5; R471) -/
  status : Nat := 0
  /-- READ words. (up to 62 words; R471) -/
  data : List (BitVec 32) := []
  deriving DecidableEq, Repr

/-- The peripheral port (R468-R474). -/
structure Per where
  /-- (4 selects; R468) -/
  sels : Tab PerSel := []
  /-- queued and running, in order. (up to 32; R469, R470) -/
  tickets : List Ticket := []
  /-- finished, latest first. (latest 64; R471) -/
  done : List Ticket := []
  /-- number of the next ticket. (1-65535; R471) -/
  next : Nat := 1
  /-- an entry is being clocked. (1 bit; R470) -/
  active : Bool := false
  /-- the running ticket ends after the entry in progress. (1 bit; R471) -/
  cancel : Bool := false
  /-- the entry in progress ends at its next word boundary. (1 bit; R474) -/
  ending : Bool := false
  /-- a fault of R473 has ended the last ticket, and the next waits for the idle time. (1 bit; R473) -/
  mustIdle : Bool := false
  deriving DecidableEq, Repr

/-- What the Gatehouse records of a flash (R476). -/
structure FlashParams where
  /-- bulk read instruction. (R477) -/
  read : ReadKind := .r111
  /-- its mode cycles. (declared; R476) -/
  mode : Nat := 0
  /-- its dummy cycles. (declared; R476) -/
  dummy : Nat := 0
  /-- 32-bit addresses with 4-byte instructions. (1 bit; R477) -/
  addr32 : Bool := false
  /-- page size. (bytes; R476) -/
  page : Nat := 0
  /-- resume-to-suspend interval. (ns; R476, R480) -/
  gap : Nat := 0
  /-- quad enable has a volatile write. (1 bit; R477) -/
  quadVolatile : Bool := true
  /-- bulk read instruction code. (8 bits; R476) -/
  readOp : Nat := 0
  /-- 1-1-1 fast read instruction code, the Crier's. (8 bits; R274, R476) -/
  fastOp : Nat := 0
  /-- its mode cycles and dummy cycles. (declared; R476) -/
  fastCycles : Nat × Nat := (0, 0)
  /-- page program instruction code. (8 bits; R476) -/
  programOp : Nat := 0
  /-- 4 KiB and 64 KiB erase instruction codes. (8 bits each; R476) -/
  eraseOps : List Nat := []
  /-- maximum times of the 4 KiB and 64 KiB erase. (ms; R476) -/
  eraseMax : List Nat := []
  /-- maximum time of a page program. (us; R476) -/
  programMax : Nat := 0
  /-- erase suspend, erase resume, program suspend, program resume instruction codes. (8 bits each; R476) -/
  suspendOps : List Nat := []
  /-- resume-to-suspend interval of a program. (ns; R476, R480) -/
  programGap : Nat := 0
  /-- quad-enable method. (declared; R476) -/
  quadMethod : Nat := 0
  deriving DecidableEq, Repr

/-- A frame of the flash port (R478). -/
structure Frame where
  /-- rank of its user. (1-5; R478) -/
  rank : Nat := 0
  /-- select. (1 bit; R478) -/
  sel : Nat := 0
  /-- (kind; R478) -/
  kind : FrameKind := .status
  /-- byte address. (24 or 32 bits; R477) -/
  addr : Nat := 0
  /-- data bytes; of an erase the bytes erased. (R467, R478) -/
  len : Nat := 0
  /-- bytes of the same read that follow this frame. (bytes; R478) -/
  rest : Nat := 0
  deriving DecidableEq, Repr

/-- What a flash is doing (R480). -/
structure Chip where
  /-- a write-enable frame has been sent. (1 bit; R481) -/
  enabled : Bool := false
  /-- an erase or program is in progress. (1 bit; R480) -/
  busy : Bool := false
  /-- it is an erase. (1 bit; R480) -/
  erasing : Bool := false
  /-- rank of the reader that suspended it; 0: not suspended. (0-4; R480) -/
  suspendedBy : Nat := 0
  /-- interval that the next suspension has to wait out. (ns; R480) -/
  resumeWait : Nat := 0
  deriving DecidableEq, Repr

/-- The flash port and the two flashes (R476-R484). -/
structure Flash where
  /-- content; erased 0xFF (stored complemented). (2 x up to 2^32 bytes; R483) -/
  bytes : Tab (BitVec 8) := []
  /-- bytes usable on each select; 0: absent. (2 densities; R476) -/
  size : Tab Nat := []
  /-- operation in progress. (2 selects; R481) -/
  ops : Tab FlashOp := []
  /-- an operation is in progress. (2 selects; R481) -/
  busy : Tab Bool := []
  /-- operations that wait for their select. (operations; R481) -/
  waiting : List FlashOp := []
  /-- what each flash declares. (2 flashes; R476) -/
  sfdp : Tab Sfdp := []
  /-- what the Gatehouse recorded. (2 selects; R476) -/
  params : Tab FlashParams := []
  /-- quad enable set by a volatile write. (2 flashes; R477) -/
  quad : Tab Bool := []
  /-- quad enable set in the flash. (2 flashes; R477) -/
  quadNv : Tab Bool := []
  /-- what each flash is doing. (2 flashes; R480) -/
  chips : Tab Chip := []
  /-- frame in progress. (R478) -/
  frame : Option Frame := none
  /-- frames that wait for the port. (frames; R478) -/
  frames : List Frame := []
  /-- reads that wait for the suspension of the operation on their select. (frames; R480) -/
  readers : List Frame := []
  deriving DecidableEq, Repr

/-- One active instance of a fault (R489, R490). -/
structure FaultInst where
  /-- code. (16 bits; R489) -/
  code : Nat := 0
  /-- w4-w7. (4 words; R489) -/
  payload : List (BitVec 32) := []
  /-- acknowledged. (1 bit; R490) -/
  acked : Bool := false
  /-- the raising condition holds. (1 bit; R489) -/
  cond : Bool := false
  /-- the condition has been absent for 5 s. (1 bit; R489) -/
  absent5 : Bool := false
  deriving DecidableEq, Repr

/-- A fault-log record (R492). -/
structure LogRec where
  /-- CODE. (16 bits; R492) -/
  code : Nat := 0
  /-- KIND. (2 bits; R492) -/
  kind : Nat := 0
  /-- SKIPPED. (1 bit; R492) -/
  skipped : Bool := false
  /-- FAULT_N. (1 bit; R492) -/
  pin : Bool := false
  /-- ROLE. (2 bits; R492) -/
  role : Nat := 0
  /-- MODE. (4 bits; R492) -/
  mode : Nat := 0
  /-- SEQ. (32 bits; R492) -/
  seq : Nat := 0
  /-- TIME. (32 bits; R492) -/
  time : Nat := 0
  /-- PAYLOAD. (4 words; R492) -/
  payload : List (BitVec 32) := []
  /-- place in the ring; 0 until it is written. (32-byte records; R484) -/
  place : Nat := 0
  deriving DecidableEq, Repr

/-- Faults (chapter 18): FAULT_HW, FAULT_FW, FAULT_NEW (R488), active instances and the log. -/
structure Faults where
  /-- WDOG. (1 bit; R488) -/
  hwWdog : Bool := false
  /-- OVERRUN. (1 bit; R488) -/
  hwOverrun : Bool := false
  /-- BOOT_FAIL. (1 bit; R488) -/
  hwBoot : Bool := false
  /-- WDOG_REEVE. (2 bits; R488) -/
  wdogReeve : Nat := 0
  /-- OVR_QUERN. (7 bits; R488) -/
  ovrQuern : Nat := 0
  /-- OVR_COUNT. (8 bits; R488) -/
  ovrCount : Nat := 0
  /-- ASSERT. (1 bit; R488) -/
  fwAssert : Bool := false
  /-- ACTIVE. (8 bits; R488) -/
  fwActive : Nat := 0
  /-- UNACKED. (8 bits; R488) -/
  fwUnacked : Nat := 0
  /-- NEW. (1 bit; R488) -/
  new : Bool := false
  /-- (active instances; R489) -/
  active : List FaultInst := []
  /-- fault log in flash, latest first. (up to 32,768; R484, R492) -/
  log : List LogRec := []
  /-- records held in working RAM, oldest first. (up to 256; R492) -/
  waiting : List LogRec := []
  /-- SEQ of the next record. (32 bits; R492) -/
  logSeq : Nat := 0
  /-- tick since which FAULT_FW waits to be rewritten after a restart. (32 bits, ms; R487) -/
  stale : Option Nat := none
  /-- the next record written carries SKIPPED. (1 bit; R492) -/
  skipNext : Bool := false
  /-- next place in the ring. (32-byte records; R484) -/
  logPlace : Nat := 0
  /-- conditions of 0x0001 to 0x0003 found when Jexolaryn started and not reported yet. (3 bits; R489) -/
  found : BitVec 3 := 0
  deriving DecidableEq, Repr

/-- A handle record of a bundle (R113). -/
structure Handle where
  /-- HANDLE. (32 bits; R113) -/
  id : Nat := 0
  /-- KIND. (0-2; R113) -/
  kind : Nat := 0
  /-- CF. (1 bit; R113) -/
  cf : Bool := false
  /-- COUNT. (10 bits; R113) -/
  count : Nat := 0
  /-- first ledger word, glide register or Noticeboard word. (12 bits; R113) -/
  first : Nat := 0
  /-- QUERN. (7 bits; R113) -/
  quern : Nat := 0
  /-- MIN. (20 bits; R111) -/
  min : Sample := 0
  /-- MAX. (20 bits; R111) -/
  max : Sample := 0
  deriving DecidableEq, Repr

/-- A line record of a bundle (R112). -/
structure LineRec where
  /-- table entry. (12 bits; R112) -/
  entry : Nat := 0
  /-- owner. (7 bits; R112) -/
  owner : Nat := 0
  /-- base. (25 bits; R112) -/
  base : Nat := 0
  /-- length. (22 bits; R112) -/
  length : Nat := 0
  /-- STORED. (1 bit; R112) -/
  stored : Bool := false
  /-- CROSS. (1 bit; R112) -/
  cross : Bool := false
  /-- domain. (2 bits; R112) -/
  domain : Nat := 0
  deriving DecidableEq, Repr

/-- A loaded bundle (R108-R124). -/
structure Bundle where
  /-- BUNDLE_ID. (32 bits; R108) -/
  id : Nat := 0
  /-- BUNDLE_VERSION. (32 bits; R108) -/
  version : Nat := 0
  /-- REPLACES_ID. (32 bits; R108) -/
  replaces : Nat := 0
  /-- FEATURE_LEVEL. (16 bits; R108) -/
  feature : Nat := 0
  /-- DOMAIN_MASK. (4 bits; R108) -/
  domMask : BitVec 4 := 0
  /-- (STAGED, ACTIVE or REPLACED; 0x24) -/
  state : BState := .staged
  /-- domains swapped. (4 bits; 0x24) -/
  swapped : BitVec 4 := 0
  /-- bundle slot. (3 bits; 0x24) -/
  slot : Nat := 0
  /-- (programs; R109, R110) -/
  progs : List Program := []
  /-- (initial images; R111) -/
  images : List LedgerImage := []
  /-- (handles; R111) -/
  handles : List Handle := []
  /-- (line records; R112) -/
  lineRecs : List LineRec := []
  /-- SHA-384 of the whole file. (384 bits; R128) -/
  digest : BitVec 384 := 0
  /-- the load is still in progress. (1 bit; R121) -/
  loading : Bool := false
  /-- 1 + mailbox of the BUNDLE_UNLOAD that waits for its Querns to stop. (0-8; R124) -/
  unload : Nat := 0
  deriving DecidableEq, Repr

/-- A BUNDLE_LOAD in progress (R121). -/
structure Load where
  /-- mailbox. (3 bits; R121) -/
  mb : Nat := 0
  /-- the bundle being loaded. (bundle; R121) -/
  bundle : Bundle := {}
  /-- LOADER leave granted. (1 bit; R115) -/
  granted : Bool := false
  /-- checks and staging done. (1 bit; R121) -/
  done : Bool := false
  deriving DecidableEq, Repr

/-- A program swap pending in a domain (R123). -/
structure Swap where
  /-- domain. (2 bits; R123) -/
  domain : Nat := 0
  /-- BUNDLE_ID. (32 bits; R123) -/
  bundle : Nat := 0
  /-- NEXT. (1 bit; 0x22) -/
  next : Bool := false
  /-- REVERT. (1 bit; R124) -/
  revert : Bool := false
  /-- stated Bell. (48 bits; R123) -/
  bell : BitVec 48 := 0
  /-- partner swapped. (1 bit; R128) -/
  partner : Bool := false
  /-- leave as it stood 1 ms before the swap Bell, once that time has come. (1 bit, or not yet; R125, R516) -/
  judged : Option Bool := none
  /-- 1 + mailbox. (0-8; 0x22) -/
  mb : Nat := 0
  deriving DecidableEq, Repr

/-- A host staging set (R168, R174, R183). -/
structure HostSet where
  /-- (set state; R183, 0x35) -/
  state : SetState := .free
  /-- domain. (2 bits; 0x35) -/
  domain : Nat := 0
  /-- a domain has been fixed by the first staging. (1 bit; R168) -/
  hasDomain : Bool := false
  /-- Querns claimed. (Querns; R168) -/
  claims : List Nat := []
  /-- last value staged to each word. (staged words; R169) -/
  staged : List StagedVal := []
  /-- Bell. (48 bits; 0x35) -/
  bell : BitVec 48 := 0
  /-- commit slot. (3 bits; R172) -/
  slot : Option Nat := none
  /-- lowest deferred Quern. (7 bits; 0x35) -/
  lowDef : Option Nat := none
  /-- mirrored to the partner. (1 bit; R181) -/
  paired : Bool := false
  /-- partner armed. (1 bit; R181) -/
  partner : Bool := false
  /-- 1 + mailbox of the PARAM_COMMIT that waits for the partner. (0-8; R181) -/
  mb : Nat := 0
  deriving DecidableEq, Repr

/-- A segmented file target (R441): bytes written since its erase. -/
structure FileSt where
  /-- erased. (1 bit; R441) -/
  erased : Bool := false
  /-- spans written. (byte spans; R441) -/
  spans : List (Nat × Nat) := []
  /-- bytes written since the erase. (32 bits; R441) -/
  written : Nat := 0
  /-- written length, once LAST came. (32 bits; R441) -/
  length : Nat := 0
  /-- LAST came. (1 bit; R441) -/
  last : Bool := false
  /-- RATE of a message. (4 bits; R441) -/
  rate : Nat := 0
  deriving DecidableEq, Repr

/-- A zone of the service model (R453, R456, R457, R459). -/
structure Zone where
  /-- ENABLE. (1 bit; R453) -/
  enable : Bool := false
  /-- BUNDLE_ID. (32 bits; R453) -/
  bundle : Nat := 0
  /-- SELECT handle. (32 bits; R453) -/
  select : Nat := 0
  /-- GAIN handle. (32 bits; R453) -/
  gain : Nat := 0
  /-- AMBIENT handle; 0 none. (32 bits; R453) -/
  ambient : Nat := 0
  /-- background source; 255 none. (8 bits; R453) -/
  bg : Nat := 255
  /-- BG_GAIN. (20 bits; R453) -/
  bgGain : Sample := 0
  /-- ANN_GAIN. (20 bits; R453) -/
  annGain : Sample := 0
  /-- announcement the zone carries; none: background. (16 bits; R457) -/
  carries : Option Nat := none
  /-- announcement being switched to. (16 bits; R457) -/
  next : Option Nat := none
  /-- priority of what the zone carries; 15 background. (4 bits; R457) -/
  prio : Nat := 15
  /-- a change is stated. (1 bit; R457) -/
  due : Bool := false
  /-- between c1 and c2. (1 bit; R457) -/
  switching : Bool := false
  /-- FADE_OUT of the change. (1-65535 Bells; R457) -/
  fade : Nat := 0
  /-- c1. (48 bits; R457) -/
  c1 : BitVec 48 := 0
  /-- c2; 0 not yet stated. (48 bits; R457) -/
  c2 : BitVec 48 := 0
  /-- BACKGROUND_SET has named a background that no stated change takes. (1 bit; R461) -/
  bgDue : Bool := false
  /-- Bell of the last switch. (48 bits; 0x51) -/
  lastSwitch : BitVec 48 := 0
  /-- ambient ENABLE. (1 bit; R459) -/
  ambEn : Bool := false
  /-- meter Quern. (7 bits; 0x5A) -/
  mQuern : Nat := 0
  /-- meter word. (8 bits; 0x5A) -/
  mWord : Nat := 0
  /-- REF. (16 bits signed; 0x5A) -/
  ref : Int := 0
  /-- SLOPE. (16 bits; 0x5A) -/
  slope : Nat := 0
  /-- MAX_BOOST. (16 bits; 0x5A) -/
  maxBoost : Nat := 0
  /-- MAX_CUT. (16 bits; 0x5A) -/
  maxCut : Nat := 0
  /-- UPDATE. (1-60 s; 0x5A) -/
  update : Nat := 0
  /-- readings of this UPDATE. (meter words; R459) -/
  readings : List Int := []
  /-- last a. (16 bits signed; 0x5B) -/
  lastA : Int := 0
  /-- last g. (16 bits signed; 0x5B) -/
  lastG : Int := 0
  /-- readings in the last UPDATE. (readings; 0x5B) -/
  lastN : Nat := 0
  deriving DecidableEq, Repr

/-- A source (R454). -/
structure Source where
  /-- 0 none, 1 LIVE, 2 PLAYER. (0-2; R454) -/
  kind : Nat := 0
  /-- domain. (2 bits; 0x52) -/
  domain : Nat := 0
  /-- slot. (13 bits; 0x52) -/
  slot : Nat := 0
  /-- player line. (12 bits; 0x52) -/
  line : Nat := 0
  /-- announcement that uses the player. (16 bits; R455) -/
  user : Option Nat := none
  /-- written lead. (samples; R454) -/
  lead : Nat := 0
  deriving DecidableEq, Repr

/-- The settings of a priority (R458). -/
structure Prio where
  /-- FADE_OUT. (16 bits; 0: the default of R458; R458) -/
  fadeOut : Nat := 0
  /-- FADE_IN. (16 bits; 0: the default of R458; R458) -/
  fadeIn : Nat := 0
  /-- chime message; 255 none. (8 bits; R458) -/
  chime : Nat := 255
  /-- chime player. (8 bits; R458) -/
  chimeSrc : Nat := 0
  deriving DecidableEq, Repr

/-- An active announcement (R455). -/
structure Ann where
  /-- identifier. (16 bits; R455) -/
  id : Nat := 0
  /-- source. (8 bits; R455) -/
  source : Nat := 0
  /-- priority. (4 bits; R455) -/
  prio : Nat := 0
  /-- zones it still holds. (zone set; R455) -/
  zones : List Nat := []
  /-- message sequence. (up to 8; R455) -/
  seq : List Nat := []
  /-- REPEAT; 0 until stopped. (8 bits; R455) -/
  repeats : Nat := 0
  /-- HOLD. (1 bit; R455) -/
  hold : Bool := false
  /-- chime message; 255 none. (8 bits; R458) -/
  chime : Nat := 255
  /-- chime player of a LIVE source; 255 none. (8 bits; R458) -/
  chimeSrc : Nat := 255
  /-- the live slot follows the chime. (1 bit; R458) -/
  chimeOver : Bool := false
  /-- CHIME_SKIPPED. (1 bit; R458) -/
  chimeSkipped : Bool := false
  /-- cause of its end; zones may still carry it. (2 bits; R464) -/
  ended : Option Nat := none
  /-- Bell of the start. (48 bits; 0x56) -/
  start : BitVec 48 := 0
  /-- ANNOUNCE_STARTED has been posted. (1 bit; R464) -/
  announced : Bool := false
  deriving DecidableEq, Repr

/-- A change that waits for a commit slot (R448). -/
structure HeldChange where
  /-- domain. (2 bits; R448) -/
  domain : Nat := 0
  /-- priority. (4 bits; R448) -/
  prio : Nat := 0
  /-- (own glides; R447) -/
  own : List OwnGlide := []
  /-- sets of a rate reconfiguration that wait. (ledger images; R59, R448) -/
  images : List LedgerImage := []
  deriving DecidableEq, Repr

/-- A message of the message store (R441, R484). -/
structure Msg where
  /-- present. (1 bit; 0x58) -/
  present : Bool := false
  /-- RATE. (4 bits; 0x58) -/
  rate : Nat := 0
  /-- first unit. (64 KiB units; R484) -/
  unit : Nat := 0
  /-- units held. (64 KiB units; R484) -/
  units : Nat := 0
  /-- written length. (32 bits; R441) -/
  bytes : Nat := 0
  /-- CRC-32C. (32 bits; 0x58) -/
  crc : BitVec 32 := 0
  deriving DecidableEq, Repr

/-- An installed extension task (R375-R377, R403). -/
structure Task where
  /-- TASK_ID. (32 bits; R375) -/
  id : Nat := 0
  /-- INSTALLED, RUNNING, STOPPED, FAULTED. (0-3; 0xC4) -/
  state : Nat := 0
  /-- Steward slot. (8 bits; R403) -/
  slot : Nat := 0
  /-- REEVE. (2 bits; R375) -/
  reeve : Nat := 0
  /-- GROUP. (3 bits; R375) -/
  group : Nat := 0
  /-- SVN. (6 bits; R375) -/
  svn : Nat := 0
  /-- LOCAL_LEN. (32 bits; R375) -/
  localLen : Nat := 0
  /-- ARENA_LEN. (32 bits; R375) -/
  arenaLen : Nat := 0
  /-- ENTRY. (32 bits; R375) -/
  entry : Nat := 0
  /-- STACK_LEN. (32 bits; R375) -/
  stackLen : Nat := 0
  /-- QUEUES. (64 bits; R375) -/
  queues : BitVec 64 := 0
  /-- DMA_COUNT. (0-2; R375) -/
  dmaCount : Nat := 0
  /-- lent channels. (24-31; R376) -/
  chans : List Nat := []
  /-- NB_QUERNS. (128 bits; R375) -/
  nbQuerns : BitVec 128 := 0
  /-- protection faults. (32 bits; 0xC4) -/
  faults : Nat := 0
  /-- address of the last fault. (32 bits; 0xC4) -/
  faultAddr : Nat := 0
  /-- local partition. (32 bits; R376) -/
  localBase : Nat := 0
  /-- arena partition. (32 bits; R376) -/
  arenaBase : Nat := 0
  /-- half of task storage holding the latest. (1 bit; R484) -/
  halfSel : Nat := 0
  /-- bytes of the latest stored object. (32 bits; R463) -/
  stored : Nat := 0
  deriving DecidableEq, Repr

/-- A Vigil results record or baseline: the 19 words of R254. -/
structure VRecord where
  /-- (19 words; R254) -/
  words : List (BitVec 32) := []
  deriving DecidableEq, Repr

/-- A zone entry of the running campaign (R246, R250). -/
structure VZone where
  /-- ZONE. (8 bits; R246) -/
  zone : Nat := 0
  /-- ROUND. (6 bits; R246) -/
  round : Nat := 0
  /-- zone entry. (0-255; R450) -/
  entry : Nat := 0
  /-- retries made. (0-7; R252) -/
  tries : Nat := 0
  /-- latest verdict; 7 none yet. (3 bits; R245) -/
  verdict : Nat := 7
  /-- queued for a retry. (1 bit; R252) -/
  retry : Bool := false
  /-- phase of R250: 0 not in the round, 1 ambient, 2 commit of the gain, 3 preroll, 4 averaging, 5 transform, 6 recorded. (0-6; R250) -/
  phase : Nat := 0
  /-- injection gain committed. (20 bits; R244) -/
  gain : Sample := 0
  /-- INJECT_CAPPED. (1 bit; R244) -/
  capped : Bool := false
  /-- ambient captures done. (0-15; R244) -/
  captures : Nat := 0
  /-- microphone and band sums of each capture that is not faulted. (captures; R244) -/
  powers : List (Nat × List Nat) := []
  /-- Bell from which the phase goes on. (48 bits; R250) -/
  bell : BitVec 48 := 0
  /-- REASONS met so far. (32 bits; R254) -/
  reasons : BitVec 32 := 0
  /-- first lane of the zone. (0-31; R250) -/
  lane0 : Nat := 0
  /-- microphones whose lane set INVALID in an ambient capture. (8 bits; R245) -/
  micInvalid : BitVec 8 := 0
  /-- microphones whose lane set FAULT in an ambient capture, or whose transform was refused. (8 bits; R245) -/
  micFault : BitVec 8 := 0
  deriving DecidableEq, Repr

/-- Vigil (chapter 9): plan, campaign, results, baselines. -/
structure Vigil where
  /-- (2160 words; R450) -/
  plan : Tab (BitVec 32) := []
  /-- plan words held. (0-2160; 0x70) -/
  planLen : Nat := 0
  /-- LAST has arrived. (1 bit; 0x70) -/
  planLast : Bool := false
  /-- (2 bits; 0x74) -/
  state : VState := .idle
  /-- campaign number. (8 bits; 0x72) -/
  campaign : Nat := 0
  /-- round. (6 bits; 0x74) -/
  round : Nat := 0
  /-- zone entries of the campaign. (up to 256; R246) -/
  zones : List VZone := []
  /-- detail code of a check that failed at START_TIME. (8 bits; 0x74) -/
  failDetail : Nat := 0
  /-- PASS. (32 bits; 0x74) -/
  pass : Nat := 0
  /-- FAIL. (32 bits; 0x74) -/
  fail : Nat := 0
  /-- INCONCLUSIVE. (32 bits; 0x74) -/
  inconc : Nat := 0
  /-- ABORTED. (32 bits; 0x74) -/
  abort : Nat := 0
  /-- NOT_RUN. (32 bits; 0x74) -/
  notRun : Nat := 0
  /-- results records, latest first. (4096 served; R254) -/
  results : List VRecord := []
  /-- the baseline writes in progress, by mailbox: place and record. (8 records; R254, R484) -/
  accepting : Tab (Nat × VRecord) := []
  /-- index 8z + m. (2048 places; R254) -/
  baselines : Tab VRecord := []
  /-- WINDOW_END has passed. (1 bit; R247) -/
  windowOver : Bool := false
  /-- step of R249 in progress; 5 also while a device that took over waits for Tally leave. (0-9; R249, R251) -/
  step : Nat := 0
  /-- swap Bell v or w. (48 bits; R249) -/
  bell : BitVec 48 := 0
  /-- origin Bell B0. (48 bits; R237) -/
  b0 : BitVec 48 := 0
  /-- banks lent to Tally. (up to 32; R249) -/
  banks : List Nat := []
  /-- records waiting for their flash write. (records; R254) -/
  writing : List VRecord := []
  /-- next place in the ring. (76-byte records; R484) -/
  resultPlace : Nat := 0
  /-- the journal sector holds the sector of this place with its new record. (place and record; R484) -/
  journal : Option (Nat × VRecord) := none
  /-- campaign lost; reported at the next boot. (8 bits; R248, R251) -/
  lost : Option Nat := none
  /-- 1 + mailbox of the VIGIL_START that waits for leave. (0-8; R247) -/
  mb : Nat := 0
  /-- the excitation line is to be freed once the variants have all been swapped out. (1 bit; R28, R249) -/
  excDue : Bool := false
  deriving DecidableEq, Repr

/-- A persisted UNTESTED acceptance (R345). -/
structure Accept where
  /-- image digest. (384 bits; R345) -/
  digest : BitVec 384 := 0
  /-- stepping code. (8 bits; R345) -/
  stepping : Nat := 0
  /-- ROM code. (8 bits; R345) -/
  rom : Nat := 0
  deriving DecidableEq, Repr

/-- The sealed configuration as CONFIG_SAVE writes it (R445); kept as the fields it seals. -/
structure SavedCfg where
  /-- AUTOSTART. (1 bit; R445) -/
  autostart : Bool := false
  /-- SVN under which it is sealed. (6 bits; R353) -/
  svn : Nat := 0
  /-- lc_class under which it is sealed. (3 bits; R351) -/
  lcClass : Nat := 0
  /-- (4 x DOM_CFG; R445) -/
  doms : Tab (BitVec 32) := []
  /-- (8 groups; R445) -/
  groups : Tab Group := []
  /-- (32 ports; R445) -/
  ports : Tab Port := []
  /-- (4 words; R445) -/
  pdmClks : Tab PdmClk := []
  /-- (32 words; R445) -/
  sieves : Tab SieveCfg := []
  /-- (4 words; R445) -/
  mclks : Tab MclkCfg := []
  /-- (512; R445) -/
  inA : Tab InEntry := []
  /-- (512; R445) -/
  outA : Tab OutEntry := []
  /-- (512; R445) -/
  detA : Tab Detour := []
  /-- (64; R445) -/
  stileA : Tab StileCfg := []
  /-- (256; R445) -/
  zones : Tab Zone := []
  /-- (255; R445) -/
  sources : Tab Source := []
  /-- (16; R445) -/
  prios : Tab Prio := []
  /-- TWIN_CFG. (3 bits; R445) -/
  lateHo : Nat := 2
  /-- TWIN_CFG. (1 bit; R445) -/
  linkEn : Bool := false
  /-- TWIN_CFG. (32 bits; R445) -/
  sieveTx : BitVec 32 := 0
  /-- TWIN_CFG. (32 bits; R445) -/
  sieveRx : BitVec 32 := 0
  /-- TWIN_CFG. (28 bits; R445) -/
  ownSrc : BitVec 28 := 0
  /-- leave pool. (12 bits; R445) -/
  pool : Nat := 2600
  /-- reserve. (12 bits; R445) -/
  reserve : Nat := 300
  /-- costs. (10; R445) -/
  costs : Tab Nat := []
  /-- flash slots of the ACTIVE bundles. (bundle slots; R445) -/
  bslots : List Nat := []
  /-- digests of those bundles; only in the resume region. (SHA-384 each; R362) -/
  digests : Tab (BitVec 384) := []
  /-- tasks marked AUTOSTART. (TASK_IDs; R445) -/
  tasks : List Nat := []
  /-- persisted UNTESTED acceptances. (acceptances; R445) -/
  accepts : List Accept := []
  /-- pair credentials. (sealed object; R351, R484) -/
  pairCreds : List (BitVec 8) := []
  deriving DecidableEq, Repr

/-- A ROUTE_SWAP as accepted, held until a copy is done (R193). -/
structure HeldSwap where
  /-- its Bell met the lead of R171. (1 bit; R171) -/
  ok : Bool := false
  /-- it asks for the next Bell. (1 bit; R192) -/
  next : Bool := false
  /-- the Bell it asks for. (48 bits; R192) -/
  bell : BitVec 48 := 0
  deriving DecidableEq, Repr

/-- Jexolaryn (chapters 4, 6, 16): loaded bundles, host sets, swaps, service model, files, settings. -/
structure Jex where
  /-- Jexolaryn runs. (1 bit; R334) -/
  started : Bool := false
  /-- device clock. (32 bits, s; R446) -/
  clock : Nat := 0
  /-- TIME_SET has set it. (1 bit; R446) -/
  clockSet : Bool := false
  /-- milliseconds into the second. (0-999 ms; R446) -/
  msAcc : Nat := 0
  /-- ticks since the last second of the device clock. (10 bits; R446) -/
  clockMs : Nat := 0
  /-- seconds since cold boot. (32 bits, s; 0x00) -/
  upSecs : Nat := 0
  /-- AUTOSTART. (1 bit; R445) -/
  autostart : Bool := false
  /-- configuration restored. (1 bit; 0x00) -/
  restored : Bool := false
  /-- UNTESTED accepted. (1 bit; R345) -/
  accepted : Bool := false
  /-- (acceptances; R345) -/
  accepts : List Accept := []
  /-- the configuration that holds the higher save counter. (configuration area; R445) -/
  saved : Option SavedCfg := none
  /-- save counter. (64 bits; R484) -/
  saveCount : Nat := 0
  /-- which of the two copies holds it. (1 bit; R484) -/
  savedHalf : Nat := 0
  /-- the configuration of the other copy. (configuration area; R484) -/
  savedOther : Option SavedCfg := none
  /-- pair credentials. (sealed object; R351, R484) -/
  pairCreds : List (BitVec 8) := []
  /-- the directory sector that holds the latest directory of the message area. (1 bit; R484) -/
  msgDir : Nat := 0
  /-- (up to 16; 0x21) -/
  bundles : List Bundle := []
  /-- (a load; R121) -/
  load : Option Load := none
  /-- loads accepted that wait for it to end. (loads; R438) -/
  loads : List Load := []
  /-- (pending swaps; R123) -/
  swaps : List Swap := []
  /-- lines of unloaded bundles that active programs still use. (line records; R124, R138) -/
  keptLines : List LineRec := []
  /-- (8 sets; R168) -/
  sets : Tab HostSet := []
  /-- accepted commands held until a copy is done, in order. (mailboxes; R175, R193) -/
  held : List Nat := []
  /-- what each held ROUTE_SWAP asked for when it was accepted. (mailboxes; R171, R193) -/
  heldSwaps : Tab HeldSwap := []
  /-- words of the partner that wait for the resynchronisation of their Querns. (set number and staged word; R175, R180) -/
  peerHeld : List (Nat × StagedVal) := []
  /-- key 1000 x target kind + index. (targets of R441; R441) -/
  files : Tab FileSt := []
  /-- (256 zones; R453) -/
  zones : Tab Zone := []
  /-- (255 sources; R454) -/
  sources : Tab Source := []
  /-- (16 priorities; R458) -/
  prios : Tab Prio := []
  /-- active announcements. (up to 64; R455) -/
  anns : List Ann := []
  /-- identifier given next. (1-65535; R455) -/
  nextAnn : Nat := 1
  /-- (waiting changes; R448) -/
  heldChanges : List HeldChange := []
  /-- (255 messages; R441) -/
  msgs : Tab Msg := []
  /-- (64 tasks; R375) -/
  tasks : Tab Task := []
  /-- replies held for a full queue. (queue and entry; R463) -/
  extWait : List (Nat × BitVec 64) := []
  /-- the restricted loop runs. (1 bit; R277) -/
  restricted : Bool := false
  /-- recorded repairs: bank, spare row, row. (repairs; R159, R162) -/
  repairs : List (Nat × Nat × Nat) := []
  /-- hamlets left to the full test after a cold boot. (0-8 hamlets; R162) -/
  fullLeft : Nat := 0
  /-- banks of the set that have completed a sweep. (banks; R158) -/
  swept : List Nat := []
  /-- resume state of Jexolaryn. (configuration as SLEEP left it; R329, R362) -/
  resume : Option SavedCfg := none
  /-- recorded bundles still to be loaded. (bundle slots; R445, R362) -/
  bootSlots : List Nat := []
  /-- digests that the bundles of a fast wake must have. (SHA-384 each; R362) -/
  bootDigests : Tab (BitVec 384) := []
  /-- bundles loaded at start that are to become ACTIVE. (BUNDLE_IDs; R445, R362) -/
  bootIds : List Nat := []
  /-- mode entered once they are ACTIVE. (a mode; R335, R362) -/
  bootMode : Option Mode := none
  deriving DecidableEq, Repr

/-- The always-on domain: tick, mode, pins and power state (R20-R24, R33, R503-R507). -/
structure Aon where
  /-- MODE.MODE; reset code 1. (4 bits; R416) -/
  mode : Mode := .boot
  /-- MODE.LAST_MODE. (4 bits; R416) -/
  lastMode : Nat := 15
  /-- AON tick count. (32 bits, ms; R427) -/
  tick : Nat := 0
  /-- the tick is derived from the crystal. (1 bit; R503) -/
  exact : Bool := false
  /-- VDD_AON good. (1 bit; R505) -/
  vddAon : Bool := false
  /-- VDD_CORE, VDD_SRAM, VDD_LINK good. (1 bit; R505) -/
  rails : Bool := false
  /-- VDDIO_H good. (1 bit; R408) -/
  vddioH : Bool := false
  /-- RESET_N level. (pin; R507) -/
  resetN : Bool := true
  /-- WAKE_N level. (pin; R331) -/
  wakeN : Bool := true
  /-- BOOTSEL[1:0] pins. (2 bits; R337) -/
  bootselPins : Nat := 0
  /-- PAIR_POS pin. (1 bit; R294) -/
  posPin : Bool := false
  /-- AON timer: ticks left, 0 once it has expired. (32 bits, ms; R331) -/
  timer : Option Nat := none
  /-- mode left at SLEEP. (4 bits; R362) -/
  modeLeft : Nat := 0
  /-- step 3 of the entry to SLEEP is done, and steps 4 and 5 are due. (1 bit; R329) -/
  sleeping : Bool := false
  /-- tick at which step 2 of the entry to SLEEP began. (AON ticks; R329) -/
  sleepTick : Option Nat := none
  /-- VDDIO_A good. (1 bit; R505) -/
  vddioA : Bool := false
  /-- VDD_OSC good. (1 bit; R505) -/
  vddOsc : Bool := false
  /-- rails lost outside SLEEP that have not returned. (4 bits; R506) -/
  railLost : Rails := {}
  deriving DecidableEq, Repr

/-- Why a step stops with a fault. -/
inductive Fault
  /-- A Quern instruction row whose operands the program loader refuses (R105), with the loader's
  code: such a word is never in a running store. Safe: the machine stops where the spec has no step. -/
  | rejectedAtLoad (code : Nat)
  deriving DecidableEq, Repr

/-- Why a step is refused. -/
inductive Refusal
  /-- The command has no meaning in this model yet. Safe. -/
  | notModelled (mnemonic : String)
  deriving DecidableEq, Repr

/-- The whole state of the WL7720 and the queue of waiting commands. -/
@[ext]
structure State where
  /-- AON domain. -/
  aon : Aon := {}
  /-- 128 Querns (R71). -/
  querns : Tab Quern := []
  /-- 4 rate domains (R43). -/
  domains : Tab Domain := []
  /-- 4096 delay-line entries (R137). -/
  lines : Tab Line := []
  /-- 128 granary banks (R134). -/
  banks : Tab Bank := []
  /-- granary memory, key h * 2^22 + p (R135). -/
  granary : Tab Sample := []
  /-- the Sexton (R163). -/
  sexton : Sexton := {}
  /-- ports, maps, Stiles, detours. -/
  audio : Audio := {}
  /-- Tally (R258-R260). -/
  tally : Tally := {}
  /-- the Crier (R280). -/
  crier : Crier := {}
  /-- the pair (R308). -/
  twin : Twin := {}
  /-- the Warden (R328). -/
  warden : Warden := {}
  /-- the Gatehouse (R365). -/
  gate : Gate := {}
  /-- Gatehouse requests (R379). -/
  greq : Greq := {}
  /-- host port (R416). -/
  host : HostPort := {}
  /-- 4 Reeves (R370). -/
  reeves : Tab Reeve := []
  /-- the Steward (R380). -/
  stew : Steward := {}
  /-- DMA engine (R395). -/
  dma : Dma := {}
  /-- control RAM, 4 MiB as words (R372). -/
  ctrlRam : Tab (BitVec 32) := []
  /-- peripheral port (R468). -/
  per : Per := {}
  /-- flash port and flashes (R483). -/
  flash : Flash := {}
  /-- faults (R488). -/
  faults : Faults := {}
  /-- Jexolaryn (chapter 16). -/
  jex : Jex := {}
  /-- Vigil (chapter 9). -/
  vigil : Vigil := {}
  /-- the MODEL's own counter of free values. -/
  fresh : Nat := 0
  /-- commands waiting, first in first out. -/
  pending : List Instr := []
  deriving DecidableEq, Repr

/-- The machine right after reset: every register at the value of its Reset column, nothing powered
yet, no command waiting (log 1, 3). -/
def State.reset : State := {}

end Sys2Proof.Machine
end

