-- ==== Sys2Proof/Machine/Set.lean ====
section
/-! DEFINITION. One setter for each field of `State`, so that every meaning updates the state through
a named operation. -/

namespace Sys2Proof.Machine

/-- The state with `aon` replaced. -/
def State.setAon (s : State) (v : Aon) : State := { s with aon := v }
/-- The state with `querns` replaced. -/
def State.setQuerns (s : State) (v : Tab Quern) : State := { s with querns := v }
/-- The state with `domains` replaced. -/
def State.setDomains (s : State) (v : Tab Domain) : State := { s with domains := v }
/-- The state with `lines` replaced. -/
def State.setLines (s : State) (v : Tab Line) : State := { s with lines := v }
/-- The state with `banks` replaced. -/
def State.setBanks (s : State) (v : Tab Bank) : State := { s with banks := v }
/-- The state with `granary` replaced. -/
def State.setGranary (s : State) (v : Tab Sample) : State := { s with granary := v }
/-- The state with `sexton` replaced. -/
def State.setSexton (s : State) (v : Sexton) : State := { s with sexton := v }
/-- The state with `audio` replaced. -/
def State.setAudio (s : State) (v : Audio) : State := { s with audio := v }
/-- The state with `tally` replaced. -/
def State.setTally (s : State) (v : Tally) : State := { s with tally := v }
/-- The state with `crier` replaced. -/
def State.setCrier (s : State) (v : Crier) : State := { s with crier := v }
/-- The state with `twin` replaced. -/
def State.setTwin (s : State) (v : Twin) : State := { s with twin := v }
/-- The state with `warden` replaced. -/
def State.setWarden (s : State) (v : Warden) : State := { s with warden := v }
/-- The state with `gate` replaced. -/
def State.setGate (s : State) (v : Gate) : State := { s with gate := v }
/-- The state with `greq` replaced. -/
def State.setGreq (s : State) (v : Greq) : State := { s with greq := v }
/-- The state with `host` replaced. -/
def State.setHost (s : State) (v : HostPort) : State := { s with host := v }
/-- The state with `reeves` replaced. -/
def State.setReeves (s : State) (v : Tab Reeve) : State := { s with reeves := v }
/-- The state with `stew` replaced. -/
def State.setStew (s : State) (v : Steward) : State := { s with stew := v }
/-- The state with `dma` replaced. -/
def State.setDma (s : State) (v : Dma) : State := { s with dma := v }
/-- The state with `ctrlRam` replaced. -/
def State.setCtrlRam (s : State) (v : Tab (BitVec 32)) : State := { s with ctrlRam := v }
/-- The state with `per` replaced. -/
def State.setPer (s : State) (v : Per) : State := { s with per := v }
/-- The state with `flash` replaced. -/
def State.setFlash (s : State) (v : Flash) : State := { s with flash := v }
/-- The state with `faults` replaced. -/
def State.setFaults (s : State) (v : Faults) : State := { s with faults := v }
/-- The state with `jex` replaced. -/
def State.setJex (s : State) (v : Jex) : State := { s with jex := v }
/-- The state with `vigil` replaced. -/
def State.setVigil (s : State) (v : Vigil) : State := { s with vigil := v }
/-- The state with `fresh` replaced. -/
def State.setFresh (s : State) (v : Nat) : State := { s with fresh := v }
/-- The state with `pending` replaced. -/
def State.setPending (s : State) (v : List Instr) : State := { s with pending := v }

end Sys2Proof.Machine
end

