-- ==== Sys2Proof/Machine/Flags.lean ====
section
/-! DEFINITION. The arithmetic of the WL7720: saturation, convergent rounding, the store
conversion, the exact procedures of LOG2, EXP2 and ENV, condition codes, CRC-32C, bit fields. -/

namespace Sys2Proof.Machine

/-- A sample word from an integer, low 20 bits. -/
def smp (x : Int) : Sample := BitVec.ofInt 20 x

/-- Saturation to 20 bits, with whether it clipped (R85 "sat20"). -/
def sat20 (x : Int) : Sample × Bool :=
  if x > 524287 then (smp 524287, true)
  else if x < -524288 then (smp (-524288), true) else (smp x, false)

/-- Saturation to 52 bits, with whether it clipped (R77, R85 "sat52"). -/
def sat52 (x : Int) : BitVec 52 × Bool :=
  if x > 2251799813685247 then (BitVec.ofInt 52 2251799813685247, true)
  else if x < -2251799813685248 then (BitVec.ofInt 52 (-2251799813685248), true)
  else (BitVec.ofInt 52 x, false)

/-- x / n rounded to the nearest, half to even ("convergent", R78), for n > 0. -/
def rneDiv (x : Int) (n : Nat) : Int :=
  let q := x / (n : Int)
  let rem := x - q * n
  if 2 * rem > n then q + 1 else if 2 * rem = n ∧ q % 2 ≠ 0 then q + 1 else q

/-- Drop r bits, round half to even (R78). -/
def conv (x : Int) (r : Nat) : Int := if r = 0 then x else rneDiv x (2 ^ r)

/-- The store conversion of R78 with shift s, -12 to +18. -/
def storeConv (a : BitVec 52) (s : Int) : Sample × Bool := sat20 (conv a.toInt (19 - s).toNat)

/-- A shift of an integer: left exact, right convergent (R85 SHA, R86 SHF). -/
def shiftBy (x : Int) (b : Int) : Int :=
  if b ≥ 0 then x * 2 ^ b.toNat else conv x (-b).toNat

/-- The expanded immediate of R81. -/
def immWord (v : BitVec 13) : Sample := smp (v.toInt * 128)

/-- The product of a Q1.19 sample and a coefficient, aligned to Q14.38 (R77). -/
def product (cf : Bool) (a b : Sample) : Int := a.toInt * b.toInt * (if cf then 8 else 1)

/-- A word aligned to Q14.38 as for LDA (R85). -/
def aligned (cf : Bool) (a : Sample) : Int := a.toInt * (if cf then 4194304 else 524288)

/-- Position of the leading one of n, 0 for n = 0. -/
def leadOne (n : Nat) : Nat := Nat.log2 n

/-- LOG2 (R91). -/
def log2Word (a : Sample) : Sample :=
  let n := a.toInt.natAbs
  if n = 0 then smp (-524288)
  else
    let k := leadOne n
    let m : Nat := if k ≥ 14 then (n - 2 ^ k) / 2 ^ (k - 14) else (n - 2 ^ k) * 2 ^ (14 - k)
    let corr : Nat := 11 * m * (16384 - m) / 2 ^ 19
    smp (((k : Int) - 19) * 16384 + (m : Int) + (corr : Int))

/-- EXP2 (R92), with whether it saturated. -/
def exp2Word (a : Sample) : Sample × Bool :=
  let x := a.toInt
  if x ≥ 0 then (smp 524287, true)
  else
    let i := x / 16384
    let f := x - i * 16384
    let mant := 16384 + f - 11 * f * (16384 - f) / 2 ^ 19
    let t := 5 + i
    (smp (if t ≥ 0 then mant * 2 ^ t.toNat else conv mant (-t).toNat), false)

/-- ENV (R93): held envelope, input, attack and release. -/
def envWord (cf : Bool) (e x b0 b1 : Sample) : Sample × Bool :=
  let k := if x.toInt > e.toInt then b0 else b1
  let p := (x.toInt - e.toInt) * k.toInt
  sat20 (e.toInt + conv p (if cf then 16 else 19))

/-- A condition code of R90 on N, Z, V, L; the reserved codes never hold. -/
def condHolds (c : Nat) (n z v l : Bool) : Bool :=
  match c with
  | 0 => n | 1 => !n | 2 => z | 3 => !z | 4 => n || z | 5 => !n && !z
  | 6 => v | 7 => !v | 8 => l | 9 => !l | _ => false

/-- One byte into a CRC-32C register, reflected (R288). -/
def crcByte (c : BitVec 32) (b : BitVec 8) : BitVec 32 :=
  (List.range 8).foldl (fun r _ => if r.getLsbD 0 then (r >>> 1) ^^^ 0x82F63B78#32 else r >>> 1)
    (c ^^^ b.setWidth 32)

/-- CRC-32C of a byte string: Castagnoli, initial value all ones, final inversion (R288). -/
def crc32c (bs : List (BitVec 8)) : BitVec 32 := ~~~ (bs.foldl crcByte 0xFFFFFFFF#32)

/-- The bytes of a number, least significant first. -/
def leBytes (n : Nat) : Nat → List (BitVec 8)
  | 0 => []
  | k + 1 => BitVec.ofNat 8 n :: leBytes (n / 256) k

/-- A number from bytes, least significant first. -/
def leNat : List (BitVec 8) → Nat
  | [] => 0
  | b :: bs => b.toNat + 256 * leNat bs

/-- The four bytes of a word, least significant first. -/
def wordBytes (w : Word) : List (BitVec 8) := leBytes w.toNat 4

/-- A word from bits of a number. -/
def wrd (n : Nat) : Word := BitVec.ofNat 32 n

/-- A bit as a number. -/
def b2n (b : Bool) : Nat := if b then 1 else 0

/-- Field of a word: len bits from bit lo. -/
def fld (w : Word) (lo len : Nat) : Nat := (w.toNat >>> lo) % 2 ^ len

/-- Bit i of a word. -/
def bit (w : Word) (i : Nat) : Bool := w.getLsbD i

/-- A word with bits set from Booleans, bit 0 first. -/
def ofBits (bs : List Bool) : Nat := bs.foldr (fun b n => b2n b + 2 * n) 0

/-- The low 20 bits of a word as a sample. -/
def wordSample (w : Word) : Sample := w.setWidth 20

/-- A sample sign-extended to a word. -/
def sampleWord (v : Sample) : Word := v.signExtend 32

/-- Signed field in bits [19:0] of a command word is well placed (R519): the bits above are all 0
or all equal to bit 19. -/
def signedOk (w : Word) (n : Nat) : Bool :=
  let top := fld w n (32 - n)
  top == 0 || (w.getLsbD (n - 1) && top == 2 ^ (32 - n) - 1)

/-- n added to a saturating count of a given width. -/
def satAdd (x n width : Nat) : Nat := Nat.min (x + n) (2 ^ width - 1)

/-- A 48-bit Bell number from BELL_HI and BELL_LO (R9). -/
def bellOf (hi lo : Nat) : BitVec 48 := BitVec.ofNat 48 (hi % 65536 * 4294967296 + lo)

/-- BELL_LO. -/
def bellLo (b : BitVec 48) : Word := b.setWidth 32

/-- BELL_HI as a number. -/
def bellHi (b : BitVec 48) : Nat := b.toNat / 4294967296

/-- Indices 0 to 31 of the bits set in a word, offset by base. -/
def setBits (base : Nat) (w : Word) : List Nat :=
  ((List.range 32).filter (fun i => w.getLsbD i)).map (base + ·)

end Sys2Proof.Machine
end

