-- ==== Sys2Proof/Machine/Ops.lean ====
section
/-! DEFINITION. Reading and updating the parts of the state: one accessor and one updater for each
array, and the outcome type of a meaning. -/

namespace Sys2Proof.Machine

/-- The outcome of a meaning. -/
abbrev Out := Host.Outcome State Fault Refusal

/-- Apply f to every number of a list, from the left. -/
def forEach {σ : Type} (l : List Nat) (f : σ → Nat → σ) (s : σ) : σ := l.foldl f s

/-- Quern q. -/
def quern (s : State) (q : Nat) : Quern := Tab.get {} s.querns q
/-- Quern q passed through f. -/
def modQuern (s : State) (q : Nat) (f : Quern → Quern) : State := s.setQuerns (Tab.mod {} s.querns q f)
/-- Rate domain d. -/
def dom (s : State) (d : Nat) : Domain := Tab.get {} s.domains d
/-- Rate domain d passed through f. -/
def modDom (s : State) (d : Nat) (f : Domain → Domain) : State := s.setDomains (Tab.mod {} s.domains d f)
/-- Delay-line entry e. -/
def line (s : State) (e : Nat) : Line := Tab.get {} s.lines e
/-- Delay-line entry e passed through f. -/
def modLine (s : State) (e : Nat) (f : Line → Line) : State := s.setLines (Tab.mod {} s.lines e f)
/-- Bank b. -/
def bank (s : State) (b : Nat) : Bank := Tab.get {} s.banks b
/-- Bank b passed through f. -/
def modBank (s : State) (b : Nat) (f : Bank → Bank) : State := s.setBanks (Tab.mod {} s.banks b f)
/-- Reeve r. -/
def reeve (s : State) (r : Nat) : Reeve := Tab.get {} s.reeves r
/-- Reeve r passed through f. -/
def modReeve (s : State) (r : Nat) (f : Reeve → Reeve) : State := s.setReeves (Tab.mod {} s.reeves r f)

/-- Units passed through f. -/
def modAon (s : State) (f : Aon → Aon) : State := s.setAon (f s.aon)
/-- The ports passed through f. -/
def modAudio (s : State) (f : Audio → Audio) : State := s.setAudio (f s.audio)
/-- Tally passed through f. -/
def modTally (s : State) (f : Tally → Tally) : State := s.setTally (f s.tally)
/-- The Crier passed through f. -/
def modCrier (s : State) (f : Crier → Crier) : State := s.setCrier (f s.crier)
/-- The pair unit passed through f. -/
def modTwin (s : State) (f : Twin → Twin) : State := s.setTwin (f s.twin)
/-- The Warden passed through f. -/
def modWarden (s : State) (f : Warden → Warden) : State := s.setWarden (f s.warden)
/-- The Gatehouse passed through f. -/
def modGate (s : State) (f : Gate → Gate) : State := s.setGate (f s.gate)
/-- The request registers passed through f. -/
def modGreq (s : State) (f : Greq → Greq) : State := s.setGreq (f s.greq)
/-- The host port passed through f. -/
def modHost (s : State) (f : HostPort → HostPort) : State := s.setHost (f s.host)
/-- The Steward passed through f. -/
def modStew (s : State) (f : Steward → Steward) : State := s.setStew (f s.stew)
/-- The DMA engine passed through f. -/
def modDma (s : State) (f : Dma → Dma) : State := s.setDma (f s.dma)
/-- The peripheral port passed through f. -/
def modPer (s : State) (f : Per → Per) : State := s.setPer (f s.per)
/-- The flash port passed through f. -/
def modFlash (s : State) (f : Flash → Flash) : State := s.setFlash (f s.flash)
/-- The faults passed through f. -/
def modFaults (s : State) (f : Faults → Faults) : State := s.setFaults (f s.faults)
/-- Jexolaryn's records passed through f. -/
def modJex (s : State) (f : Jex → Jex) : State := s.setJex (f s.jex)
/-- Vigil passed through f. -/
def modVigil (s : State) (f : Vigil → Vigil) : State := s.setVigil (f s.vigil)
/-- The Sexton passed through f. -/
def modSexton (s : State) (f : Sexton → Sexton) : State := s.setSexton (f s.sexton)

/-- A fresh index of the free values (log 9): the counter, and the state with it advanced. -/
def takeFresh (s : State) : Nat × State := (s.fresh, s.setFresh (s.fresh + 1))

/-! ### The granaries (R134, R135) -/

/-- Words of a bank. -/
def bankWords : Nat := 196608
/-- Words of a hamlet. -/
def hamletWords : Nat := 3145728

/-- The hamlet of a granary address (R134). -/
def addrHamlet (a : Nat) : Nat := a / 262144 / 16
/-- The hamlet-linear position of a granary address (R135). -/
def addrPos (a : Nat) : Nat := a / 262144 % 16 * bankWords + a % 262144
/-- The granary address exists (R134). -/
def addrOk (a : Nat) : Bool := a < 33554432 && a % 262144 < bankWords
/-- The key under which cell p of hamlet h is kept. -/
def granKey (h p : Nat) : Nat := h * 4194304 + p
/-- The bank of position p of hamlet h (R135). -/
def posBank (h p : Nat) : Nat := 16 * h + p / bankWords
/-- The cell of word i of spare row n of bank b, kept after the data words of the bank's hamlet (R134). -/
def spareCell (b n i : Nat) : Nat := hamletWords + 256 * (b % 16) + 16 * n + i
/-- The word of a cell. -/
def cellGet (s : State) (h c : Nat) : Sample := Tab.get 0 s.granary (granKey h c)
/-- The word of a cell written. -/
def cellPut (s : State) (h c : Nat) (v : Sample) : State := s.setGranary (Tab.set 0 s.granary (granKey h c) v)

/-- BANK_REMAPn of a bank. -/
def Bank.remapAt (k : Bank) (n : Nat) : Remap := Tab.get {} k.remap n
/-- The spare row that replaces row r for good (R159). -/
def Bank.repairOf (k : Bank) (r : Nat) : Option Nat :=
  (List.range 16).find? (fun n => (k.remapAt n).valid && (k.remapAt n).row == r)
/-- A visit redirects masters from word i of its row to the save row (R156, R159). -/
def Bank.redirects (k : Bank) (i : Nat) : Bool :=
  match k.phase with
  | .idle => false
  | .save => decide (i < k.copied)
  | .march => true
  | .restore => !decide (i < k.copied)
  | .held => true
/-- The save row that masters reach at word i of row r. -/
def Bank.savedAt (k : Bank) (r i : Nat) : Option Nat :=
  match k.save with
  | some n => if r = k.rowPtr ∧ k.redirects i ∧ n < 16 ∧ !(k.remapAt n).valid then some n else none
  | none => none
/-- Where word i of row r of bank b is stored but for a visit's redirection: its own cell, or its replacement row. -/
def homeCell (s : State) (b r i : Nat) : Nat :=
  match (bank s b).repairOf r with
  | some n => spareCell b n i
  | none => b % 16 * bankWords + 16 * r + i
/-- The cell that position p of hamlet h is stored in: masters work through the redirection and the repairs (R134, R156,
R159, R161). -/
def granCell (s : State) (h p : Nat) : Nat :=
  let b := posBank h p
  let r := p % bankWords / 16
  match (bank s b).savedAt r (p % 16) with
  | some n => spareCell b n (p % 16)
  | none => match (bank s b).repairOf r with
    | some n => spareCell b n (p % 16)
    | none => p
/-- The granary word at position p of hamlet h. -/
def granGet (s : State) (h p : Nat) : Sample := cellGet s h (granCell s h p)
/-- The granary word at position p of hamlet h written. -/
def granPut (s : State) (h p : Nat) (v : Sample) : State := cellPut s h (granCell s h p) v

/-- Hamlet of a line. -/
def Line.hamlet (l : Line) : Nat := addrHamlet l.base
/-- Hamlet-linear position of line-relative index j (R141). -/
def Line.pos (l : Line) (j : Nat) : Nat := addrPos l.base + j

/-- A line covers at least one word of bank b. -/
def Line.covers (l : Line) (b : Nat) : Bool :=
  l.valid && l.hamlet == b / 16 && l.length != 0 &&
    (addrPos l.base < (b % 16 + 1) * bankWords && b % 16 * bankWords < addrPos l.base + l.length)

/-- BANK_OWNER.LINES of bank b (R150). -/
def bankLines (s : State) (b : Nat) : Nat :=
  (s.lines.filter (fun e => e.2.covers b)).length

/-- BUS_ERR of a bank set by a master of a class (R150, R152). -/
def bankErr (s : State) (b : Nat) (master : Nat) : State :=
  modBank s b (fun k => if k.busErr then k else { k with busErr := true, errMaster := master })
/-- The granary word at position p of hamlet h written by Jexolaryn's DMA; in a bank with another owner that is a bus error
(R152). -/
def dmaPut (h p : Nat) (v : Sample) (s : State) : State :=
  if (bank s (posBank h p)).owner = 0 then granPut s h p v else bankErr s (posBank h p) 2

/-! ### Domains (R43, R45) -/

/-- Nominal rate of a rate code in 0.01 Hz (R45). -/
def nominalRate (code : Nat) : Nat :=
  match code with
  | 0 => 800000 | 1 => 1600000 | 2 => 2400000 | 3 => 3200000
  | 4 => 4410000 | 5 => 4800000 | 6 => 8820000 | _ => 9600000

/-- The present Bell rate of a domain in 0.01 Hz: measured, else nominal. -/
def Domain.rateNow (d : Domain) : Nat := if d.bellRate = 0 then nominalRate d.rate else d.bellRate

/-- The domain generates Bells: enabled and not OFF or ACQUIRE before its first lock (R49). -/
def Domain.runs (d : Domain) : Bool := d.state != .off && d.state != .acquire

/-- Front slot n of domain d; the unassigned slots read 0 with VALID clear (R187). -/
def frontSlot (s : State) (d n : Nat) : Slot := Tab.get {} (dom s d).front n

/-- The domain of Quern q's active program. -/
def quernDom (u : Quern) : Option Nat := u.active.map (·.domain)

/-- The Querns are stopped, their programs kept, while state is copied to a joiner (R151, R303). -/
def quernsPaused (s : State) : Bool := s.twin.armMb.isSome && (s.twin.arm == .copy || s.twin.arm == .join)

/-- This device is to become DUTY and lends its state to a joiner, from Bell S on (R303). -/
def lends (s : State) : Bool := s.twin.armMb.isNone && s.twin.arm != .idle && s.twin.arm != .check
/-- The pass in progress in domain d is that of Bell J - 1 (R305). -/
def captures (s : State) (d : Nat) : Bool :=
  lends s && s.twin.arm == .join && Tab.get 0 s.twin.joinBell d == (dom s d).bell + 1
/-- What the Querns had captured is given up. -/
def dropCaptures (s : State) : State := s.setQuerns (s.querns.map (fun e => (e.1, { e.2 with capture := none })))

/-- Any Quern has QSTAT.ACTIVE set. -/
def anyActive (s : State) : Bool := !quernsPaused s && s.querns.any (fun e => e.2.active.isSome)

/-- The Querns 0 to 127 whose active program is bound to domain d. -/
def domQuerns (s : State) (d : Nat) : List Nat :=
  (s.querns.filter (fun e => quernDom e.2 == some d)).map (·.1)

/-- The mode's code (R20). -/
def Mode.code : Mode → Nat
  | .sleep => 0 | .boot => 1 | .maintenance => 2 | .service => 3 | .vigil => 4 | .fallback => 5

/-- Reeve r executes. -/
def reeveRuns (s : State) (r : Nat) : Bool :=
  ((reeve s r).run == .running || (reeve s r).run == .restricted) && !(reeve s r).held
/-- Reeve r can write the block registers: Reeve 0 or 1, in supervisor state (R373). -/
def reeveCtl (s : State) (r : Nat) : Bool := r < 2 && reeveRuns s r && !(reeve s r).user

/-- Low 32 bits of the domain 0 Bell count (R51). -/
def timeStamp (s : State) : Word := bellLo (dom s 0).bell

/-! ### The output interlock (R38) -/

/-- The supplies that the audio pins need are good (R24, R497). -/
def audioPads (s : State) : Bool := s.aon.vddioA && s.aon.vddioH && s.aon.vddOsc
/-- The device drives its audio outputs (R38). -/
def driving (s : State) : Bool := audioPads s && s.twin.dutyOut && !s.twin.dutyIn

end Sys2Proof.Machine
end

