-- ==== Sys2Proof/Machine/Operands.lean ====
section
/-! DEFINITION. The operand forms of the Quern (R80 to R83, R74, R75, R88, R102): reading, reading a
pair, writing, and the post-modify of IND operands. -/

namespace Sys2Proof.Machine

/-- Data register n. -/
def Quern.dreg (u : Quern) (n : Nat) : Sample := Tab.get 0 u.d n
/-- Accumulator n. -/
def Quern.accu (u : Quern) (n : Nat) : BitVec 52 := Tab.get 0 u.acc n
/-- Pointer n. -/
def Quern.ptr (u : Quern) (n : Nat) : Pointer := Tab.get {} u.p n
/-- WORK_BASE of the active program; with none, no working region. -/
def Quern.workBase (u : Quern) : Nat := (u.active.map (·.workBase)).getD 4096
/-- The active program owns Square slot n. -/
def Quern.owns (u : Quern) (n : Nat) : Bool := (u.active.map (·.owned.contains n)).getD false

/-- Data register n written. -/
def Quern.setD (u : Quern) (n : Nat) (v : Sample) : Quern := { u with d := Tab.set 0 u.d n v }
/-- Accumulator n written. -/
def Quern.setAcc (u : Quern) (n : Nat) (v : BitVec 52) : Quern := { u with acc := Tab.set 0 u.acc n v }
/-- SAT set when a result clipped. -/
def Quern.orSat (u : Quern) (c : Bool) : Quern := { u with sat := u.sat || c }
/-- OVA set when an accumulator clipped. -/
def Quern.orOva (u : Quern) (c : Bool) : Quern := { u with ova := u.ova || c }
/-- PF set; the first PF since QSTAT.PF was cleared records its program word (R102, R103). -/
def Quern.setPf (u : Quern) : Quern :=
  { u with pf := true, qPfWord := if u.pf || u.qPf then u.qPfWord else u.pc }

/-- The address a pointer takes after a step (R82). -/
def Pointer.step (p : Pointer) (k : Int) : BitVec 13 :=
  if p.len = 0 then BitVec.ofInt 13 ((p.addr.toNat : Int) + k)
  else BitVec.ofInt 13
    ((p.base.toNat : Int) + ((p.addr.toNat : Int) - p.base.toNat + k) % (p.len.toNat : Int))

/-- Size of an IND target (R82). -/
def IndT.size : IndT → Nat
  | .scr => 1024 | .led => 4096 | .nb => 256 | .sqr => 8192

/-- A slot of the front page; a pass reads the page of the Bell on which it started (R25, R26). -/
def readSlot (s : State) (u : Quern) (n : Nat) : Slot :=
  if u.running then Tab.get {} u.pageIn (n % 8192)
  else match quernDom u with
    | some d => frontSlot s d (n % 8192)
    | none => {}

/-- A word of one of the four addressable memories (R74, R80, R88). -/
def readMem (s : State) (u : Quern) (t : IndT) (a : Nat) : Sample :=
  match t with
  | .scr => Tab.get 0 u.scratch (a % 1024)
  | .led => Tab.get 0 u.ledgerA (a % 4096)
  | .nb => if a % 256 < 192 then Tab.get 0 u.nb (a % 256) else Tab.get 0 u.nbIn (a % 256 - 192)
  | .sqr => (readSlot s u a).word

/-- The value of glide register n (R71): in a pass that of the Bell on which it started (R26), else the value in
force. -/
def Quern.glide (u : Quern) (n : Nat) : Sample :=
  if u.running then Tab.get 0 u.glideIn n else (Tab.get {} u.glides n).value

/-- The value of a general operand (R80, R81). -/
def readOp (s : State) (u : Quern) : Opnd → Sample
  | .reg r => u.dreg r
  | .imm v => immWord v
  | .scr a => readMem s u .scr a.toNat
  | .led a => readMem s u .led a.toNat
  | .gld a => u.glide a.toNat
  | .sqr a => readMem s u .sqr a.toNat
  | .nb a => readMem s u .nb a.toNat
  | .ind t _ p => readMem s u t (u.ptr p).addr.toNat

/-- The two words of a pair operand (R83). -/
def readPair (s : State) (u : Quern) : Opnd → Sample × Sample
  | .reg r => (u.dreg r, u.dreg (r + 1))
  | .imm v => (immWord v, immWord v)
  | .scr a => (readMem s u .scr a.toNat, readMem s u .scr (a.toNat + 1))
  | .led a => (readMem s u .led a.toNat, readMem s u .led (a.toNat + 1))
  | .gld a => (u.glide a.toNat, u.glide (a.toNat + 1))
  | .sqr a => (readMem s u .sqr a.toNat, readMem s u .sqr (a.toNat + 1))
  | .nb a => (readMem s u .nb a.toNat, readMem s u .nb (a.toNat + 1))
  | .ind t _ p =>
      (readMem s u t (u.ptr p).addr.toNat, readMem s u t ((u.ptr p).step 1).toNat)

/-- The post-modify of an operand (R82); nothing for a direct one. -/
def Quern.advance (u : Quern) : Opnd → Quern
  | .ind _ k p => { u with p := Tab.mod {} u.p p (fun x => { x with addr := x.step k.toInt }) }
  | _ => u

/-- A word written to one of the four memories; `ind` says the access is indirect (R75, R88, R102). -/
def Quern.writeMem (u : Quern) (t : IndT) (a : Nat) (v : Sample) (ind : Bool) : Quern :=
  match t with
  | .scr => { u with scratch := Tab.set 0 u.scratch (a % 1024) v }
  | .led =>
    if u.workBase ≤ a % 4096 then
      { u with ledgerA := Tab.set 0 u.ledgerA (a % 4096) v, ledgerS := Tab.set 0 u.ledgerS (a % 4096) v }
    else if ind then u.setPf else u
  | .nb =>
    if a % 256 < 192 then { u with nb := Tab.set 0 u.nb (a % 256) v } else if ind then u.setPf else u
  | .sqr =>
    if u.owns (a % 8192) then { u with outs := Tab.ins u.outs (a % 8192) v } else u.setPf

/-- A destination operand written (R84 "Mem"); nothing for an operand that cannot be written. -/
def Quern.writeOp (u : Quern) (o : Opnd) (v : Sample) : Quern :=
  match o with
  | .scr a => u.writeMem .scr a.toNat v false
  | .led a => u.writeMem .led a.toNat v false
  | .nb a => u.writeMem .nb a.toNat v false
  | .sqr a => u.writeMem .sqr a.toNat v false
  | .ind t _ p => u.writeMem t (u.ptr p).addr.toNat v true
  | _ => u

/-- One instruction on Quern q as its next program slot: executed once, or as often as a REP before
it says (R99), then the next slot. -/
def quernSlot (q : Nat) (op : State → State) (s : State) : State :=
  let n := Nat.max 1 (quern s q).rep
  modQuern (forEach (List.range n) (fun t _ => op t) s) q
    (fun u => { u with pc := u.pc + 1, rep := 0 })

/-- A Quern instruction row: stopped when the loader refuses the instruction (R105), else one slot. -/
def quernStep (i : Instr) (q : Nat) (op : State → State) (s : State) : Out :=
  match loaderCode i with
  | some c => .fault (.rejectedAtLoad c)
  | none => .next (quernSlot q op s)

/-- An operation that changes only the Quern's own record. -/
def onQuern (q : Nat) (f : State → Quern → Quern) (s : State) : State :=
  modQuern s q (f s)

end Sys2Proof.Machine
end

