-- ==== Sys2Proof/Machine/QuernCtl.lean ====
section
/-! DEFINITION. NOP, REP, SETP, compares and selects of the Quern (R84, R89, R90, R98, R99). -/

namespace Sys2Proof.Machine

/-- NOP (R84): no effect beyond its slot. -/
def opNop (_ : State) (u : Quern) : Quern := u
/-- SETP (R98): one field of a pointer from an immediate or bits [12:0] of a data register. -/
def opSetp (field ptr : Fin 4) (b : Opnd) (_ : State) (u : Quern) : Quern :=
  let v : BitVec 13 := match b with
    | .imm x => x
    | .reg r => (u.dreg r).setWidth 13
    | _ => 0
  { u with p := Tab.mod {} u.p ptr (fun x => match field with
      | 0 => { x with addr := v }
      | 1 => { x with base := v }
      | 2 => { x with len := v }
      | _ => { x with base := v, addr := v }) }
/-- CMP (R89). -/
def opCmp (a b : Opnd) (s : State) (u : Quern) : Quern :=
  let x := readOp s u a
  let y := readOp s u b
  (({ u with cN := decide (x.toInt < y.toInt), cZ := decide (x = y) }).advance a).advance b
/-- CMPA (R89). -/
def opCmpa (acc1 acc2 : Fin 4) (_ : State) (u : Quern) : Quern :=
  { u with cN := decide ((u.accu acc1).toInt < (u.accu acc2).toInt), cZ := decide (u.accu acc1 = u.accu acc2) }
/-- The front-page slot TSTF names (R89). -/
def testedSlot (s : State) (u : Quern) (a : Opnd) : Slot :=
  match a with
  | .sqr n => readSlot s u n.toNat
  | .ind _ _ p => readSlot s u (u.ptr p).addr.toNat
  | _ => {}
/-- TSTF (R89): V and L from the flags of a front-page slot. -/
def opTstf (a : Opnd) (s : State) (u : Quern) : Quern :=
  ({ u with cV := (testedSlot s u a).valid, cL := (testedSlot s u a).late }).advance a
/-- The condition holds (R90). -/
def Quern.holds (u : Quern) (c : Fin 16) : Bool := condHolds c u.cN u.cZ u.cV u.cL
/-- SEL (R90). -/
def opSel (c : Fin 16) (dd : Fin 8) (a b : Opnd) (s : State) (u : Quern) : Quern :=
  ((u.setD dd (if u.holds c then readOp s u a else readOp s u b)).advance a).advance b
/-- SELA (R90). -/
def opSela (acc1 acc2 : Fin 4) (c : Fin 16) (_ : State) (u : Quern) : Quern :=
  u.setAcc acc1 (if u.holds c then u.accu acc1 else u.accu acc2)

/-- REP as a slot of its own: the next slot executes n times (R99). -/
def repSlot (q : Nat) (n : BitVec 13) (s : State) : State :=
  modQuern s q (fun u => { u with pc := u.pc + 1, rep := n.toNat })

/-- NOP. -/
def execNop (q : Fin 128) (s : State) : Out := quernStep (.nop q) q (onQuern q opNop) s
/-- REP. -/
def execRep (q : Fin 128) (n : BitVec 13) (s : State) : Out :=
  match loaderCode (.rep q n) with
  | some c => .fault (.rejectedAtLoad c)
  | none => .next (repSlot q n s)
/-- SETP. -/
def execSetp (q : Fin 128) (field ptr : Fin 4) (b : Opnd) (s : State) : Out :=
  quernStep (.setp q field ptr b) q (onQuern q (opSetp field ptr b)) s
/-- CMP. -/
def execCmp (q : Fin 128) (a b : Opnd) (s : State) : Out :=
  quernStep (.cmp q a b) q (onQuern q (opCmp a b)) s
/-- CMPA. -/
def execCmpa (q : Fin 128) (acc1 acc2 : Fin 4) (s : State) : Out :=
  quernStep (.cmpa q acc1 acc2) q (onQuern q (opCmpa acc1 acc2)) s
/-- TSTF. -/
def execTstf (q : Fin 128) (a : Opnd) (s : State) : Out :=
  quernStep (.tstf q a) q (onQuern q (opTstf a)) s
/-- SEL. -/
def execSel (q : Fin 128) (c : Fin 16) (dd : Fin 8) (a b : Opnd) (s : State) : Out :=
  quernStep (.sel q c dd a b) q (onQuern q (opSel c dd a b)) s
/-- SELA. -/
def execSela (q : Fin 128) (acc1 acc2 : Fin 4) (c : Fin 16) (s : State) : Out :=
  quernStep (.sela q acc1 acc2 c) q (onQuern q (opSela acc1 acc2 c)) s

end Sys2Proof.Machine
end

