-- ==== Sys2Proof/Machine/QuernData.lean ====
section
/-! DEFINITION. The data operations of the Quern (R86, R91 to R94): MOV, ADD, SUB, ABS, NEG, MIN,
MAX, SHF, ST, LOG2, EXP2, ENV, PEAK. -/

namespace Sys2Proof.Machine

/-- Dd := f a, with SAT when it clips. -/
def dataOne (dd : Fin 8) (a : Opnd) (f : Sample → Sample × Bool) (s : State) (u : Quern) : Quern :=
  ((u.setD dd (f (readOp s u a)).1).orSat (f (readOp s u a)).2).advance a

/-- Dd := f a b, with SAT when it clips. -/
def dataTwo (dd : Fin 8) (a b : Opnd) (f : Sample → Sample → Sample × Bool) (s : State) (u : Quern) : Quern :=
  (((u.setD dd (f (readOp s u a) (readOp s u b)).1).orSat (f (readOp s u a) (readOp s u b)).2).advance a).advance b

/-- MOV (R86). -/
def opMov (dd : Fin 8) (a : Opnd) := dataOne dd a (fun x => (x, false))
/-- ADD (R86). -/
def opAdd (dd : Fin 8) (a b : Opnd) := dataTwo dd a b (fun x y => sat20 (x.toInt + y.toInt))
/-- SUB (R86). -/
def opSub (dd : Fin 8) (a b : Opnd) := dataTwo dd a b (fun x y => sat20 (x.toInt - y.toInt))
/-- ABS (R86). -/
def opAbs (dd : Fin 8) (a : Opnd) := dataOne dd a (fun x => sat20 x.toInt.natAbs)
/-- NEG (R86). -/
def opNeg (dd : Fin 8) (a : Opnd) := dataOne dd a (fun x => sat20 (-x.toInt))
/-- MIN (R86). -/
def opMin (dd : Fin 8) (a b : Opnd) :=
  dataTwo dd a b (fun x y => (if x.toInt ≤ y.toInt then x else y, false))
/-- MAX (R86). -/
def opMax (dd : Fin 8) (a b : Opnd) :=
  dataTwo dd a b (fun x y => (if x.toInt ≤ y.toInt then y else x, false))
/-- SHF (R86). -/
def opShf (dd : Fin 8) (a : Opnd) (sh : BitVec 13) :=
  dataOne dd a (fun x => sat20 (shiftBy x.toInt sh.toInt))
/-- ST (R86): destination A := Dn or an immediate. -/
def opSt (a b : Opnd) (s : State) (u : Quern) : Quern := (u.writeOp a (readOp s u b)).advance a
/-- LOG2 (R91). -/
def opLog2 (dd : Fin 8) (a : Opnd) := dataOne dd a (fun x => (log2Word x, false))
/-- EXP2 (R92). -/
def opExp2 (dd : Fin 8) (a : Opnd) := dataOne dd a exp2Word
/-- ENV (R93). -/
def opEnv (cf : Bool) (dd : Fin 8) (a b : Opnd) (s : State) (u : Quern) : Quern :=
  let k := readPair s u b
  let r := envWord cf (u.dreg dd) (readOp s u a) k.1 k.2
  (((u.setD dd r.1).orSat r.2).advance a).advance b
/-- PEAK (R94). -/
def opPeak (dd : Fin 8) (a : Opnd) (s : State) (u : Quern) : Quern :=
  let m := sat20 (readOp s u a).toInt.natAbs
  ((u.setD dd (if (u.dreg dd).toInt ≤ m.1.toInt then m.1 else u.dreg dd)).orSat m.2).advance a

/-- MOV. -/
def execMov (q : Fin 128) (dd : Fin 8) (a : Opnd) (s : State) : Out :=
  quernStep (.mov q dd a) q (onQuern q (opMov dd a)) s
/-- ADD. -/
def execAdd (q : Fin 128) (dd : Fin 8) (a b : Opnd) (s : State) : Out :=
  quernStep (.add q dd a b) q (onQuern q (opAdd dd a b)) s
/-- SUB. -/
def execSub (q : Fin 128) (dd : Fin 8) (a b : Opnd) (s : State) : Out :=
  quernStep (.sub q dd a b) q (onQuern q (opSub dd a b)) s
/-- ABS. -/
def execAbs (q : Fin 128) (dd : Fin 8) (a : Opnd) (s : State) : Out :=
  quernStep (.abs q dd a) q (onQuern q (opAbs dd a)) s
/-- NEG. -/
def execNeg (q : Fin 128) (dd : Fin 8) (a : Opnd) (s : State) : Out :=
  quernStep (.neg q dd a) q (onQuern q (opNeg dd a)) s
/-- MIN. -/
def execMin (q : Fin 128) (dd : Fin 8) (a b : Opnd) (s : State) : Out :=
  quernStep (.min q dd a b) q (onQuern q (opMin dd a b)) s
/-- MAX. -/
def execMax (q : Fin 128) (dd : Fin 8) (a b : Opnd) (s : State) : Out :=
  quernStep (.max q dd a b) q (onQuern q (opMax dd a b)) s
/-- SHF. -/
def execShf (q : Fin 128) (dd : Fin 8) (a : Opnd) (sh : BitVec 13) (s : State) : Out :=
  quernStep (.shf q dd a sh) q (onQuern q (opShf dd a sh)) s
/-- ST. -/
def execSt (q : Fin 128) (a b : Opnd) (s : State) : Out :=
  quernStep (.st q a b) q (onQuern q (opSt a b)) s
/-- LOG2. -/
def execLog2 (q : Fin 128) (dd : Fin 8) (a : Opnd) (s : State) : Out :=
  quernStep (.log2 q dd a) q (onQuern q (opLog2 dd a)) s
/-- EXP2. -/
def execExp2 (q : Fin 128) (dd : Fin 8) (a : Opnd) (s : State) : Out :=
  quernStep (.exp2 q dd a) q (onQuern q (opExp2 dd a)) s
/-- ENV. -/
def execEnv (q : Fin 128) (cf : Bool) (dd : Fin 8) (a b : Opnd) (s : State) : Out :=
  quernStep (.env q cf dd a b) q (onQuern q (opEnv cf dd a b)) s
/-- PEAK. -/
def execPeak (q : Fin 128) (dd : Fin 8) (a : Opnd) (s : State) : Out :=
  quernStep (.peak q dd a) q (onQuern q (opPeak dd a)) s

end Sys2Proof.Machine
end

