-- ==== Sys2Proof/Machine/QuernDelay.lean ====
section
/-! DEFINITION. The delay-line operations of the Quern: TAP, TAPF, PUT (R95 to R97, R138, R141,
R142, R144, R152). -/

namespace Sys2Proof.Machine

/-- Window n of the Quern's active program; an absent one is unbound. -/
def Quern.window (u : Quern) (n : Nat) : Window := ((u.active.map (·.windows)).getD [])[n]?.getD {}

/-- The write index the pass uses for window n: that of the Bell on which it started (R129, R140). -/
def passIdx (u : Quern) (n : Nat) (l : Line) : Nat :=
  if u.running then Tab.get 0 u.winIdx n else l.widx

/-- An integer offset on line l as Quern q may use it: raised to 1 on another Quern's line, then clamped to LENGTH - 1 (DEDUCED,
log 54: R96 gives no order), with whether it was raised or clamped (R96). -/
def clampOffset (q : Nat) (l : Line) (o : Nat) : Nat × Bool :=
  let o1 := if l.owner ≠ q ∧ o < 1 then 1 else o
  (Nat.min o1 (l.length - 1), decide (o1 ≠ o) || decide (l.length - 1 < o1))

/-- Line-relative index at offset o behind write index w (R141). -/
def lineIndex (l : Line) (w o : Nat) : Nat := if l.length = 0 then 0 else (w + l.length - o) % l.length

/-- The class of a Quern's access to hamlet h: 0 its own hamlet, 1 over the ring (R150). -/
def accessClass (q h : Nat) : Nat := if q / 16 = h then 0 else 1

/-- What a late pass of Quern q has put at index j of its own line, still in the put buffer (R87, R141, R144). -/
def pendingPut (u : Quern) (q : Nat) (l : Line) (j : Nat) : Option Sample :=
  if u.lateBells ≠ 0 ∧ l.owner = q then (l.put.filter (fun p => p.1 == j)).map (·.2) else none

/-- One read through entry e at index j: the word that the pass has put there, or the granary word, and the state with any bus
error set (R87, R141). -/
def tapWord (q e j : Nat) (s : State) : Sample × State :=
  let l := line s e
  let b := posBank l.hamlet (l.pos j)
  if (bank s b).owner = 0 then ((pendingPut (quern s q) q l j).getD (granGet s l.hamlet (l.pos j)), s)
  else (0, modLine (bankErr s b (accessClass q l.hamlet)) e (fun k => { k with busErr := true }))

/-- CLAMPED of the entry and PF of the Quern when an offset was changed (R96, R102). -/
def noteClamp (q e : Nat) (c : Bool) (s : State) : State :=
  if c then modQuern (modLine s e (fun k => { k with clamped := true })) q Quern.setPf else s

/-- An access through an entry that is not VALID (R138): BUS_ERR of the entry. -/
def noteInvalid (e : Nat) (s : State) : State := modLine s e (fun k => { k with busErr := true })

/-- The unsigned offset word of TAP and TAPF (R81, R84): an immediate is used as it stands. -/
def offsetWord (s : State) (u : Quern) (b : Opnd) : Nat :=
  match b with
  | .imm v => v.toNat
  | o => (readOp s u o).toNat

/-- TAP (R95). -/
def opTap (q : Nat) (dd : Fin 8) (win : Fin 32) (b : Opnd) (s : State) : State :=
  let u := quern s q
  let w := u.window win
  let l := line s w.entry
  if l.valid then
    let c := clampOffset q l (w.bias + offsetWord s u b)
    let r := tapWord q w.entry (lineIndex l (passIdx u win l) c.1) (noteClamp q w.entry c.2 s)
    modQuern r.2 q (fun k => k.setD dd r.1)
  else modQuern (noteInvalid w.entry s) q (fun k => k.setD dd 0)

/-- TAPF's result (R95): interpolated between x0 and x1 by F/256, convergent. -/
def tapfWord (x0 x1 : Sample) (f : Nat) : Sample :=
  smp (rneDiv (256 * x0.toInt + f * (x1.toInt - x0.toInt)) 256)

/-- TAPF (R95, R142). -/
def opTapf (q : Nat) (dd : Fin 8) (win : Fin 32) (b : Opnd) (s : State) : State :=
  let u := quern s q
  let w := u.window win
  let l := line s w.entry
  if l.valid then
    let v := offsetWord s u b
    let o := w.bias + v / 256
    let low := l.owner ≠ q ∧ o < 1
    let f := if low then 0 else v % 256
    let o' := if low then 1 else o
    let c0 := clampOffset q l o'
    let c1 := clampOffset q l (o' + 1)
    let wi := passIdx u win l
    let s1 := noteClamp q w.entry (decide low || c0.2 || c1.2) s
    let r0 := tapWord q w.entry (lineIndex l wi c0.1) s1
    let r1 := tapWord q w.entry (lineIndex l wi c1.1) r0.2
    modQuern r1.2 q (fun k => k.setD dd (tapfWord r0.1 r1.1 f))
  else modQuern (noteInvalid w.entry s) q (fun k => k.setD dd 0)

/-- A word written through entry e at index j by Quern q (R141, R152). -/
def putWord (q e j : Nat) (v : Sample) (s : State) : State :=
  let l := line s e
  let b := posBank l.hamlet (l.pos j)
  if (bank s b).owner = 0 then granPut s l.hamlet (l.pos j) v
  else modLine (bankErr s b (accessClass q l.hamlet)) e (fun k => { k with busErr := true })

/-- PUT (R97, R144): at once by a pass of the present Bell; into the line's put buffer by a pass
that has been marked late, and as a copy by the pass of Bell J - 1 (R305); not performed where the loader would refuse it. -/
def opPut (q : Nat) (win : Fin 32) (src : Fin 8) (s : State) : State :=
  let u := quern s q
  let w := u.window win
  let l := line s w.entry
  if l.valid then
    if l.owner ≠ q ∨ l.stored then s
    else
      let s1 := if u.lateBells = 0 then putWord q w.entry (passIdx u win l) (u.dreg src) s else s
      if u.lateBells ≠ 0 ∨ (quernDom u).any (captures s) then
        modLine s1 w.entry (fun k => { k with put := some (passIdx u win l, u.dreg src) })
      else s1
  else noteInvalid w.entry s

/-- A row through a window: stopped where the loader refuses it (0x0E: the window is not bound). -/
def windowStep (i : Instr) (q : Fin 128) (win : Fin 32) (op : State → State) (s : State) : Out :=
  match loaderCode i with
  | some c => .fault (.rejectedAtLoad c)
  | none =>
    if ((quern s q).window win).bound then .next (quernSlot q op s) else .fault (.rejectedAtLoad 0x0E)

/-- TAP. -/
def execTap (q : Fin 128) (dd : Fin 8) (win : Fin 32) (b : Opnd) (s : State) : Out :=
  windowStep (.tap q dd win b) q win (opTap q dd win b) s
/-- TAPF. -/
def execTapf (q : Fin 128) (dd : Fin 8) (win : Fin 32) (b : Opnd) (s : State) : Out :=
  windowStep (.tapf q dd win b) q win (opTapf q dd win b) s
/-- PUT; code 0x0F where the Quern does not own the line or the line is STORED (R105). -/
def execPut (q : Fin 128) (win : Fin 32) (src : Fin 8) (s : State) : Out :=
  let l := line s ((quern s q).window win).entry
  if l.valid ∧ (l.owner ≠ q.val ∨ l.stored) then .fault (.rejectedAtLoad 0x0F)
  else windowStep (.put q win src) q win (opPut q win src) s

end Sys2Proof.Machine
end

