-- ==== Sys2Proof/Machine/QuernMul.lean ====
section
/-! DEFINITION. The multiply and accumulator operations of the Quern (R77, R78, R85): MPY to DMSU,
LDA to SHA, STA, STAM. Each `op…` is the effect on the Quern, each `exec…` the row. -/

namespace Sys2Proof.Machine

/-- An accumulator takes an exact value saturated once to 52 bits (R77). -/
def Quern.accPut (u : Quern) (n : Nat) (x : Int) : Quern :=
  (u.setAcc n (sat52 x).1).orOva (sat52 x).2

/-- ACC1 := f (old ACC1) (a * b), operands then post-modified. -/
def mulOp (acc1 : Fin 4) (cf : Bool) (a b : Opnd) (f : Int → Int → Int) (s : State) (u : Quern) : Quern :=
  ((u.accPut acc1 (f (u.accu acc1).toInt (product cf (readOp s u a) (readOp s u b)))).advance a).advance b

/-- ACC1 and ACC2 take f of their old value and the products of the two halves of the pairs. -/
def pairOp (acc1 acc2 : Fin 4) (cf : Bool) (a b : Opnd) (f : Int → Int → Int) (s : State) (u : Quern) : Quern :=
  let x := readPair s u a
  let y := readPair s u b
  let p := product cf x.1 y.1
  let r := product cf x.2 y.2
  (((u.accPut acc1 (f (u.accu acc1).toInt p)).accPut acc2 (f (u.accu acc2).toInt r)).advance a).advance b

/-- ACC1 := f (old ACC1) (a0 * b0 + a1 * b1). -/
def dualOp (acc1 : Fin 4) (cf : Bool) (a b : Opnd) (f : Int → Int → Int) (s : State) (u : Quern) : Quern :=
  let x := readPair s u a
  let y := readPair s u b
  ((u.accPut acc1 (f (u.accu acc1).toInt (product cf x.1 y.1 + product cf x.2 y.2))).advance a).advance b

/-- ACC1 := f (old ACC1) (a, aligned). -/
def loadOp (acc1 : Fin 4) (cf : Bool) (a : Opnd) (f : Int → Int → Int) (s : State) (u : Quern) : Quern :=
  (u.accPut acc1 (f (u.accu acc1).toInt (aligned cf (readOp s u a)))).advance a

/-- ACC1 := f (old ACC1) ACC2. -/
def accOp (acc1 acc2 : Fin 4) (f : Int → Int → Int) (_ : State) (u : Quern) : Quern :=
  u.accPut acc1 (f (u.accu acc1).toInt (u.accu acc2).toInt)

/-- The second argument: an operation that replaces the accumulator. -/
def asgn (_ x : Int) : Int := x
/-- Accumulate. -/
def plus (x y : Int) : Int := x + y
/-- Subtract. -/
def minus (x y : Int) : Int := x - y

/-- MPY (R85). -/
def opMpy (acc1 : Fin 4) (cf : Bool) (a b : Opnd) := mulOp acc1 cf a b asgn
/-- MAC (R85). -/
def opMac (acc1 : Fin 4) (cf : Bool) (a b : Opnd) := mulOp acc1 cf a b plus
/-- MSU (R85). -/
def opMsu (acc1 : Fin 4) (cf : Bool) (a b : Opnd) := mulOp acc1 cf a b minus
/-- PMPY (R85). -/
def opPmpy (acc1 acc2 : Fin 4) (cf : Bool) (a b : Opnd) := pairOp acc1 acc2 cf a b asgn
/-- PMAC (R85). -/
def opPmac (acc1 acc2 : Fin 4) (cf : Bool) (a b : Opnd) := pairOp acc1 acc2 cf a b plus
/-- PMSU (R85). -/
def opPmsu (acc1 acc2 : Fin 4) (cf : Bool) (a b : Opnd) := pairOp acc1 acc2 cf a b minus
/-- DMPY (R85). -/
def opDmpy (acc1 : Fin 4) (cf : Bool) (a b : Opnd) := dualOp acc1 cf a b asgn
/-- DMAC (R85). -/
def opDmac (acc1 : Fin 4) (cf : Bool) (a b : Opnd) := dualOp acc1 cf a b plus
/-- DMSU (R85). -/
def opDmsu (acc1 : Fin 4) (cf : Bool) (a b : Opnd) := dualOp acc1 cf a b minus
/-- LDA (R85). -/
def opLda (acc1 : Fin 4) (cf : Bool) (a : Opnd) := loadOp acc1 cf a asgn
/-- ADDA (R85). -/
def opAdda (acc1 : Fin 4) (cf : Bool) (a : Opnd) := loadOp acc1 cf a plus
/-- SUBA (R85). -/
def opSuba (acc1 : Fin 4) (cf : Bool) (a : Opnd) := loadOp acc1 cf a minus
/-- CLRA (R85). -/
def opClra (acc1 : Fin 4) (_ : State) (u : Quern) : Quern := u.setAcc acc1 0
/-- MOVA (R85). -/
def opMova (acc1 acc2 : Fin 4) := accOp acc1 acc2 asgn
/-- ADDAA (R85). -/
def opAddaa (acc1 acc2 : Fin 4) := accOp acc1 acc2 plus
/-- SUBAA (R85). -/
def opSubaa (acc1 acc2 : Fin 4) := accOp acc1 acc2 minus
/-- SHA (R85): ACC1 shifted by a signed count. -/
def opSha (acc1 : Fin 4) (sh : BitVec 13) (_ : State) (u : Quern) : Quern :=
  u.accPut acc1 (shiftBy (u.accu acc1).toInt sh.toInt)
/-- STA (R78, R85): the store conversion of ACC1 into a data register. -/
def opSta (acc1 : Fin 4) (dd : Fin 8) (sh : BitVec 13) (_ : State) (u : Quern) : Quern :=
  (u.setD dd (storeConv (u.accu acc1) sh.toInt).1).orSat (storeConv (u.accu acc1) sh.toInt).2
/-- STAM (R78, R85): the store conversion of ACC1 into memory. -/
def opStam (acc1 : Fin 4) (a : Opnd) (sh : BitVec 13) (_ : State) (u : Quern) : Quern :=
  ((u.writeOp a (storeConv (u.accu acc1) sh.toInt).1).orSat (storeConv (u.accu acc1) sh.toInt).2).advance a

/-- MPY. -/
def execMpy (q : Fin 128) (acc1 : Fin 4) (cf : Bool) (a b : Opnd) (s : State) : Out :=
  quernStep (.mpy q acc1 cf a b) q (onQuern q (opMpy acc1 cf a b)) s
/-- MAC. -/
def execMac (q : Fin 128) (acc1 : Fin 4) (cf : Bool) (a b : Opnd) (s : State) : Out :=
  quernStep (.mac q acc1 cf a b) q (onQuern q (opMac acc1 cf a b)) s
/-- MSU. -/
def execMsu (q : Fin 128) (acc1 : Fin 4) (cf : Bool) (a b : Opnd) (s : State) : Out :=
  quernStep (.msu q acc1 cf a b) q (onQuern q (opMsu acc1 cf a b)) s
/-- PMPY. -/
def execPmpy (q : Fin 128) (acc1 acc2 : Fin 4) (cf : Bool) (a b : Opnd) (s : State) : Out :=
  quernStep (.pmpy q acc1 acc2 cf a b) q (onQuern q (opPmpy acc1 acc2 cf a b)) s
/-- PMAC. -/
def execPmac (q : Fin 128) (acc1 acc2 : Fin 4) (cf : Bool) (a b : Opnd) (s : State) : Out :=
  quernStep (.pmac q acc1 acc2 cf a b) q (onQuern q (opPmac acc1 acc2 cf a b)) s
/-- PMSU. -/
def execPmsu (q : Fin 128) (acc1 acc2 : Fin 4) (cf : Bool) (a b : Opnd) (s : State) : Out :=
  quernStep (.pmsu q acc1 acc2 cf a b) q (onQuern q (opPmsu acc1 acc2 cf a b)) s
/-- DMPY. -/
def execDmpy (q : Fin 128) (acc1 : Fin 4) (cf : Bool) (a b : Opnd) (s : State) : Out :=
  quernStep (.dmpy q acc1 cf a b) q (onQuern q (opDmpy acc1 cf a b)) s
/-- DMAC. -/
def execDmac (q : Fin 128) (acc1 : Fin 4) (cf : Bool) (a b : Opnd) (s : State) : Out :=
  quernStep (.dmac q acc1 cf a b) q (onQuern q (opDmac acc1 cf a b)) s
/-- DMSU. -/
def execDmsu (q : Fin 128) (acc1 : Fin 4) (cf : Bool) (a b : Opnd) (s : State) : Out :=
  quernStep (.dmsu q acc1 cf a b) q (onQuern q (opDmsu acc1 cf a b)) s
/-- LDA. -/
def execLda (q : Fin 128) (acc1 : Fin 4) (cf : Bool) (a : Opnd) (s : State) : Out :=
  quernStep (.lda q acc1 cf a) q (onQuern q (opLda acc1 cf a)) s
/-- ADDA. -/
def execAdda (q : Fin 128) (acc1 : Fin 4) (cf : Bool) (a : Opnd) (s : State) : Out :=
  quernStep (.adda q acc1 cf a) q (onQuern q (opAdda acc1 cf a)) s
/-- SUBA. -/
def execSuba (q : Fin 128) (acc1 : Fin 4) (cf : Bool) (a : Opnd) (s : State) : Out :=
  quernStep (.suba q acc1 cf a) q (onQuern q (opSuba acc1 cf a)) s
/-- CLRA. -/
def execClra (q : Fin 128) (acc1 : Fin 4) (s : State) : Out :=
  quernStep (.clra q acc1) q (onQuern q (opClra acc1)) s
/-- MOVA. -/
def execMova (q : Fin 128) (acc1 acc2 : Fin 4) (s : State) : Out :=
  quernStep (.mova q acc1 acc2) q (onQuern q (opMova acc1 acc2)) s
/-- ADDAA. -/
def execAddaa (q : Fin 128) (acc1 acc2 : Fin 4) (s : State) : Out :=
  quernStep (.addaa q acc1 acc2) q (onQuern q (opAddaa acc1 acc2)) s
/-- SUBAA. -/
def execSubaa (q : Fin 128) (acc1 acc2 : Fin 4) (s : State) : Out :=
  quernStep (.subaa q acc1 acc2) q (onQuern q (opSubaa acc1 acc2)) s
/-- SHA. -/
def execSha (q : Fin 128) (acc1 : Fin 4) (sh : BitVec 13) (s : State) : Out :=
  quernStep (.sha q acc1 sh) q (onQuern q (opSha acc1 sh)) s
/-- STA. -/
def execSta (q : Fin 128) (acc1 : Fin 4) (dd : Fin 8) (sh : BitVec 13) (s : State) : Out :=
  quernStep (.sta q acc1 dd sh) q (onQuern q (opSta acc1 dd sh)) s
/-- STAM. -/
def execStam (q : Fin 128) (acc1 : Fin 4) (a : Opnd) (sh : BitVec 13) (s : State) : Out :=
  quernStep (.stam q acc1 a sh) q (onQuern q (opStam acc1 a sh)) s

end Sys2Proof.Machine
end

