-- ==== Sys2Proof/Machine/Pass.lean ====
section
/-! DEFINITION. Running a Quern's program from its store: the effect of each instruction by its
shared operation, and the slots of a pass in order (R71, R87, R99). -/

namespace Sys2Proof.Machine

/-- The effect of one Quern instruction as one program slot; other commands have none here. -/
def runSlot (i : Instr) (s : State) : State :=
  match i with
  | .nop q => quernSlot q (onQuern q opNop) s
  | .rep q n => repSlot q n s
  | .mpy q x c a b => quernSlot q (onQuern q (opMpy x c a b)) s
  | .mac q x c a b => quernSlot q (onQuern q (opMac x c a b)) s
  | .msu q x c a b => quernSlot q (onQuern q (opMsu x c a b)) s
  | .pmpy q x y c a b => quernSlot q (onQuern q (opPmpy x y c a b)) s
  | .pmac q x y c a b => quernSlot q (onQuern q (opPmac x y c a b)) s
  | .pmsu q x y c a b => quernSlot q (onQuern q (opPmsu x y c a b)) s
  | .dmpy q x c a b => quernSlot q (onQuern q (opDmpy x c a b)) s
  | .dmac q x c a b => quernSlot q (onQuern q (opDmac x c a b)) s
  | .dmsu q x c a b => quernSlot q (onQuern q (opDmsu x c a b)) s
  | .lda q x c a => quernSlot q (onQuern q (opLda x c a)) s
  | .adda q x c a => quernSlot q (onQuern q (opAdda x c a)) s
  | .suba q x c a => quernSlot q (onQuern q (opSuba x c a)) s
  | .clra q x => quernSlot q (onQuern q (opClra x)) s
  | .mova q x y => quernSlot q (onQuern q (opMova x y)) s
  | .addaa q x y => quernSlot q (onQuern q (opAddaa x y)) s
  | .subaa q x y => quernSlot q (onQuern q (opSubaa x y)) s
  | .sha q x k => quernSlot q (onQuern q (opSha x k)) s
  | .sta q x e k => quernSlot q (onQuern q (opSta x e k)) s
  | .stam q x a k => quernSlot q (onQuern q (opStam x a k)) s
  | .mov q e a => quernSlot q (onQuern q (opMov e a)) s
  | .add q e a b => quernSlot q (onQuern q (opAdd e a b)) s
  | .sub q e a b => quernSlot q (onQuern q (opSub e a b)) s
  | .abs q e a => quernSlot q (onQuern q (opAbs e a)) s
  | .neg q e a => quernSlot q (onQuern q (opNeg e a)) s
  | .min q e a b => quernSlot q (onQuern q (opMin e a b)) s
  | .max q e a b => quernSlot q (onQuern q (opMax e a b)) s
  | .shf q e a k => quernSlot q (onQuern q (opShf e a k)) s
  | .st q a b => quernSlot q (onQuern q (opSt a b)) s
  | .setp q f p b => quernSlot q (onQuern q (opSetp f p b)) s
  | .cmp q a b => quernSlot q (onQuern q (opCmp a b)) s
  | .cmpa q x y => quernSlot q (onQuern q (opCmpa x y)) s
  | .tstf q a => quernSlot q (onQuern q (opTstf a)) s
  | .sel q c e a b => quernSlot q (onQuern q (opSel c e a b)) s
  | .sela q x y c => quernSlot q (onQuern q (opSela x y c)) s
  | .log2 q e a => quernSlot q (onQuern q (opLog2 e a)) s
  | .exp2 q e a => quernSlot q (onQuern q (opExp2 e a)) s
  | .env q c e a b => quernSlot q (onQuern q (opEnv c e a b)) s
  | .peak q e a => quernSlot q (onQuern q (opPeak e a)) s
  | .tap q e w b => quernSlot q (opTap q e w b) s
  | .tapf q e w b => quernSlot q (opTapf q e w b) s
  | .put q w r => quernSlot q (opPut q w r) s
  | _ => s

/-- The words of Quern q's store from its present slot to the last, run in order. -/
def runRest (q : Nat) (s : State) : State :=
  let ws := ((quern s q).active.map (·.words)).getD []
  (ws.drop (quern s q).pc).foldl
    (fun t w => match decodeQuern (Fin.ofNat 128 q) w with
      | .ok i => runSlot i t
      | .error _ => t) s

end Sys2Proof.Machine
end

