-- ==== Sys2Proof/Config.lean ====
section
/-! DEFINITION. What the spec leaves open: functions and values it names but does not fix, as
constants without a body, so that no proof can see a value (logs 8 to 14, 104 and 107). -/

namespace Sys2Proof.Config

/-- SHA-384 of a byte string (R114, R345, R361); the standard fixes it, the spec names it only. -/
opaque sha384 : List (BitVec 8) → BitVec 384
/-- ECDSA P-384 verification: public key (96 bytes), signature (96 bytes), message digest (R114). -/
opaque ecdsaOk : List (BitVec 8) → List (BitVec 8) → BitVec 384 → Bool
/-- HMAC-SHA-384 of a byte string under a 256-bit key (R361). -/
opaque hmac384 : BitVec 256 → List (BitVec 8) → BitVec 384
/-- AES-256-GCM encryption (R353): key, header as additional data, plaintext; ciphertext and tag. -/
opaque gcmSeal : BitVec 256 → List (BitVec 8) → List (BitVec 8) → List (BitVec 8)
/-- AES-256-GCM decryption (R353): key, header, ciphertext and tag; none on a tag mismatch. -/
opaque gcmOpen : BitVec 256 → List (BitVec 8) → List (BitVec 8) → Option (List (BitVec 8))
/-- Free values, one for each count of `State.fresh`: the entropy source (R353, R355, R361). -/
opaque entropy : Nat → BitVec 256
/-- By how much, in 0.01 dB modulo 20 and less 10, a detector's LEVEL differs from the formula of R256: FREQ and the
block's samples, latest first. -/
opaque levelError : Nat → List Int → Nat
/-- LEVEL, in 0.01 dB, where R256 states no accuracy: below 60 dB, or louder than full scale. -/
opaque levelOpen : Nat → List Int → Nat
/-- Whether a level between two hundredths of a decibel, or a delay between two microseconds, is rounded upwards (R244,
R254). -/
opaque roundsUp : Nat → Nat → Bool
/-- A level in 0.01 dB of a ratio that has no logarithm (R244). -/
opaque logOpen : Nat → Nat → Int
/-- An arrival delay that comes out below zero (R244): the response. -/
opaque arrivalOpen : List Int → Int
/-- A modulation transfer in units of 2^-20 corrected for the noise floor (R244), by a formula the spec does not state: the
value, the band's energy and the mean square of the noise floor. -/
opaque mtfNoise : Int → Nat → Nat → Int
/-- The speech level of an octave band in 0.01 dB SPL at SPEECH_LEVEL (R244): the spectrum stands in IEC 60268-16. -/
opaque speechBand : Nat → Nat → Int
/-- The index in 0.001 by the weightings, masking and reception threshold of IEC 60268-16, which the spec names only (R244):
SPEECH_LEVEL, the ambient levels (none without noise), the modulation transfers of the seven bands. -/
opaque sti : Nat → List Int → List (List Int) → Int
/-- 524,288 times the injection gain, at most 524,288, of a zone with no baseline in a campaign that is none (R244): the
captures of its microphones. -/
opaque gainOpen : List (Nat × List Nat) → Nat
/-- A Stile output sample (R195, R197): the words of its interpolation span, latest first, the nominal ratio and the
interpolation phase. -/
opaque stileOut : List Sample → Nat → Nat → Sample
/-- Whether a Stile's delay lies within its bounds (R196): Stile, interpolation phase. -/
opaque stileTracks : Nat → Nat → Bool
/-- The interpolation span of a Stile (R195), whose length the spec does not state: from the nominal ratio and the phase, where
its centre lies within the bounds of the delay, and how far it reaches to each side, both taken modulo what is possible. -/
opaque stileSpan : Nat → Nat → Nat × Nat
/-- The output of a Sieve's high-pass filter for one sample (R222): Sieve, sample, free count. -/
opaque sieveHpf : Nat → Sample → Nat → Sample
/-- The Crier's interpolator (R272): output channel, 16 kHz value, free count, and the sample of the port's rate: 0 to 2 the
frames of a 16 kHz period, 3 + b the Bell b. -/
opaque crierInterp : Nat → Sample → Nat → Nat → Sample
/-- Whether the microphone envelope lies above the VOX threshold (R271): VOX_DB, scaled sample,
previous state, free count. -/
opaque crierVox : Nat → Sample → Bool → Nat → Bool
/-- Bytes that the frame in progress on the flash port has sent when the Crier stops it (R479): it depends on time. -/
opaque bytesSent : Nat → Nat
/-- How many of the flash operations of the Gatehouse a reset or a failure finds done (R349, R364). -/
opaque cutSteps : Nat → Nat
/-- The bits of a flash byte that an erase or program cut short leaves as they were (R343, R349). -/
opaque cutByte : Nat → Nat → BitVec 8
/-- The bytes of the Crier's header memory where no store has passed (R268): the spec says that microphone and forced
channels work then too, and not with which settings. -/
opaque crierHeader : Nat → BitVec 8
/-- An interpolation phase of a Stile in units of 2^-26 of a source period (R197). -/
opaque stilePhase : Nat → Nat → Nat

/-- MIRROR_CRC of a list of mirrored channels (R287, R288); the encoding of the set is not stated. -/
opaque mirrorCrc : List Nat → Word
/-- Whether the tracking rounds of a copy leave few enough dirty words that the join Bell is stated, at a Bell of the lowest
enabled domain (R303 step 5): it depends on the link. -/
opaque copyReady : Nat → Bool
/-- The CRC-32C of R181 over the staged targets and values of a set (Quern, kind, address, value,
glide); the encoding is not stated. -/
opaque setCrc : List (Nat × Nat × Nat × Sample × Nat) → Word
/-- The words a DMA channel has moved when a STOP meets it (R397), from a count of free values. -/
opaque dmaProgress : Nat → Nat

/-- The slot results of `CRIER_STATUS` w5 [3:0], from whether slots A and B passed; the spec gives no coding. -/
opaque crierResults : Bool → Bool → BitVec 4

/-- The sealed bytes that `CONFIG_SAVE` reports, from the save counter; the spec gives the object no layout. -/
opaque sealedBytes : Nat → BitVec 32
/-- Whether an RMA authorisation verifies (R355): digest of the firmware key, the signature's 24 words, DEVICE_ID
and the nonce. -/
opaque rmaAuth : BitVec 384 → List Word → BitVec 128 → Nat → Bool
/-- The lowest slack that `POWER_STATUS` reports for a Bell at which no pass finished, from a count of free values. -/
opaque noSlack : Nat → Nat
/-- The element index in the detail word of a refusal, by its detail code, where the spec states none (R115, R185). -/
opaque noElement : Nat → BitVec 12
/-- The detail code of a refusal, by its status, where the spec gives the status and no code (R317, R329, R481). -/
opaque noDetail : Nat → BitVec 8

end Sys2Proof.Config
end

