-- ==== Sys2Proof/Machine/Events.lean ====
section
/-! DEFINITION. The event queue (R427 to R430, R464, R465), the active faults, FAULT_N and the fault
log's records (R485 to R492). -/

namespace Sys2Proof.Machine

/-- Jexolaryn runs: started and not held (R334, R277). -/
def jexOn (s : State) : Bool := s.jex.started

/-- The first n words of a list, filled up with zeros. -/
def padWords (n : Nat) (l : List Word) : List Word := (l ++ List.replicate n 0).take n

/-- A number put into a list sorted upwards, once. -/
def insertSorted (n : Nat) : List Nat → List Nat
  | [] => [n]
  | m :: t => if n < m then n :: m :: t else if n = m then m :: t else m :: insertSorted n t

/-- An entry added to the event queue (R427, R430): at 63 entries the overflow marker stands in its
place, at 64 nothing is stored; the answer says whether the event itself was stored. -/
def appendEvent (code : Nat) (payload : List Word) (s : State) : State × Bool :=
  let h := s.host
  let entry : Nat → List Word → Event := fun c p =>
    { code := c, seq := h.evSeq, time := timeStamp s, tick := s.aon.tick, payload := padWords 5 p }
  if h.evq.length < 63 then
    (s.setHost { h with evq := h.evq ++ [entry code payload], evSeq := (h.evSeq + 1) % 65536 }, true)
  else if h.evq.length = 63 then
    (s.setHost { h with evq := h.evq ++ [entry 0xFFFF []], evSeq := (h.evSeq + 1) % 65536,
                        overflow := true, lost := satAdd h.lost 1 16 }, false)
  else (s.setHost { h with lost := satAdd h.lost 1 16 }, false)

/-- A refused event is remembered for EVENTS_LOST (R465). -/
def noteRefused (code : Nat) (s : State) : State :=
  modHost s (fun h => { h with refused := insertSorted code h.refused, refusedCount := h.refusedCount + 1 })

/-- Codes two to a word, the lower in bits [15:0] (DESIGN CHOICE, log 17). -/
def pairCodes : List Nat → List Word
  | [] => []
  | [a] => [wrd a]
  | a :: b :: t => wrd (a + 65536 * b) :: pairCodes t

/-- EVENTS_LOST is posted once the queue has room again (R465). -/
def postLost (s : State) : State :=
  if s.host.refused = [] ∨ 63 ≤ s.host.evq.length then s
  else (appendEvent 0x0004 (wrd s.host.refusedCount :: pairCodes (s.host.refused.take 8))
    (modHost s (fun h => { h with refused := [], refusedCount := 0 }))).1

/-- Jexolaryn posts an event (R430, R464, R465); nothing is posted while it does not run. -/
def postEvent (code : Nat) (payload : List Word) (s : State) : State :=
  if jexOn s then
    let r := appendEvent code payload (postLost s)
    if r.2 then r.1 else noteRefused code r.1
  else s

/-! ### Faults -/

/-- How a fault clears (R489). -/
inductive Clears | c | a | ca | p
  deriving DecidableEq, Repr

/-- The catalogue of R489: clears, asserts FAULT_N, and the bits of w4 that tell one instance of the
code from another. -/
def catalogue : List (Nat × Clears × Bool × Nat) :=
  [(0x0001, .a, true, 0), (0x0002, .a, true, 0), (0x0003, .a, true, 0), (0x0004, .c, true, 0),
   (0x0005, .c, false, 1), (0x0006, .c, true, 0), (0x0007, .c, true, 0), (0x0008, .a, true, 1),
   (0x0101, .ca, true, 0x37F), (0x0102, .a, false, 0x7F), (0x0103, .a, false, 0x3FFF007F),
   (0x0104, .a, false, 0x3FFF007F), (0x0105, .a, true, 0x3FFF007F), (0x0106, .c, false, 0x7F),
   (0x0201, .c, true, 0x3), (0x0202, .c, true, 0x7), (0x0203, .c, false, 0), (0x0204, .c, false, 0x3F)]
  ++ [(0x0301, .c, true, 0x1FF), (0x0302, .c, true, 0x1FF), (0x0303, .c, true, 0x1FF),
   (0x0304, .c, true, 0x3F), (0x0305, .a, false, 0xFF), (0x0306, .p, true, 0x0FFF0000),
   (0x0401, .c, true, 0), (0x0402, .a, false, 0x3), (0x0403, .a, false, 0), (0x0501, .a, false, 0),
   (0x0502, .c, true, 0), (0x0503, .c, false, 0), (0x0504, .c, true, 0)]

/-- The row of a fault code. -/
def faultRow (code : Nat) : Option (Clears × Bool × Nat) := (catalogue.find? (fun r => r.1 == code)).map (·.2)

/-- w4 of a fault payload. -/
def payloadW4 (p : List Word) : Word := p.headD 0

/-- An active instance is the one a code and payload name. -/
def FaultInst.named (i : FaultInst) (code : Nat) (payload : List Word) : Bool :=
  i.code == code && match faultRow code with
    | some (_, _, m) => (payloadW4 i.payload).toNat &&& m == (payloadW4 payload).toNat &&& m
    | none => false

/-- FAULT_N is asserted (R485). -/
def faultPin (s : State) : Bool :=
  s.faults.hwWdog || s.faults.hwOverrun || s.faults.hwBoot || s.faults.fwAssert

/-- The distinct codes of a list of instances. -/
def activeCodes (l : List FaultInst) : List Nat := l.foldl (fun acc i => insertSorted i.code acc) []

/-- FAULT_FW follows the active instances (R487, R488); after a restart of Jexolaryn an ASSERT that stood stays
until the rewrite (log 36). -/
def refreshFw (s : State) : State :=
  modFaults s (fun f =>
    { f with
      fwActive := (activeCodes f.active).length
      fwUnacked := (activeCodes (f.active.filter (fun i => !i.acked))).length
      fwAssert := (f.stale.isSome && f.fwAssert) || f.active.any (fun i => match faultRow i.code with | some (_, p, _) => p | none => false) })

/-- The role's code (R308). -/
def Role.code : Role → Nat
  | .single => 0 | .duty => 1 | .standby => 2

/-- The fault-log record of an event now (R492); it takes its SEQ when it is written, which leaves none out (DESIGN CHOICE,
log 167). -/
def newRecord (code kind : Nat) (payload : List Word) (s : State) : LogRec :=
  { code := code
    kind := kind
    pin := faultPin s
    role := s.twin.role.code
    mode := s.aon.mode.code
    time := if s.jex.clockSet then s.jex.clock else 0
    payload := padWords 4 payload }

/-- A fault-log record is formed (R492): held in working RAM, or lost when 256 are held. -/
def logRecord (code kind : Nat) (payload : List Word) (s : State) : State :=
  if s.faults.waiting.length < 256 then
    modFaults s (fun f =>
      { f with
        waiting := f.waiting ++ [newRecord code kind payload s] })
  else postEvent 0x0004 [1, wrd code] (modFaults s (fun f => { f with skipNext := true }))

/-- w3 of FAULT_RAISED and FAULT_CLEARED (R464). -/
def faultW3 (code : Nat) (s : State) : Word := wrd (code + 65536 * b2n (faultPin s))

/-- A fault event and its log record: kind 0 RAISED, 1 CLEARED. -/
def faultEvent (code kind : Nat) (payload : List Word) (s : State) : State :=
  logRecord code kind payload
    (postEvent (if kind = 0 then 0x0005 else 0x0006) (faultW3 code s :: padWords 4 payload) s)

/-- The active instances that satisfy p passed through g. -/
def markInstances (p : FaultInst → Bool) (g : FaultInst → FaultInst) (s : State) : State :=
  modFaults s (fun f => { f with active := f.active.map (fun i => if p i then g i else i) })

/-- Jexolaryn raises a fault (R489, R490): a new instance, unacknowledged, with FAULT_NEW set; a C
condition that returns while its instance still counts as present posts nothing. -/
def raiseFault (code : Nat) (payload : List Word) (s : State) : State :=
  match jexOn s, faultRow code with
  | true, some (cl, _, _) =>
    if (cl == .c || cl == .ca) && s.faults.active.any (fun i => i.named code payload && i.cond) then s
    else
      faultEvent code 0 payload (refreshFw (modFaults s (fun f =>
        { f with
          active := f.active.map (fun i => if i.code = code then { i with acked := false } else i)
            ++ [{ code := code, payload := padWords 4 payload, cond := true }]
          new := true })))
  | _, _ => s

/-- Instances removed, each with its FAULT_CLEARED and log record (R489). -/
def clearInstances (p : FaultInst → Bool) (s : State) : State :=
  (s.faults.active.filter p).foldl (fun t i => faultEvent i.code 1 i.payload t)
    (refreshFw (modFaults s (fun f => { f with active := f.active.filter (fun i => !p i) })))

/-- The condition of an instance has been absent for 5 s (R489): a C fault clears, a C+A fault clears
once acknowledged. -/
def absentFault (code : Nat) (payload : List Word) (s : State) : State :=
  let hit := fun (i : FaultInst) => i.named code payload
  match jexOn s, faultRow code with
  | true, some (.c, _, _) => clearInstances hit s
  | true, some (.ca, _, _) =>
    clearInstances (fun i => hit i && i.acked)
      (markInstances hit (fun i => { i with cond := false, absent5 := true }) s)
  | _, _ => s

/-- FAULT_ACK of a code (R489, R490): A faults clear, C+A faults whose condition is absent clear, the
others become acknowledged. -/
def ackFault (code : Nat) (s : State) : State :=
  match faultRow code with
  | none => s
  | some (cl, _, _) =>
    let s1 := markInstances (fun i => i.code == code) (fun i => { i with acked := true }) s
    let s2 := (s.faults.active.filter (fun i => i.code == code && !i.acked)).foldl
      (fun t i => logRecord code 2 i.payload t) (refreshFw s1)
    match cl with
    | .a => clearInstances (fun i => i.code == code) s2
    | .ca => clearInstances (fun i => i.code == code && i.absent5) s2
    | .p => clearInstances (fun i => i.code == code && i.absent5) s2
    | .c => s2

/-- A later PASS of the zone and microphone of a VIGIL_FAIL instance (R489 "P"). -/
def passedFault (payload : List Word) (s : State) : State :=
  clearInstances (fun i => i.named 0x0306 payload && i.acked)
    (markInstances (fun i => i.named 0x0306 payload) (fun i => { i with cond := false, absent5 := true }) s)

end Sys2Proof.Machine
end

