-- ==== Sys2Proof/Machine/FlashPort.lean ====
section
/-! DEFINITION. The flash port: what the Gatehouse records of a flash (R476), the read instruction and the pins (R477), the
frames and their ranks (R478), a frame stopped for the Crier (R479), and suspended operations (R480). -/

namespace Sys2Proof.Machine

/-! ### Discovery (R476, R477) -/

/-- The bytes of a select that are used: none where a required declaration is missing; without the 4-byte table up to
16 MiB. -/
def usableBytes (d : Sfdp) (size : Nat) : Nat :=
  if d.revB && d.erases && d.suspends then (if d.fourByte then size else Nat.min size 0x1000000) else 0
/-- The first of 1-4-4, 1-1-4, 1-2-2, 1-1-2 and 1-1-1 fast read that is declared. -/
def bulkRead (d : Sfdp) : ReadKind :=
  if d.reads.getLsbD 3 then .r144 else if d.reads.getLsbD 2 then .r114 else if d.reads.getLsbD 1 then .r122
  else if d.reads.getLsbD 0 then .r112 else .r111
/-- Lanes of the address and mode cycles, and of the data. -/
def ReadKind.lanes : ReadKind → Nat × Nat
  | .r144 => (4, 4) | .r114 => (1, 4) | .r122 => (2, 2) | .r112 => (1, 2) | .r111 => (1, 1)
/-- Place of the read's mode and dummy cycles among those declared. -/
def ReadKind.index : ReadKind → Nat
  | .r144 => 0 | .r114 => 1 | .r122 => 2 | .r112 => 3 | .r111 => 4
/-- What the Gatehouse records of a flash of so many usable bytes; above 16 MiB the 4-byte instructions are used. -/
def recorded (d : Sfdp) (size : Nat) : FlashParams :=
  let c := d.cycles.getD (bulkRead d).index (0, 0)
  let wide := decide (0x1000000 < size)
  let op := fun (p : Nat × Nat) => if wide then p.2 else p.1
  { read := bulkRead d, mode := c.1, dummy := c.2, addr32 := wide, page := d.page, gap := d.gap
    quadVolatile := d.quadVolatile
    readOp := op (d.readOps.getD (bulkRead d).index (0, 0))
    fastOp := op (d.readOps.getD ReadKind.r111.index (0, 0))
    fastCycles := d.cycles.getD ReadKind.r111.index (0, 0)
    programOp := op d.programOp
    eraseOps := d.eraseOps.map op
    eraseMax := d.eraseMax
    programMax := d.programMax
    suspendOps := d.suspendOps
    programGap := d.programGap
    quadMethod := d.quadMethod }
/-- Quad enable before the first quad read: by a volatile write where one is declared, else by a non-volatile one where it
reads clear. -/
def Flash.enableQuad (k : Nat) (f : Flash) : Flash :=
  let p := (Tab.get {} f.params k : FlashParams)
  if p.read.lanes.2 ≠ 4 then f
  else if p.quadVolatile then { f with quad := Tab.set false f.quad k true }
  else { f with quadNv := Tab.set false f.quadNv k true }
/-- Step 3 of R334 on select k. -/
def Flash.discover (k : Nat) (f : Flash) : Flash :=
  let n := Tab.get 0 f.size k
  if n = 0 then f
  else ({ f with params := Tab.set {} f.params k (recorded (Tab.get {} f.sfdp k) n) } : Flash).enableQuad k

/-! ### Frames on the pins (R467, R477) -/

/-- The phases of a frame. -/
inductive FlashPhase | command | address | mode | dummy | data
  deriving DecidableEq, Repr
/-- What the engine does on a pin of FL_IO: the bits of the frame, high, high-impedance. -/
inductive IoDrive | bits | high | highZ
  deriving DecidableEq, Repr
/-- A frame on the port: an 8-bit instruction; address bits and lanes; mode cycles, in which 0xFF is driven, and dummy cycles;
data bytes and lanes, and whether the frame sends them. -/
structure FrameShape where
  op : Nat := 0
  addrBits : Nat := 0
  addrLanes : Nat := 1
  mode : Nat := 0
  dummy : Nat := 0
  bytes : Nat := 0
  lanes : Nat := 1
  sends : Bool := false
  deriving DecidableEq, Repr
/-- Lanes of a phase; the instruction takes one. -/
def FrameShape.lanesAt (x : FrameShape) : FlashPhase → Nat
  | .command => 1 | .address => x.addrLanes | .mode => x.addrLanes | .dummy => x.lanes | .data => x.lanes
/-- On one lane the data phase is full duplex, on two or four half duplex. -/
def FrameShape.fullDuplex (x : FrameShape) : Bool := x.lanes == 1
/-- The phases lie within R467. -/
def FrameShape.fits (x : FrameShape) : Bool :=
  decide (x.op < 256) && [0, 24, 32].contains x.addrBits && [1, 2, 4].contains x.addrLanes && [1, 2, 4].contains x.lanes &&
    decide (x.mode + x.dummy ≤ 31) && decide (x.bytes ≤ 65536)
/-- The byte that the engine drives in the mode cycles: no continuous read. -/
def modeByte : BitVec 8 := 0xFF
/-- Address bits of a frame with an address on select k. -/
def addrBits (f : Flash) (k : Nat) : Nat := if (Tab.get {} f.params k : FlashParams).addr32 then 32 else 24
/-- A frame as it goes over the port. Bulk reads take the recorded read; the Crier's are 1-1-1 fast reads; commands, status
reads, erases and page programs are 1-1-1. The instructions Write Enable 0x06 and Read Status 0x05 are the family's
(PRESUMED, log 165). -/
def Flash.shape (f : Flash) (x : Frame) : FrameShape :=
  let p := (Tab.get {} f.params x.sel : FlashParams)
  let erasing := (Tab.get {} f.chips x.sel : Chip).erasing
  match x.kind with
  | .read =>
    if x.rank = 1 then
      { op := p.fastOp, addrBits := addrBits f x.sel, mode := p.fastCycles.1, dummy := p.fastCycles.2, bytes := x.len }
    else
      { op := p.readOp, addrBits := addrBits f x.sel, addrLanes := p.read.lanes.1, mode := p.mode, dummy := p.dummy, bytes := x.len
        lanes := p.read.lanes.2 }
  | .program => { op := p.programOp, addrBits := addrBits f x.sel, bytes := x.len, sends := true }
  | .erase => { op := p.eraseOps.getD (b2n (decide (4096 < x.len))) 0, addrBits := addrBits f x.sel }
  | .writeEnable => { op := 0x06 }
  | .status => { op := 0x05, bytes := 1 }
  | .suspend => { op := p.suspendOps.getD (if erasing then 0 else 2) 0 }
  | .resume => { op := p.suspendOps.getD (if erasing then 1 else 3) 0 }
/-- Pin i of FL_IO in a phase: FL_IO[3:2] are high while the frame uses one or two lanes; on the lanes in use the frame's bits,
but high-impedance in the dummy cycles and in data that are received; on one lane FL_IO[0] sends and FL_IO[1] receives. -/
def FrameShape.pin (x : FrameShape) (p : FlashPhase) (i : Nat) : IoDrive :=
  if 2 ≤ i ∧ x.lanesAt p ≤ 2 then .high
  else if p = .dummy ∨ x.lanesAt p ≤ i ∨ (p = .data ∧ !x.fullDuplex ∧ !x.sends) then .highZ
  else .bits
/-- Clock of a frame in Hz: 80 MHz, for the Crier's reads 20 MHz (R274, R477). -/
def Frame.clock (x : Frame) : Nat := if x.rank = 1 then 20000000 else 80000000
/-- Nanoseconds of a byte on so many lanes at 80 MHz. -/
def byteNs (lanes : Nat) : Nat := 100 / lanes

/-! ### Operations (R481) -/

/-- Byte address of a flash operation. -/
def FlashStep.addr (st : FlashStep) : Nat := match st with | .erase a _ => a | .program a _ => a
/-- It is an erase. -/
def FlashStep.erases (st : FlashStep) : Bool := match st with | .erase _ _ => true | .program _ _ => false
/-- Bytes of a program. -/
def FlashStep.data (st : FlashStep) : List (BitVec 8) := match st with | .erase _ _ => [] | .program _ bs => bs
/-- Jexolaryn allows an operation twice its declared maximum time, in us. -/
def FlashParams.limit (p : FlashParams) (st : FlashStep) : Nat :=
  match st with
  | .erase _ n => 2000 * p.eraseMax.getD (b2n (decide (4096 < n))) 0
  | .program _ _ => 2 * p.programMax
/-- Jexolaryn polls an operation in progress every 20 us. -/
def pollUs : Nat := 20
/-- Byte address of the operation in progress. -/
def FlashOp.addr (o : FlashOp) : Nat := (o.steps.head?.map FlashStep.addr).getD 0
/-- The operation in progress is an erase. -/
def FlashOp.erases (o : FlashOp) : Bool := (o.steps.head?.map FlashStep.erases).getD false
/-- The operation in progress. -/
def FlashOp.now (o : FlashOp) : FlashStep := o.steps.headD (.program 0 [])
/-- The mailbox of the command that a row of operations belongs to. -/
def FlashWork.mailbox (w : FlashWork) : Option Nat := match w with | .cmd m => some m | .part m _ => some m | _ => Option.none

/-! ### Frames (R478) -/

/-- What the flash of select k is doing. -/
def Flash.chip (f : Flash) (k : Nat) : Chip := Tab.get {} f.chips k
/-- The flash of select k passed through g. -/
def Flash.modChip (f : Flash) (k : Nat) (g : Chip → Chip) : Flash := { f with chips := Tab.mod {} f.chips k g }

/-- The waiting frame served next: of the highest rank the first. -/
def nextOf : List Frame → Option Frame
  | [] => none
  | x :: l => match nextOf l with
    | none => some x
    | some y => if x.rank ≤ y.rank then some x else some y
/-- A suspend frame waits out the declared interval since the last resume (R480). -/
def Flash.mayBegin (f : Flash) (x : Frame) : Bool := x.kind != .suspend || (f.chip x.sel).resumeWait == 0
/-- At a frame boundary the waiting frame of the highest rank begins. -/
def Flash.begin (f : Flash) : Flash :=
  if f.frame.isSome then f
  else match nextOf (f.frames.filter f.mayBegin) with
    | some x => { f with frame := some x, frames := f.frames.erase x }
    | none => f
/-- A frame asks for the port. -/
def Flash.submit (x : Frame) (f : Flash) : Flash := ({ f with frames := f.frames ++ [x] } : Flash).begin

/-- A read of Jexolaryn asks for the port; of a flash whose erase or program runs it waits for the suspension, before which the
status is read (R480). -/
def Flash.askRead (x : Frame) (f : Flash) : Flash :=
  if (f.chip x.sel).busy ∧ (f.chip x.sel).suspendedBy = 0 ∧ 2 < x.rank then
    let g : Flash := { f with readers := f.readers ++ [x] }
    if f.frames.any (fun y => y.kind == .suspend && y.sel == x.sel) then g
    else (g.submit { rank := 5, sel := x.sel, kind := .status }).submit { rank := 5, sel := x.sel, kind := .suspend }
  else f.submit x
/-- The reads of select k that waited for the suspension ask for the port. -/
def Flash.freeReaders (k : Nat) (f : Flash) : Flash :=
  (f.readers.filter (fun x => x.sel == k)).foldl (fun g x => g.submit x) { f with readers := f.readers.filter (fun x => x.sel != k) }

/-- The operation on the flash of select k is suspended by a reader of rank r; the interval has been waited out. -/
def Flash.suspendFor (r k : Nat) (f : Flash) : Flash :=
  if (f.chip k).busy ∧ (f.chip k).suspendedBy = 0 then f.modChip k (fun c => { c with suspendedBy := r, resumeWait := 0 }) else f
/-- The suspended operation on the flash of select k runs on; the interval until the next suspension begins. -/
def Flash.resumed (k : Nat) (f : Flash) : Flash :=
  if (f.chip k).suspendedBy = 0 then f
  else
    let p := (Tab.get {} f.params k : FlashParams)
    f.modChip k (fun c => { c with suspendedBy := 0, resumeWait := if c.erasing then p.gap else p.programGap })
/-- A reader of rank r resumes only what it suspended itself. -/
def Flash.resumeOwn (r k : Nat) (f : Flash) : Flash := if (f.chip k).suspendedBy = r then f.resumed k else f

/-- After a read of Jexolaryn: the next frame of a longer read, or the resume of what it suspended, unless another of its reads
waits there (R478, R480). -/
def Flash.readOn (x : Frame) (f : Flash) : Flash :=
  if x.rest ≠ 0 then
    f.submit { x with addr := x.addr + x.len, len := Nat.min x.rest 4096, rest := x.rest - 4096 }
  else if 2 < (f.chip x.sel).suspendedBy ∧
      f.frames.all (fun y => y.sel != x.sel || (y.kind != .read && y.kind != .resume)) = true then
    f.submit { rank := 5, sel := x.sel, kind := .resume }
  else f

/-- What a frame that has been sent whole does to its flash. -/
def Flash.ended (x : Frame) (f : Flash) : Flash :=
  match x.kind with
  | .writeEnable => f.modChip x.sel (fun c => { c with enabled := true })
  | .erase | .program => f.modChip x.sel (fun c =>
      { c with busy := c.busy || c.enabled, erasing := if c.enabled then x.kind == .erase else c.erasing, enabled := false })
  | .read => f.readOn x
  | .suspend => (f.suspendFor 4 x.sel).freeReaders x.sel
  | .resume => f.resumed x.sel
  | .status => f
/-- The frame in progress ends and the next begins. -/
def Flash.endFrame (f : Flash) : Flash :=
  match f.frame with
  | none => f.begin
  | some x => (({ f with frame := none } : Flash).ended x).begin
/-- At most so many frames served one after another. -/
def Flash.serve : Nat → Flash → Flash
  | 0, f => f
  | n + 1, f => if f.frame.isNone && f.frames.isEmpty then f else Flash.serve n f.endFrame
/-- The frames that wait are served, and up to four that follow them: parts of a longer read, a resume (DESIGN CHOICE,
log 107). -/
def Flash.run (f : Flash) : Flash := f.serve (f.frames.length + 4)

/-- The frames of an operation of rank r: write enable, then the command. -/
def Flash.operate (r k : Nat) (st : FlashStep) (f : Flash) : Flash :=
  let p := (Tab.get {} f.params k : FlashParams)
  (f.submit { rank := r, sel := k, kind := .writeEnable }).submit
    (match st with
      | .erase a n => { rank := r, sel := k, kind := .erase, addr := a, len := n }
      | .program a bs => { rank := r, sel := k, kind := .program, addr := a, len := if bs = [] then p.page else bs.length })
/-- A frame of an erase or program by a user of rank r on select k. -/
def Frame.ofOperation (r k : Nat) (x : Frame) : Bool :=
  x.rank == r && x.sel == k && (x.kind == .writeEnable || x.kind == .erase || x.kind == .program || x.kind == .status)
/-- No frame of an operation that is complete is left on the port. -/
def Flash.dropOperation (r k : Nat) (f : Flash) : Flash :=
  ({ f with frame := f.frame.filter (fun x => !x.ofOperation r k), frames := f.frames.filter (fun x => !x.ofOperation r k) } : Flash).begin
/-- The operation on select k is complete: the poll that shows it, and the page that has been programmed read back (R481). -/
def Flash.complete (r k : Nat) (st : FlashStep) (f : Flash) : Flash :=
  let f1 := ((((f.submit { rank := r, sel := k, kind := .status }).run.dropOperation r k).modChip k (fun _ => {})).freeReaders k).run
  match st with
  | .erase _ _ => f1
  | .program a bs =>
    let n := if bs = [] then (Tab.get {} f.params k : FlashParams).page else bs.length
    (f1.submit { rank := Nat.min r 4, sel := k, kind := .read, addr := a, len := n }).run
/-- A read of n bytes in frames of at most 4 KiB asks for the port with its first frame; playback and chimes have one frame
waiting at a time. -/
def Flash.wantRead (r k addr n : Nat) (f : Flash) : Flash :=
  if n = 0 ∨ (r = 3 ∧ (f.frames ++ f.readers).any (fun x => x.rank == r) = true) then f
  else f.askRead { rank := r, sel := k, kind := .read, addr := addr, len := Nat.min n 4096, rest := if r = 3 then 0 else n - 4096 }
/-- So many nanoseconds pass of the intervals after a resume. -/
def Flash.pass (ns : Nat) (f : Flash) : Flash :=
  { f with chips := f.chips.map (fun e => (e.1, { e.2 with resumeWait := e.2.resumeWait - ns })) }

/-! ### The Crier's reads (R274, R479, R480) -/

/-- A frame stopped after n of its bytes, as it is repeated: a read or page program from the byte where it stopped, any other
whole. -/
def Frame.repeated (x : Frame) (n : Nat) : Option Frame :=
  match x.kind with
  | .read | .program => if x.len ≤ n then none else some { x with addr := x.addr + n, len := x.len - n }
  | _ => some x
/-- The frame in progress stops at a byte boundary after n bytes: the bytes of a page program that have been sent are
programmed, and what is left of the frame goes first among those that wait. -/
def Flash.stop (n : Nat) (f : Flash) : Flash :=
  match f.frame with
  | none => f
  | some x =>
    let g : Flash := { f with frame := none }
    let sent := if x.kind = .program ∧ 0 < n ∧ n < x.len then
        g.modChip x.sel (fun c => { c with busy := c.busy || c.enabled }) else g
    match x.repeated n with
    | some y => { sent with frames := y :: sent.frames }
    | none => sent.ended x
/-- A block read of the Crier on select k: the frame in progress is stopped, an operation on that flash suspended for the
read alone, and then the waiting frames have the port again. -/
def Flash.crierRead (n k : Nat) (f : Flash) : Flash := (((f.stop n).suspendFor 1 k).resumeOwn 1 k).begin

/-- The Crier reads on select k; how many bytes the frame in progress has sent by then is free. -/
def crierPort (k : Nat) (s : State) : State :=
  let f := takeFresh s
  modFlash f.2 (Flash.crierRead (Config.bytesSent f.1) k)

end Sys2Proof.Machine
end

