-- ==== Sys2Proof/Machine/Leave.lean ====
section
/-! DEFINITION. The Warden: the leave books and their queue (R312 to R319), the floor, the stepping law
and the AVSBus frames (R119, R322 to R326), and the commands LEAVE_REQUEST to THERMAL_READING. -/

namespace Sys2Proof.Machine

/-! ### Costs and prices (R313, R314, R125) -/

/-- Default cost of a leave class (R313). -/
def defaultCost (cls : Nat) : Nat :=
  match cls with
  | 0 => 1850 | 1 => 78 | 2 => 20 | 3 => 40 | 4 => 90 | 5 => 150 | 6 => 20 | 7 => 60 | 8 => 1 | _ => 6

/-- Cost of a class in force. -/
def classCost (s : State) (cls : Nat) : Nat :=
  match Tab.get 0 s.warden.costs cls with
  | 0 => defaultCost cls
  | n + 1 => n

/-- a / b rounded up. -/
def ceilDiv (a b : Nat) : Nat := (a + b - 1) / b

/-- The fastest rate code of a rate mask. -/
def fastestCode (m : BitVec 8) : Nat :=
  (List.range 8).foldl (fun k i => if m.getLsbD i then i else k) 0

/-- The cost of an active program, L x f_max x e over 1 mW, e in 0.1 pJ (R125). -/
def programCost (e : Nat) (p : Program) : Nat :=
  ceilDiv (p.l * nominalRate (fastestCode p.rateMask) * e) 1000000000000

/-- The key of a program's QUERN grant: its Quern and bundle. -/
def quernKey (p : Program) : Nat := p.quern + 128 * p.bundle

/-- The program a QUERN key names, active or staged. -/
def keyProgram (s : State) (key : Nat) : Option Program :=
  let u := quern s (key % 128)
  match u.active with
  | some p => if quernKey p = key then some p else u.staged
  | none => u.staged

/-- Cost of a request at 0.85 V. -/
def requestCost (s : State) (cls key : Nat) : Nat :=
  if cls = 1 then ((keyProgram s key).map (programCost (classCost s 1))).getD 0 else classCost s cls

/-- Price of a cost at a set-point in mV (R314). -/
def priceAt (v cost : Nat) : Nat := ceilDiv (cost * v * v) 722500

/-- Safety classes (R313). -/
def isSafety (cls : Nat) : Bool := cls ≤ 2

/-- Rank of a class in the queue (R315). -/
def classRank (cls : Nat) : Nat :=
  match cls with
  | 1 => 0 | 2 => 1 | 3 => 2 | 4 => 3 | 5 => 4 | 6 => 5 | 7 => 6 | _ => 7

/-! ### The books -/

/-- FREE and RESERVE_NOW from POOL, GRANTED and RESERVE: the reserve is whole before anything is free
(R312, R315). -/
def balanced (w : Warden) : Warden :=
  { w with
    reserveNow := Nat.min w.reserve (w.pool - w.granted)
    free := w.pool - w.granted - Nat.min w.reserve (w.pool - w.granted)
    epoch := (w.epoch + 1) % 256 }

/-- Units of a new grant (R315): GRANTED grows; FREE pays first, the reserve the shortfall. -/
def Warden.addGrant (w : Warden) (g : Grant) : Warden :=
  balanced { w with grants := w.grants ++ [g], granted := w.granted + g.price }

/-- A grant outstanding. -/
def hasGrant (s : State) (cls key : Nat) : Bool := s.warden.grants.any (fun g => g.cls == cls && g.key == key)

/-- A request waiting. -/
def hasRequest (s : State) (cls key : Nat) : Bool := s.warden.queue.any (fun g => g.cls == cls && g.key == key)

/-- The reserve is whole (R315). -/
def Warden.whole (w : Warden) : Bool := w.reserve ≤ w.reserveNow

/-- A request of a class at a price may be granted now (R315, R318, R327). -/
def Warden.fits (w : Warden) (cls price : Nat) : Bool :=
  !w.freePending &&
    (if isSafety cls then price ≤ w.free + w.reserveNow
     else price ≤ w.free && w.whole && !w.thermHot)

/-- What a grant starts in the block that asked (R481, R115, R302, R397). -/
def onGrant (cls key : Nat) (s : State) : State :=
  match cls with
  | 2 | 3 => modFlash s (fun f =>
      let o := (Tab.get {} f.ops key : FlashOp)
      ({ f with busy := Tab.set false f.busy key true } : Flash).operate 5 key o.now)
  | 4 => modJex s (fun j => { j with load := j.load.map (fun l => if key = 0 then { l with granted := true } else l) })
  | 5 => modTwin s (fun t => { t with armLeave := true })
  | 6 => modDma s (fun d =>
      { d with chans := Tab.mod {} d.chans key (fun c => if c.state = .waitLeave then { c with state := .run } else c) })
  | _ => s

/-- The request granted at the set-point in force (R314). -/
def grantNow (g : Grant) (s : State) : State :=
  onGrant g.cls g.key
    (modWarden s (fun w => w.addGrant { g with price := priceAt w.setpoint g.cost }))

/-- The head of the queue is granted when its price fits (R315). -/
def grantHead (s : State) : State :=
  match s.warden.queue with
  | [] => s
  | g :: rest =>
    if s.warden.fits g.cls (priceAt s.warden.setpoint g.cost) then
      grantNow g (modWarden s (fun w => { w with queue := rest }))
    else s

/-- Every request that can be granted, in queue order. -/
def grantAll (s : State) : State := forEach (List.range s.warden.queue.length) (fun t _ => grantHead t) s

/-- A request put in the queue by rank, then arrival (R315). -/
def enqueue (g : Grant) : List Grant → List Grant
  | [] => [g]
  | h :: t => if classRank g.cls < classRank h.cls then g :: h :: t else h :: enqueue g t

/-- BASE is booked when the pool is configured (R313, R315): POOL and RESERVE take their settings; while FREE is pending it
waits for that (R318). -/
def bookBase (s : State) : State :=
  let cost := classCost s 0
  modWarden s (fun w =>
    let gs := w.grants.filter (fun g => g.cls != 0) ++ [{ cls := 0, cost := cost, price := priceAt w.setpoint cost }]
    if w.freePending then { w with baseDue := true }
    else balanced { w with pool := w.cfgPool, grants := gs, granted := (gs.map (·.price)).sum, baseDue := false })

/-- Leave of a class asked for (R313, R315, R316): BASE is booked, never queued; a SEXTON visit is
granted at once or not at all; any other request is granted or waits. -/
def requestLeave (cls key : Nat) (s : State) : State :=
  if hasGrant s cls key || hasRequest s cls key then s
  else
    let g : Grant := { cls := cls, key := key, cost := requestCost s cls key }
    if cls = 0 then bookBase s
    else if cls = 8 then
      if s.warden.queue = [] ∧ s.warden.fits 8 (priceAt s.warden.setpoint g.cost) then grantNow g s else s
    else grantAll (modWarden s (fun w => { w with queue := enqueue g w.queue }))

/-- The grant's units come back: first to the reserve, then to FREE (R315, R317); while FREE is
pending, to the books as they read (R318). -/
def Warden.dropGrant (w : Warden) (cls key : Nat) : Warden :=
  let back := ((w.grants.filter (fun g => g.cls == cls && g.key == key)).map (·.price)).sum
  let w1 := { w with grants := w.grants.filter (fun g => !(g.cls == cls && g.key == key)),
                     granted := w.granted - back }
  if w.freePending then
    { w1 with
      reserveNow := Nat.min w.reserve (w.reserveNow + back)
      free := w.free + (w.reserveNow + back - Nat.min w.reserve (w.reserveNow + back))
      epoch := (w.epoch + 1) % 256 }
  else balanced w1

/-- A grant returned, and what then fits granted (R317). -/
def returnLeave (cls key : Nat) (s : State) : State :=
  if hasGrant s cls key then grantAll (modWarden s (fun w => w.dropGrant cls key)) else s

/-- A waiting request withdrawn (R317). -/
def dropRequest (cls key : Nat) (s : State) : State :=
  grantAll (modWarden s (fun w => { w with queue := w.queue.filter (fun g => !(g.cls == cls && g.key == key)) }))

/-- A request withdrawn or its grant returned, whichever there is. -/
def releaseLeave (cls key : Nat) (s : State) : State := returnLeave cls key (dropRequest cls key s)

/-- Repricing after a set-point step (R318): GRANTED at once, FREE later. -/
def reprice (s : State) : State :=
  modWarden s (fun w =>
    let gs := w.grants.map (fun g => { g with price := priceAt w.setpoint g.cost })
    { w with grants := gs, granted := (gs.map (·.price)).sum, freePending := true, epoch := (w.epoch + 1) % 256 })

/-- FREE takes its new value and granting resumes (R318). -/
def freeUpdate (s : State) : State :=
  if s.warden.freePending then
    let s1 := modWarden s (fun w => balanced { w with freePending := false })
    grantAll (if s.warden.baseDue then bookBase s1 else s1)
  else s

/-! ### The floor and the stepping law (R39, R116, R119, R324, R325) -/

/-- Slow-corner slot time at V mV, in 1/2800 ps: the table of R39 interpolated linearly (R119). -/
def slowSlot (v : Nat) : Nat :=
  let seg : Nat → Nat → Nat → Nat → Nat := fun v0 v1 t0 t1 => 2800 * t0 - (t0 - t1) * (v - v0) * (2800 / (v1 - v0))
  if v ≤ 550 then 2800 * 6670
  else if v < 600 then seg 550 600 6670 5220
  else if v < 650 then seg 600 650 5220 4210
  else if v < 720 then seg 650 720 4210 3340
  else if v < 800 then seg 720 800 3340 2610
  else if v < 850 then seg 800 850 2610 2320
  else 2800 * 2320

/-- Effective slot count E of a program (R116). -/
def effSlots (p : Program) : Nat := 80 + p.l + ceilDiv (58 * p.stallHs) 100

/-- The hamlet's pace monitor is in service and has reported (R320, R321). -/
def paceGood (s : State) (h : Nat) : Bool := s.warden.paceOk.getLsbD h && Tab.get 0 s.warden.pace h ≠ 0

/-- Slot time of hamlet h predicted at v mV, in 1/2800 ps times a scale: t_pace scaled by the ratio of
the slow-corner slot times (R324), or the slow corner itself (R119). Numerator and denominator. -/
def predictedSlot (s : State) (h v : Nat) : Nat × Nat :=
  if paceGood s h then (Tab.get 0 s.warden.pace h * slowSlot v, slowSlot s.warden.setpoint)
  else (slowSlot v, 2800)

/-- E x slot x 1.10 at v mV is at most the minimum Bell interval 0.99 / f of a rate (R119, R324). -/
def fitsAt (s : State) (h v e rate : Nat) : Bool :=
  let t := predictedSlot s h v
  e * t.1 * 110 * rate ≤ 99 * 1000000000000 * 100 * t.2

/-- The active programs with their Quern. -/
def activePrograms (s : State) : List (Nat × Program) :=
  s.querns.filterMap (fun e => e.2.active.map (fun p => (e.1, p)))

/-- Every active program meets its minimum Bell interval at v mV. -/
def allFit (s : State) (v : Nat) : Bool :=
  (activePrograms s).all (fun e => fitsAt s (e.1 / 16) v (effSlots e.2) (nominalRate (dom s e.2.domain).rate))

/-- The set-points of R322. -/
def setpoints : List Nat := (List.range 61).map (fun i => 550 + 5 * i)

/-- The floor of R119 and R324: the lowest set-point at which every active program fits; 550 with none
(DEDUCED, log 18). -/
def floorMv (s : State) : Nat := ((setpoints.find? (fun v => allFit s v)).getD 850)

/-- C_q of a program (R305). -/
def captureWords (p : Program) : Nat := 1472 + p.outCount + (4096 - p.workBase)
/-- A Quern's program and its capture epilogue fit in the minimum Bell interval at v mV (R305). -/
def captureFits (s : State) (v : Nat) (e : Nat × Program) : Bool :=
  fitsAt s (e.1 / 16) v (effSlots e.2 + ceilDiv (captureWords e.2) 2) (nominalRate (dom s e.2.domain).rate)
/-- Domain d of a device that lends its state is at most 2 ms before its join Bell (R305). -/
def joinNear (s : State) (d : Nat) : Bool :=
  let x := dom s d
  let j := (Tab.get 0 s.twin.joinBell d).toNat
  lends s && s.twin.arm == .join && decide (x.bell.toNat < j ∧ j ≤ x.bell.toNat + ceilDiv x.rateNow 50000)
/-- The level at which the Warden holds VDD_CORE from 2 ms before a join Bell: the lowest set-point at which every capture of
the domain fits (R305); it ends with the Bell (DESIGN CHOICE, log 136). -/
def holdMv (s : State) : Nat :=
  (setpoints.find? (fun v => (activePrograms s).all (fun e => !joinNear s e.2.domain || captureFits s v e))).getD 850

/-- FLOOR_MV follows (R328). -/
def refreshFloor (s : State) : State :=
  if s.warden.inControl then s.setWarden { s.warden with floor := floorMv s }
  else s.setWarden { s.warden with floor := 0 }

/-- A write of the target rail voltage: the frame starts (R322). -/
def avsWrite (v : Nat) (s : State) : State := modWarden s (fun w => { w with frame := some v, readback := none })

/-- The set-point raised to v mV at least, capped at 850, a write in progress not lowered (R325). -/
def raiseTo (v : Nat) (s : State) : State :=
  if s.warden.inControl ∧ s.warden.setpoint < 850 then avsWrite (Nat.max (s.warden.frame.getD 0) (Nat.min 850 v)) s else s
/-- An up-step: set-point + n mV, capped at 850 (R325). -/
def stepUp (n : Nat) (s : State) : State := raiseTo (s.warden.setpoint + n) s

/-- Bits of WARDEN_EVENTS set. -/
def wardenEvent (i : Nat) (s : State) : State :=
  modWarden s (fun w => { w with events := w.events ||| BitVec.ofNat 5 (2 ^ i) })

/-- The up-step of a late marking, or CEILING at 850 mV (R325). -/
def lateStepUp (s : State) : State :=
  let s1 := modWarden s (fun w => { w with lateTick := some s.aon.tick })
  if s.warden.inControl then
    if s.warden.setpoint < 850 then wardenEvent 0 (stepUp 25 s1) else wardenEvent 3 s1
  else s1

/-- Ticks since a tick, modulo 2^32. -/
def since (s : State) (t : Nat) : Nat := (s.aon.tick + 4294967296 - t) % 4294967296

/-- At least n ms have passed since an optional tick. -/
def agoOk (s : State) (t : Option Nat) (n : Nat) : Bool :=
  match t with | none => true | some k => n ≤ since s k

/-- A slack is at least pct/denominator of the minimum Bell interval (R62, R324). -/
def slackOk (slack rate pct den : Nat) : Bool := pct * 99 * 196608000 ≤ slack * den * rate

/-- The conditions of R324 for a step down of 5 mV. -/
def mayStepDown (s : State) : Bool :=
  let w := s.warden
  w.inControl && !w.avsBad && w.frame.isNone && agoOk s w.stepTick w.dwell &&
    (550 ≤ w.setpoint - 5 && floorMv s ≤ w.setpoint - 5 && holdMv s ≤ w.setpoint - 5) && allFit s (w.setpoint - 5) &&
    agoOk s w.slackTick w.dwell && agoOk s w.lateTick 1000

/-- The regulator has acknowledged a write: the target is the set-point, everything is repriced, and the readback of 20 us
later is awaited (R318, R326). -/
def avsDone (v : Nat) (s : State) : State :=
  refreshFloor (reprice (modWarden s (fun w =>
    { w with setpoint := v, frame := none, readback := some v, stepTick := some s.aon.tick })))

/-- A failed frame: the frame, a write whose readback it was included, is repeated, or given up at the third with AVS_ERR
(R323, R326). -/
def avsFailed (again : Option Nat) (s : State) : State :=
  if s.warden.fails + 1 < 3 then modWarden s (fun w => { w with fails := w.fails + 1, frame := again })
  else wardenEvent 2 (modWarden s (fun w =>
    { w with fails := 0, frame := none, readback := none, avsBad := true, bootWrite := true }))

/-- One frame's end (R326): a write is acknowledged or fails; of a read, which gives READ_MV, the readback of a write must lie
within 15 mV of its target, and the write is in force then (R323). -/
def avsFrame (ok : Bool) (rd : Nat) (s : State) : State :=
  match s.warden.frame, s.warden.readback with
  | some v, _ => if ok then avsDone v s else avsFailed (some v) s
  | none, some v =>
    if !ok then avsFailed none s
    else
      let s1 := modWarden s (fun w => { w with read := rd })
      if rd ≤ v + 15 ∧ v ≤ rd + 15 then
        modWarden s1 (fun w => { w with readback := none, fails := 0, bootWrite := w.bootWrite || v == 800 })
      else avsFailed (some v) s1
  | none, none => if ok then modWarden s (fun w => { w with read := rd, fails := 0 }) else avsFailed none s

/-! ### Thermal (R327) -/

/-- A thermal condition with a threshold in degrees: set at the threshold, cleared 5 degrees below. -/
def thermal (was : Bool) (tj : Int) (thr : Nat) : Bool :=
  if was then decide (4 * ((thr : Int) - 5) < tj) else decide (4 * (thr : Int) ≤ tj)

/-- A reading of the hottest sensor (R327). -/
def thermalReading (tj : Int) (s : State) : State :=
  let w := s.warden
  let warn := thermal w.thermWarn tj w.warm
  let hot := thermal w.thermHot tj w.hot
  let crit := thermal w.thermCrit tj 115
  let s1 := modWarden s (fun w => { w with tj := tj, thermWarn := warn, thermHot := hot, thermCrit := crit })
  let s2 := if warn = w.thermWarn ∧ hot = w.thermHot ∧ crit = w.thermCrit then s1 else wardenEvent 4 s1
  let s3 := if warn ∧ ¬ w.thermWarn then postEvent 0x0070 [wrd (tj % 1024).toNat] s2 else s2
  grantAll s3

end Sys2Proof.Machine
end

