-- ==== Sys2Proof/Machine/Commit.lean ====
section
/-! DEFINITION. Commits and glides (R168 to R182): firing a commit slot, the glide law, discarding and
resynchronising sets, the lead of R171, and the own commits of R447 and R448. -/

namespace Sys2Proof.Machine

/-! ### Time to a Bell (R171, R515) -/

/-- The device is armed in a pair. -/
def paired (s : State) : Bool := s.twin.role != .single

/-- The lead of R171 in ps: 2 ms, or 4 ms in an armed pair. -/
def leadPs (s : State) : Nat := if paired s then 4000000000 else 2000000000

/-- Bells after the present one until the first that begins a time in ps after acceptance, which is
`since` ps after the domain's last Bell. -/
def leadBells (d : Domain) (lead sincePs : Nat) : Nat :=
  Nat.max 1 (ceilDiv ((lead + sincePs) * d.rateNow) 100000000000000)

/-- The first Bell the lead of R171 allows. -/
def firstBell (s : State) (d sincePs : Nat) : BitVec 48 :=
  (dom s d).bell + BitVec.ofNat 48 (leadBells (dom s d) (leadPs s) sincePs)

/-- A stated Bell meets the lead on a domain that generates Bells (R171, R515). -/
def bellAllowed (s : State) (d : Nat) (b : BitVec 48) (lead sincePs : Nat) : Bool :=
  (dom s d).runs && decide ((dom s d).bell.toNat + leadBells (dom s d) lead sincePs ≤ b.toNat)

/-! ### Glides (R177 to R179) -/

/-- The value in force at step k of a glide (R177). -/
def glideAt (g : Glide) (k : Nat) : Sample :=
  if k = g.len then g.target
  else smp (g.start.toInt + rneDiv ((g.target.toInt - g.start.toInt) * (k : Int)) g.len)

/-- One step of a running glide (R179). -/
def Glide.step (g : Glide) : Glide :=
  if g.k < g.len then { g with k := g.k + 1, value := glideAt g (g.k + 1) } else g

/-- A glide started from the value in force (R178). -/
def Glide.begin (g : Glide) (target : Sample) (len : Nat) : Glide :=
  { g with start := g.value, target := target, len := len, k := 0 }

/-- Running glides of a Quern advance one step. -/
def Quern.stepGlides (u : Quern) : Quern :=
  { u with glides := (u.glides.map (fun e => (e.1, e.2.step))).filter (fun e => e.2 ≠ {}) }

/-- A glide of Jexolaryn's own commit starts. -/
def Quern.ownGlide (u : Quern) (g : OwnGlide) : Quern :=
  { u with glides := Tab.mod {} u.glides g.reg (fun x => x.begin g.target g.len) }

/-- Every staged glide starts, and the staging places are empty. -/
def Quern.startGlides (u : Quern) : Quern :=
  { (u.stagedGlides.foldl (fun v e =>
      { v with glides := Tab.mod {} v.glides e.1 (fun g => g.begin e.2.target e.2.len) }) u)
    with stagedGlides := [] }

/-! ### Firing (R173, R174) -/

/-- Words 192 to 255 of the Noticeboard as the shadow holds them. -/
def Quern.inShadow (u : Quern) : Tab Sample := u.nbShadow.map (fun e => (e.1 + 192, e.2))

/-- The in-region shadow equal to the in region. -/
def Quern.nbSync (u : Quern) : Quern :=
  { u with nbShadow := (Tab.keep (192 ≤ ·) u.nb).map (fun e => (e.1 - 192, e.2)) }

/-- A ledger with the staged ledger words of a list. -/
def withStaged (ws : List StagedVal) (l : Tab Sample) : Tab Sample :=
  (ws.filter (fun v => v.kind == 0)).foldl (fun t v => Tab.set 0 t v.addr v.value) l

/-- What firing does to one Quern (R173): ledgers exchanged, in region written, glides started. Where a program has
been swapped in at the same Bell, the commit applies to its ledger: the image with the words `ws` staged (R28). -/
def Quern.fire (u : Quern) (ws : List StagedVal) : Quern :=
  { u.startGlides with
    ledgerA := match u.swapImage with
      | some img => withStaged ws img
      | none => u.ledgerS
    swapImage := none
    ledgerS := u.ledgerA
    nb := Tab.keep (· < 192) u.nb ++ u.inShadow
    resync := true }

/-- The shadows brought up to the active values (R175, R518). -/
def Quern.syncShadows (u : Quern) : Quern :=
  ({ u with ledgerS := u.ledgerA, stagedGlides := [] } : Quern).nbSync

/-- Commit slot k of domain d. -/
def slotOf (s : State) (d k : Nat) : CommitSlot := Tab.get {} (dom s d).slots k
/-- Commit slot k of domain d passed through f. -/
def modSlot (s : State) (d k : Nat) (f : CommitSlot → CommitSlot) : State :=
  modDom s d (fun x => { x with slots := Tab.mod {} x.slots k f })

/-- Set n of the host. -/
def hostSet (s : State) (n : Nat) : HostSet := Tab.get {} s.jex.sets n
/-- Set n passed through f. -/
def modSet (s : State) (n : Nat) (f : HostSet → HostSet) : State :=
  modJex s (fun j => { j with sets := Tab.mod {} j.sets n f })

/-- Querns of a mask, lowest first. -/
def maskQuerns (m : BitVec 128) : List Nat := (List.range 128).filter (fun i => m.getLsbD i)
/-- The mask of a list of Querns. -/
def querMask (l : List Nat) : BitVec 128 := l.foldl (fun m q => m ||| BitVec.ofNat 128 (2 ^ q)) 0



/-! ### Discarding and resynchronising (R175, R176, R518) -/

/-- A set is open or armed (R168). -/
def HostSet.live (h : HostSet) : Bool := h.state == .opened || h.state == .armed || h.state == .missed

/-- A staged word put into its Quern's staging place (R169). -/
def stageWord (s : State) (v : StagedVal) : State :=
  modQuern s v.quern (fun u =>
    match v.kind with
    | 0 => { u with ledgerS := Tab.set 0 u.ledgerS v.addr v.value }
    | 1 => { u with stagedGlides := Tab.ins u.stagedGlides v.addr { target := v.value, len := v.glide } }
    | _ => { u with nbShadow := Tab.set 0 u.nbShadow (v.addr - 192) v.value })

/-- A slot carries nothing of Jexolaryn's own (R447). -/
def CommitSlot.bare (c : CommitSlot) : Bool := c.own == [] && c.images == []
/-- The mask cut to the Querns for which the slot still carries something: those of `claims` and those of its own glides and
images; with none left it is no longer armed. -/
def CommitSlot.trim (c : CommitSlot) (claims : List Nat) : CommitSlot :=
  let m := c.mask &&& querMask (claims ++ c.own.map (·.quern) ++ c.images.map (·.quern))
  { c with mask := m, armed := c.armed && m != 0 }

/-- A set dropped (R518, R176): staging places restored, which also ends their resynchronisation; its slot is free but for
own changes that it carries (R447), and words of the partner held for it are dropped (R180); SET_DISCARDED posted. -/
def discardSet (n cause : Nat) (s : State) : State :=
  let h := hostSet s n
  let s1 := h.claims.foldl (fun t q => modQuern t q (fun u => { u.syncShadows with resync := false })) s
  let s2 := match h.slot with
    | some k => modSlot s1 h.domain k (fun c => ({ c with set := none } : CommitSlot).trim [])
    | none => s1
  postEvent 0x0021 [wrd (256 * cause + n)]
    (modSet (modJex s2 (fun j => { j with peerHeld := j.peerHeld.filter (fun e => e.1 != n) })) n (fun x => { x with state := .discarded, claims := [], staged := [], slot := none }))

/-- Sets with a property. -/
def setsWhere (s : State) (p : HostSet → Bool) : List Nat := (List.range 8).filter (fun n => p (hostSet s n))

/-- A set claims a Quern of domain d. -/
def HostSet.claimsIn (h : HostSet) (d : Nat) : Bool := h.hasDomain && h.domain == d && h.claims != []

/-- A set whose staged words for Quern q are still to take effect. -/
def HostSet.awaits (s : State) (h : HostSet) (q : Nat) : Bool :=
  h.claims.contains q && (h.live || (h.state == .deferred && match h.slot with
    | some k => (slotOf s h.domain k).mask.getLsbD q
    | none => false))

/-- A ledger with an image below WORK_BASE; from there upwards as it was (R111). -/
def mergeImage (wb : Nat) (ws : List Sample) (old : Tab Sample) : Tab Sample :=
  ((ws.take wb).zipIdx.filter (fun e => e.1 ≠ 0)).map (fun e => (e.2, e.1)) ++ Tab.keep (wb ≤ ·) old
/-- The words that wait in Quern q's staging places for the Bell of the set that claims it. -/
def restage (q : Nat) (s : State) : State :=
  (setsWhere s (fun h => h.awaits s q)).foldl (fun t n => ((hostSet t n).staged.filter (fun v => v.quern == q)).foldl stageWord t) s

/-- One Quern's shadows brought up to date; words staged meanwhile for a later Bell stand (R123, R170, R175). -/
def resyncQuern (s : State) (q : Nat) : State :=
  restage q (modQuern s q (fun u => { u.syncShadows with resync := false }))

/-- A new ledger exchanged in for Quern q: the old one is the shadow, unless a set has words staged for a later Bell, which
then stand in a shadow that is otherwise up to date (R170, R173). -/
def exchangeLedger (q : Nat) (new : Quern → Tab Sample) (s : State) : State :=
  let claimed := (List.range 8).any (fun n => (hostSet s n).awaits s q)
  let s1 := modQuern s q (fun u =>
    { u with ledgerA := new u, ledgerS := if claimed then new u else u.ledgerA, swapImage := none, resync := true })
  if claimed then restage q s1 else s1
/-- The set of a new rate takes effect: written below WORK_BASE only, over the ledger that is in force or comes in with a
program swap of the same Bell (R28, R59, R111). -/
def fireImage (i : LedgerImage) (s : State) : State :=
  exchangeLedger i.quern (fun u => mergeImage u.workBase i.words (u.swapImage.getD u.ledgerA)) s

/-! ### Slots at their Bell (R173, R174) -/

/-- The host set of a slot, where it claims Quern q. -/
def CommitSlot.setFor (c : CommitSlot) (s : State) (q : Nat) : Option Nat :=
  c.set.filter (fun n => (hostSet s n).claims.contains q)

/-- The part of a slot that concerns Quern q takes effect: its staging places, unless it is there for own changes alone;
the set of a new rate; then own glides, so that own values prevail (R447). -/
def firePart (c : CommitSlot) (q : Nat) (s : State) : State :=
  let own := c.own.filter (fun g => g.quern == q)
  let imgs := c.images.filter (fun i => i.quern == q)
  let ws := ((c.setFor s q).map (fun n => (hostSet s n).staged.filter (fun v => v.quern == q))).getD []
  let s1 := if (c.setFor s q).isSome || (own == [] && imgs == []) then modQuern s q (fun u => u.fire ws) else s
  modQuern (imgs.foldl (fun t i => fireImage i t) s1) q (fun u => own.foldl Quern.ownGlide u)

/-- A slot is due at the domain's present Bell, or has Querns left over from an earlier one. -/
def CommitSlot.due (c : CommitSlot) (b : BitVec 48) : Bool := c.armed && (c.next || decide (c.bell.toNat ≤ b.toNat))

/-- COMMIT_DEFERRED for each late Quern (R174, R464): kind 0 host set, 1 own commit, 2 program swap. -/
def noteDeferred (d kind setNo bundle : Nat) (b : BitVec 48) (qs : List Nat) (s : State) : State :=
  qs.foldl (fun t q => postEvent 0x0020
    [wrd (setNo + 16 * kind + 256 * q + 65536 * d), bellLo b, wrd bundle] t) s

/-- The slot after a Bell at which the Querns of `late` were late: it goes on for them alone, and for its host set where
that claims one of them. -/
def CommitSlot.after (c : CommitSlot) (late : List Nat) (claimed : Bool) : CommitSlot :=
  { c with
    mask := querMask late
    fired := true
    deferred := c.deferred || !late.isEmpty
    waits := !late.isEmpty
    armed := !late.isEmpty
    own := c.own.filter (fun g => late.contains g.quern)
    set := if claimed then c.set else none
    images := c.images.filter (fun i => late.contains i.quern) }

/-- Commit slot k of domain d at the present Bell (R173, R174): Querns that are not late take part and leave the mask; late
ones keep their bit, reported once for each arming of the slot. A NEXT commit states no Bell: its event carries the Bell at
which the slot fired (DESIGN CHOICE, log 117). -/
def fireSlot (d k : Nat) (s : State) : State :=
  let c := slotOf s d k
  let b := if c.next then (dom s d).bell else c.bell
  if c.due (dom s d).bell then
    let late := (maskQuerns c.mask).filter (fun q => (quern s q).lateNow)
    let s1 := ((maskQuerns c.mask).filter (fun q => !(quern s q).lateNow)).foldl (fun t q => firePart c q t) s
    let s2 := modSlot s1 d k (fun x => x.after late (late.any (fun q => (c.setFor s q).isSome)))
    let s3 := match c.set with
      | some n => modSet s2 n (fun h =>
          let mine := late.filter h.claims.contains
          { h with
            state := if mine.isEmpty then .resync else .deferred
            lowDef := mine.head?
            bell := if c.waits then h.bell else b
            slot := if mine.isEmpty then none else h.slot })
      | none => s2
    if c.waits then s3
    else late.foldl (fun t q =>
      noteDeferred d (if (c.setFor s q).isSome then 0 else 1) ((c.setFor s q).getD 0) 0 b [q] t) s3
  else s

/-- Own glides of a due slot whose Querns are not late: what the service model hears of (R457). -/
def firedOwn (d k : Nat) (s : State) : List OwnGlide :=
  if (slotOf s d k).due (dom s d).bell then
    (slotOf s d k).own.filter (fun g => !(quern s g.quern).lateNow)
  else []

/-- All commit slots of domain d: those of host sets first, so that own values prevail (R447). -/
def fireSlots (d : Nat) (s : State) : State :=
  let own := (List.range 8).filter (fun k => (slotOf s d k).set.isNone)
  let host := (List.range 8).filter (fun k => (slotOf s d k).set.isSome)
  forEach (host ++ own) (fun t k => fireSlot d k t) s

/-- The resynchronisation of domain d ends (R175): shadows match, sets in RESYNC become FREE. -/
def resyncDone (d : Nat) (s : State) : State :=
  let qs := (s.querns.filter (fun e => e.2.resync && quernDom e.2 == some d)).map (·.1)
  let s1 := qs.foldl resyncQuern s
  (setsWhere s1 (fun h => h.state == .resync && h.domain == d)).foldl (fun t n => modSet t n (fun _ => {})) s1

/-! ### Jexolaryn's own commits (R447, R448) -/

/-- A slot carries own changes and no host set. -/
def CommitSlot.isOwn (c : CommitSlot) : Bool := c.armed && c.set.isNone && !c.bare

/-- The slot an own change for Bell b takes (R448): an own slot armed for that Bell, a free reserved
slot, a free host slot; none: the change is held. -/
def ownSlot (s : State) (d : Nat) (b : BitVec 48) : Option Nat :=
  let same := (List.range 8).find? (fun k => (slotOf s d k).isOwn && !(slotOf s d k).next && (slotOf s d k).bell == b)
  let free := [6, 7, 0, 1, 2, 3, 4, 5].find? (fun k => !(slotOf s d k).armed)
  match same with | some k => some k | none => free

/-- The slot of an armed host set that fires at Bell b on Quern q: it carries an own glide of that Quern (R447). -/
def hostCarrier (s : State) (d : Nat) (b : BitVec 48) (q : Nat) : Option Nat :=
  (List.range 8).find? (fun k =>
    let c := slotOf s d k
    c.armed && !c.next && c.bell == b && (c.setFor s q).isSome)

/-- The slot armed anew; FIRED, MISSED and DEFERRED stay until 1 is written to them (R172). -/
def CommitSlot.arm (c : CommitSlot) (next : Bool) (b : BitVec 48) (mask : BitVec 128) : CommitSlot :=
  { c with armed := true, next := next, bell := b, mask := mask, set := none, own := [], images := [], waits := false }
/-- Own changes put into a slot, which is armed for Bell b with them where it is not armed yet. -/
def CommitSlot.carry (c : CommitSlot) (b : BitVec 48) (gs : List OwnGlide) (imgs : List LedgerImage) : CommitSlot :=
  let y := if c.armed then c else c.arm false b 0
  { y with own := y.own ++ gs, images := y.images ++ imgs,
           mask := y.mask ||| querMask (gs.map (·.quern) ++ imgs.map (·.quern)) }

/-- Own changes for Bell b: a glide goes with the host slot that fires on its Quern at that Bell, the rest into one own
slot, or it is held (R447, R448). -/
def armChange (d : Nat) (b : BitVec 48) (prio : Nat) (gs : List OwnGlide) (imgs : List LedgerImage) (s : State) : State :=
  let s1 := gs.foldl (fun t g => match hostCarrier s d b g.quern with
    | some k => modSlot t d k (fun c => c.carry b [g] [])
    | none => t) s
  let rest := gs.filter (fun g => (hostCarrier s d b g.quern).isNone)
  if rest = [] ∧ imgs = [] then s1
  else match ownSlot s1 d b with
  | some k => modSlot s1 d k (fun c => c.carry b rest imgs)
  | none => modJex s1 (fun j =>
      { j with heldChanges := j.heldChanges ++ [{ domain := d, prio := prio, own := rest, images := imgs }] })
/-- Own glides for Bell b (R447, R448). -/
def armOwn (d : Nat) (b : BitVec 48) (prio : Nat) (gs : List OwnGlide) (s : State) : State := armChange d b prio gs [] s

/-- The held changes of domain d: lowest priority number first, then in order of acceptance (R448). -/
def heldOf (d : Nat) (l : List HeldChange) : List HeldChange :=
  (List.range 16).flatMap (fun p => l.filter (fun h => h.domain == d && Nat.min h.prio 15 == p))

/-- Held changes are stated for the first Bell that R171 allows once a slot of their domain has fired, all in one slot
(R448). -/
def takeHeld (d : Nat) (s : State) : State :=
  let b := firstBell s d 0
  if (ownSlot s d b).isNone then s
  else (heldOf d s.jex.heldChanges).foldl (fun t h => armChange d b h.prio h.own h.images t)
    (modJex s (fun j => { j with heldChanges := j.heldChanges.filter (fun h => h.domain != d) }))

/-- Parts of own changes of domain d dropped, armed or held: f leaves what stays of a slot's or a change's glides, g what
stays of its images. -/
def cutOwn (d : Nat) (f : List OwnGlide → List OwnGlide) (g : List LedgerImage → List LedgerImage) (s : State) : State :=
  let s1 := forEach (List.range 8) (fun t k =>
    let claims := (((slotOf t d k).set.map (fun n => (hostSet t n).claims)).getD [])
    modSlot t d k (fun c => if c.bare then c else ({ c with own := f c.own, images := g c.images } : CommitSlot).trim claims)) s
  modJex s1 (fun j =>
    { j with heldChanges := (j.heldChanges.map (fun h =>
        if h.domain = d then { h with own := f h.own, images := g h.images } else h)).filter (fun h => h.own != [] || h.images != []) })
/-- Own glides of domain d that satisfy p and have not started are dropped, armed or held. -/
def dropOwn (d : Nat) (p : OwnGlide → Bool) (s : State) : State := cutOwn d (fun l => l.filter (fun g => !p g)) id s
/-- The sets of an earlier rate reconfiguration of domain d that have not taken effect are dropped, armed or held. -/
def dropImages (d : Nat) (s : State) : State := cutOwn d id (fun _ => []) s

/-! ### Ledger images (R111) -/

/-- A list of words as a table from index 0. -/
def wordsTab (ws : List Sample) : Tab Sample := (ws.zipIdx.filter (fun e => e.1 ≠ 0)).map (fun e => (e.2, e.1))

/-- The image of Quern q at a rate code: the set for that code, else the RATE 0xF set (R111). -/
def imageFor (images : List LedgerImage) (q code : Nat) : Option LedgerImage :=
  match images.find? (fun i => i.quern == q && i.rate == code) with
  | some i => some i
  | none => images.find? (fun i => i.quern == q && i.rate == 15)

/-- The ledger of a swapped-in program exchanged in at action 6, where no commit of the same Bell has done so (R123). -/
def swapInLedger (q : Nat) (s : State) : State :=
  match (quern s q).swapImage with
  | none => s
  | some img => exchangeLedger q (fun _ => img) s

/-- A loaded bundle by BUNDLE_ID. -/
def bundleOf (s : State) (id : Nat) : Option Bundle := s.jex.bundles.find? (fun b => b.id == id && !b.loading)

end Sys2Proof.Machine
end

