-- ==== Sys2Proof/Machine/Nvm.lean ====
section
/-! DEFINITION. The non-volatile parts: fuses (R339 to R341), flash contents and layout (R481, R483),
signed files (R114) and the Crier store (R267, R268). -/

namespace Sys2Proof.Machine

/-! ### Fuses -/

/-- A field with three copies from fuse bit i is set: at least two read 1 (R340). -/
def maj3 (f : BitVec 2048) (i : Nat) : Bool :=
  (f.getLsbD i && f.getLsbD (i + 1)) || (f.getLsbD i && f.getLsbD (i + 2)) || (f.getLsbD (i + 1) && f.getLsbD (i + 2))
/-- The life-cycle state of the LC bits (R340): the highest-listed field that is set, 0 BLANK. -/
def lcOf (f : BitVec 2048) : Nat :=
  if maj3 f 1557 then 5 else if maj3 f 1554 then 4 else if maj3 f 1551 then 3
  else if maj3 f 1548 then 2 else if maj3 f 1545 then 1 else 0
/-- The device's life-cycle state: the one decoded, and before step 2 of R334 has decoded it that of the fuses (R340, R354). -/
def lcNow (s : State) : Nat := if s.gate.lcKnown then s.gate.lc else lcOf s.gate.fuses
/-- Slot n is revoked (R339). -/
def revoked (s : State) (n : Nat) : Bool := maj3 s.gate.fuses (1536 + 3 * n)
/-- KEY_LOCK of slot n (R339). -/
def keyLock (s : State) (n : Nat) : Bool := s.gate.fuses.getLsbD (1626 + n)
/-- KEY_DIGEST of slot n (R339). -/
def keyDigest (s : State) (n : Nat) : BitVec 384 := (s.gate.fuses >>> (384 + 384 * n)).setWidth 384
/-- ROOT_KEY (R339). -/
def rootKey (s : State) : BitVec 256 := (s.gate.fuses >>> 128).setWidth 256
/-- DEVICE_ID (R339). -/
def deviceId (s : State) : BitVec 128 := s.gate.fuses.setWidth 128
/-- The SVN floor: programmed bits of the thermometer (R339). -/
def fuseFloor (f : BitVec 2048) : Nat := ((List.range 63).filter (fun i => f.getLsbD (1560 + i))).length
/-- Fuse bits programmed; a programmed bit stays 1, SVN_FLOOR follows (R365), and any programming discards the wake seal
(R361). -/
def burn (m : BitVec 2048) (s : State) : State :=
  modGate s (fun g => { g with fuses := g.fuses ||| m, svnFloor := fuseFloor (g.fuses ||| m), sealHeld := false, sealTag := 0 })
/-- n fuse bits from bit i with the value v. -/
def fuseField (i : Nat) (v : Nat) : BitVec 2048 := BitVec.ofNat 2048 v <<< i

/-! ### Flash contents -/

/-- Key of byte a of select k in the table of flash bytes. -/
def flashKey (k a : Nat) : Nat := k * 4294967296 + a
/-- Byte a of select k; bytes nothing has programmed read 0xFF (log 5). -/
def flashByte (s : State) (k a : Nat) : BitVec 8 := ~~~ (Tab.get 0 s.flash.bytes (flashKey k a))
/-- n bytes of select k from byte a. -/
def flashBytes (s : State) (k a n : Nat) : List (BitVec 8) := (List.range n).map (fun i => flashByte s k (a + i))
/-- The 32-bit little-endian word at byte a of select k. -/
def flashWord (s : State) (k a : Nat) : Nat := leNat (flashBytes s k a 4)
/-- Bytes a to a + n - 1 of select k erased. -/
def flashErase (k a n : Nat) (s : State) : State :=
  modFlash s (fun f =>
    { f with bytes := Tab.keep (fun j => j < flashKey k a || flashKey k (a + n) ≤ j) f.bytes })
/-- One byte programmed: programming clears bits only. -/
def flashPutByte (k : Nat) (s : State) (e : Nat × BitVec 8) : State :=
  modFlash s (fun f => { f with bytes := Tab.mod 0 f.bytes (flashKey k e.1) (fun b => b ||| ~~~ e.2) })
/-- Bytes programmed from byte a of select k. -/
def flashPut (k a : Nat) (bs : List (BitVec 8)) (s : State) : State :=
  bs.zipIdx.foldl (fun t e => flashPutByte k t (a + e.2, e.1)) s
/-- The erases of n bytes from byte a, at most so many: of 64 KiB where they fit, else of 4 KiB (R476). -/
def eraseRun : Nat → Nat → Nat → List FlashStep
  | 0, _, _ => []
  | k + 1, a, n =>
    if n = 0 then []
    else
      let u := if a % 65536 = 0 ∧ 65536 ≤ n then 65536 else 4096
      .erase a u :: eraseRun k (a + u) (n - u)
/-- The erases of n bytes from byte a. -/
def eraseUnits (a n : Nat) : List FlashStep := eraseRun (n / 4096 + 1) a n
/-- The page programs of some bytes from byte a, at most so many. -/
def pageRun (page : Nat) : Nat → Nat → List (BitVec 8) → List FlashStep
  | 0, _, _ => []
  | k + 1, a, bs =>
    if bs.isEmpty then []
    else
      let n := page - a % page
      .program a (bs.take n) :: pageRun page k (a + n) (bs.drop n)
/-- The page size of select k; 256 bytes where none is recorded. -/
def pageSize (s : State) (k : Nat) : Nat :=
  let p := (Tab.get {} s.flash.params k : FlashParams).page
  if p = 0 then 256 else p
/-- The page programs of some bytes from byte a of select k (R481). -/
def pageSteps (s : State) (k a : Nat) (bs : List (BitVec 8)) : List FlashStep := pageRun (pageSize s k) bs.length a bs
/-- The page programs of n bytes from byte a whose contents are a field of their own, at most so many. -/
def blankRun (page : Nat) : Nat → Nat → Nat → List FlashStep
  | 0, _, _ => []
  | k + 1, a, n =>
    if n = 0 then [] else .program a [] :: blankRun page k (a + (page - a % page)) (n - (page - a % page))
/-- The page programs of n bytes whose contents are a field of their own. -/
def blankPages (s : State) (k a n : Nat) : List FlashStep := blankRun (pageSize s k) n a n

/-- Usable bytes of a region of select k (R483): cut short at the density. -/
def regionSize (s : State) (k base size : Nat) : Nat := Nat.min size (Tab.get 0 s.flash.size k - base)
/-- Whole sectors of 64 KiB of an area of select 0 (R483). -/
def areaSectors (s : State) (base size : Nat) : Nat := regionSize s 0 base size / 65536

/-! ### The areas of select 0 (R483, R484) -/

/-- First byte of the configuration area. -/
def configAddr : Nat := 0x710000
/-- Copies of the configuration that the area has room for. -/
def configCopies (s : State) : Nat := regionSize s 0 configAddr 0x80000 / 0x40000
/-- The copy that does not hold the higher save counter; the first save takes the first (DESIGN CHOICE, log 166). -/
def nextCopy (s : State) : Nat :=
  if configCopies s ≤ 1 then 0 else if s.jex.saved.isSome then 1 - s.jex.savedHalf else s.jex.savedHalf
/-- The operations that write a copy of the sealed configuration. -/
def configSteps (s : State) : List FlashStep :=
  let a := configAddr + 0x40000 * nextCopy s
  eraseUnits a 0x40000 ++ blankPages s 0 a 0x40000
/-- The copies that an erase in the configuration area leaves (R484): the copy erased is gone, and the other holds the higher
counter of those left. -/
def eraseCopy (a : Nat) (j : Jex) : Jex :=
  if (a - configAddr) / 0x40000 = j.savedHalf then
    { j with saved := j.savedOther, savedOther := none, savedHalf := if j.savedOther.isSome then 1 - j.savedHalf else j.savedHalf }
  else { j with savedOther := none }
/-- A configuration written whole: it holds the higher counter, and with two copies the one before stays. -/
def storeCopy (c : SavedCfg) (s : State) : State :=
  let n := nextCopy s
  modJex s (fun j =>
    { j with
      savedOther := if n = j.savedHalf then none else j.saved
      saved := some c
      savedHalf := n
      saveCount := (j.saveCount + 1) % 18446744073709551616 })

/-- First byte of the fault log. -/
def logAddr : Nat := 0x790000
/-- Records that the fault log has room for: 2,048 a sector. -/
def logRoom (s : State) : Nat := 2048 * areaSectors s logAddr 0x100000
/-- The operations that write a record of the fault log at its next place: in a full ring the oldest sector is erased first. -/
def logSteps (s : State) : List FlashStep :=
  let p := s.faults.logPlace % logRoom s
  (if p % 2048 = 0 ∧ s.faults.log.any (fun r => r.place / 2048 == p / 2048) = true then [.erase (logAddr + 65536 * (p / 2048)) 65536] else []) ++
    blankPages s 0 (logAddr + 32 * p) 32

/-- First byte of the results area. -/
def resultAddr : Nat := 0x890000
/-- Records that the results area has room for: 862 a sector. -/
def resultRoom (s : State) : Nat := 862 * areaSectors s resultAddr 0x80000
/-- The operations that write a results record at its next place: in a full ring the oldest sector is erased first. -/
def resultSteps (s : State) : List FlashStep :=
  let p := s.vigil.resultPlace % resultRoom s
  let a := resultAddr + 65536 * (p / 862)
  (if resultRoom s ≤ s.vigil.results.length then [.erase a 65536] else []) ++ blankPages s 0 (a + 76 * (p % 862)) 76

/-- Address of the journal sector: the second half of the baseline area. -/
def journalAddr : Nat := 0x950000
/-- The baseline area has room for its places and the journal. -/
def baselineRoom (s : State) : Bool := 4 < areaSectors s 0x910000 0x80000
/-- The rewrite of the 4 KiB sector of a baseline's place. -/
def sectorSteps (s : State) (place : Nat) : List FlashStep :=
  let a := 0x910000 + 128 * place / 4096 * 4096
  .erase a 4096 :: blankPages s 0 a 4096
/-- The operations that replace the baseline at a place: the 4 KiB sector concerned, with the new record in it, is copied into
the journal sector, erased and rewritten. -/
def baselineSteps (s : State) (place : Nat) : List FlashStep :=
  .erase journalAddr 4096 :: blankPages s 0 journalAddr 4096 ++ sectorSteps s place

/-- Byte address of directory sector n of the message area. -/
def dirAddr (n : Nat) : Nat := 0x02A00000 + 4096 * n
/-- The operations that write the directory of the message area, into the sector that does not hold the latest; its contents
are those of `Jex.msgs`. -/
def dirSteps (s : State) : List FlashStep :=
  let a := dirAddr (1 - s.jex.msgDir)
  .erase a 4096 :: blankPages s 0 a 4096
/-- What an erase from byte a of select 0 takes from the areas whose contents are fields of their own: a copy of the
configuration, the records of a sector of the log, the oldest sector of the results, the journal. -/
def eraseArea (a : Nat) (s : State) : State :=
  if a < configAddr then s
  else if a < logAddr then modJex s (eraseCopy a)
  else if a < resultAddr then modFaults s (fun f => { f with log := f.log.filter (fun r => r.place / 2048 != (a - logAddr) / 65536) })
  else if a < 0x910000 then modVigil s (fun v => { v with results := v.results.take (resultRoom s - 862) })
  else if a = journalAddr then modVigil s (fun v => { v with journal := none })
  else s
/-- The directory has been written. -/
def turnDir (s : State) : State := modJex s (fun j => { j with msgDir := 1 - j.msgDir })

/-- Base of image slot n on select n (R483). -/
def imageBase : Nat := 0
/-- Base of a Crier store slot (R483). -/
def crierBase : Nat := 0x110000
/-- Select and base of bundle slot n (R483). -/
def bundlePlace (n : Nat) : Nat × Nat := if n = 7 then (0, 0xA00000) else (1, 0x800000 + 0x800000 * n)

/-! ### Files -/

/-- A file as a function from byte offset to byte. -/
abbrev Rd := Nat → BitVec 8
/-- n bytes of a file from offset a. -/
def rdBytes (r : Rd) (a n : Nat) : List (BitVec 8) := (List.range n).map (fun i => r (a + i))
/-- A little-endian number of n bytes at offset a. -/
def rdNat (r : Rd) (a n : Nat) : Nat := leNat (rdBytes r a n)
/-- n bytes from offset a are 0. -/
def rdZero (r : Rd) (a n : Nat) : Bool := (rdBytes r a n).all (· == 0)
/-- The file at byte a of select k. -/
def flashFile (s : State) (k a : Nat) : Rd := fun i => flashByte s k (a + i)

/-- The file at byte a of select k is read over the flash port by a user of rank r, all of it that lies within n bytes (R478). -/
def readFile (r k a n : Nat) (s : State) : State :=
  modFlash s (Flash.wantRead r k a (Nat.min n (Nat.max 64 (flashWord s k (a + 8)))))

/-- The signature trailer's own fields (R114). -/
def trailerOk (r : Rd) (total : Nat) : Bool :=
  208 ≤ total && rdNat r (total - 208) 4 == 0x544E4753 && rdZero r (total - 108) 12
/-- The 96 key bytes (R114). -/
def trailerKey (r : Rd) (total : Nat) : List (BitVec 8) := rdBytes r (total - 204) 96
/-- The key digest equals that of fuse slot n (R114). -/
def keyMatches (s : State) (r : Rd) (total n : Nat) : Bool := Config.sha384 (trailerKey r total) == keyDigest s n
/-- The signature verifies over all bytes but itself (R114). -/
def signatureOk (r : Rd) (total : Nat) : Bool :=
  Config.ecdsaOk (trailerKey r total) (rdBytes r (total - 96) 96) (Config.sha384 (rdBytes r 0 (total - 96)))

/-! ### The Crier store (R267, R268) -/

/-- A sequence: message indices up to the first 0xFF. -/
def seqOf (bs : List (BitVec 8)) : List Nat := (bs.takeWhile (· != 0xFF#8)).map BitVec.toNat

/-- A GROUPS entry. -/
def crierGroup (r : Rd) (a : Nat) : CrierGroup :=
  let fl := (r (a + 3)).toNat
  { group := (r a).toNat, format := (r (a + 1)).toNat, slots := (r (a + 2)).toNat,
    master := fl % 2 == 1, bclkInv := fl / 2 % 2 == 1, fsInv := fl / 4 % 2 == 1, dataDelay := fl / 8 % 2 == 1,
    outWl := (r (a + 4)).toNat }

/-- The header and block table of a store (R267, R268). -/
def crierStoreOf (slot : Nat) (r : Rd) : CrierStore :=
  let blocks := rdNat r 16 2
  { slot := slot
    seq := rdNat r 12 4
    pcmOffset := rdNat r 20 4
    blockCount := blocks
    msgs := (List.range (rdNat r 6 2)).map (fun i => (rdNat r (24 + 8 * i) 4, rdNat r (28 + 8 * i) 4))
    alarmSeq := seqOf (rdBytes r 88 8)
    faultSeq := seqOf (rdBytes r 96 8)
    gapMs := rdNat r 104 2
    micSrc := rdNat r 106 1
    micPdm := rdNat r 107 1
    micTdm := rdNat r 108 4 % 512
    micGain := BitVec.ofNat 20 (rdNat r 112 4)
    duckDb := rdNat r 116 1
    voxDb := rdNat r 117 1
    chans := (List.range (rdNat r 118 1)).map (fun i => (rdNat r (184 + 8 * i) 2, BitVec.ofNat 20 (rdNat r (188 + 8 * i) 4)))
    groups := (List.range (rdNat r 119 1)).map (fun i => crierGroup r (120 + 8 * i))
    portGroups := (rdBytes r 696 32).map BitVec.toNat
    crcs := (List.range blocks).map (fun i => BitVec.ofNat 32 (rdNat r (1024 + 4 * i) 4)) }

/-- The settings the Crier runs with: those of its copy; with none, what its header memory holds (R268, log 104). -/
def Crier.cfg (c : Crier) : CrierStore := c.copy.getD (crierStoreOf 0 Config.crierHeader)

/-- A message lies within the blocks; unused entries are 0 (R267). -/
def msgEntryOk (r : Rd) (count blocks i : Nat) : Bool :=
  let b := rdNat r (24 + 8 * i) 4
  let n := rdNat r (28 + 8 * i) 4
  if i < count then decide (b + (n + 1023) / 1024 ≤ blocks) else b == 0 && n == 0

/-- A GROUPS entry within its ranges (R267). -/
def groupEntryOk (r : Rd) (a : Nat) : Bool :=
  let g := crierGroup r a
  g.group < 8 && g.format < 3 && 2 ≤ g.slots && g.slots ≤ 16 && (r (a + 3)).toNat < 16 && g.outWl < 4 && rdZero r (a + 5) 3

/-- Every header field of a store against its range (R267). -/
def crierHeaderOk (r : Rd) (room : Nat) : Bool :=
  let total := rdNat r 8 4
  let count := rdNat r 6 2
  let blocks := rdNat r 16 2
  let pcm := rdNat r 20 4
  rdNat r 0 4 == 0x31535243 && rdNat r 4 2 == 1 && count ≤ 8 && total ≤ 0x600000 && total ≤ room && blocks ≤ 1875 &&
    rdNat r 18 1 == 1 && rdNat r 19 1 == 0 && pcm % 4 == 0 && 1024 + 4 * blocks ≤ pcm &&
    pcm + 3072 * blocks + 208 ≤ total && trailerOk r total &&
    (List.range 8).all (msgEntryOk r count blocks) &&
    (seqOf (rdBytes r 88 8) ++ seqOf (rdBytes r 96 8)).all (fun i => i < count) &&
    rdNat r 104 2 ≤ 10000 && rdNat r 106 1 ≤ 2 && rdNat r 107 1 ≤ 31 && rdNat r 108 4 ≤ 511 &&
    rdNat r 116 1 ≤ 40 && rdNat r 117 1 ≤ 90 &&
    1 ≤ rdNat r 118 1 && rdNat r 118 1 ≤ 64 && 1 ≤ rdNat r 119 1 && rdNat r 119 1 ≤ 8 &&
    (List.range (rdNat r 119 1)).all (fun i => groupEntryOk r (120 + 8 * i)) &&
    (List.range (rdNat r 118 1)).all (fun i => rdNat r (184 + 8 * i) 2 ≤ 511 && rdZero r (186 + 8 * i) 2) &&
    (rdBytes r 696 32).all (fun b => b.toNat < 8 || b == 0xFF#8) && rdZero r 728 296

/-- A block agrees with the block table (R268, R270). -/
def blockOk (r : Rd) (c : CrierStore) (i : Nat) : Bool :=
  c.crcs[i]? == some (crc32c (rdBytes r (c.pcmOffset + 3072 * i) 3072))

/-- The first check of R268 that a store in slot n fails, 0 for none: 1 header, 2 key, 3 signature,
4 blocks, 5 port groups (numbers: DESIGN CHOICE, log 19). -/
def crierFail (s : State) (n : Nat) : Nat :=
  let r := flashFile s n crierBase
  let total := rdNat r 8 4
  let c := crierStoreOf n r
  if crierHeaderOk r (regionSize s n crierBase 0x600000) = false then 1
  else if keyMatches s r total 1 = false ∨ revoked s 1 then 2
  else if signatureOk r total = false then 3
  else if (List.range c.blockCount).all (blockOk r c) = false then 4
  else if c.chans.all (fun e => c.groups.any (fun g => some g.group == c.portGroups[e.1 / 16]?)) = false then 5
  else 0

/-- SEQ of the store in slot n, 0 where the slot fails its checks. -/
def crierSeq (s : State) (n : Nat) : Nat := if crierFail s n = 0 then flashWord s n (crierBase + 12) else 0

/-- The first slot that passes, the higher SEQ first, on equal SEQ slot A (R268); a slot written since the boot began waits
for the next (R281). -/
def crierChoice (s : State) : Option Nat :=
  let order := if flashWord s 0 (crierBase + 12) < flashWord s 1 (crierBase + 12) then [1, 0] else [0, 1]
  order.find? (fun n => !s.gate.crierWritten.getLsbD n && crierFail s n == 0)

end Sys2Proof.Machine
end

