-- ==== Sys2Proof/Machine/Bundle.lean ====
section
/-! DEFINITION. The bundle file (R106 to R114) and the checks of a load (R101, R105, R115 to R118,
R122, R139, R148, R166). -/

namespace Sys2Proof.Machine

/-! ### Records -/

/-- n rounded up to a multiple of 4. -/
def pad4 (n : Nat) : Nat := (n + 3) / 4 * 4

/-- Word i of a record at offset a. -/
def rdWord (r : Rd) (a i : Nat) : Word := wrd (rdNat r (a + 4 * i) 4)

/-- Bytes of the program record at offset a (R110). -/
def progLen (r : Rd) (a : Nat) : Nat :=
  20 + pad4 (2 * fld (rdWord r a 3) 0 14) + 8 * fld (rdWord r a 1) 0 6 + pad4 (6 * fld (rdWord r a 1) 19 13)

/-- The window entry at offset a (R104). -/
def windowAt (r : Rd) (a : Nat) : Window :=
  { entry := fld (rdWord r a 0) 0 12, bias := fld (rdWord r a 1) 0 22, bound := bit (rdWord r a 0) 31 }

/-- The program record at offset a (R106, R110). -/
def progAt (r : Rd) (bundle a : Nat) : Program :=
  let w0 := rdWord r a 0
  let w1 := rdWord r a 1
  let w2 := rdWord r a 2
  let oc := fld (rdWord r a 3) 0 14
  let wn := fld w1 0 6
  let wc := fld w1 19 13
  let win := a + 20 + pad4 (2 * oc)
  { quern := fld w0 25 7
    domain := fld w0 23 2
    keepScratch := bit w0 22
    variant := bit w0 21
    rateMask := BitVec.ofNat 8 (fld w0 13 8)
    l := fld w0 0 13
    wordCount := wc
    workBase := fld w1 6 13
    windowCount := wn
    granaryAcc := fld w2 22 10
    crossAcc := fld w2 15 7
    stallHs := fld w2 4 11
    outCount := oc
    nameIndex := fld (rdWord r a 4) 16 16
    reservedBits := fld w2 0 4 != 0 || fld (rdWord r a 3) 14 18 != 0 || fld (rdWord r a 4) 0 16 != 0
    owned := (List.range oc).map (fun i => rdNat r (a + 20 + 2 * i) 2)
    windows := (List.range wn).map (fun i => windowAt r (win + 8 * i))
    words := (List.range wc).map (fun i => BitVec.ofNat 48 (rdNat r (win + 8 * wn + 6 * i) 6))
    bundle := bundle }

/-- The ranges and reserved bits of a program record that check 1 covers (R115). -/
def progOk (r : Rd) (variant : Bool) (strings a : Nat) : Bool :=
  let p := progAt r 0 a
  let win := a + 20 + pad4 (2 * p.outCount)
  let code := win + 8 * p.windowCount
  p.variant == variant && p.workBase ≤ 4096 && p.windowCount ≤ 32 && p.granaryAcc ≤ 512 && p.crossAcc ≤ 64 &&
    p.stallHs ≤ 1536 && p.outCount ≤ 8191 && p.owned.all (fun n => n ≤ 0x1D7F) &&
    (p.nameIndex == 0xFFFF || p.nameIndex < strings) &&
    rdZero r (a + 20 + 2 * p.outCount) (pad4 (2 * p.outCount) - 2 * p.outCount) &&
    (List.range p.windowCount).all (fun i => fld (rdWord r (win + 8 * i) 0) 12 19 == 0 &&
      fld (rdWord r (win + 8 * i) 1) 22 10 == 0 && fld (rdWord r (win + 8 * i) 1) 0 22 ≤ 3145727) &&
    rdZero r (code + 6 * p.wordCount) (pad4 (6 * p.wordCount) - 6 * p.wordCount)

/-- Bytes of the ledger image record at offset a (R111). -/
def imageLen (r : Rd) (a : Nat) : Nat := 4 + 4 * fld (rdWord r a 0) 0 13
/-- The ledger image record at offset a. -/
def imageAt (r : Rd) (a : Nat) : LedgerImage :=
  { quern := fld (rdWord r a 0) 25 7
    rate := fld (rdWord r a 0) 21 4
    words := (List.range (fld (rdWord r a 0) 0 13)).map (fun i => wordSample (rdWord r a (i + 1))) }
/-- The ranges of a ledger image record. -/
def imageOk (r : Rd) (a : Nat) : Bool :=
  let n := fld (rdWord r a 0) 0 13
  let rate := fld (rdWord r a 0) 21 4
  (rate < 8 || rate == 15) && fld (rdWord r a 0) 13 8 == 0 && 1 ≤ n && n ≤ 4096 &&
    (List.range n).all (fun i => fld (rdWord r a (i + 1)) 20 12 == 0)

/-- The line record at offset a (R112), in the domain of its owner's program; without one in the bundle in domain 0 (DESIGN
CHOICE, log 111: the spec gives such a line no domain). -/
def lineRecAt (r : Rd) (progs : List Program) (a : Nat) : LineRec :=
  let w0 := rdWord r a 0
  let owner := fld w0 13 7
  { entry := fld w0 20 12
    owner := owner
    base := fld (rdWord r a 1) 0 25
    length := fld (rdWord r a 2) 0 22
    stored := bit w0 11
    cross := bit w0 12
    domain := ((progs.find? (fun p => p.quern == owner)).map (·.domain)).getD 0 }

/-- The table entry of a line record (R137). -/
def LineRec.line (l : LineRec) : Line :=
  { valid := true, cross := l.cross, domain := l.domain, base := l.base, owner := l.owner, length := l.length,
    stored := l.stored }

/-- A Quern outside the line's hamlet owns it or holds a window on it (R139). -/
def lineCross (progs : List Program) (l : LineRec) : Bool :=
  l.owner / 16 != addrHamlet l.base ||
    progs.any (fun p => p.quern / 16 != addrHamlet l.base && p.windows.any (fun w => w.bound && w.entry == l.entry))

/-- The ranges of a line record (R112, R135, R139). -/
def lineOk (r : Rd) (progs : List Program) (a : Nat) : Bool :=
  let l := lineRecAt r progs a
  fld (rdWord r a 0) 0 11 == 0 && fld (rdWord r a 1) 25 7 == 0 && fld (rdWord r a 2) 22 10 == 0 &&
    addrOk l.base && 1 ≤ l.length && addrPos l.base + l.length ≤ hamletWords && l.cross == lineCross progs l

/-- The handle record at offset a (R113). -/
def handleAt (r : Rd) (a : Nat) : Handle :=
  let w1 := rdWord r a 1
  { id := rdNat r a 4
    kind := fld w1 23 2
    cf := bit w1 22
    count := fld w1 12 10
    first := fld w1 0 12
    quern := fld w1 25 7
    min := wordSample (rdWord r a 2)
    max := wordSample (rdWord r a 3) }
/-- The ranges of a handle record that check 1 covers. -/
def handleOk (r : Rd) (a : Nat) : Bool :=
  let h := handleAt r a
  let signed := fun (w : Word) => w == sampleWord (wordSample w)
  h.id != 0 && h.kind != 3 && 1 ≤ h.count && signed (rdWord r a 2) && signed (rdWord r a 3)

/-! ### Sections (R107 to R109) -/

/-- A section table entry. -/
structure Section where
  kind : Nat
  off : Nat
  len : Nat
  count : Nat
  deriving DecidableEq, Repr

/-- The section table (R109). -/
def sections (r : Rd) : List Section :=
  (List.range (rdNat r 24 2)).map (fun i =>
    let a := rdNat r 32 4 + 16 * i
    { kind := rdNat r a 2, off := rdNat r (a + 4) 4, len := rdNat r (a + 8) 4, count := rdNat r (a + 12) 4 })

/-- The section of a type; an absent one is empty. -/
def sectionOf (r : Rd) (k : Nat) : Section := ((sections r).find? (fun x => x.kind == k)).getD ⟨k, 0, 0, 0⟩

/-- The offsets of n records of varying length from offset a, the end last. -/
def offsets (len : Nat → Nat) : Nat → Nat → List Nat
  | 0, a => [a]
  | n + 1, a => a :: offsets len n (a + len a)

/-- The record offsets of a section. -/
def Section.recs (x : Section) (len : Nat → Nat) : List Nat := (offsets len x.count x.off).dropLast
/-- The records of a section fill it exactly. -/
def Section.full (x : Section) (len : Nat → Nat) : Bool :=
  (offsets len x.count x.off).getLast? == some (x.off + x.len)

/-- The program records of a bundle, normal programs before variants. -/
def fileProgs (r : Rd) : List Program :=
  ((sectionOf r 1).recs (progLen r) ++ (sectionOf r 5).recs (progLen r)).map (progAt r (rdNat r 12 4))

/-- The bundle a file holds (R108 to R113). -/
def bundleFile (r : Rd) (slot : Nat) : Bundle :=
  let progs := fileProgs r
  { id := rdNat r 12 4
    version := rdNat r 16 4
    replaces := rdNat r 20 4
    feature := rdNat r 6 2
    domMask := BitVec.ofNat 4 (rdNat r 29 1)
    slot := slot
    progs := progs
    images := ((sectionOf r 2).recs (imageLen r)).map (imageAt r)
    handles := ((sectionOf r 4).recs (fun _ => 16)).map (handleAt r)
    lineRecs := ((sectionOf r 3).recs (fun _ => 12)).map (lineRecAt r progs)
    digest := Config.sha384 (rdBytes r 0 (rdNat r 8 4)) }

/-- The normal programs of a bundle. -/
def Bundle.normal (b : Bundle) : List Program := b.progs.filter (fun p => !p.variant)
/-- The reduced variants of a bundle. -/
def Bundle.variants (b : Bundle) : List Program := b.progs.filter (·.variant)

/-- The header and the section table (R107 to R109). -/
def tableOk (r : Rd) (room : Nat) : Bool :=
  let total := rdNat r 8 4
  let st := rdNat r 32 4
  let n := rdNat r 24 2
  let secs := sections r
  rdNat r 0 4 == 0x31424D44 && rdNat r 4 2 == 2 && total ≤ 0x800000 && total ≤ room && 272 ≤ total &&
    rdNat r 12 4 != 0 && 1 ≤ n && n ≤ 64 && 1 ≤ rdNat r 26 2 && rdNat r 26 2 ≤ 128 && rdNat r 29 1 < 16 &&
    rdZero r 31 1 && rdZero r 40 24 && st % 4 == 0 && 64 ≤ st && st + 16 * n + 208 ≤ total && trailerOk r total &&
    secs.all (fun x => 1 ≤ x.kind && x.kind ≤ 6 && x.off % 4 == 0 && 64 ≤ x.off && x.off + x.len + 208 ≤ total &&
      (secs.filter (fun y => y.kind == x.kind)).length == 1) &&
    (List.range n).all (fun i => rdZero r (st + 16 * i + 2) 2) &&
    secs.any (fun x => x.kind == 1)

/-- Every byte that no field covers is 0 (R107). -/
def gapsZero (r : Rd) : Bool :=
  let total := rdNat r 8 4
  let spans := [(0, 64), (rdNat r 32 4, 16 * rdNat r 24 2), (total - 208, 208)] ++ (sections r).map (fun x => (x.off, x.len))
  (List.range total).all (fun i => spans.any (fun p => p.1 ≤ i && i < p.1 + p.2) || r i == 0)

/-- The names of the string section: as many as COUNT, each ended by a NUL. -/
def stringsOk (r : Rd) : Bool :=
  let x := sectionOf r 6
  let bs := rdBytes r x.off x.len
  (bs.filter (· == 0)).length == x.count && (x.len == 0 || bs.getLast? == some 0)

/-- AND of the rate masks of a list of programs. -/
def commonRates (l : List Program) : BitVec 8 := l.foldl (fun m p => m &&& p.rateMask) 0xFF
/-- The domains of a list of programs. -/
def usedDomains (l : List Program) : BitVec 4 := l.foldl (fun m p => m ||| BitVec.ofNat 4 (2 ^ p.domain)) 0

/-- Check 1 of R115. Two normal programs for one Quern, and lines or slots that overlap within the bundle, are accepted, and
the later takes the place of the earlier (DESIGN CHOICE, log 110: the spec states no check of them). -/
def formatOk (r : Rd) (room : Nat) : Bool :=
  tableOk r room && gapsZero r && stringsOk r &&
    (let b := bundleFile r 0
     let progs := b.progs
     let x1 := sectionOf r 1
     let x5 := sectionOf r 5
     let names := (sectionOf r 6).count
     x1.count == rdNat r 26 2 && x1.full (progLen r) && x5.full (progLen r) &&
       (sectionOf r 2).full (imageLen r) && (sectionOf r 3).full (fun _ => 12) && (sectionOf r 4).full (fun _ => 16) &&
       (x1.recs (progLen r)).all (progOk r false names) && (x5.recs (progLen r)).all (progOk r true names) &&
       ((sectionOf r 2).recs (imageLen r)).all (imageOk r) && ((sectionOf r 3).recs (fun _ => 12)).all (lineOk r progs) &&
       ((sectionOf r 4).recs (fun _ => 16)).all (handleOk r) &&
       BitVec.ofNat 8 (rdNat r 28 1) == commonRates b.normal && b.domMask == usedDomains progs)

/-! ### Lines a program reaches -/

/-- The loads in progress, the one under way first. -/
def loadsNow (s : State) : List Load := s.jex.load.toList ++ s.jex.loads
/-- The loaded bundles, and those of the loads accepted before, which a later command finds as loaded (R438). -/
def knownBundles (s : State) : List Bundle := s.jex.bundles.filter (fun x => !x.loading) ++ (loadsNow s).map (·.bundle)
/-- The line an entry describes once bundle b is loaded: its own record, else that of a loaded bundle, whether the line is
allocated now or not, else the table. -/
def lineOf (s : State) (b : Bundle) (e : Nat) : Line :=
  match (b.lineRecs ++ (knownBundles s).flatMap (·.lineRecs)).find? (fun l => l.entry == e) with
  | some l => l.line
  | none => line s e

/-- The window number and the granary accesses of an instruction (R100). -/
def windowUse : Instr → Option (Nat × Nat)
  | .tap _ _ w _ => some (w.val, 1)
  | .tapf _ _ w _ => some (w.val, 2)
  | .put _ w _ => some (w.val, 1)
  | _ => none

/-- REP's count. -/
def repCount : Instr → Option Nat
  | .rep _ n => some n.toNat
  | _ => none

/-- The instructions of a program, those that decode, by place. -/
def Program.instrs (p : Program) : List (Option Instr) :=
  p.words.map (fun w => (qParse (Fin.ofNat 128 p.quern) (qFields w)).map (·.2))

/-- How often each instruction of a list executes, after one with a REP count (R101). -/
def execCounts : Option Nat → List (Option Instr) → List (Option Instr × Nat)
  | _, [] => []
  | before, i :: t => (i, before.getD 1) :: execCounts (i.bind repCount) t

/-- The computed L (R101). -/
def Program.slots (p : Program) : Nat := ((execCounts none p.instrs).map (·.2)).sum

/-- Granary accesses of a pass through windows whose line satisfies c (R106, R145). -/
def Program.accesses (p : Program) (look : Nat → Line) (c : Line → Bool) : Nat :=
  ((execCounts none p.instrs).map (fun e =>
    match e.1.bind windowUse with
    | some (w, k) => if c (look ((p.windows[w]?.getD {}).entry)) then k * e.2 else 0
    | none => 0)).sum

/-! ### The stall bound (R117, R148) -/

/-- m(x, q) of R148. -/
def stallFactor (x q : Program) : Nat :=
  if x.domain = q.domain then 1
  else ceilDiv (101 * nominalRate (fastestCode x.rateMask)) (99 * nominalRate (fastestCode q.rateMask)) + 1

/-- The Querns whose accesses to bank b count in U_q(b). -/
def stallRivals (q b : Nat) : List Nat :=
  if b / 16 = q / 16 then (List.range q).filter (fun x => x / 16 == q / 16)
  else (List.range 128).filter (· != q)

/-- The larger term of a Quern's loaded programs at bank b. -/
def stallTerm (all : List Program) (look : Nat → Line) (p : Program) (x b : Nat) : Nat :=
  (all.filter (fun y => y.quern == x)).foldl
    (fun n y => Nat.max n (stallFactor y p * y.accesses look (fun l => l.covers b))) 0

/-- H of a program among all the loaded ones (R148); each access counts for every bank its line
covers (log 20). -/
def stallBound (all : List Program) (look : Nat → Line) (p : Program) : Nat :=
  let banks := (List.range 128).filter (fun b => p.accesses look (fun l => l.covers b) != 0)
  p.accesses look (fun _ => true) + 4 * p.accesses look (fun l => l.hamlet != p.quern / 16) +
    (banks.map (fun b => ((stallRivals p.quern b).map (fun x => stallTerm all look p x b)).sum)).sum

/-- Every loaded program that can run, with those of a new bundle (R117). -/
def runnable (s : State) (b : Bundle) : List Program :=
  (knownBundles s).flatMap (·.progs) ++ b.progs

/-! ### Checks 5 to 8 -/

/-- E_max of R118. -/
def effMax (code : Nat) : Nat :=
  match code with
  | 0 => 37050 | 1 => 18525 | 2 => 12350 | 3 => 9262 | 4 => 6721 | 5 => 6175 | 6 => 3360 | _ => 3087

/-- Check 5. -/
def ratesFit (s : State) (b : Bundle) : Bool :=
  (List.range 4).all (fun d => !b.domMask.getLsbD d || (dom s d).enable) &&
    b.progs.all (fun p => p.rateMask.getLsbD (dom s p.domain).rate)

/-- Two line records overlap in entry or granary words. -/
def LineRec.overlaps (x y : LineRec) : Bool :=
  x.entry == y.entry || (addrHamlet x.base == addrHamlet y.base &&
    addrPos x.base < addrPos y.base + y.length && addrPos y.base < addrPos x.base + x.length)

/-- Two line records match (R122). -/
def LineRec.shared (x y : LineRec) : Bool :=
  x.entry == y.entry && x.base == y.base && x.length == y.length && x.owner == y.owner

/-- A loaded bundle that line record x shares its line with. -/
def sharedWith (b o : Bundle) (x : LineRec) : Bool := b.replaces == o.id && o.lineRecs.any (fun y => x.shared y)

/-- Check 6 against one loaded bundle: the lowest Quern that overlaps, 0x7F for another resource. -/
def overlapWith (b o : Bundle) : Option Nat :=
  let reuse := b.replaces == o.id
  let qs := (b.progs.map (·.quern)).filter (fun q => o.progs.any (fun p => p.quern == q))
  if !reuse && qs != [] then some (qs.foldl Nat.min 0x7F)
  else if !reuse && b.progs.any (fun p => o.progs.any (fun x => p.owned.any (fun n => x.owned.contains n))) then some 0x7F
  else if b.lineRecs.any (fun x => o.lineRecs.any (fun y => x.overlaps y && !(reuse && x.shared y))) then some 0x7F
  else none

/-! ### The granary books (R165) -/

/-- A bank lent to Tally, from the acceptance of its BANK_OWNER write. -/
def lentBank (s : State) (b : Nat) : Bool :=
  (bank s b).owner == 3 || (match (bank s b).ownerNext with | some o => o.1 == 3 | none => false)
/-- Words of bank b that the range of n words from position p of hamlet h covers. -/
def wordsIn (h p n b : Nat) : Nat :=
  if b / 16 = h then Nat.min (p + n) ((b % 16 + 1) * bankWords) - Nat.max p (b % 16 * bankWords) else 0
/-- Allocated words of bank b: all of a lent bank, else those that VALID entries cover. -/
def allocatedIn (s : State) (b : Nat) : Nat :=
  if lentBank s b then bankWords
  else Nat.min bankWords (((s.lines.filter (fun e => e.2.valid)).map (fun e => wordsIn e.2.hamlet (e.2.pos 0) e.2.length b)).sum)
/-- Allocated words of the granaries. -/
def allocatedWords (s : State) : Nat := ((List.range 128).map (allocatedIn s)).sum
/-- Free words: with the allocated ones they are always all 25,165,824 (R165). -/
def freeWords (s : State) : Nat := 25165824 - allocatedWords s
/-- A line record claims words booked to Tally. -/
def claimsLent (s : State) (l : LineRec) : Bool :=
  (List.range 128).any (fun b => lentBank s b && wordsIn (addrHamlet l.base) (addrPos l.base) l.length b != 0)

/-- Check 6 (R122, R165). -/
def overlapFail (s : State) (b : Bundle) : Option Nat :=
  match (knownBundles s).findSome? (overlapWith b) with
  | some q => some q
  | none =>
    if b.lineRecs.any (fun x => claimsLent s x || s.jex.keptLines.any (fun y => x.overlaps y)) then some 0x7F else none

/-- Check 7: the program whose recomputed bound is too large, of several the first in load order (DESIGN CHOICE, log 109: the
spec does not say which). -/
def stallFail (s : State) (b : Bundle) : Option Nat :=
  let all := runnable s b
  (all.find? (fun p => let h := stallBound all (lineOf s b) p; p.stallHs < h || 1536 < h)).map (·.quern)

/-- Check 8: the program not admitted (R118), of several the first in load order (log 109). -/
def admitFail (b : Bundle) : Option Nat :=
  (b.progs.find? (fun p => effMax (fastestCode p.rateMask) < effSlots p)).map (·.quern)

/-! ### Check 10 (R105, R113, R166) -/

/-- A program of Quern q in bundle b after its words have been checked. -/
def progOf (b : Bundle) (q : Nat) : Option Program := b.progs.find? (fun p => p.quern == q)

/-- The codes that a word fails beside those of the word alone: 0x07, 0x0C, 0x0E, 0x0F. -/
def placeFailing (s : State) (b : Bundle) (p : Program) (i : Nat) (x : Instr) : List Nat :=
  let below := fun (o : Opnd) => match o with | .led a => decide (a.toNat < p.workBase) | _ => false
  let win := fun (w : Fin 32) => p.windows[w.val]?.getD {}
  match x with
  | .rep _ _ => match p.instrs[i + 1]? with
    | none => [0x07]
    | some n => if (n.bind repCount).isSome then [0x07] else []
  | .stam _ _ a _ => if below a then [0x0C] else []
  | .st _ a _ => if below a then [0x0C] else []
  | .tap _ _ w _ | .tapf _ _ w _ => if (win w).bound then [] else [0x0E]
  | .put _ w _ =>
    let l := lineOf s b (win w).entry
    if (win w).bound = false then [0x0E] else if l.valid = false ∨ l.owner ≠ p.quern ∨ l.stored then [0x0F] else []
  | _ => []

/-- The lowest code that word i of a program fails (R105 step 2). -/
def wordFail (s : State) (b : Bundle) (p : Program) (i : Nat) (w : BitVec 48) : Option Nat :=
  let q := Fin.ofNat 128 p.quern
  lowest (qFailing q w ++ match qParse q (qFields w) with
    | some (_, x) => placeFailing s b p i x
    | none => [])

/-- Check 0x20 of one instruction: a direct Square write to a slot not assigned to the Quern. -/
def squareFail (p : Program) : Instr → Bool
  | .stam _ _ (.sqr a) _ => !p.owned.contains a.toNat
  | .st _ (.sqr a) _ => !p.owned.contains a.toNat
  | _ => false

/-- Check 0x21 of one instruction. -/
def offsetFail (s : State) (b : Bundle) (p : Program) : Instr → Bool
  | .tap _ _ w (.imm v) =>
    let x := p.windows[w.val]?.getD {}
    (lineOf s b x.entry).owner != p.quern && x.bias + v.toNat < 1
  | .tapf _ _ w (.imm v) =>
    let x := p.windows[w.val]?.getD {}
    (lineOf s b x.entry).owner != p.quern && x.bias + v.toNat / 256 < 1
  | _ => false

/-- The place of the first instruction that satisfies c. -/
def firstPlace (p : Program) (c : Instr → Bool) : Option Nat :=
  p.instrs.findIdx? (fun i => match i with | some x => c x | none => false)

/-- A handle record keeps R113 and R166: one target shape per HANDLE, targets within their spaces; a record that names a
Quern with no program in the bundle does not (DESIGN CHOICE, log 112: the spec does not say what becomes of it). -/
def handleFits (b : Bundle) (h : Handle) : Bool :=
  b.handles.all (fun x => x.id != h.id || (x.kind == h.kind && x.cf == h.cf && x.count == h.count && x.min == h.min && x.max == h.max)) &&
    (match progOf b h.quern, h.kind with
     | none, _ => false
     | some _, 0 => (b.progs.filter (fun p => p.quern == h.quern)).all (fun p => h.first + h.count ≤ p.workBase)
     | _, 1 => h.first + h.count ≤ 64
     | _, _ => 192 ≤ h.first && h.first + h.count ≤ 256)

/-- The longest guaranteed program of the fastest rate of a mask (R45). "The bound domain's rates" of check 0x24 are taken to
be those of the program's own RATE_MASK, which it may run at (DESIGN CHOICE, log 121). -/
def longest (m : BitVec 8) : Nat := if fastestCode m ≤ 5 then 4096 else 2048

/-- Jexolaryn's checks of one program, in code order: code and word index. -/
def ownFail (s : State) (b : Bundle) (p : Program) : Option (Nat × Option Nat) :=
  let look := lineOf s b
  let acc := p.accesses look (fun _ => true)
  let cross := p.accesses look (fun l => l.hamlet != p.quern / 16)
  if (b.handles.filter (fun h => h.quern == p.quern)).all (handleFits b) = false then some (0x04, none)
  else match firstPlace p (squareFail p) with
    | some i => some (0x20, some i)
    | none => match firstPlace p (offsetFail s b p) with
      | some i => some (0x21, some i)
      | none =>
        if 512 < acc ∨ acc ≠ p.granaryAcc then some (0x22, some 0xFFF)
        else if 64 < cross ∨ cross ≠ p.crossAcc then some (0x23, some 0xFFF)
        else if longest p.rateMask < p.l then some (0x24, some 0xFFF)
        else none

/-- Check 10 for one program (R105): code and word index. A descriptor that fails under both codes is reported with 0x02,
not 0x10 (DESIGN CHOICE, log 108: the spec gives no order between them). -/
def progFail (s : State) (b : Bundle) (p : Program) : Option (Nat × Option Nat) :=
  if p.reservedBits then some (0x02, some 0xFFF)
  else if p.wordCount = 0 ∨ 4096 < p.wordCount ∨ p.l = 0 ∨ 4096 < p.l then some (0x10, some 0xFFF)
  else match p.words.zipIdx.findSome? (fun e => (wordFail s b p e.2 e.1).map (fun c => (c, some e.2))) with
    | some f => some f
    | none => if p.slots ≠ p.l ∨ 4096 < p.slots then some (0x10, some 0xFFF) else ownFail s b p

/-- Programs in ascending Quern number. -/
def byQuern (l : List Program) : List Program :=
  (List.range 128).flatMap (fun q => l.filter (fun p => p.quern == q))

/-- Check 10: the first failing program, with code and word index. -/
def programsFail (s : State) (b : Bundle) : Option (Nat × Nat × Option Nat) :=
  match (byQuern b.normal ++ byQuern b.variants).findSome? (fun p => (progFail s b p).map (fun f => (p.quern, f))) with
  | some f => some f
  | none => (b.handles.find? (fun h => !handleFits b h)).map (fun h => (h.quern, 0x04, none))

end Sys2Proof.Machine
end

