-- ==== Sys2Proof/Machine/Domains.lean ====
section
/-! DEFINITION. The Bell generator's reference (R44 to R60, R517): edges, loss, return, slewing and rate
reconfiguration. -/

namespace Sys2Proof.Machine

/-- The domain's source is one with edges (R44): 1 to 3 pins, 5 the Twin link. -/
def Domain.hasEdges (x : Domain) : Bool := x.enable && (x.src == 1 || x.src == 2 || x.src == 3 || x.src == 5)

/-- Edges of the source can come: those of the Twin link only while it is UP (R44, R61). -/
def edgesCome (s : State) (d : Nat) : Bool := (dom s d).hasEdges && ((dom s d).src != 5 || s.twin.link == .up)

/-- A measured rate lies in the band of a rate in 0.01 Hz: within 0.5 % (R45). -/
def inBand (rate nominal : Nat) : Bool := 200 * (rate - nominal + (nominal - rate)) ≤ nominal

/-- The rate code whose band holds a rate, 15 for none (R57). -/
def rateCode (rate : Nat) : Nat := ((List.range 8).find? (fun c => inBand rate (nominalRate c))).getD 15

/-- The measured rate of a run of 256 periods: 256 / T to the nearest 0.01 Hz, T in 5.09 ns (R517). -/
def runRate (ticks : Nat) : Nat := (2 * 256 * 19660800000 + ticks) / (2 * ticks)

/-- A reconfiguration has had its switching Bell (R59). -/
def Domain.switched (x : Domain) : Bool := x.state == .switching && x.target.isNone

/-- The states in which a loss is declared (R53). -/
def Domain.canLose (x : Domain) : Bool := x.state == .locked || x.state == .slew || x.switched

/-- The domain loses its reference (R53, R54): HOLDOVER at the rate held at the last accepted edge. A return at the
same instant is discarded (R67). -/
def loseReference (d : Nat) (s : State) : State :=
  if (dom s d).canLose then
    postEvent 0x0010 [wrd d, bellLo (dom s d).bell] (modDom s d (fun x =>
      { x with
        state := .holdover
        bellRate := if x.state = .slew ∧ x.heldRate ≠ 0 then x.heldRate else x.bellRate
        returnEv := x.returnedFrom.getD x.returnEv
        returnedFrom := none
        lossCount := satAdd x.lossCount 1 16
        loss := true
        lostRefs := (x.src, x.srcGroup) :: x.lostRefs.filter (· != (x.src, x.srcGroup))
        refRate := 0
        edgeSeen := false
        runEdges := none
        glitchBells := []
        lockRun := 0 }))
  else s

/-- The domain enters LOCKED: LOCKED_EV, and DOMAIN_LOCKED (R56, R464). -/
def enterLocked (d : Nat) (s : State) : State :=
  postEvent 0x0012 [wrd d, bellLo (dom s d).bell]
    (modDom s d (fun x => { x with state := .locked, lockedEv := true, lockRun := 0, lostRefs := [] }))

/-- The domain begins to slew towards a returned reference, or towards the nominal rate of the synthesiser (R56, R60). -/
def Domain.beginSlew (x : Domain) : Domain :=
  { x with state := .slew, lockRun := 0, slewRem := 0, heldRate := x.rateNow }

/-- Bells of the 10 ms ramp of R59 at a rate code. -/
def muteBells (rate : Nat) : Nat := nominalRate rate / 10000

/-- A rate reconfiguration to a code starts: step 1 of R59. One that is commanded while another is under way begins
again with the new code, its outputs ramping down from where they stand, and what it had still to commit is dropped
(DESIGN CHOICE, log 96). -/
def startReconfig (d code : Nat) (commanded : Bool) (s : State) : State :=
  modDom (dropImages d s) d (fun x =>
    { x with
      rampK := match x.step with
        | .none => 0
        | .rampDown => x.rampK
        | .muted => muteBells x.rate
        | .rampUp => muteBells x.rate - x.rampK
      state := .switching
      step := .rampDown
      target := some code
      commanded := commanded
      fromRate := if x.step = .none ∨ x.step = .rampUp then x.rate else x.fromRate
      switchIn := none
      timedOut := false })

/-- A change of SRC or SRC_GROUP of an enabled domain (R60): a loss of the old reference, then a return
of the new one; a domain in ACQUIRE starts again. The synthesiser is taken at the next Bell, and that change is no loss of
the old reference: LOSS, LOSS_COUNT and HOLDOVER_ENTERED do not come of it (DESIGN CHOICE, log 116: R60 treats a change as a
loss, and takes this one at once without saying whether the loss is declared). -/
def changeSource (d src grp : Nat) (s : State) : State :=
  let x := dom s d
  if x.src = src ∧ x.srcGroup = grp then s
  else
    let set : Domain → Domain := fun y =>
      { y with src := src, srcGroup := grp, edgeSeen := false, runEdges := none, glitchBells := [], lockRun := 0,
               refRate := 0, acqOk := false, toSynth := src == 4 && y.runs }
    if src = 4 then modDom s d set else modDom (loseReference d s) d set

/-- The policy of R57 for a returned reference at another rate. While steps 4 and 5 of an earlier reconfiguration
still run in HOLDOVER, the model starts no other one (DESIGN CHOICE, log 97: the spec is silent). -/
def rateChange (d rate : Nat) (s : State) : State :=
  let c := rateCode rate
  let s1 := postEvent 0x0011 [wrd (d + 16 * c), wrd rate]
    (modDom s d (fun x => { x with rateChange := true, newRate := c }))
  let x := dom s d
  if x.policy ∧ c < 8 ∧ x.rateMask.getLsbD c ∧ x.step = .none then startReconfig d c false s1 else s1

/-- The result of a monitor run, by state (R45, R49, R53, R55 to R57). In HOLDOVER every run is a return: each one
outside the band sets RETURN and RATE_CHANGE and posts RATE_CHANGE again (DESIGN CHOICE, log 98: the spec does not say
whether a later run of the same return does). -/
def monitorResult (d rate : Nat) (s : State) : State :=
  let x := dom s d
  match x.state with
  | .acquire => modDom s d (fun y => { y with acqOk := inBand rate (nominalRate y.rate) })
  | .locked =>
    if inBand rate (nominalRate x.rate) then modDom s d (fun y => { y with bellRate := rate })
    else loseReference d s
  | .slew => if inBand rate (nominalRate x.rate) then s else loseReference d s
  | .switching =>
    if x.switched then
      if inBand rate (nominalRate x.rate) then modDom s d (fun y => { y with bellRate := rate }) else loseReference d s
    else s
  | .holdover =>
    let s1 := modDom s d (fun y => { y with returnEv := true })
    if inBand rate x.rateNow then modDom s1 d (fun y => { y.beginSlew with returnedFrom := some x.returnEv })
    else rateChange d rate s1
  | .off => s

/-- REFERENCE_MONITOR_RUN: 256 accepted edges complete a run; the next starts at its last edge. -/
def execReferenceMonitorRun (d : Fin 4) (ticks : Nat) (s : State) : Out :=
  if edgesCome s d ∧ (dom s d).runEdges = some 256 ∧ 0 < ticks then
    .next (monitorResult d (runRate ticks)
      (modDom s d (fun x => { x with refRate := runRate ticks, runEdges := some 0 })))
  else .next s

/-- An edge sooner than 0.75 of a period (R48): ignored, counted; more than 4 in 16 Bells lose the
reference (R53). A domain without Bells keeps none of them for that condition. -/
def glitchEdge (d : Nat) (s : State) : State :=
  let s1 := modDom s d (fun x =>
    { x with
      glitch := true
      glitchCount := satAdd x.glitchCount 1 16
      runEdges := none
      glitchBells := if x.runs then (x.bell.toNat :: x.glitchBells).filter (fun b => x.bell.toNat < b + 16) else [] })
  if 4 < (dom s1 d).glitchBells.length then loseReference d s1 else s1

/-- An edge `since` ps after the domain's last Bell qualifies for the switching Bell: at least 0.99 of the new nominal
period after it (R59 step 3). -/
def Domain.switchEdge (x : Domain) (since : Nat) : Bool :=
  x.step == .muted && x.switchIn.isNone && match x.target with
    | some c => decide (99 * 100000000000000 ≤ 100 * since * nominalRate c)
    | none => false

/-- An accepted edge `since` ps after the domain's last Bell: the run counts it, and while slewing so does the lock (R48,
R56, R517). -/
def acceptEdge (d since : Nat) (phase : Int) (s : State) : State :=
  modDom s d (fun x =>
    { x with
      edgeSeen := true
      heldRate := if x.state = .slew then x.rateNow else x.heldRate
      returnedFrom := none
      phaseErr := phase
      runEdges := some (match x.runEdges with | none => 0 | some n => Nat.min (n + 1) 256)
      lockRun := if x.state = .slew ∧ 128 * phase.natAbs * nominalRate x.rate ≤ 100000000000000
        then Nat.min (x.lockRun + 1) 256 else 0
      switchIn := if x.switchEdge since then some 0 else x.switchIn })

/-- Condition 3 of R53 for an accepted edge. -/
def phaseLost (x : Domain) (phase : Int) : Bool :=
  let far := fun (e : Nat) => decide (100000000000000 < 4 * e * nominalRate x.rate)
  match x.state with
  | .slew => far (phase - x.phaseErr).natAbs
  | .locked => far phase.natAbs
  | .switching => x.switched && far phase.natAbs
  | _ => false

/-- REFERENCE_EDGE: an edge dt ps after the last accepted one and `since` ps after the domain's last Bell, with a phase
error in ps (R48, R53, R59). -/
def execReferenceEdge (d : Fin 4) (dt : Nat) (phase : Int) (since : Nat) (s : State) : Out :=
  let x := dom s d
  if edgesCome s d then
    if x.edgeSeen ∧ 4 * dt * nominalRate x.rate < 300000000000000 then .next (glitchEdge d s)
    else if x.edgeSeen ∧ 300000000000000 < 2 * dt * nominalRate x.rate then
      -- later than 1.5 periods: the reference had stopped; this edge is the first of a new row of edges
      .next (acceptEdge d since phase (modDom (loseReference d s) d (fun y => { y with runEdges := none, edgeSeen := false })))
    else if x.edgeSeen ∧ phaseLost x phase then .next (loseReference d s)
    else .next (acceptEdge d since phase s)
  else .next s

/-- A loss found: the synthesiser is never lost (R44); one found in HOLDOVER abandons the run that would complete a
return (R67, R517). -/
def lossFound (d : Nat) (s : State) : State :=
  let x := dom s d
  if x.src = 4 then s
  else if x.state = .holdover then modDom s d (fun y => { y with runEdges := none, edgeSeen := false, glitchBells := [] })
  else loseReference d s
/-- REFERENCE_LOSS (R53). -/
def execReferenceLoss (d : Fin 4) (s : State) : Out := .next (lossFound d s)
/-- A missing Bell marker, or the link's loss: with the Twin link as source no edge comes within 1.5 periods (R53, R61). -/
def loseMarker (d : Nat) (s : State) : State := if (dom s d).enable ∧ (dom s d).src = 5 then lossFound d s else s

/-- The generator at a Bell that ends an interval of ps, while it slews: its frequency moves towards the reference's, or
the synthesiser's nominal one, by the most that 100 ppm per second permits (R54, R56, R60, R70; log 44). -/
def Domain.slewStep (x : Domain) (interval : Nat) : Domain :=
  let goal := if x.src = 4 then nominalRate x.rate else if x.refRate = 0 then x.rateNow else x.refRate
  if x.state = .slew ∨ (x.switched ∧ x.src = 4) then
    let room := x.slewRem + x.rateNow * interval
    let step := room / 10000000000000000
    { x with
      slewRem := room % 10000000000000000
      bellRate := if x.rateNow ≤ goal then Nat.min goal (x.rateNow + step) else Nat.max goal (x.rateNow - step) }
  else x

/-- SLEW_LOCK (R56, R60): after 256 accepted edges within the tolerance; with the synthesiser when the
nominal rate is reached. -/
def execSlewLock (d : Fin 4) (s : State) : Out :=
  let x := dom s d
  if x.state = .slew then
    if x.src = 4 then .next (if x.rateNow = nominalRate x.rate then enterLocked d s else s)
    else if x.lockRun = 256 then
      .next (enterLocked d (modDom s d (fun y => { y with bellRate := if y.refRate = 0 then y.bellRate else y.refRate })))
    else .next s
  else .next s

/-- ACQUIRE_TIMEOUT (R49): after 100 ms without a rate in the band. -/
def execAcquireTimeout (d : Fin 4) (s : State) : Out :=
  let x := dom s d
  if x.state = .acquire ∧ x.hasEdges ∧ x.acqOk = false then
    .next (modDom s d (fun y => { y with rateChange := true, newRate := if y.refRate = 0 then 15 else rateCode y.refRate }))
  else .next s

/-- RECONFIG_RAMP_DONE: step 2 of R59; with the synthesiser the switching Bell is the second from here
(R60). -/
def execReconfigRampDone (d : Fin 4) (s : State) : Out :=
  if (dom s d).step = .rampDown then
    .next (modDom s d (fun x => { x with step := .muted, switchIn := if x.src = 4 then some 1 else none }))
  else .next s

/-- SWITCHING_BELL_TIMEOUT (R60): no qualifying edge within 100 ms of step 2 of a commanded change. -/
def execSwitchingBellTimeout (d : Fin 4) (s : State) : Out :=
  let x := dom s d
  if x.commanded ∧ x.step = .muted ∧ x.target.isSome ∧ x.switchIn.isNone then
    .next (modDom s d (fun y => { y with switchIn := some 1, timedOut := true }))
  else .next s

/-- The ledger set of a bound program at a rate code; none: its bundle has none for it. -/
def boundImage (s : State) (q code : Nat) : Option LedgerImage :=
  (((quern s q).active.map (·.bundle)).bind (bundleOf s)).bind (fun b => imageFor b.images q code)
/-- The sets that step 4 of R59 commits: every bound program's of domain d for the new rate code, none where the set in force
changes for no program. -/
def changedImages (s : State) (d fromCode toCode : Nat) : List LedgerImage :=
  if (domQuerns s d).any (fun q => boundImage s q fromCode != boundImage s q toCode) then
    (domQuerns s d).filterMap (fun q => boundImage s q toCode)
  else []

/-- The mute is released: step 4 of R59; the outputs ramp up. -/
def releaseMute (d : Nat) (s : State) : State :=
  modDom s d (fun x => { x with step := .rampUp, rampK := 0 })

/-- The own commit of a rate reconfiguration for Bell b (R59 step 4, R176, R448). R448 gives its changes no priority: held
they rank as 0 (DESIGN CHOICE, log 118). -/
def commitImages (d : Nat) (b : BitVec 48) (imgs : List LedgerImage) (s : State) : State :=
  armChange d b 0 [] imgs
    ((setsWhere s (fun h => (h.live || h.state == .deferred || h.state == .resync) && h.claimsIn d)).foldl (fun t n => discardSet n 1 t) s)

/-- The slots of domain d that carry the images of a reconfiguration. -/
def imageSlots (s : State) (d : Nat) : List Nat := (List.range 8).filter (fun k => !(slotOf s d k).images.isEmpty)
/-- The images of a reconfiguration of domain d stand in a slot or are held. -/
def imagesWait (s : State) (d : Nat) : Bool :=
  !(imageSlots s d).isEmpty || s.jex.heldChanges.any (fun h => h.domain == d && h.images != [])

/-- MUTE_RELEASE: Jexolaryn commits the sets of the new rate, the mute being released at the commit's
Bell; with no set to change it is released at once (R59 step 4). -/
def execMuteRelease (d : Fin 4) (since : Nat) (s : State) : Out :=
  let x := dom s d
  let imgs := changedImages s d x.fromRate x.rate
  if jexOn s ∧ x.step = .muted ∧ x.target.isNone then
    if imgs = [] then .next (releaseMute d s)
    else if imagesWait s d then .next s
    else .next (commitImages d (firstBell s d since) imgs s)
  else .next s

/-- RECONFIG_RAMP_UP_DONE: step 5 of R59; LOCKED with LOCKED_EV, or the state after a loss as it is; a domain that took
the synthesiser after its switching Bell and is not yet at the nominal rate goes on slewing (R60). -/
def execReconfigRampUpDone (d : Fin 4) (s : State) : Out :=
  if (dom s d).step = .rampUp then
    let s1 := modDom s d (fun x => { x with step := .none, commanded := false, rampK := 0 })
    .next (if (dom s d).state = .switching then
        if (dom s d).src = 4 ∧ (dom s d).rateNow ≠ nominalRate (dom s d).rate then modDom s1 d (fun x => { x with state := .slew, lockRun := 0 })
        else enterLocked d s1
      else s1)
  else .next s

end Sys2Proof.Machine
end

