-- ==== Sys2Proof/Machine/Ports.lean ====
section
/-! DEFINITION. Clock groups and the port monitor (R210 to R220), stuck Sieves (R223), SYNC_IN (R66,
R227) and the automatic return of a detour (R202). -/

namespace Sys2Proof.Machine

/-- Clock group g. -/
def group (s : State) (g : Nat) : Group := Tab.get {} s.audio.groups g
/-- Clock group g passed through f. -/
def modGroup (s : State) (g : Nat) (f : Group → Group) : State :=
  modAudio s (fun a => { a with groups := Tab.mod {} a.groups g f })
/-- Port p. -/
def port (s : State) (p : Nat) : Port := Tab.get {} s.audio.ports p
/-- Port p passed through f. -/
def modPort (s : State) (p : Nat) (f : Port → Port) : State :=
  modAudio s (fun a => { a with ports := Tab.mod {} a.ports p f })
/-- Aligned group a. -/
def align (s : State) (a : Nat) : Align := Tab.get {} s.audio.aligns a
/-- Aligned group a passed through f. -/
def modAlign (s : State) (a : Nat) (f : Align → Align) : State :=
  modAudio s (fun x => { x with aligns := Tab.mod {} x.aligns a f })

/-- A route swap armed at Bell count `count`, FIRED and MISSED kept: a stated Bell at or below it sets MISSED and swaps
nothing (R192). -/
def RouteSlot.arm (x : RouteSlot) (next : Bool) (bell count : BitVec 48) : RouteSlot :=
  let miss := !next && decide (bell.toNat ≤ count.toNat)
  { x with armed := !miss, next := next, bell := bell, missed := x.missed || miss }

/-- TDM slots of a group's frame: 2 for I2S and left-justified (R211). -/
def Group.tdm (g : Group) : Nat := if g.format < 2 then 2 else g.slots
/-- BCLK periods from the frame-start edge to the first bit of TDM slot 0 (R211). -/
def Group.delay (g : Group) : Nat := b2n g.dataDelay
/-- An enabled slave group. -/
def Group.slave (g : Group) : Bool := g.enable && !g.master
/-- LOST (R231). -/
def Group.lost (g : Group) : Bool := g.state == 2

/-- The domain a port belongs to: that of its enabled clock group (R199). -/
def portDomain (s : State) (p : Nat) : Option Nat :=
  if (group s (port s p).group).enable then some (group s (port s p).group).domain else none

/-- A loss of an enabled slave group (R219), with the flag it sets. -/
def loseGroup (g : Nat) (flag : Group → Group) (s : State) : State :=
  if (group s g).slave then modGroup s g (fun x => flag { x with state := 2, good := if x.lost then x.good else 0 })
  else s

/-- GROUP_CLOCK_STOP (R219). -/
def execGroupClockStop (g : Fin 8) (s : State) : Out :=
  .next (loseGroup g (fun x => { x with clkLoss := true, good := 0 }) s)
/-- GROUP_FRAME_STOP (R219). -/
def execGroupFrameStop (g : Fin 8) (s : State) : Out :=
  .next (loseGroup g (fun x => { x with frameErr := true, good := 0 }) s)
/-- FRAME_COUNT_END (R219): the count of the frame's BCLKs ends with no frame-start edge. -/
def execFrameCountEnd (g : Fin 8) (s : State) : Out :=
  .next (loseGroup g (fun x => { x with frameErr := true, good := 0 }) s)

/-- The monitor's rate code differs from the rate code of the group's domain (R219, R220). -/
def codeWrong (s : State) (x : Group) : Bool := x.rateCode != (dom s x.domain).rate

/-- A frame-start edge lies in the phase window: 1/64 to 15/16 of a period before its Bell (R215). -/
def inWindow (rate : Nat) (phase : Int) : Bool :=
  decide (100000000000000 ≤ phase * 64 * rate ∧ phase * 16 * rate ≤ 1500000000000000)

/-- GROUP_STATUS.PHASE: 1/256 of a period, to the nearest (R215, R231). -/
def phaseReg (rate : Nat) (phase : Int) : Nat :=
  Nat.min 255 ((2 * 256 * phase.toNat * rate + 100000000000000) / 200000000000000)

/-- What a slave group's monitor reports of a frame-start edge: the BCLKs of the frame it ends, and its place before its
Bell (R215, R231). -/
def measureEdge (g bclks : Nat) (phase : Int) (s : State) : State :=
  let y := dom s (group s g).domain
  modGroup s g (fun z =>
    { z with
      bclks := Nat.min bclks 1023
      phase := if y.runs then phaseReg (nominalRate y.rate) phase else 255 })

/-- A frame-start edge of an enabled slave group judged for length and window; while the group is LOST, a frame of the
right length that began with an edge in the window counts (R215, R219, R220). -/
def frameEdge (g bclks dt : Nat) (phase : Int) (s : State) : State :=
  let x := group s g
  let y := dom s x.domain
  let long := decide (300000000000000 < 2 * dt * nominalRate y.rate)
  let badLen := x.seen && (bclks != 32 * x.tdm || long)
  let badPhase := y.runs && !inWindow (nominalRate y.rate) phase
  let s1 := modGroup (measureEdge g bclks phase s) g (fun z =>
    { z with
      seen := true
      startOk := y.runs && !badPhase
      good := if z.lost && z.seen && z.startOk && !badLen && y.runs && !codeWrong s z then Nat.min (z.good + 1) 16 else 0 })
  let s2 := if badLen then loseGroup g (fun z => { z with frameErr := true, good := 0 }) s1 else s1
  if badPhase then loseGroup g (fun z => { z with phaseErr := true, good := 0 }) s2 else s2

/-- FRAME_START_EDGE: an edge dt ps after the last one, after a count of BCLKs, phase ps before its
Bell; a slave group that is not enabled is measured alone. -/
def execFrameStartEdge (g : Fin 8) (bclks dt : Nat) (phase : Int) (s : State) : Out :=
  if (group s g).slave then .next (frameEdge g bclks dt phase s)
  else if (group s g).master then .next s
  else .next (measureEdge g bclks phase s)

/-- Group g supplies its domain's Bell (R44, R220). -/
def suppliesBell (s : State) (g : Nat) : Bool :=
  let x := dom s (group s g).domain
  x.enable && x.src == 1 && x.srcGroup == g

/-- GROUP_LOST_EXIT: the end of the 16th consecutive good frame; a group that supplies its domain's Bell waits besides for
LOCKED (R220). -/
def execGroupLostExit (g : Fin 8) (s : State) : Out :=
  let x := group s g
  if x.slave ∧ x.lost ∧ x.good = 16 ∧ codeWrong s x = false then
    .next (if suppliesBell s g ∧ (dom s x.domain).state ≠ .locked then s else modGroup s g (fun z => { z with state := 1, good := 0 }))
  else .next s

/-- A domain's rate code has changed: enabled slave groups whose monitor has another code are LOST (R219). -/
def judgeCodes (d : Nat) (s : State) : State :=
  forEach (List.range 8) (fun t g =>
    if (group t g).domain = d ∧ codeWrong t (group t g) then loseGroup g (fun x => { x with rateEv := true, good := 0 }) t else t) s

/-- The groups of a domain that no longer generates Bells: no window, and no frame attached to a Bell (R215). -/
def unclockGroups (d : Nat) (s : State) : State :=
  forEach (List.range 8) (fun t g =>
    if (group t g).domain = d then modGroup t g (fun x => { x with phase := 255, begun := false, startOk := false, tail := false }) else t) s

/-- A monitor's new rate and code (R218); a code other than the domain's loses the group (R219). -/
def monitorPin (pin rate code : Nat) (s : State) : State :=
  if pin < 8 then
    let x := group s pin
    if x.enable && x.master then s
    else
      let s1 := modGroup s pin (fun z =>
        { z with rate := rate, rateCode := code, rateEv := z.rateEv || z.rateCode != code })
      if x.slave && code != (dom s x.domain).rate then
        loseGroup pin (fun z => { z with rateEv := true, good := 0 }) s1
      else s1
  else
    modAudio s (fun a => { a with wclk := Tab.mod {} a.wclk (pin - 8) (fun w =>
      { w with rate := rate, rateCode := code, rateEv := w.rateEv || w.rateCode != code }) })

/-- PORT_MONITOR_RUN (R218): pins 0 to 7 are TDM_FS, 8 and 9 WCLK_IN. -/
def execPortMonitorRun (pin : Fin 10) (ticks : Nat) (s : State) : Out :=
  if 0 < ticks then .next (monitorPin pin (runRate ticks % 16777216) (rateCode (runRate ticks)) s) else .next s
/-- MONITOR_EDGE_TIMEOUT (R218). -/
def execMonitorEdgeTimeout (pin : Fin 10) (s : State) : Out := .next (monitorPin pin 0 15 s)

/-- A bit of a 32-bit word set or cleared. -/
def putBit (w : Word) (i : Nat) (v : Bool) : Word :=
  if v then w ||| wrd (2 ^ i) else w &&& ~~~ wrd (2 ^ i)

/-- STUCK of Sieve i changed (R223). -/
def sieveStuck (i : Nat) (v : Bool) (s : State) : State :=
  if s.audio.sieveStuck.getLsbD i = v then s
  else modAudio s (fun a =>
    { a with sieveStuck := putBit a.sieveStuck i v, sieveEv := putBit a.sieveEv i true })

/-- SIEVE_STUCK_DETECT (R223). -/
def execSieveStuckDetect (i : Fin 32) (s : State) : Out := .next (sieveStuck i true s)
/-- SIEVE_RECOVER (R223). -/
def execSieveRecover (i : Fin 32) (s : State) : Out := .next (sieveStuck i false s)

/-! ### Detour triggers (R199 to R202) -/

/-- Output channel number of a detour's alternate. -/
def Detour.alt (x : Detour) : Nat := 16 * x.altPort + x.altSlot

/-- The detour entry of channel o passes the checks of R199: alternate, status and primary port in one
domain, alternate other than the primary. -/
def detourFits (s : State) (o : Nat) (x : Detour) : Bool :=
  match portDomain s (o / 16) with
  | none => false
  | some d => portDomain s x.altPort == some d && portDomain s (x.ampChan / 16) == some d && x.alt != o

/-- The entry is watched (R199). -/
def detourWatched (s : State) (o : Nat) : Bool :=
  let x := Tab.get {} s.audio.detA o
  x.enable && detourFits s o x

/-- The enabled triggers that hold where clk says that the primary port's clock or frame is lost: bit 0 clock, 1 amplifier,
2 pilot (R198, R199). -/
def trigBits (s : State) (o : Nat) (clk : Bool) : Nat :=
  let x := Tab.get {} s.audio.detA o
  let st := Tab.get {} s.audio.detStat o
  ofBits [x.trigClk && clk,
    x.trigAmp && decide (1 + x.ampDebounce ≤ st.ampRun),
    x.trigPilot && (Tab.get {} s.tally.dets x.pilot).state == 3]

/-- The enabled triggers that hold at present: for a return (R202). -/
def detourTrigs (s : State) (o : Nat) : Nat := trigBits s o (group s (port s (o / 16)).group).lost
/-- The enabled triggers that move a channel at an action 7: those detected before the present Bell (R200). -/
def switchTrigs (s : State) (o : Nat) : Nat := trigBits s o (group s (port s (o / 16)).group).lostWas

/-- DETOUR_AUTO_RETURN (R202): every enabled trigger has stayed clear for RETURN_HOLD seconds. -/
def execDetourAutoReturn (o : Fin 512) (s : State) : Out :=
  let x := Tab.get {} s.audio.detA o
  let st := Tab.get {} s.audio.detStat o
  if x.returnAuto ∧ st.detoured ∧ st.forced = false ∧ detourTrigs s o = 0 then
    .next (modAudio s (fun a => { a with detStat := Tab.mod {} a.detStat o (fun y => { y with returning := true }) }))
  else .next s

end Sys2Proof.Machine
end

