-- ==== Sys2Proof/Machine/Bounds.lean ====
section
/-! DEFINITION. The frequency limits of groups, PDM clocks and MCLK outputs (R212, R221, R224) and the
rates a domain permits (R57, R449). -/

namespace Sys2Proof.Machine

/-- 24.576 MHz in 0.01 Hz. -/
def maxClock : Nat := 2457600000

/-- A BCLK of n TDM slots stays within its limit at a rate code (R212). -/
def bclkOk (tdm code : Nat) : Bool := 32 * tdm * nominalRate code ≤ maxClock
/-- A PDM ratio is listed for a rate code (R221). -/
def pdmOk (ratio code : Nat) : Bool :=
  match code with
  | 1 => ratio == 64 || ratio == 96 || ratio == 128 || ratio == 192 || ratio == 256
  | 5 => ratio == 64
  | _ => false
/-- An MCLK mode stays within its limit at a rate code (R224). -/
def mclkOk (mode code : Nat) : Bool :=
  match mode with
  | 0 => 256 * nominalRate code ≤ maxClock
  | 1 => 512 * nominalRate code ≤ maxClock
  | _ => true

/-- A program may run at a rate code: declared, and L within the guaranteed length (R57). -/
def Program.mayRun (p : Program) (code : Nat) : Bool :=
  p.rateMask.getLsbD code && (p.l ≤ if code ≤ 5 then 4096 else 2048)

/-- The programs of loaded bundles bound to domain d. -/
def boundPrograms (s : State) (d : Nat) : List Program :=
  ((knownBundles s).flatMap (·.progs)).filter (fun p => p.domain == d)

/-- The lowest clock group of domain d whose BCLK leaves its limit at a rate code (R212). -/
def groupUnfit (s : State) (d code : Nat) : Option Nat :=
  (List.range 8).find? (fun g => let x := group s g; x.enable && x.domain == d && !bclkOk x.tdm code)
/-- The lowest PDM clock, else the lowest MCLK output, of domain d that leaves its range at a rate code (R221, R224). -/
def clockUnfit (s : State) (d code : Nat) : Option Nat :=
  match (List.range 4).find? (fun i => let k : PdmClk := Tab.get {} s.audio.pdmClks i; k.enable && k.domain == d && !pdmOk k.ratio code) with
  | some i => some i
  | none => (List.range 4).find? (fun i => let k : MclkCfg := Tab.get {} s.audio.mclks i; k.enable && k.domain == d && !mclkOk k.mode code)
/-- The clocks that a domain's master groups, PDM clocks and MCLK outputs drive stay within their ranges at a rate code
(R212). -/
def clocksFit (s : State) (d code : Nat) : Bool :=
  (List.range 8).all (fun g => let x := group s g; !(x.enable && x.master && x.domain == d) || bclkOk x.tdm code) &&
    (clockUnfit s d code).isNone

/-- RATE_MASK of domain d as Jexolaryn sets it from the programs bound to the domain (R57, R212). With none bound every rate
that its clocks allow is permitted (DEDUCED, log 35: R57 asks for every program bound). -/
def ratesOf (s : State) (d : Nat) : BitVec 8 :=
  BitVec.ofNat 8 (ofBits ((List.range 8).map (fun c =>
    (boundPrograms s d).all (fun p => p.mayRun c) && clocksFit s d c)))

/-- RATE_MASK follows bundles and clocks in every enabled domain. -/
def refreshRates (s : State) : State :=
  forEach (List.range 4) (fun t d =>
    if (dom t d).enable then modDom t d (fun x => { x with rateMask := ratesOf t d }) else t) s

end Sys2Proof.Machine
end

