-- ==== Sys2Proof/Machine/Reply.lean ====
section
/-! DEFINITION. Serving a mailbox: the order of checks (R436, R513), acceptance, replies and refusals
(R417 to R424, R435 to R439, R519). -/

namespace Sys2Proof.Machine

/-- Mailbox m. -/
def mbox (s : State) (m : Nat) : Mailbox := Tab.get {} s.host.mbs m
/-- Mailbox m passed through f. -/
def modMbox (s : State) (m : Nat) (f : Mailbox → Mailbox) : State :=
  modHost s (fun h => { h with mbs := Tab.mod {} h.mbs m f })

/-- Word i of the command in mailbox m. -/
def arg (s : State) (m i : Nat) : Word := Tab.get 0 (mbox s m).words i
/-- OPCODE of the command in mailbox m (R418). -/
def cmdOp (s : State) (m : Nat) : Nat := fld (arg s m 0) 24 8
/-- LENGTH of the command in mailbox m (R418). -/
def cmdLen (s : State) (m : Nat) : Nat := fld (arg s m 0) 8 7
/-- Words lo, lo + 1, ... of the command, n of them. -/
def args (s : State) (m lo n : Nat) : List Word := (List.range n).map (fun i => arg s m (lo + i))

/-- A refusal: reply status (R435), detail code, Quern field and index field of the detail word; none: the spec
states no index for the refusal. -/
structure Refuse where
  status : Nat
  code : Nat
  q : Nat := 0x7F
  idx : Option Nat := none
  deriving DecidableEq, Repr

/-- The detail word of R185. -/
def Refuse.word (r : Refuse) : Word :=
  wrd (r.code * 16777216 + r.q * 65536 + r.idx.getD (Config.noElement r.code).toNat)

/-- The detail code of a refusal for which the spec gives a status and no code (log 33). -/
def openCode (status : Nat) : Nat := (Config.noDetail status).toNat

/-- BAD_PARAM with a detail code. -/
def badParam (code : Nat) (idx : Option Nat := none) (q : Nat := 0x7F) : Refuse := ⟨4, code, q, idx⟩
/-- STATE_REFUSED with a detail code. -/
def stateRefused (code : Nat) (idx : Option Nat := none) : Refuse := ⟨5, code, 0x7F, idx⟩
/-- BUSY with a detail code. -/
def busyRefused (code : Nat) (idx : Option Nat := none) (q : Nat := 0x7F) : Refuse := ⟨8, code, q, idx⟩

/-- The first check of a list that refuses: each is a condition that must hold and its refusal. -/
def firstRefusal : List (Bool × Refuse) → Option Refuse
  | [] => none
  | (ok, r) :: t => if ok then firstRefusal t else some r

/-! ### The table of commands (R442, R368, R120, R184, R207, R234, R461, R261, R310, R332, R451, R402,
R281, R452) -/

/-- Modes as a mask: 1 MAINTENANCE, 2 SERVICE, 4 VIGIL, 8 FALLBACK. -/
def modeBit : Mode → Nat
  | .maintenance => 1 | .service => 2 | .vigil => 4 | .fallback => 8 | _ => 0

/-- Opcode, allowed modes, least and greatest LENGTH, masks of the named bits of w1, w2, ... (words
beyond the list are named whole). -/
def cmdTable : List (Nat × Nat × Nat × Nat × List Nat) :=
  [(0x00, 15, 1, 1, []), (0x01, 1, 1, 1, []), (0x02, 2, 1, 1, []), (0x03, 15, 2, 2, []),
   (0x04, 3, 2, 2, [1]), (0x05, 1, 2, 2, []), (0x06, 7, 2, 2, []), (0x07, 15, 2, 2, [0xF]),
   (0x10, 1, 4, 64, [0xC0FF0000]), (0x11, 1, 1, 1, []), (0x12, 15, 1, 1, []), (0x13, 1, 2, 2, [1]),
   (0x14, 1, 2, 15, [0x33, 0x3F]), (0x15, 1, 2, 26, [0x80000007]),
   (0x20, 3, 4, 64, [0xC0FF0000]), (0x21, 3, 2, 2, [7]), (0x22, 3, 4, 4, [0xFFFFFFFF, 0xF000FFFF]),
   (0x23, 3, 2, 2, []), (0x24, 7, 2, 2, []), (0x25, 7, 2, 2, [0x7F])] ++
  [(0x30, 7, 1, 1, []), (0x31, 7, 6, 64, [7]), (0x32, 7, 4, 4, [0x80000007, 0xFFFF]), (0x33, 7, 2, 2, [7]),
   (0x34, 7, 5, 5, [0x80000007, 0xFFFFFFFF, 0xFFFFFFFF, 0xFFFF]), (0x35, 7, 2, 2, [7]),
   (0x36, 7, 3, 3, [0x7F, 0xFFFF]),
   (0x40, 7, 2, 2, [0xB0000F7F]), (0x41, 7, 3, 64, [0xFC0001FF]), (0x42, 7, 3, 64, [0xFC0001FF]),
   (0x43, 7, 3, 3, [0x3F]), (0x44, 15, 4, 64, [0x03E001FF]), (0x45, 15, 3, 3, [0xB000FFFF]),
   (0x46, 15, 2, 2, [0xC00001FF]), (0x47, 15, 2, 2, [0x1F]), (0x48, 1, 2, 2, [0xFFFE0007]),
   (0x49, 7, 2, 2, [0xFFF8001F]), (0x4A, 1, 3, 3, [0x1000001F]), (0x4B, 1, 3, 3, [3]),
   (0x4C, 7, 3, 3, [7]), (0x4D, 7, 4, 4, [0xC00000FF, 0xFFFF]), (0x4E, 15, 2, 2, [7])] ++
  [(0x50, 1, 9, 9, [0x800000FF, 0xFFFFFFFF, 0xFFFFFFFF, 0xFFFFFFFF, 0xFFFFFFFF, 0xFF]),
   (0x51, 7, 2, 2, [0xFF]), (0x52, 1, 4, 4, [0xF00000FF, 0x1FFF, 0xFFF]), (0x53, 1, 3, 3, [0x00FFFF0F]),
   (0x54, 6, 13, 13, [0xE0000FFF, 0xFF00]), (0x55, 6, 2, 2, [0x8000FFFF]), (0x56, 6, 2, 2, [0xFFFF]),
   (0x57, 1, 4, 64, [0xC0FF0F00]), (0x58, 7, 2, 2, [0xFF]), (0x59, 1, 2, 2, [0xFF]),
   (0x5A, 3, 6, 6, [0x800000FF, 0xFF7F, 0xFFFFFFFF, 0xFFFFFFFF, 0xFFFFFF]), (0x5B, 7, 2, 2, [0xFF]),
   (0x5C, 6, 3, 3, [0xFFFF]),
   (0x70, 3, 2, 64, [0xC0000FFF]), (0x71, 7, 2, 2, [0xFF0FFF]), (0x72, 2, 1, 1, []), (0x73, 6, 1, 1, []),
   (0x74, 7, 1, 1, []), (0x75, 15, 2, 2, [0xFFF]), (0x76, 7, 2, 2, [0xFFFF]), (0x77, 3, 21, 21, [0xFFFF]),
   (0x78, 3, 2, 2, [0xFFF]), (0x79, 7, 4, 4, [0x3F]), (0x7A, 15, 2, 2, [0x3F])] ++
  [(0x80, 15, 1, 1, []), (0x81, 1, 1, 1, []), (0x82, 7, 1, 1, []), (0x83, 6, 1, 1, []),
   (0x84, 1, 5, 5, [0xF0000000, 0xFFFFFFFF, 0xFFFFFFFF, 0x0FFFFFFF]),
   (0x90, 15, 1, 1, []), (0x91, 1, 2, 2, [0xFFFFFF]), (0x92, 1, 2, 2, [0x0FFF000F]),
   (0x93, 3, 3, 3, [0xFFFFFFFF, 0xF]), (0x94, 15, 1, 1, []), (0x95, 1, 4, 4, [0x8000003F, 0x1F7F, 0xFFFF]),
   (0xA0, 15, 1, 1, []), (0xA1, 15, 2, 2, [0x7FFFF]), (0xA2, 15, 2, 2, [0xFFFF]), (0xA3, 1, 2, 2, []),
   (0xB0, 1, 3, 3, [3]), (0xB1, 7, 4, 64, [0xFF]), (0xB2, 7, 2, 2, [0xFFFF]), (0xB3, 7, 2, 2, [0xFFFF]),
   (0xC0, 1, 4, 64, [0xC0FF0000]), (0xC1, 7, 2, 2, []), (0xC2, 7, 2, 2, []), (0xC3, 1, 2, 2, []),
   (0xC4, 15, 2, 2, [0x3F])] ++
  [(0xD0, 15, 1, 1, []), (0xD1, 15, 2, 2, [0xC000FF07]), (0xD2, 15, 1, 1, []), (0xD3, 1, 4, 64, [0xC0FF0000]),
   (0xD4, 1, 1, 1, []), (0xD5, 7, 1, 1, []),
   (0xE0, 7, 2, 2, [0xC000001F]), (0xE1, 15, 2, 2, [0x0FFF001F]), (0xE2, 15, 2, 2, [0xFFFF]),
   (0xE3, 15, 2, 2, [0x3F7F]), (0xE4, 15, 2, 2, [0x3F7F])]

/-- The row of an opcode. -/
def cmdRow (op : Nat) : Option (Nat × Nat × Nat × List Nat) := (cmdTable.find? (fun r => r.1 == op)).map (·.2)

/-- LENGTH is permitted (R513). -/
def lengthOk (s : State) (m op : Nat) (lo hi : Nat) : Bool :=
  let n := cmdLen s m
  let w1 := arg s m 1
  match op with
  | 0x31 => let c := fld (arg s m 4) 10 6; 1 ≤ c && c ≤ 59 && n == 5 + c
  | 0x41 => let c := fld w1 26 6; 1 ≤ c && c ≤ 62 && n == 2 + c
  | 0x42 => let c := fld w1 26 6; 1 ≤ c && c ≤ 62 && n == 2 + c
  | 0x44 => let c := fld w1 21 5; 1 ≤ c && c ≤ 31 && n == 2 + 2 * c
  | 0x14 => match fld w1 0 2 with
    | 0 => n == 15 | 1 => n == 2 | 2 => n == 3 | _ => lo ≤ n && n ≤ hi
  | 0x15 => if bit w1 31 && fld w1 0 3 == 4 then n == 26 else n == 2
  | _ => lo ≤ n && n ≤ hi

/-- Reserved bits of the header, and of the words within LENGTH that a mask list names, are 0 (detail 0xF4; R421). -/
def reservedOk (s : State) (m : Nat) (masks : List Nat) : Bool :=
  (arg s m 0).toNat &&& 0x80FF == 0 &&
    masks.zipIdx.all (fun e => cmdLen s m ≤ e.2 + 1 || (arg s m (e.2 + 1)).toNat &&& (0xFFFFFFFF - e.1) == 0)

/-- Commands that only the DUTY device of an armed pair takes, with their refusal (R180, R208, R227, R253, R311, R460;
check 5 of R436). The route writes name their first channel or Stile (R208), a start its lowest aligned group (R235);
the others concern no element. -/
def dutyOnly (op : Nat) (w1 : Word) : Option Refuse :=
  match op with
  | 0x31 | 0x32 | 0x33 | 0x30 => some (stateRefused 0x4B)
  | 0x54 | 0x55 => some (stateRefused 0x69)
  | 0x41 | 0x42 | 0x44 => some (stateRefused 0x56 (some (fld w1 0 9)))
  | 0x43 => some (stateRefused 0x56 (some (fld w1 0 6)))
  | 0x45 => some (stateRefused 0x56)
  | 0x4D => some (stateRefused 0x5D ((List.range 8).find? (fun g => bit w1 g)))
  | 0x70 | 0x72 | 0x73 => some (stateRefused 0x75)
  | 0x83 => some (stateRefused 0x89)
  | _ => none

/-- `SLEEP_ENTER` has been accepted in another mailbox: new commands are refused (R329 step 1). -/
def sleepBegun (s : State) (m : Nat) : Bool :=
  s.aon.sleeping || (List.range 8).any (fun k => k != m && (mbox s k).state == .accepted && cmdOp s k == 0x93)

/-- Checks 1 to 5 of R436 and the reserved bits, for the command in mailbox m. -/
def generalRefusal (s : State) (m op : Nat) : Option Refuse :=
  match cmdRow op with
  | none => some ⟨2, 0xF0, 0x7F, none⟩
  | some (modes, lo, hi, masks) =>
    if lengthOk s m op lo hi = false then some ⟨3, 0xF1, 0x7F, none⟩
    else if modes &&& modeBit s.aon.mode = 0 then some (stateRefused 0xF2)
    else if sleepBegun s m then some (stateRefused (openCode 5))
    else if s.twin.role = .standby ∧ (dutyOnly op (arg s m 1)).isSome then dutyOnly op (arg s m 1)
    else if reservedOk s m masks = false then some (badParam 0xF4)
    else none

/-! ### Acceptance and replies -/

/-- The reply-status word (R418). -/
def replyHead (cmd : Word) (len status : Nat) : Word :=
  wrd (fld cmd 16 16 * 65536 + len * 256 + status)

/-- A reply written into mailbox m (R418, R419): READY, READY_EV. -/
def replyWith (m status : Nat) (ws : List Word) (s : State) : State :=
  modHost s (fun h =>
    { h with
      mbs := Tab.mod {} h.mbs m (fun b =>
        { state := .ready
          words := Tab.setRun 0 [] 0 (replyHead (Tab.get 0 b.words 0) (ws.length + 1) status :: ws) })
      readyEv := h.readyEv ||| BitVec.ofNat 8 (2 ^ m) })

/-- An OK reply. -/
def reply (m : Nat) (ws : List Word) (s : State) : State := replyWith m 0 ws s

/-- A refusal reply (R437). -/
def refuse (m : Nat) (r : Refuse) (s : State) : State := replyWith m r.status [r.word] s

/-- Jexolaryn takes the front mailbox (R419): ACCEPTED, ACK_EV. -/
def acceptHead (m : Nat) (s : State) : State :=
  modHost s (fun h =>
    { h with
      mbs := Tab.mod {} h.mbs m (fun b => { b with state := .accepted })
      doorbells := h.doorbells.drop 1
      ackEv := h.ackEv ||| BitVec.ofNat 8 (2 ^ m) })

/-- Mailbox m stands first in doorbell order with a command of opcode op, and Jexolaryn serves it. -/
def atHead (s : State) (m op : Nat) : Bool :=
  jexOn s && s.host.served && s.host.doorbells.head? == some m && (mbox s m).state == .queued && cmdOp s m == op

/-- A front command with an opcode of no row is refused as it reaches the front (R437, 0xF0). -/
def skipUnknown (s : State) : State :=
  match s.host.doorbells with
  | [] => s
  | m :: _ =>
    if jexOn s ∧ s.host.served ∧ cmdRow (cmdOp s m) = none then refuse m ⟨2, 0xF0, 0x7F, none⟩ (acceptHead m s)
    else s

/-- As often as there are mailboxes. -/
def skipAll (s : State) : State := forEach (List.range 8) (fun t _ => skipUnknown t) s

/-- In the bundle and Twin groups [11:0] of a detail word reads 0xFFF where no domain is concerned (R311, R516). -/
def Refuse.inGroup (op : Nat) (r : Refuse) : Refuse :=
  if (0x22 ≤ op ∧ op ≤ 0x25) ∨ (0x81 ≤ op ∧ op ≤ 0x84) then { r with idx := some (r.idx.getD 0xFFF) } else r

/-- One command row: taken when it stands first in doorbell order; refused by the first check that
fails (R436); else its effect, which writes its reply. -/
def serve (op m : Nat) (own : State → Option Refuse) (run : State → State) (s : State) : State :=
  if atHead s m op then
    let t := acceptHead m s
    match generalRefusal t m op with
    | some r => skipAll (refuse m (r.inGroup op) t)
    | none => match own t with
      | some r => skipAll (refuse m (r.inGroup op) t)
      | none => skipAll (run t)
  else s

/-- No checks of its own. -/
def noChecks (_ : State) : Option Refuse := none

/-- The confirmation word (0xF9). -/
def confirmOk (s : State) (m : Nat) : Option Refuse :=
  if arg s m 1 = 0x5A5A#32 then none else some (badParam 0xF9)

/-- SERVED clears (R420): every mailbox FREE and empty, every command and reply lost, FRESH. -/
def clearServed (s : State) : State :=
  modHost s (fun h => { h with served := false, mbs := [], doorbells := [], fresh := true })

/-- The mailboxes ACCEPTED. -/
def acceptedMbs (s : State) : List Nat := (List.range 8).filter (fun m => (mbox s m).state == .accepted)

/-- The accepted command of an opcode. -/
def acceptedOf (s : State) (op : Nat) : Option Nat := (acceptedMbs s).find? (fun m => cmdOp s m == op)

/-- The mode allows the command in mailbox m. -/
def modeAllows (s : State) (mode : Mode) (m : Nat) : Bool :=
  match cmdRow (cmdOp s m) with | some r => r.1 &&& modeBit mode != 0 | none => false

end Sys2Proof.Machine
end

