-- ==== Sys2Proof/Machine/Swap.lean ====
section
/-! DEFINITION. Staging a bundle, swapping its programs at a Bell and unloading it (R73, R112, R121 to
R126, R317). -/

namespace Sys2Proof.Machine

/-! ### Bundles -/

/-- Bundle with an identifier passed through f. -/
def modBundle (s : State) (id : Nat) (f : Bundle → Bundle) : State :=
  modJex s (fun j => { j with bundles := j.bundles.map (fun b => if b.id == id then f b else b) })

/-- The programs a bundle activates in domain d. -/
def Bundle.progsIn (b : Bundle) (d : Nat) : List Program := b.normal.filter (fun p => p.domain == d)

/-- The bundle that has replaced b. -/
def replacerOf (s : State) (b : Bundle) : Option Bundle :=
  s.jex.bundles.find? (fun x => !x.loading && x.replaces == b.id && x.state == .active)

/-- The row that spare row n of a bank stands for at word i: repaired into it, or under visit. -/
def Bank.spareRow (k : Bank) (n i : Nat) : Option Nat :=
  if (k.remapAt n).valid then some (k.remapAt n).row
  else if k.save = some n ∧ k.redirects i then some k.rowPtr else none

/-- Cell c of hamlet h stores one of the positions from p up to e. -/
def cellWithin (s : State) (h p e c : Nat) : Bool :=
  let inside := fun (x : Nat) => decide (p ≤ x ∧ x < e) && granCell s h x == c
  if c < hamletWords then inside c
  else
    let j := c - hamletWords
    match (bank s (16 * h + j / 256)).spareRow (j % 256 / 16) (j % 16) with
    | some r => inside (j / 256 * bankWords + 16 * r + j % 16)
    | none => false

/-- Words p to p + n - 1 of hamlet h zeroed. -/
def granZero (h p n : Nat) (s : State) : State :=
  s.setGranary (Tab.keep (fun k => !(k / 4194304 == h && cellWithin s h p (p + n) (k % 4194304))) s.granary)

/-- Jexolaryn clears words p to p + n - 1 of hamlet h by DMA; in a bank with another owner that is a bus error (R112,
R152). -/
def clearWords (h p n : Nat) (s : State) : State :=
  forEach (List.range 16) (fun t i =>
    let lo := Nat.max p (i * bankWords)
    let hi := Nat.min (p + n) ((i + 1) * bankWords)
    if lo < hi then
      if (bank t (16 * h + i)).owner = 0 then granZero h lo (hi - lo) t else bankErr t (16 * h + i) 2
    else t) s

/-- A line allocated and zeroed (R112). -/
def allocLine (s : State) (l : LineRec) : State :=
  modLine (clearWords (addrHamlet l.base) (addrPos l.base) l.length s) l.entry (fun _ => l.line)

/-- Lines that only variants reach; the excitation line is among them (R237, R249). -/
def Bundle.variantOnly (b : Bundle) (l : LineRec) : Bool :=
  let on := fun (p : Program) => p.windows.any (fun w => w.bound && w.entry == l.entry)
  b.variants.any on && !b.normal.any on

/-- A loaded bundle other than b shares the line (R122, R124). -/
def lineShared (s : State) (b : Bundle) (l : LineRec) : Bool :=
  s.jex.bundles.any (fun o => o.id != b.id && !o.loading && o.lineRecs.any (fun y => l.shared y))

/-- The lines of a bundle allocated, but for those it shares (R121, R122). -/
def allocLines (b : Bundle) (s : State) : State :=
  (b.lineRecs.filter (fun l => !(s.jex.bundles.any (fun o => sharedWith b o l)))).foldl allocLine s

/-- A program has a window on line entry e. -/
def Program.reaches (p : Program) (e : Nat) : Bool := p.windows.any (fun w => w.bound && w.entry == e)
/-- An active program uses line entry e (R138). -/
def lineUsed (s : State) (e : Nat) : Bool := (activePrograms s).any (fun p => p.2.reaches e)
/-- A line freed: VALID clears (R138). -/
def freeLine (s : State) (l : LineRec) : State := modLine s l.entry (fun x => { x with valid := false, put := none })

/-- A program put into its Quern's staged store, with the ledger image of a Quern that has no active
program (R121). -/
def stageProgram (b : Bundle) (s : State) (p : Program) : State :=
  modQuern s p.quern (fun u =>
    let v := { u with staged := some p, stagedOk := true }
    match u.active, imageFor b.images p.quern (dom s p.domain).rate with
    | none, some i => { v with ledgerA := wordsTab i.words, ledgerS := wordsTab i.words }
    | _, _ => v)

/-- A bundle staged (R121). -/
def stageBundle (b : Bundle) (s : State) : State :=
  let s1 := b.normal.foldl (stageProgram b) (allocLines b s)
  refreshRates (modJex s1 (fun j => { j with bundles := j.bundles ++ [{ b with state := .staged }] }))

/-! ### Activation of a Quern (R73, R123, R124, R126) -/

/-- The starting value of glide register n of Quern q (R126); where two handles target the register the first record counts
(DESIGN CHOICE, log 114: the spec does not say which). -/
def glideStart (b : Bundle) (q n : Nat) : Sample :=
  match b.handles.find? (fun h => h.quern == q && h.kind == 1 && h.first ≤ n && n < h.first + h.count) with
  | some h => if h.min.toInt ≤ 0 ∧ 0 ≤ h.max.toInt then 0 else h.min
  | none => 0

/-- The glide registers of an activated program. -/
def startGlides (b : Bundle) (q : Nat) : Tab Glide :=
  (List.range 64).foldl (fun t n =>
    Tab.set {} t n { value := glideStart b q n, start := 0, target := glideStart b q n }) []

/-- The ledgers at activation: the image of a running Quern is exchanged in at action 6 (R28, R123); a stopped one takes
it in both. -/
def Quern.loadImage (u : Quern) (img : Option LedgerImage) : Quern :=
  match img, u.active with
  | none, _ => u
  | some i, some _ => { u with swapImage := some (wordsTab i.words) }
  | some i, none => { u with ledgerA := wordsTab i.words, ledgerS := wordsTab i.words }

/-- The staged program becomes active, the old one the staged (R73, R124, R126); glides that a set has staged meanwhile
stand (R170). -/
def Quern.activate (u : Quern) (p : Program) (glides : Tab Glide) (img : Option LedgerImage) : Quern :=
  { (u.loadImage img) with
    active := some p
    staged := u.active
    stagedOk := u.active.isSome
    swapDue := false
    stopNext := false
    stopKeep := false
    scratch := if p.keepScratch then u.scratch else []
    nb := if p.keepScratch then u.nb else Tab.keep (192 ≤ ·) u.nb
    glides := glides }

/-- The active program stops; it remains in the staged store when kept (R103, R124). -/
def Quern.stop (u : Quern) (keep : Bool) : Quern :=
  { u with
    active := none
    staged := if keep then u.active else u.staged
    stagedOk := if keep then u.active.isSome else u.stagedOk
    swapDue := false
    swapImage := none
    stopNext := false
    stopKeep := false
    running := false
    lateNow := false
    lateBells := 0
    counted := false
    hold := false
    outs := []
    posted := false }

/-- The grant of an active program booked at the cost of p, which takes its place under the same key: a variant and the
normal program of one bundle (R125; DESIGN CHOICE, log 101: the spec does not say when). -/
def Warden.rebook (w : Warden) (key cost : Nat) : Warden :=
  let gs := w.grants.map (fun g => if g.cls = 1 ∧ g.key = key then { g with cost := cost, price := priceAt w.setpoint cost } else g)
  let w1 := { w with grants := gs, granted := (gs.map (·.price)).sum }
  if w.freePending then { w1 with epoch := (w.epoch + 1) % 256 } else balanced w1

/-- The grant of the program that p displaces: it returns at the next Bell (R317), or is booked anew at p's cost. -/
def bookSwap (p : Program) (old : Option Program) (s : State) : State :=
  match old with
  | none => s
  | some a =>
    if quernKey a = quernKey p then modWarden s (fun w => w.rebook (quernKey p) (programCost (classCost s 1) p))
    else modDom s p.domain (fun x => { x with displaced := x.displaced ++ [quernKey a] })

/-- The program of Quern q stops and remains in the staged store; its grant returns at the next Bell (R124, R317). -/
def stopKept (q : Nat) (s : State) : State :=
  let u := quern s q
  match u.active with
  | none => s
  | some p =>
    modQuern (modDom s p.domain (fun x => { x with displaced := x.displaced ++ [quernKey p] })) q
      (fun v => v.stop true)

/-- The exchange of a swap to bundle id on Quern q (R123, R124): its staged program, if it is the bundle's, becomes active;
where the bundle has no program for the Quern, the Quern stops; a program that a later load has overwritten is gone. -/
def swapQuern (q id : Nat) (s : State) : State :=
  let u := quern s q
  match bundleOf s id with
  | none => modQuern s q (fun v => { v with swapDue := false })
  | some b =>
    match u.staged.filter (fun p => p.bundle == id) with
    | some p => modQuern (bookSwap p u.active s) q
        (fun v => v.activate p (startGlides b q) (imageFor b.images q (dom s p.domain).rate))
    | none =>
      if b.normal.any (fun p => p.quern == q) then modQuern s q (fun v => { v with swapDue := false }) else stopKept q s

/-- Quern q is late at its swap Bell: the swap to bundle id follows later (R28). -/
def deferSwap (q id : Nat) (s : State) : State := modQuern s q (fun u => { u with swapDue := true, swapFor := id })

/-! ### The swap Bell -/

/-- The Querns a swap concerns (R123, R124): those of its programs, and those of the other bundle for
which it carries no program. -/
def swapQuerns (s : State) (b : Bundle) (other : Option Bundle) (d : Nat) : List Nat :=
  let mine := (b.progsIn d).map (·.quern)
  let stops := match other with
    | none => []
    | some o => ((o.progsIn d).map (·.quern)).filter (fun q =>
        (quern s q).active.any (fun p => p.bundle == o.id) && !b.normal.any (fun p => p.quern == q))
  mine ++ stops

/-- The key of the Loader leave of a swap. -/
def swapKey (b : Bundle) (d : Nat) : Nat := 4 + d + 4 * b.id

/-- A swap asks for the QUERN leave of its programs (R125) and for Loader leave (R120). -/
def askSwapLeave (b : Bundle) (d : Nat) (s : State) : State :=
  requestLeave 4 (swapKey b d) ((b.progsIn d).foldl (fun t p => requestLeave 1 (quernKey p) t) s)

/-- The leave of a swap that does not take place is withdrawn or returned (R317). -/
def dropSwapLeave (b : Bundle) (d : Nat) (s : State) : State :=
  releaseLeave 4 (swapKey b d) ((b.progsIn d).foldl (fun t p => releaseLeave 1 (quernKey p) t) s)

/-- A pending swap ends without having taken place. -/
def dropSwap (w : Swap) (s : State) : State :=
  let s1 := modJex s (fun j => { j with swaps := j.swaps.erase w })
  match bundleOf s1 w.bundle with
  | some b => dropSwapLeave b w.domain s1
  | none => s1

/-- The leave of the swap is granted (R120, R125). -/
def swapGranted (s : State) (b : Bundle) (d : Nat) : Bool :=
  (b.progsIn d).all (fun p => hasGrant s 1 (quernKey p)) && hasGrant s 4 (swapKey b d)

/-- A pending swap counts on the grant of a program: it has asked for its leave (R125). -/
def swapNeeds (s : State) (k : Nat) : Bool :=
  s.jex.swaps.any (fun w => (bundleOf s w.bundle).any (fun b => (b.progsIn w.domain).any (fun p => quernKey p == k)))

/-- Grants of programs displaced at the Bell before are returned, but for those that a pending swap counts on (R125, R317). -/
def returnDisplaced (d : Nat) (s : State) : State :=
  ((dom s d).displaced.filter (fun k => !swapNeeds s k)).foldl (fun t k => releaseLeave 1 k t) (modDom s d (fun x => { x with displaced := [] }))

/-- The Querns of a replaced bundle o in the domains in which b has no program stop, at their next Bell, at once where no
Bell comes; their programs remain in the staged stores (R124; DEDUCED, log 100). -/
def stopOrphans (b o : Bundle) (s : State) : State :=
  (o.normal.filter (fun p => b.progsIn p.domain = [] ∧ (quern s p.quern).active.any (fun x => x.bundle == o.id) ∧
      !b.normal.any (fun y => y.quern == p.quern))).foldl (fun t p =>
    if (dom t p.domain).runs then modQuern t p.quern (fun u => { u with stopNext := true, stopKeep := true })
    else returnDisplaced p.domain (stopKept p.quern t)) s

/-- Bundle states after domain d has swapped (R123, R124). -/
def swapStates (b : Bundle) (other : Option Bundle) (d : Nat) (revert : Bool) (s : State) : State :=
  let done := b.swapped ||| BitVec.ofNat 4 (2 ^ d)
  let s1 := modBundle s b.id (fun x => { x with swapped := done, state := if done = x.domMask then .active else x.state })
  match other with
  | some o =>
    if done = b.domMask then
      stopOrphans b o (modBundle s1 o.id (fun x => { x with state := if revert then .staged else .replaced, swapped := 0 }))
    else s1
  | none => s1

/-- The reply of a swap command, if one waits. -/
def swapReply (w : Swap) (ok : Bool) (b : BitVec 48) (s : State) : State :=
  if w.mb = 0 then s
  else if ok then
    reply (w.mb - 1) [wrd w.bundle, wrd (b2n w.partner * 2147483648 + bellHi b), bellLo b] s
  else refuse (w.mb - 1) ⟨9, 0x38, 0x7F, w.domain⟩ s

/-- Bells of 1 ms at a domain's present rate, rounded up: the leave of a swap is judged that many Bells before its own, since
the model sees the books at Bells (DESIGN CHOICE, log 122). -/
def judgeBells (x : Domain) : Nat := ceilDiv x.rateNow 100000
/-- Pending swaps of domain d with a stated Bell 1 ms ahead: their leave is granted by now, or they do not take place (R125,
R516). -/
def judgeSwaps (d : Nat) (s : State) : State :=
  modJex s (fun j => { j with swaps := j.swaps.map (fun w =>
    if w.domain = d ∧ !w.next ∧ w.judged.isNone ∧ w.bell.toNat ≤ (dom s d).bell.toNat + judgeBells (dom s d) then
      { w with judged := some ((bundleOf s w.bundle).any (fun b => swapGranted s b d)) }
    else w) })

/-- A due swap carried out (R28, R123, R125): with leave not granted nothing swaps; that of a "next Bell" swap is judged at the
swap Bell (log 122). A pair's swap takes place at its Bell
though the partner's answer has not come, and the reply's partner bit is then 0 (DESIGN CHOICE, log 115: R128 does not say). -/
def runSwap (w : Swap) (s : State) : State :=
  let now := (dom s w.domain).bell
  let s0 := modJex s (fun j => { j with swaps := j.swaps.erase w })
  match bundleOf s w.bundle with
  | none => s0
  | some b =>
    if w.judged.getD true ∧ swapGranted s b w.domain then
      let other := if w.revert then replacerOf s b else bundleOf s b.replaces
      let qs := swapQuerns s b other w.domain
      let late := qs.filter (fun q => (quern s q).lateNow)
      let s1 := returnLeave 4 (swapKey b w.domain) ((qs.filter (fun q => !(quern s q).lateNow)).foldl (fun t q => swapQuern q b.id t) s0)
      let s2 := late.foldl (fun t q => deferSwap q b.id t) s1
      let s3 := noteDeferred w.domain 2 0 b.id now late s2
      refreshRates (swapReply w true now (swapStates b other w.domain w.revert s3))
    else swapReply w false now (dropSwapLeave b w.domain s0)

/-- A swap is due at the present Bell of its domain. -/
def Swap.due (w : Swap) (s : State) (d : Nat) : Bool :=
  w.domain == d && (w.next || decide (w.bell.toNat ≤ (dom s d).bell.toNat))

/-- The Querns of domain d with a deferred swap that are not late. -/
def deferredSwaps (s : State) (d : Nat) : List Nat :=
  (s.querns.filter (fun e => e.2.swapDue && !e.2.lateNow &&
    (quernDom e.2 == some d || (e.2.active.isNone && (e.2.staged.map (·.domain)) == some d)))).map (·.1)

/-- The Querns of domain d that stop at this Bell; a late one stops later, as at a swap Bell (R28, R124), but in FALLBACK
at once (R36). -/
def stopping (s : State) (d : Nat) : List Nat :=
  (s.querns.filter (fun e => e.2.stopNext && quernDom e.2 == some d && (!e.2.lateNow || s.aon.mode == .fallback))).map (·.1)

/-- A Quern stopped for good: its grant is returned and its program is gone (R124). -/
def stopQuern (q : Nat) (s : State) : State :=
  let keys := ((quern s q).active.map quernKey).toList
  keys.foldl (fun t k => releaseLeave 1 k t) (modQuern s q (fun u => u.stop false))

/-- A Quern stops as its record says: with its program kept in the staged store, or gone. -/
def stopDue (q : Nat) (s : State) : State := if (quern s q).stopKeep then stopKept q s else stopQuern q s

/-! ### Unloading (R124) -/

/-- The lines, staged stores and handles of a bundle freed. A line that an active program uses stays VALID until none does
(R138). -/
def freeBundle (b : Bundle) (s : State) : State :=
  let out := b.lineRecs.filter (fun l => !lineShared s b l && (line s l.entry).valid)
  let s1 := modJex ((out.filter (fun l => !lineUsed s l.entry)).foldl freeLine s) (fun j =>
    { j with keptLines := j.keptLines ++ out.filter (fun l => lineUsed s l.entry) })
  let s2 := b.progs.foldl (fun t p => modQuern t p.quern (fun u =>
    if u.staged.any (fun x => x.bundle == b.id) then { u with staged := none, stagedOk := false } else u)) s1
  refreshRates (modJex s2 (fun j => { j with bundles := j.bundles.filter (fun x => x.id != b.id) }))

/-- Lines of unloaded bundles that no active program uses any longer are freed (R138). -/
def freeKept (s : State) : State :=
  let out := s.jex.keptLines.filter (fun l => !lineUsed s l.entry)
  if out = [] then s else modJex (out.foldl freeLine s) (fun j => { j with keptLines := j.keptLines.filter (fun l => lineUsed s l.entry) })

/-- The Querns of an ACTIVE bundle stop at the next Bell of their domains, at once where no Bell comes. -/
def stopBundle (b : Bundle) (s : State) : State :=
  (b.normal.filter (fun p => (quern s p.quern).active.any (fun x => x.bundle == b.id))).foldl (fun t p =>
    if (dom t p.domain).runs then modQuern t p.quern (fun u => { u with stopNext := true, stopKeep := false })
    else stopQuern p.quern t) s

/-- An ACTIVE bundle whose Querns have all stopped is freed, a bundle it had replaced becomes STAGED, and
the command is answered (R124). -/
def finishUnload (b : Bundle) (s : State) : State :=
  if b.unload = 0 ∨ b.normal.any (fun p => (quern s p.quern).active.any (fun x => x.bundle == b.id)) then s
  else
    let s1 := reply (b.unload - 1) [0] (freeBundle b s)
    match bundleOf s1 b.replaces with
    | some o =>
      if o.state = .replaced then
        modBundle s1 o.id (fun x => { x with state := .staged, swapped := 0 })
      else s1
    | none => s1

/-- Every unload that can finish. -/
def finishUnloads (s : State) : State := s.jex.bundles.foldl (fun t b => finishUnload b t) s

/-- The unload of an ACTIVE bundle begins: its Querns stop at the next Bell of their domains. -/
def beginUnload (m : Nat) (b : Bundle) (s : State) : State :=
  finishUnloads (stopBundle b (modBundle s b.id (fun x => { x with unload := m + 1 })))

/-- Action 5 of a Bell of domain d (R27). -/
def swapAction (d : Nat) (s : State) : State :=
  let s1 := returnDisplaced d s
  let s2 := finishUnloads ((stopping s1 d).foldl (fun t q => stopDue q t) s1)
  let s3 := (deferredSwaps s2 d).foldl (fun t q => swapQuern q (quern t q).swapFor t) s2
  freeKept (refreshFloor ((s3.jex.swaps.filter (fun w => w.due s3 d)).foldl (fun t w => runSwap w t) (judgeSwaps d s3)))

end Sys2Proof.Machine
end

