-- ==== Sys2Proof/Machine/CmdBundle.lean ====
section
/-! DEFINITION. The bundle and program commands and events: BUNDLE_LOAD to QUERN_RESTORE (R115, R120 to
R125, R128, R132, R516), BUNDLE_LOAD_DONE, QUERN_AUTO_RESTORE. BUNDLE_WRITE stands with the segment
writes. -/

namespace Sys2Proof.Machine

/-! ### Loading -/

/-- The first of checks 5 to 8 of R115 that a bundle fails, against those loaded and those of earlier loads (R438). -/
def fitRefusal (s : State) (b : Bundle) : Option Refuse :=
  if ratesFit s b = false then some (badParam 0x34)
  else match overlapFail s b with
    | some q => some (badParam 0x35 none q)
    | none => match stallFail s b with
      | some q => some (badParam 0x36 none q)
      | none => (admitFail b).map (fun q => badParam 0x37 none q)
/-- The first of checks 1 to 8 of R115 that a bundle file fails. A file with the BUNDLE_ID of a loaded bundle is accepted, and
commands then name the bundle loaded first (DESIGN CHOICE, log 133: R108 and R115 state no check). -/
def loadRefusal (s : State) (r : Rd) (room slot : Nat) : Option Refuse :=
  if formatOk r room = false then some (badParam 0x30)
  else
    let total := rdNat r 8 4
    if rdNat r 30 1 ≠ 1 ∨ keyMatches s r total 1 = false ∨ revoked s 1 then some ⟨7, 0x31, 0x7F, none⟩
    else if signatureOk r total = false then some ⟨7, 0x32, 0x7F, none⟩
    else if 7 < rdNat r 6 2 then some ⟨6, 0x33, 0x7F, none⟩
    else fitRefusal s (bundleFile r slot)

/-- The 3-word refusal of a load (R437). -/
def refuseLoad (m id : Nat) (r : Refuse) (s : State) : State := replyWith m r.status [wrd id, r.word] s

/-- The file in bundle slot n and its usable bytes. -/
def bundleRd (s : State) (n : Nat) : Rd × Nat :=
  let p := bundlePlace n
  (flashFile s p.1 p.2, regionSize s p.1 p.2 0x800000)

/-- With no load under way the next that waits begins, and asks for LOADER leave (R115). -/
def nextLoad (s : State) : State :=
  match s.jex.load, s.jex.loads with
  | none, l :: rest => requestLeave 4 0 (modJex s (fun j => { j with load := some l, loads := rest }))
  | _, _ => s

/-- Own checks of BUNDLE_LOAD: at most 16 bundles, no load or write of the slot in progress. -/
def bundleLoadChecks (m : Nat) (s : State) : Option Refuse :=
  firstRefusal [(s.jex.bundles.length + (loadsNow s).length < 16, busyRefused 0xFA),
    (!(loadsNow s).any (fun l => l.bundle.slot == fld (arg s m 1) 0 3), busyRefused 0xFA),
    (!(acceptedMbs s).any (fun k => k != m && cmdOp s k == 0x20 && fld (arg s k 1) 16 8 == fld (arg s m 1) 0 3),
      busyRefused 0xFA)]

/-- The file in bundle slot n is read over the flash port (R478). -/
def readBundle (n : Nat) (s : State) : State :=
  readFile 4 (bundlePlace n).1 (bundlePlace n).2 (bundleRd s n).2 s
/-- Checks 1 to 8 of R115 on the file read; then the load waits its turn and asks for loader leave. -/
def judgeLoad (m slot : Nat) (s : State) : State :=
  let f := bundleRd s slot
  match loadRefusal s f.1 f.2 slot with
  | some r => refuseLoad m (if 64 ≤ f.2 then rdNat f.1 12 4 else 0) r s
  | none => nextLoad (modJex s (fun j =>
      { j with loads := j.loads ++ [{ mb := m, bundle := { bundleFile f.1 slot with loading := true } }] }))

/-- BUNDLE_LOAD accepted: the file is read and judged. -/
def bundleLoadRun (m : Nat) (s : State) : State := judgeLoad m (fld (arg s m 1) 0 3) (readBundle (fld (arg s m 1) 0 3) s)
/-- BUNDLE_LOAD (0x21). -/
def execBundleLoad (m : Fin 8) (s : State) : Out :=
  .next (serve 0x21 m (bundleLoadChecks m) (bundleLoadRun m) s)

/-- The staged stores of a bundle's Querns marked empty (R105, R115). -/
def emptyStores (b : Bundle) (s : State) : State :=
  b.progs.foldl (fun t p => modQuern t p.quern (fun u => { u with staged := none, stagedOk := false })) s

/-- BUNDLE_LOAD_DONE: with the loader leave granted, lines and programs are placed with check 10, once checks 5 to 8 hold still
of what was changed since they were made; the leave is returned (R115, R121, R438). -/
def loadDone (l : Load) (s : State) : State :=
  let b := { l.bundle with loading := false }
  let s1 := modJex s (fun j => { j with load := none })
  nextLoad (returnLeave 4 0 (match fitRefusal (modJex s1 (fun j => { j with loads := [] })) b, programsFail s b with
    | some r, _ => refuseLoad l.mb b.id r s1
    | none, some (q, c, i) => refuseLoad l.mb b.id (badParam c i q) (emptyStores b s1)
    | none, none => reply l.mb [wrd b.id, 0] (stageBundle b s1)))

/-- BUNDLE_LOAD_DONE; no bundle is loaded before the full test after a cold boot is done (R162). -/
def execBundleLoadDone (s : State) : Out :=
  match s.jex.load with
  | some l => .next (if l.granted ∧ s.jex.fullLeft = 0 then loadDone l s else s)
  | none => .next s

/-! ### Swapping -/

/-- The bundle a command names in w1. -/
def namedBundle (s : State) (m : Nat) : Option Bundle := bundleOf s (arg s m 1).toNat

/-- A Quern of the list is claimed by an open or armed set; the lowest. -/
def claimedQuern (s : State) (qs : List Nat) : Option Nat :=
  (List.range 128).find? (fun q => qs.contains q && (setsWhere s HostSet.live).any (fun n => (hostSet s n).claims.contains q))

/-- Domain, Bell and flags of a PROGRAM_SWAP. -/
def swapArgs (s : State) (m : Nat) : Swap :=
  { domain := fld (arg s m 2) 28 2, bundle := (arg s m 1).toNat, next := bit (arg s m 2) 31, revert := bit (arg s m 2) 30,
    bell := bellOf (fld (arg s m 2) 0 16) (arg s m 3).toNat, mb := m + 1 }

/-- The checks of R516 for PROGRAM_SWAP, in the table's order. -/
def programSwapChecks (m since : Nat) (s : State) : Option Refuse :=
  let w := swapArgs s m
  let d := w.domain
  match namedBundle s m with
  | none => some (badParam 0x39 d)
  | some b =>
    let state := if w.revert then b.state == .replaced else b.state == .staged
    let bellOk := if w.next then (dom s d).runs else bellAllowed s d w.bell (leadPs s) since
    let claimed := claimedQuern s (b.progs.map (·.quern))
    firstRefusal [(state, stateRefused 0x3A d), (b.progsIn d != [] && !b.swapped.getLsbD d, badParam 0x3B d),
      (bellOk, badParam 0x3C d), (claimed.isNone, busyRefused 0x46 d (claimed.getD 0x7F)),
      (!s.jex.swaps.any (fun x => x.bundle == b.id && x.domain == d), busyRefused 0xFA d)]

/-- The 128-bit and 32-bit words of a digest, most significant first. -/
def digestWords (x : BitVec 384) : List Word := (List.range 12).map (fun i => (x >>> (32 * (11 - i))).setWidth 32)

/-- A record appended for the partner, to go with the next Bell frame of domain d (R289, log 22);
in an arming from Bell S on (R303). -/
def sendRecord (d kind : Nat) (ws : List Word) (s : State) : State :=
  if paired s || lends s then
    modTwin s (fun t => { t with peers := Tab.mod {} t.peers d (fun p =>
      { p with records := p.records ++ [wrd (kind * 16777216 + ws.length * 65536)] ++ ws }) })
  else s

/-- The stated Bell of a "next Bell" command: converted in an armed pair (R181). -/
def statedBell (s : State) (d since : Nat) (next : Bool) (b : BitVec 48) : Bool × BitVec 48 :=
  if next && paired s then (false, firstBell s d since) else (next, b)

/-- PROGRAM_SWAP accepted: leave is asked for, the swap waits for its Bell, and in a pair goes to the
partner (R123, R125, R128). -/
def programSwapRun (m since : Nat) (s : State) : State :=
  let w := swapArgs s m
  let nb := statedBell s w.domain since w.next w.bell
  let w1 := { w with next := nb.1, bell := nb.2 }
  match namedBundle s m with
  | none => s
  | some b =>
    let s1 := askSwapLeave b w.domain s
    sendRecord w.domain 4 ([wrd b.id, wrd (b2n w.revert * 1073741824 + bellHi w1.bell), bellLo w1.bell] ++ digestWords b.digest)
      (modJex s1 (fun j => { j with swaps := j.swaps ++ [w1] }))

/-- PROGRAM_SWAP (0x22). -/
def execProgramSwap (m : Fin 8) (since : Nat) (s : State) : Out :=
  .next (serve 0x22 m (programSwapChecks m since) (programSwapRun m since) s)

/-! ### Unloading and status -/

/-- The checks of R516 for BUNDLE_UNLOAD. -/
def bundleUnloadChecks (m : Nat) (s : State) : Option Refuse :=
  match namedBundle s m with
  | none => some (badParam 0x39)
  | some b => firstRefusal
      [(b.state != .active || s.aon.mode == .maintenance, stateRefused 0x3A),
       (b.unload == 0 && !s.jex.swaps.any (fun w => w.bundle == b.id), busyRefused 0xFA)]

/-- BUNDLE_UNLOAD accepted (R124). A STAGED bundle of which one domain has been swapped goes at once, while its programs there
run on and keep the lines they use (DESIGN CHOICE, log 113: R124 does not speak of it). -/
def bundleUnloadRun (m : Nat) (s : State) : State :=
  match namedBundle s m with
  | none => s
  | some b => if b.state = .active then beginUnload m b s else reply m [0] (freeBundle b s)

/-- BUNDLE_UNLOAD (0x23). -/
def execBundleUnload (m : Fin 8) (s : State) : Out :=
  .next (serve 0x23 m (bundleUnloadChecks m) (bundleUnloadRun m) s)

/-- The bundle that BUNDLE_STATUS names: by identifier, or by place in the list of loaded bundles. -/
def statusBundle (s : State) (m : Nat) : Option Bundle :=
  let w := arg s m 1
  if bit w 31 ∧ fld w 4 27 = 0 then
    let l := s.jex.bundles.filter (fun b => !b.loading)
    l[fld w 0 4]?
  else namedBundle s m

/-- State code of BUNDLE_STATUS. -/
def BState.code : BState → Nat
  | .staged => 1 | .active => 2 | .replaced => 3

/-- Leave units booked for a bundle. -/
def bundleLeave (s : State) (b : Bundle) : Nat :=
  ((s.warden.grants.filter (fun g => g.cls == 1 && g.key / 128 == b.id)).map (·.price)).sum

/-- The words of BUNDLE_STATUS. -/
def bundleWords (s : State) (b : Bundle) : List Word :=
  [wrd b.id, wrd (b.state.code * 268435456 + b.slot * 33554432 + b.domMask.toNat * 1048576 + b.swapped.toNat * 65536 + b.feature),
   wrd b.version, wrd b.replaces, wrd (b.lineRecs.length * 65536 + b.normal.length),
   wrd ((b.lineRecs.map (·.length)).sum), wrd (bundleLeave s b)] ++ (digestWords b.digest).take 8

/-- The check of R516 for BUNDLE_STATUS. -/
def bundleStatusChecks (m : Nat) (s : State) : Option Refuse :=
  if (statusBundle s m).isSome then none else some (badParam 0x39)
/-- BUNDLE_STATUS accepted. -/
def bundleStatusRun (m : Nat) (s : State) : State :=
  match statusBundle s m with | some b => reply m (bundleWords s b) s | none => s
/-- BUNDLE_STATUS (0x24). -/
def execBundleStatus (m : Fin 8) (s : State) : Out :=
  .next (serve 0x24 m (bundleStatusChecks m) (bundleStatusRun m) s)

/-! ### Restoring a late-muted Quern (R132) -/

/-- The restore ramp of Quern q starts. -/
def restoreQuern (q : Nat) (s : State) : State :=
  modQuern s q (fun u => if u.muted then { u with muted := false, rampDown := 0, rampUp := 1, timely := 0 } else u)

/-- QUERN_RESTORE accepted. -/
def quernRestoreRun (m : Nat) (s : State) : State :=
  let q := fld (arg s m 1) 0 7
  reply m [wrd (b2n (quern s q).muted)] (restoreQuern q s)
/-- QUERN_RESTORE (0x25). -/
def execQuernRestore (m : Fin 8) (s : State) : Out := .next (serve 0x25 m noChecks (quernRestoreRun m) s)

/-- The Bells of 1 s at a domain's rate. -/
def secondBells (s : State) (d : Nat) : Nat := ceilDiv (dom s d).rateNow 100

/-- QUERN_AUTO_RESTORE: after 1 s of consecutive Bells with passes in time (R132). -/
def execQuernAutoRestore (q : Fin 128) (s : State) : Out :=
  let u := quern s q
  match quernDom u with
  | some d => .next (if jexOn s ∧ u.muted ∧ secondBells s d ≤ u.timely then restoreQuern q s else s)
  | none => .next s

end Sys2Proof.Machine
end

