-- ==== Sys2Proof/Machine/Square.lean ====
section
/-! DEFINITION. Actions 3 and 7 of a Bell (R27): frames, Sieves and Stiles posted into the front page
with concealment and rejoin (R186 to R189, R194 to R197, R204 to R206, R213 to R226), and the output
buffers filled through output map and detours (R190, R191, R198 to R203). -/

namespace Sys2Proof.Machine

/-! ### Concealment (R204 to R206) -/

/-- M of R204: the nominal rate in kHz doubled. -/
def concealBells (rate : Nat) : Nat :=
  match rate with
  | 0 => 16 | 1 => 32 | 2 => 48 | 3 => 64 | 4 => 88 | 5 => 96 | 6 => 176 | _ => 192
/-- N of R131: the nominal rate in kHz. -/
def rampBells (rate : Nat) : Nat := concealBells rate / 2

/-- v x a / n, rounded convergently. -/
def scale (v : Sample) (a n : Nat) : Sample := smp (rneDiv (v.toInt * (a : Int)) n)

/-- The value at place j of a concealment (R204). -/
def concealValue (raw : Bool) (h : Sample) (j m : Nat) : Sample :=
  if raw then 0 else if j = 0 then h else if j ≤ m then scale h (m - j) m else 0

/-- A channel with what it posts recorded. -/
def Channel.post (c : Channel) (v : Slot) : Slot × Channel :=
  (v, { c with prev := v.word, last := if v.valid then v.word else c.last })

/-- One Bell of a channel: a good sample posts in full or ramps back in, a RAW channel's always in full (R205); a missing one
conceals. -/
def Channel.step (m : Nat) (raw : Bool) (got : Option Slot) (c : Channel) : Slot × Channel :=
  match got, c.phase with
  | some v, .none => c.post v
  | some v, .conceal _ =>
    if raw then ({ c with phase := .none } : Channel).post v
    else ({ c with phase := .rejoin 1 } : Channel).post { v with word := scale v.word 1 m }
  | some v, .rejoin k =>
    if raw || decide (m ≤ k + 1) then ({ c with phase := .none } : Channel).post v
    else ({ c with phase := .rejoin (k + 1) } : Channel).post { v with word := scale v.word (k + 1) m }
  | none, .none =>
    ({ c with phase := .conceal 0, h := c.last } : Channel).post { word := concealValue raw c.last 0 m }
  | none, .rejoin _ =>
    ({ c with phase := .conceal 0, h := c.prev } : Channel).post { word := concealValue raw c.prev 0 m }
  | none, .conceal j =>
    ({ c with phase := .conceal (Nat.min (j + 1) (m + 1)) } : Channel).post
      { word := concealValue raw c.h (j + 1) m }

/-- A channel that posts nothing: what it conceals is over (R188). -/
def Channel.idle (c : Channel) : Channel := { c with phase := .none, prev := 0, delayed := {} }

/-- A concealment is in force, its ramp back not yet begun. -/
def Conceal.holding : Conceal → Bool
  | .conceal _ => true
  | _ => false

/-- CONCEALED (R188). -/
def Channel.concealed (c : Channel) : Bool := c.phase != .none

/-! ### Input frames (R209, R213 to R216, R226) -/

/-- Bits of a word-length code (R232). -/
def wordBits (wl : Nat) : Nat := match wl with | 0 => 16 | 1 => 20 | 2 => 24 | _ => 32

/-- A raw TDM slot as a sample word, with whether it saturated (R216). -/
def tdmSample (wl : Nat) (w : Word) : Sample × Bool :=
  let v := (w.toInt / 2 ^ (32 - wordBits wl))
  match wl with
  | 0 => (smp (v * 16), false)
  | 1 => (smp v, false)
  | 2 => sat20 (conv v 4)
  | _ => sat20 (conv v 12)

/-- The frame sync of the port's group is the domain's reference and not in force, or was its reference when it was lost and
the domain has not been LOCKED since (R54, R60, R206). -/
def refLost (s : State) (d g : Nat) : Bool :=
  (((dom s d).src == 1 && (dom s d).srcGroup == g) || (dom s d).lostRefs.contains (1, g)) &&
    ((dom s d).state == .holdover || (dom s d).state == .slew || (dom s d).state == .switching)

/-- The levels at the sampling edges: the rising edges of BCLK, with BCLK_INV the falling ones (R211). -/
def Group.sampled (x : Group) (f : FrameIn) : List Bool := if x.bclkInv then f.fall else f.rise
/-- TDM slot t of the levels of a frame: 32 bits, the most significant first, slot 0 after the delay of the format
(R211). -/
def Group.slotWord (x : Group) (bits : List Bool) (t : Nat) : Word :=
  wrd ((List.range 32).foldl (fun n i => 2 * n + b2n (bits.getD (x.delay + 32 * t + i) false)) 0)
/-- The frame of group g attached to the previous Bell is complete: every bit of its TDM slots has been sampled (R214); a
master group clocks its frames itself. The bits count from the first of slot 0, which the delay of a format puts after the
frame-start edge (DEDUCED, log 102). -/
def frameComplete (s : State) (e : BellEnv) (g : Nat) : Bool := (group s g).master || decide (32 * (group s g).tdm ≤ e.bits.getD g 0)
/-- The TDM slots of the complete frame that a port brings to this Bell. -/
def frameOf (s : State) (e : BellEnv) (p : Nat) : Option (List Word) :=
  let g := (port s p).group
  if frameComplete s e g then
    let bits := ((e.frames.find? (fun f => f.port == p)).map (group s g).sampled).getD []
    some ((List.range (group s g).tdm).map ((group s g).slotWord bits))
  else none

/-- Slot 0x1E00 + c posted in domain d. -/
def postFront (d n : Nat) (v : Slot) (s : State) : State :=
  modDom s d (fun x => { x with front := Tab.set {} x.front n v })

/-- The channel record of input channel c. -/
def inChan (s : State) (c : Nat) : Channel := Tab.get {} s.audio.inChan c

/-- A channel at the Bell of a rejoin: a loss found there restarts its concealment from the value posted last (R206). -/
def Channel.again (c : Channel) : Channel := if c.phase.holding then { c with phase := .rejoin 0 } else c

/-- Input channel c at this Bell, from its frame or mirror (R188, R189): local copies of transmitted
channels are held back one Bell (R64); `again` says that this is the Bell of a rejoin. -/
def postInput (d c : Nat) (again : Bool) (got : Option Slot) (s : State) : State :=
  let e := Tab.get {} s.audio.inA c
  let ch := if again then (inChan s c).again else inChan s c
  let r := ch.step (concealBells (dom s d).rate) e.raw got
  let ch1 := { r.2 with delayed := r.1 }
  let v := if e.mirrorTx then ch.delayed else r.1
  modAudio (postFront d (0x1E00 + c) v s) (fun a => { a with inChan := Tab.set {} a.inChan c ch1 })

/-- A mirrored sample of the partner's latest frame for domain d (R189, R288). -/
def mirrored (s : State) (d c : Nat) : Option Slot :=
  let p := Tab.get {} s.twin.peers d
  if p.mirrorOk then (p.mirror.find? (fun e => e.1 == c)).map (·.2) else none

/-- A channel that posts nothing: its slot holds 0, and nothing is concealed (R188). -/
def idleInput (c : Nat) (s : State) : State :=
  modAudio s (fun a => { a with inChan := Tab.mod {} a.inChan c Channel.idle })

/-- One channel of a port: TDM slot t with the frame's word, if the port's frame is good. -/
def inputSlot (d p t : Nat) (frame : Option (List Word)) (good again : Bool) (s : State) : State :=
  let c := 16 * p + t
  match (Tab.get {} s.audio.inA c).source with
  | 1 =>
    if (port s p).inEn ∧ (port s p).started then
      match good, frame with
      | true, some f =>
        let r := tdmSample (port s p).inWl (f.getD t 0)
        let s1 := if r.2 then modPort s p (fun x => { x with inSat := satAdd x.inSat 1 16 }) else s
        postInput d c false (some { word := r.1, valid := true }) s1
      | _, _ => postInput d c again none s
    else idleInput c s
  | 2 => postInput d c false (mirrored s d c) s
  | _ => idleInput c s

/-- The Bell after which a port's frames count, set when it starts (R226). -/
def startPort (d p : Nat) (s : State) : State :=
  let x := port s p
  let b := (dom s d).bell
  match x.startAt with
  | some k => if x.started ∨ b.toNat ≤ k.toNat then s else modPort s p (fun y => { y with started := true })
  | none =>
    if x.aligned then
      let a := align s x.align
      if a.state = 2 ∧ a.start.toNat ≤ b.toNat then modPort s p (fun y => { y with startAt := some b }) else s
    else modPort s p (fun y => { y with startAt := some b })

/-- The frames of a port are withheld: its group was LOST at the Bell before, or the reference is not in force
(R205, R206, R220). -/
def portWithheld (s : State) (d p : Nat) : Bool :=
  let g := (port s p).group
  (group s g).lostSeen || refLost s d g

/-- The frame of a port is good: complete and not withheld (R204, R205, R214, R219, R220). -/
def frameGood (s : State) (d p : Nat) (frame : Option (List Word)) : Bool := frame.isSome && !portWithheld s d p

/-- One port at action 3. -/
def inputPort (e : BellEnv) (d p : Nat) (s : State) : State :=
  let s := startPort d p s
  let frame := frameOf s e p
  let good := frameGood s d p frame
  let x := port s p
  let held := portWithheld s d p
  let s1 := forEach (List.range (group s x.group).tdm) (fun t i => inputSlot d p i frame good (x.withheld && !held) t) s
  if x.inEn ∧ x.started then
    let b := (dom s d).bell
    let s2 := modPort s1 p (fun y => { y with concealed := !good, withheld := held })
    if !good && !x.concealed then postEvent 0x0032 [wrd p, bellLo b] s2
    else if good && x.concealed then postEvent 0x0033 [wrd p, bellLo (b - 1)] s2
    else s2
  else s1

/-- Ports of domain d. -/
def domPorts (s : State) (d : Nat) : List Nat :=
  ((List.range 32).filter (fun p => portDomain s p == some d))

/-- A frame of a group begins under the core's configuration: its outputs are driven in it if the interlock permits now
(R273, R297, R298). -/
def Group.startFrame (x : Group) (permits : Bool) : Group := { x with passed := true, drives := permits, tail := false }
/-- What a master group reports of the frame it drives (R231). -/
def Group.reports (x : Group) (rate code : Nat) : Group :=
  { x with rate := rate, rateCode := code, bclks := 32 * x.tdm, phase := 8 }
/-- Groups of domain d after its ports have posted: an incomplete frame loses a slave group with UNDERRUN (R219), judged
from the second Bell at which the group is enabled; a master group reports the frame it drives (R231). -/
def judgeGroup (e : BellEnv) (d g : Nat) (s : State) : State :=
  let x := group s g
  if x.enable ∧ x.domain = d then
    if x.master then
      modGroup s g (fun y =>
        (y.startFrame (driving s)).reports (dom s d).rateNow (dom s d).rate)
    else
      let s1 :=
        if x.begun && !frameComplete s e g then
          if x.lost then modGroup s g (fun y => { y with good := 0 })
          else loseGroup g (fun y => { y with underrun := true, good := 0 }) s
        else s
      -- a group that supplies its domain's Bell has waited for LOCKED (R220)
      modGroup s1 g (fun y =>
        let z := if y.lost && y.good == 16 && !codeWrong s y && (dom s d).state == .locked then { y with state := 1, good := 0 } else y
        { z.startFrame (driving s) with lostWas := x.lost, lostSeen := z.lost, begun := true })
  else s

/-! ### Sieves (R221 to R223) -/

/-- Bells from the PDM edges to the posting of a Sieve: 0.5 ms (R63). -/
def sieveBells (rate : Nat) : Nat := if rate = 1 then 8 else 24

/-- One Sieve at action 3: slot 0x1D80 + i of its clock's domain, 0.5 ms after its edges. A Sieve taken from the partner posts
its mirror; a transmitted one is held back a Bell (R288). -/
def postSieve (e : BellEnv) (d i : Nat) (s : State) : State :=
  let c := Tab.get {} s.audio.sieves i
  let k := Tab.get {} s.audio.pdmClks (i / 8)
  if s.twin.sieveRx.getLsbD i then
    match mirrored s d (512 + i) with
    | some v => postFront d (0x1D80 + i) v s
    | none => s
  else if c.enable ∧ k.enable ∧ k.domain = d then
    let h := (((e.sieves.find? (fun v => v.1 == i)).map (·.2)).getD 0 :: Tab.get [] s.audio.sieveHist i).take 24
    let s := modAudio s (fun a => { a with sieveHist := Tab.set [] a.sieveHist i h })
    let x := h.getD (sieveBells (dom s d).rate - 1) 0
    let w := (sat20 (conv (x * 2 ^ c.gainShift) 3)).1
    let r := if c.hpf then let f := takeFresh s; (Config.sieveHpf i w f.1, f.2) else (w, s)
    let v : Slot := if s.audio.sieveStuck.getLsbD i then {} else { word := r.1, valid := true }
    if s.twin.sieveTx.getLsbD i then
      modAudio (postFront d (0x1D80 + i) (Tab.get {} s.audio.sieveDelay i) r.2)
        (fun a => { a with sieveDelay := Tab.set {} a.sieveDelay i v })
    else postFront d (0x1D80 + i) v r.2
  else if c.enable && k.enable then s
  else modAudio s (fun a => { a with sieveHist := Tab.set [] a.sieveHist i [] })

/-! ### Stiles (R194 to R197) -/

/-- Q4.20 ratio of two rates, in the 24 bits of RATIO: rounded down, and the largest value where it does not fit (DESIGN
CHOICE, log 124: R194 gives the format alone). -/
def stileRatio (dst src : Nat) : Nat := if src = 0 then 0 else Nat.min 16777215 (dst * 1048576 / src)

/-- The status of Stile i. -/
def stileStat (s : State) (i : Nat) : StileStat := Tab.get {} s.audio.stileStat i
/-- The status of Stile i passed through f. -/
def modStile (s : State) (i : Nat) (f : StileStat → StileStat) : State :=
  modAudio s (fun a => { a with stileStat := Tab.mod {} a.stileStat i f })

/-- An interpolation phase settled by the device itself: free but for its last bit, which is 1 where the delay may stray by
2 destination Bells, so that both devices of a pair take the same bounds from the phase (DESIGN CHOICE, log 123: R197 sends the
phase alone). -/
def settlePhase (free : Nat) (wide : Bool) : Nat := 2 * (free % 33554432) + b2n wide

/-- The interpolation phase a Stile uses at this Bell: the partner's in an armed STANDBY, or in a joiner that verifies, where
the frame before this Bell has come with it, else its own (R197, R306). -/
def stilePhaseOf (s : State) (d i own : Nat) : Nat :=
  let p := Tab.get {} s.twin.peers d
  let follows := s.twin.role == .standby || (s.twin.armMb.isSome && s.twin.arm == .verify)
  match follows, p.frameNow, p.phases.find? (fun e => e.1 == i) with
  | true, true, some e => e.2
  | _, _, _ => own

/-- The Stile output that the partner forwards to a joiner, used until 4 ms after its catch-up (R306). -/
def forwarded (s : State) (d i : Nat) : Option Slot :=
  let p := Tab.get {} s.twin.peers d
  if s.twin.armMb.isSome ∧ p.since * 100000 < 4 * (dom s d).rateNow then
    (p.stileOut.find? (fun e => e.1 == i)).map (·.2)
  else none

/-- The source samples in the interpolation span of an output sample, latest first (R63, R195): its centre lies 1.5 ms back,
to the nearest sample, give or take `slack` samples; its centre within them and its length are free. A sample the Stile has
not taken reads as an unposted slot. -/
def stileSpan (hist : List Slot) (srcRate slack ratio phase : Nat) : List Slot :=
  let p := Config.stileSpan ratio phase
  let centre := (3 * srcRate + 100000) / 200000 - slack + p.1 % (2 * slack + 1)
  let half := p.2 % (centre + 1)
  (List.range (2 * half + 1)).map (fun k => hist.getD (centre - half + k) {})

/-- The delay may stray by 2 destination Bells: one of the domains is not LOCKED (R195). -/
def stileWide (x y : Domain) : Bool := x.state != .locked || y.state != .locked
/-- The source samples in the destination Bells by which the delay may stray at a phase: 1 while both domains are LOCKED, else
2 (R195). -/
def stileSlack (x y : Domain) (phase : Nat) : Nat := (1 + phase % 2) * nominalRate x.rate / nominalRate y.rate

/-- The output sample of a Stile: its word from the span, VALID when every sample of the span has it, LATE when any
has it (R195). It depends on the nominal rates and the phase, which both devices of a pair have (R197). -/
def stileSample (hist : List Slot) (x y : Domain) (phase : Nat) : Slot :=
  let ratio := stileRatio (nominalRate y.rate) (nominalRate x.rate)
  let span := stileSpan hist (nominalRate x.rate) (stileSlack x y phase) ratio phase
  { word := Config.stileOut (span.map (·.word)) ratio phase, valid := span.all (·.valid), late := span.any (·.late) }

/-- The sample of its source slot taken by every Stile that reads domain d, once per Bell of that domain, when the whole page
of action 3 is posted, other Stiles' outputs with it (R187, R195). -/
def takeStileSources (d : Nat) (s : State) : State :=
  forEach (List.range 64) (fun t i =>
    let c := Tab.get {} t.audio.stileA i
    if c.enable ∧ c.srcDom = d then
      modStile t i (fun y => { y with hist := (frontSlot t d c.srcSlot :: y.hist).take 512 })
    else t) s

/-- A Stile that posts 0 without VALID, its source without Bells or its ratio out of range: it re-centres when it runs again,
unless it is yet to start after a route swap (R195, R196). -/
def StileStat.silence (y : StileStat) : StileStat :=
  { y with tracking := false, chan := y.chan.idle, recentre := y.recentre || !y.restart }

/-- One Stile at action 3 of its destination domain by its own converter (R195, R196): a delay that leaves its bounds
and a rate change set SLIP, a route swap restarts it without. The phase of a Bell is settled at the Bell before, whose frame
carries it to the partner (DEDUCED, log 123: R197 has both devices use it at the same Bell). -/
def ownStile (d i : Nat) (s : State) : State :=
  let c := Tab.get {} s.audio.stileA i
  if c.enable ∧ c.dstDom = d then
    let st := stileStat s i
    let ratio := stileRatio (dom s d).rateNow (dom s c.srcDom).rateNow
    if (dom s c.srcDom).runs = false then
      modStile (postFront d (0x1DA0 + i) {} s) i StileStat.silence
    else if ratio < 262144 ∨ 4194304 < ratio then
      modStile (postFront d (0x1DA0 + i) {} s) i (fun y => { y.silence with range := true, ratio := ratio })
    else
      let f := takeFresh s
      let next := settlePhase (Config.stilePhase i f.1) (stileWide (dom s c.srcDom) (dom s d))
      let phase := stilePhaseOf s d i (if st.restart then next else st.phase)
      let tracks := Config.stileTracks i phase
      let left := !tracks || st.recentre
      let r := st.chan.step (concealBells (dom s d).rate) false
        (if left || st.restart then none else some (stileSample st.hist (dom s c.srcDom) (dom s d) phase))
      let slips := left && !st.chan.phase.holding
      let s1 := modStile (postFront d (0x1DA0 + i) r.1 f.2) i (fun y =>
        { y with tracking := !left && !st.restart, ratio := ratio, chan := r.2, recentre := false, restart := false,
                 slip := y.slip || slips, phase := next })
      if slips then postEvent 0x0034 [wrd i] s1 else s1
  else s

/-- One Stile at action 3: the partner's forwarded output or its own. -/
def postStile (d i : Nat) (s : State) : State :=
  match forwarded s d i with
  | some v => postFront d (0x1DA0 + i) v s
  | none => ownStile d i s

/-- The Stiles of a domain d that stops: those that read it have no samples from before its next Bells, those that post into it
keep no delay and re-centre when it runs again (R195, R196). -/
def stopStiles (d : Nat) (s : State) : State :=
  forEach (List.range 64) (fun t i =>
    let c := Tab.get {} t.audio.stileA i
    if c.enable ∧ (c.srcDom = d ∨ c.dstDom = d) then
      modStile t i (fun y =>
        { (if c.dstDom = d then y.silence else y) with hist := if c.srcDom = d then [] else y.hist })
    else t) s

/-- Every Stile that a rate change of domain d concerns re-centres (R196). -/
def recentreStiles (d : Nat) (s : State) : State :=
  forEach (List.range 64) (fun t i =>
    let c := Tab.get {} t.audio.stileA i
    if c.enable ∧ (c.srcDom = d ∨ c.dstDom = d) then modStile t i (fun y => { y with recentre := true }) else t) s

/-! ### Route swap (R192, R193) -/

/-- The route swap slot fires at the domain's present Bell. -/
def routeDue (s : State) (d : Nat) : Bool :=
  let x := dom s d
  x.route.armed && (x.route.next || x.route.bell == x.bell)

/-- Element k of two tables exchanged. -/
def swapAt {α : Type} [DecidableEq α] (df : α) (k : Nat) (p : Tab α × Tab α) : Tab α × Tab α :=
  (Tab.set df p.1 k (Tab.get df p.2 k), Tab.set df p.2 k (Tab.get df p.1 k))

/-- Channels of the ports of domain d. -/
def domChannels (s : State) (d : Nat) : List Nat :=
  (domPorts s d).flatMap (fun p => (List.range 16).map (fun t => 16 * p + t))

/-- The destination of a Stile with active word a and staged word b is domain d (R193): that of an enabled word; of
either word where neither is enabled. -/
def stileBound (a b : StileCfg) (d : Nat) : Bool :=
  (a.enable && a.dstDom == d) || (b.enable && b.dstDom == d) ||
    (!a.enable && !b.enable && (a.dstDom == d || b.dstDom == d))

/-- The Stiles whose destination is domain d, active or staged. -/
def domStiles (s : State) (d : Nat) : List Nat :=
  (List.range 64).filter (fun i => stileBound (Tab.get {} s.audio.stileA i) (Tab.get {} s.audio.stileS i) d)

/-- Stiles whose configuration a swap of domain d changes. -/
def swapStiles (s : State) (d : Nat) : List Nat :=
  (domStiles s d).filter (fun i => Tab.get {} s.audio.stileA i != Tab.get {} s.audio.stileS i)

/-- The exchanges of action 3. -/
def routeSwapIn (d : Nat) (s : State) : State :=
  if routeDue s d then
    let st := swapStiles s d
    let ins := (domChannels s d).foldl (fun p c => swapAt {} c p) (s.audio.inA, s.audio.inS)
    let sts := st.foldl (fun p i => swapAt {} i p) (s.audio.stileA, s.audio.stileS)
    st.foldl (fun t i => modStile t i (fun y => { y with restart := true, recentre := false, hist := [], tracking := false }))
      (modAudio s (fun a => { a with inA := ins.1, inS := ins.2, stileA := sts.1, stileS := sts.2 }))
  else s

/-- A swap that disables an entry returns a detoured channel (R202), a forced one too (DESIGN CHOICE, log 126: R202 also says
that a forced detour returns only by command). -/
def swapReturn (o : Nat) (old new : Detour) (s : State) : State :=
  if old.enable && !new.enable && (Tab.get {} s.audio.detStat o).detoured then
    modAudio s (fun a => { a with detStat := Tab.mod {} a.detStat o (fun y => { y with returning := true }) })
  else s

/-- The exchanges of action 7; the slot has fired and Jexolaryn's copy is due. -/
def routeSwapOut (d : Nat) (s : State) : State :=
  if routeDue s d then
    let cs := domChannels s d
    let s1 := cs.foldl (fun t o => swapReturn o (Tab.get {} s.audio.detA o) (Tab.get {} s.audio.detS o) t) s
    let outs := cs.foldl (fun p c => swapAt {} c p) (s1.audio.outA, s1.audio.outS)
    let dets := cs.foldl (fun p c => swapAt {} c p) (s1.audio.detA, s1.audio.detS)
    modDom (modAudio s1 (fun a => { a with outA := outs.1, outS := outs.2, detA := dets.1, detS := dets.2 })) d
      (fun x =>
        { x with route := { x.route with armed := false, fired := true }, routeBusy := true,
                 copyChans := cs ++ x.copyChans, copyStiles := domStiles s d ++ x.copyStiles })
  else s

/-! ### Output buffers (R190, R191, R198 to R202) -/

/-- A domain's output ramp during a reconfiguration (R59), in Bells of 10 ms. -/
def stepValue (x : Domain) (v : Sample) : Sample :=
  let n := muteBells x.rate
  match x.step with
  | .rampDown => scale v (n - Nat.min x.rampK n) n
  | .muted => 0
  | .rampUp => scale v (Nat.min x.rampK n) n
  | .none => v
/-- The domain's output ramps: that of a reconfiguration, and that of an entry to SLEEP over 10 ms (R329). -/
def rampValue (x : Domain) (v : Sample) : Sample :=
  let n := muteBells x.rate
  if x.sleepK = 0 then stepValue x v else scale (stepValue x v) (n - Nat.min x.sleepK n) n

/-- Slot n of domain d carries a Quern's output: it is one of those below 0x1D80, or that of an enabled Stile whose source slot
carries one, over at most k Stiles (R187). -/
def quernFed (s : State) : Nat → Nat → Nat → Bool
  | 0, _, n => decide (n < 0x1D80)
  | k + 1, d, n =>
    let c := Tab.get {} s.audio.stileA (n - 0x1DA0)
    decide (n < 0x1D80) || (decide (0x1DA0 ≤ n ∧ n < 0x1DE0) && c.enable && c.dstDom == d && quernFed s k c.srcDom c.srcSlot)

/-- The value an output channel's own map entry gives (R190); in MAINTENANCE the Querns' outputs are muted, those that Stiles
carry into another domain too (R31, R187). -/
def mapValue (s : State) (d o : Nat) : Sample :=
  let e := Tab.get {} s.audio.outA o
  if e.enable && !(s.aon.mode == .maintenance && quernFed s 64 d e.src) then rampValue (dom s d) (frontSlot s d e.src).word else 0

/-- The Crier forces channel o and is active (R32). -/
def crierForces (s : State) (o : Nat) : Bool :=
  s.crier.state == .active && s.crier.cfg.chans.any (fun e => e.1 == o)

/-- The Crier value of a forced channel on a port that the core clocks, at the present Bell of its domain (R272). -/
def crierValue (s : State) (d o : Nat) : Sample :=
  Config.crierInterp o (Tab.get 0 s.crier.values o) s.fresh (3 + (dom s d).bell.toNat)
/-- The effective value of a channel (R191). -/
def effValue (s : State) (d o : Nat) : Sample :=
  if crierForces s o then crierValue s d o else mapValue s d o

/-- The lowest detoured primary of domain d whose alternate is channel o (R201). -/
def detourHolder (s : State) (cs : List Nat) (o : Nat) : Option Nat :=
  cs.find? (fun p => (Tab.get {} s.audio.detStat p).detoured && (Tab.get {} s.audio.detA p).alt == o)

/-- The primary that channel o carries after this action 7, `old` being the state before it: a primary that waited while a
lower one held o takes it at the Bell after the holder's return (R201). -/
def detourCarried (old s : State) (cs : List Nat) (o : Nat) : Option Nat :=
  match detourHolder s cs o, detourHolder old cs o with
  | some p, some h => if h < p ∧ (Tab.get {} old.audio.detStat p).detoured then none else some p
  | p, _ => p

/-- What channel o carries (R191). -/
def outValue (old s : State) (d : Nat) (cs : List Nat) (o : Nat) : Sample :=
  if crierForces s o then crierValue s d o
  else match detourCarried old s cs o with
    | some p => effValue s d p
    | none => if (Tab.get {} s.audio.detStat o).detoured then 0 else mapValue s d o

/-- The status record of a detour passed through f. -/
def modDetour (s : State) (o : Nat) (f : DetourStat → DetourStat) : State :=
  modAudio s (fun a => { a with detStat := Tab.mod {} a.detStat o f })

/-- w3 of DETOUR_SWITCHED and DETOUR_RETURNED (R464). -/
def detourW3 (cause : BitVec 3) (o : Nat) : Word := wrd (cause.toNat * 16777216 + o)

/-- The amplifier condition of channel o at this action 7, counted while its entry is watched (R199). -/
def countAmp (d o : Nat) (s : State) : State :=
  let x := Tab.get {} s.audio.detA o
  if detourWatched s o ∧ x.trigAmp then
    let v := frontSlot s d (0x1E00 + x.ampChan)
    let hit := !v.valid || v.word.getLsbD x.ampBit
    modDetour s o (fun y => { y with ampRun := if hit then Nat.min (y.ampRun + 1) 16 else 0 })
  else modDetour s o (fun y => { y with ampRun := 0 })

/-- One channel's detour at action 7 (R200, R202): a return, a switch, or a blocked try. -/
def detourStep (d o : Nat) (s : State) : State :=
  let st := Tab.get {} s.audio.detStat o
  let x := Tab.get {} s.audio.detA o
  let w := detourWatched s o
  let trigs := if w then switchTrigs s o else 0
  let b := bellLo (dom s d).bell
  let s0 := countAmp d o s
  if st.detoured then
    if st.returning || (!w && !st.forced) then
      postEvent 0x0031 [detourW3 st.cause o, b]
        (modDetour s0 o (fun y => { y with detoured := false, forced := false, returning := false, returnEv := true }))
    else s0
  else if st.returning then modDetour s0 o (fun y => { y with forced := false, returning := false })
  else if st.forced || trigs != 0 then
    if (group s (port s x.altPort).group).lost then modDetour s0 o (fun y => { y with blocked := true })
    else
      let cause : BitVec 3 := if st.forced then 0 else BitVec.ofNat 3 trigs
      postEvent 0x0030 [detourW3 cause o, b]
        (modDetour s0 o (fun y => { y with detoured := true, switchEv := true, cause := cause }))
  else s0

/-- Detoured channels whose port has been left without a domain: no entry of theirs is watched, and they return at the next Bell
(R199). That is the next Bell of any domain, since theirs is gone (DESIGN CHOICE, log 125). -/
def strayDetours (s : State) : List Nat :=
  (s.audio.detStat.filter (fun e => e.2.detoured && (portDomain s (e.1 / 16)).isNone)).map (·.1)

/-- CONFLICT of a detoured primary that does not hold its alternate (R201). -/
def detourConflict (cs : List Nat) (o : Nat) (s : State) : State :=
  let x := Tab.get {} s.audio.detA o
  if (Tab.get {} s.audio.detStat o).detoured ∧ detourHolder s cs x.alt ≠ some o then
    modDetour s o (fun y => { y with conflict := true })
  else s

/-- Channel o is to leave its primary and its alternate has lost clock or frame (R200). -/
def detourBlockedNow (s : State) (o : Nat) : Bool :=
  let st := Tab.get {} s.audio.detStat o
  !st.detoured && (st.forced || (detourWatched s o && switchTrigs s o != 0)) &&
    (group s (port s (Tab.get {} s.audio.detA o).altPort).group).lost
/-- Channel o has left its primary and another holds its alternate (R201). -/
def detourWaits (s : State) (o : Nat) : Bool :=
  (Tab.get {} s.audio.detStat o).detoured &&
    detourHolder s (s.audio.detStat.map (·.1)) (Tab.get {} s.audio.detA o).alt != some o

/-- Channels with a detour entry or status. -/
def detourChannels (s : State) (cs : List Nat) : List Nat :=
  cs.filter (fun o => Tab.get {} s.audio.detA o ≠ {} || Tab.get {} s.audio.detStat o ≠ {})

/-! ### Output frames (R209, R214, R217, R220, R226) -/

/-- A sample word in its TDM slot (R217): in the first OUT_WL bits, the others 0. -/
def tdmWord (wl : Nat) (v : Sample) : Word :=
  match wl with
  | 0 => BitVec.ofInt 32 (Min.min (conv v.toInt 4) 32767 * 65536)
  | _ => BitVec.ofInt 32 (v.toInt * 4096)

/-- A port sends frames: enabled for output, its group enabled and clocked (R220, R225). -/
def portSends (s : State) (p : Nat) : Bool :=
  (port s p).outEn && (group s (port s p).group).enable && !(group s (port s p).group).lost

/-- What output channel o sends in the frame that starts at this Bell, the buffer filled at the Bell before: nothing
beyond the frame's TDM slots (R209), 0 before the port's own start (R226). -/
def sentWord (s : State) (o : Nat) : Option Word :=
  let p := port s (o / 16)
  if portSends s (o / 16) && decide (o % 16 < (group s p.group).tdm) then
    some (if p.startAt.isSome then tdmWord p.outWl (Tab.get 0 s.audio.outBuf o) else 0)
  else none

/-- Action 7: the frames that start now, then route swap, detours, output buffers (R191, R193, R200, R214). -/
def fillOutputs (d : Nat) (s : State) : State :=
  let s1 := routeSwapOut d s
  let cs := domChannels s1 d
  let ds := detourChannels s1 cs
  let s2 := forEach (ds ++ strayDetours s1) (fun t o => detourStep d o t) s1
  let s3 := forEach ds (fun t o => detourConflict ds o t) s2
  modAudio s3 (fun a => { a with
    tx := cs.foldl (fun b o => Tab.set none b o (sentWord s1 o)) a.tx
    outBuf := cs.foldl (fun b o => Tab.set 0 b o (outValue s s3 d ds o)) a.outBuf })

/-- The posts of action 3 into the new front page: ports, Sieves, Stiles (R187); a mirror serves one Bell
(R189). -/
def postInputs (e : BellEnv) (d : Nat) (s : State) : State :=
  let s1 := routeSwapIn d s
  let s2 := forEach (domPorts s1 d) (fun t p => inputPort e d p t) s1
  let s3 := forEach (List.range 8) (fun t g => judgeGroup e d g t) s2
  let s4 := forEach (List.range 32) (fun t i => postSieve e d i t) s3
  let s5 := takeStileSources d (forEach (List.range 64) (fun t i => postStile d i t) s4)
  modTwin s5 (fun t => { t with peers := Tab.mod {} t.peers d (fun p => { p with mirrorOk := false, frameNow := false }) })

end Sys2Proof.Machine
end

