-- ==== Sys2Proof/Machine/Words.lean ====
section
/-! DEFINITION. The registers of chapters 2 to 8 as words, and words read into their fields (R68 to R70,
R103, R104, R137, R150, R163, R164, R172, R188, R190, R192, R194, R198, R230 to R233). -/

namespace Sys2Proof.Machine

/-- A word from fields: value and lowest bit. -/
def pack (l : List (Nat × Nat)) : Word := wrd ((l.map (fun e => e.1 * 2 ^ e.2)).sum)
/-- A flag at a bit. -/
def flag (b : Bool) (i : Nat) : Nat × Nat := (b2n b, i)

/-! ### Domains -/

/-- STATE of DOM_STATUS (R69). -/
def DomState.code : DomState → Nat
  | .off => 0 | .acquire => 1 | .locked => 2 | .holdover => 3 | .slew => 4 | .switching => 5

/-- DOM_CFG (R68). -/
def Domain.cfgWord (x : Domain) : Word :=
  pack [flag x.enable 31, (x.rateMask.toNat, 12), flag x.policy 11, (x.rate, 8), (x.srcGroup, 4), (x.src, 0)]
/-- DOM_STATUS (R69). -/
def Domain.statusWord (x : Domain) : Word :=
  pack [flag x.lockedEv 13, flag x.late 12, flag x.glitch 11, flag x.rateChange 10, flag x.returnEv 9, flag x.loss 8,
    (x.newRate, 4), (x.state.code, 0)]
/-- Register at an offset of domain d (R68 to R70). -/
def Domain.reg (x : Domain) (off : Nat) : Word :=
  match off with
  | 0 => x.cfgWord
  | 1 => x.statusWord
  | 2 => bellLo x.bell
  | 3 => wrd (bellHi x.bell)
  | 4 => wrd (if x.runs then x.bellRate else 0)
  | 5 => wrd x.refRate
  | 6 => pack [(x.lossCount, 16), (x.glitchCount, 0)]
  | _ => wrd x.lateCount
/-- The W1C flags of DOM_STATUS cleared (R69). -/
def Domain.clearStatus (x : Domain) (v : Word) : Domain :=
  { x with
    lockedEv := x.lockedEv && !bit v 13
    late := x.late && !bit v 12
    glitch := x.glitch && !bit v 11
    rateChange := x.rateChange && !bit v 10
    returnEv := x.returnEv && !bit v 9
    loss := x.loss && !bit v 8 }

/-! ### Querns, lines, banks -/

/-- QSTAT (R103); `stopped` says that the program is kept but does not run. -/
def Quern.statWord (stopped : Bool) (u : Quern) : Word :=
  pack [(u.qPfWord, 16), ((quernDom u).getD 0, 10), flag u.stagedOk 9, flag (u.active.isSome && !stopped) 8, flag u.qPf 2, flag u.qSat 1,
    flag u.qOva 0]
/-- The W1C flags of QSTAT cleared (R103). -/
def Quern.clearStat (u : Quern) (v : Word) : Quern :=
  { u with
    qPf := u.qPf && !bit v 2
    qSat := u.qSat && !bit v 1
    qOva := u.qOva && !bit v 0
    qPfWord := if bit v 2 then 0 else u.qPfWord
    qSeen := u.qSeen &&& ~~~ v.setWidth 3 }
/-- OVA, SAT and PF of QSTAT. -/
def Quern.flags3 (u : Quern) : BitVec 3 := BitVec.ofNat 3 (ofBits [u.qOva, u.qSat, u.qPf])
/-- Word i of a window register (R104). -/
def Window.word (w : Window) (i : Nat) : Word := if i = 0 then pack [flag w.bound 31, (w.entry, 0)] else wrd w.bias
/-- Word i of a delay-line table entry (R137). -/
def Line.word (l : Line) (i : Nat) : Word :=
  match i with
  | 0 => pack [flag l.valid 31, flag l.cross 30, (l.domain, 28), (l.base, 0)]
  | 1 => pack [(l.owner, 22), (l.length, 0)]
  | 2 => wrd l.widx
  | _ => pack [flag l.stored 3, flag l.freeze 2, flag l.clamped 1, flag l.busErr 0]
/-- BANK_OWNER of bank b (R150). -/
def ownerWord (s : State) (b : Nat) : Word :=
  let k := bank s b
  pack [flag k.refused 31, flag k.busErr 30, (k.errMaster, 26), (bankLines s b, 12), (k.owner, 5), (k.channel, 0)]
/-- Free good spare rows of a bank, highest first (R156, R160). -/
def Bank.spares (k : Bank) : List Nat :=
  ((List.range 16).filter (fun n => let r := Tab.get {} k.remap n; !r.valid && !r.bad)).reverse
/-- BANK_SPARE (R164). -/
def Bank.spareWord (k : Bank) : Word :=
  pack [flag k.spares.isEmpty 31, flag k.unrepaired 30, flag k.soft 29, flag k.repairEv 28, (k.spares.length, 23),
    flag k.fullDone 22, (k.rowPtr, 8), (k.sweeps, 0)]
/-- BANK_REMAPn (R164). -/
def Remap.word (r : Remap) : Word := pack [flag r.valid 31, flag r.bad 30, (r.row, 0)]

/-! ### Commit and route swap slots -/

/-- COMMIT_CTL (R172). -/
def CommitSlot.ctl (c : CommitSlot) : Word :=
  pack [flag c.armed 31, flag c.next 30, flag c.fired 29, flag c.missed 28, flag c.deferred 27, (bellHi c.bell, 0)]
/-- ROUTE_SWAP_CTL (R192). -/
def RouteSlot.ctl (r : RouteSlot) : Word :=
  pack [flag r.armed 31, flag r.next 30, flag r.fired 29, flag r.missed 28, (bellHi r.bell, 0)]

/-! ### Maps, detours, Stiles -/

/-- Input-map entry (R188). -/
def InEntry.word (e : InEntry) (concealed : Bool) : Word :=
  pack [(e.source, 30), flag e.mirrorTx 29, flag e.raw 28, flag concealed 27]
/-- The configuration fields of an input-map entry. -/
def inEntryOf (w : Word) : InEntry := { source := fld w 30 2, mirrorTx := bit w 29, raw := bit w 28 }
/-- Output-map entry (R190). -/
def OutEntry.word (e : OutEntry) : Word := pack [flag e.enable 31, (e.src, 0)]
/-- The fields of an output-map entry. -/
def outEntryOf (w : Word) : OutEntry := { enable := bit w 31, src := fld w 0 13 }
/-- Detour words 0 and 1 (R198). -/
def Detour.words (x : Detour) : Word × Word :=
  (pack [flag x.enable 31, flag x.trigClk 30, flag x.trigAmp 29, flag x.trigPilot 28, flag x.returnAuto 27, (x.altPort, 17),
    (x.altSlot, 13), (x.pilot, 7), (x.returnHold, 0)],
   pack [(x.ampDebounce, 28), (x.ampBit, 20), (x.ampChan, 0)])
/-- The fields of detour words 0 and 1. -/
def detourOf (a b : Word) : Detour :=
  { enable := bit a 31, trigClk := bit a 30, trigAmp := bit a 29, trigPilot := bit a 28, returnAuto := bit a 27,
    altPort := fld a 17 5, altSlot := fld a 13 4, pilot := fld a 7 6, returnHold := fld a 0 7,
    ampDebounce := fld b 28 4, ampBit := fld b 20 5, ampChan := fld b 0 9 }
/-- Detour word 2 (R198). -/
def DetourStat.word (x : DetourStat) : Word :=
  pack [flag x.detoured 31, flag x.conflict 30, flag x.blocked 29, flag x.switchEv 28, flag x.returnEv 27, (x.cause.toNat, 24)]
/-- The W1C flags of detour word 2 cleared. -/
def DetourStat.clear (x : DetourStat) (v : Word) : DetourStat :=
  { x with
    conflict := x.conflict && !bit v 30
    blocked := x.blocked && !bit v 29
    switchEv := x.switchEv && !bit v 28
    returnEv := x.returnEv && !bit v 27 }
/-- Stile word 0 (R194). -/
def StileCfg.word (c : StileCfg) : Word := pack [flag c.enable 31, (c.srcDom, 29), (c.dstDom, 27), (c.srcSlot, 0)]
/-- The fields of Stile word 0. -/
def stileOf (w : Word) : StileCfg := { enable := bit w 31, srcDom := fld w 29 2, dstDom := fld w 27 2, srcSlot := fld w 0 13 }
/-- Stile word 1 (R194). -/
def StileStat.word (x : StileStat) : Word := pack [flag x.tracking 31, flag x.slip 30, flag x.range 29, (x.ratio, 0)]
/-- The W1C flags of Stile word 1 cleared. -/
def StileStat.clear (x : StileStat) (v : Word) : StileStat := { x with slip := x.slip && !bit v 30, range := x.range && !bit v 29 }

/-! ### Ports -/

/-- GROUP_CFG (R230). -/
def Group.cfgWord (g : Group) : Word :=
  pack [flag g.enable 31, flag g.master 30, (g.domain, 28), (g.format, 26), flag g.dataDelay 25, flag g.bclkInv 24, flag g.fsInv 23,
    flag g.gated 22, (g.slots, 17)]
/-- GROUP_STATUS (R231). -/
def Group.statusWord (g : Group) : Word :=
  pack [(g.phase, 24), (g.bclks, 13), flag g.rateEv 12, flag g.phaseErr 11, flag g.frameErr 10, flag g.clkLoss 9, flag g.underrun 8,
    (g.rateCode, 4), (g.state, 0)]
/-- The W1C flags of GROUP_STATUS cleared. -/
def Group.clear (g : Group) (v : Word) : Group :=
  { g with
    rateEv := g.rateEv && !bit v 12
    phaseErr := g.phaseErr && !bit v 11
    frameErr := g.frameErr && !bit v 10
    clkLoss := g.clkLoss && !bit v 9
    underrun := g.underrun && !bit v 8 }
/-- The fields of GROUP_CFG that a command or the Crier gives; DATA_DELAY and SLOTS as they read for I2S
and left-justified (R230). -/
def groupOf (w : Word) (g : Group) : Group :=
  let f := fld w 26 2
  { g with
    enable := bit w 31
    master := bit w 30
    domain := fld w 28 2
    format := f
    dataDelay := if f = 0 then true else if f = 1 then false else bit w 25
    bclkInv := bit w 24
    fsInv := bit w 23
    gated := bit w 22
    slots := if f < 2 then 2 else fld w 17 5 }
/-- WCLK_RATE (R231). -/
def Wclk.word (x : Wclk) : Word := pack [(x.rateCode, 28), flag x.rateEv 27, (x.rate, 0)]
/-- PORT_CFG (R232). -/
def Port.word (p : Port) : Word :=
  pack [flag p.inEn 31, flag p.outEn 30, (p.group, 27), (p.inWl, 25), (p.outWl, 23), (p.align, 20), flag p.aligned 19, (p.inSat, 0)]
/-- Word i of ALIGN_STATUS (R232). -/
def Align.word (a : Align) (i : Nat) : Word :=
  let hidden := a.state = 0 ∨ (a.state = 1 ∧ a.onSync)
  if i = 0 then pack [(a.state, 30), (a.domain, 28), flag a.onSync 27, (if hidden then 0 else bellHi a.start, 0)]
  else if hidden then 0 else bellLo a.start
/-- PDM_CLK_CFG (R233). -/
def PdmClk.word (c : PdmClk) : Word := pack [flag c.enable 31, (c.domain, 29), (c.ratio, 20)]
/-- The fields of PDM_CLK_CFG. -/
def pdmClkOf (w : Word) : PdmClk := { enable := bit w 31, domain := fld w 29 2, ratio := fld w 20 9 }
/-- SIEVE_CFG (R233). -/
def SieveCfg.word (c : SieveCfg) : Word := pack [flag c.enable 31, (c.gainShift, 29), flag c.hpf 28]
/-- The fields of SIEVE_CFG. -/
def sieveOf (w : Word) : SieveCfg := { enable := bit w 31, gainShift := fld w 29 2, hpf := bit w 28 }
/-- MCLK_CFG (R233). -/
def MclkCfg.word (c : MclkCfg) : Word := pack [flag c.enable 31, (c.domain, 29), (c.mode, 27)]
/-- The fields of MCLK_CFG. -/
def mclkOf (w : Word) : MclkCfg := { enable := bit w 31, domain := fld w 29 2, mode := fld w 27 2 }

end Sys2Proof.Machine
end

