-- ==== Sys2Proof/Machine/Figures.lean ====
section
/-! DEFINITION. The arithmetic of Vigil and of the Goertzel detectors (R242 to R244, R256): cosines in fixed point,
exact logarithms, a detector's LEVEL, band powers, and the figures derived from an impulse response. Levels are in
0.01 dB. How the figures are rounded, and the spectrum they are read from, is log 11; LEVEL is log 10. -/

namespace Sys2Proof.Machine

/-! ### Fixed point -/

/-- One in the fixed point of this file: 2^60. -/
def fixOne : Int := 1152921504606846976
/-- 2 pi n / d in fixed point. -/
def angleFix (n d : Nat) : Int := 2 * 3141592653589793238462643383279 * ((n % d : Nat) : Int) * fixOne / ((d : Int) * 10 ^ 30)
/-- The power series of cosine (from term k = 0) or sine (from k = 1) to 30 terms more: x^2 / ((k+1)(k+2)) leads from
one term to the next, with the opposite sign. -/
def seriesFix (x : Int) : Nat → Nat → Int → Int
  | 0, _, term => term
  | n + 1, k, term => term + seriesFix x n (k + 2) (-(term * x / fixOne * x / fixOne) / (((k + 1) * (k + 2) : Nat) : Int))
/-- cos (2 pi n / d) in fixed point. -/
def cosFix (n d : Nat) : Int := seriesFix (angleFix n d) 30 0 fixOne
/-- sin (2 pi n / d) in fixed point. -/
def sinFix (n d : Nat) : Int := seriesFix (angleFix n d) 30 1 (angleFix n d)

/-! ### Logarithms -/

/-- 10^l ≤ (n / d)^1000. -/
def logBelow (n d : Nat) (l : Int) : Bool :=
  if 0 ≤ l then decide (10 ^ l.toNat * d ^ 1000 ≤ n ^ 1000) else decide (d ^ 1000 ≤ n ^ 1000 * 10 ^ (-l).toNat)
/-- The largest value from `start` upwards that the next k bits can add to with p still true. -/
def climb (p : Int → Bool) : Nat → Int → Int
  | 0, start => start
  | k + 1, start => climb p k (if p (start + 2 ^ k) then start + 2 ^ k else start)
/-- 1000 log10 (n / d) rounded down: a power ratio in 0.01 dB. -/
def log1000 (n d : Nat) : Int := climb (logBelow n d) 17 (-65536)
/-- A power ratio in 0.01 dB, rounded one way or the other; free where it has no logarithm (log 11). -/
def decibels (n d : Nat) : Int :=
  if n = 0 ∨ d = 0 then Config.logOpen n d
  else
    let l := log1000 n d
    if logBelow d n (-l) ∨ !Config.roundsUp n d then l else l + 1

/-! ### The Goertzel detector (R256) -/

/-- s[N-1] and s[N-2] in fixed point over the samples of a block, latest first. -/
def goertzelRun (c : Int) : List Int → Int × Int
  | [] => (0, 0)
  | x :: xs =>
    let r := goertzelRun c xs
    (x * fixOne + c * r.1 / fixOne - r.2, r.1)
/-- `power` of R256, in fixed point squared. -/
def goertzelPower (freq rate : Nat) (xs : List Int) : Int :=
  let c := 2 * cosFix (100 * freq) rate
  let r := goertzelRun c xs
  r.1 * r.1 + r.2 * r.2 - c * r.1 / fixOne * r.2
/-- LEVEL below full scale in 0.01 dB (R256), from FREQ, the Bell rate in 0.01 Hz and the block's samples, latest
first: within 0.1 dB of the formula down to 60 dB, free beyond, and where the block is louder than full scale (log 10). -/
def goertzelLevel (freq rate : Nat) (xs : List Int) : Nat :=
  let p := goertzelPower freq rate xs
  if p ≤ 0 then 65535
  else
    let l := -log1000 (4 * p).toNat (xs.length ^ 2 * 2 ^ 158)
    if l < 0 then Config.levelOpen freq xs
    else if l ≤ 6000 then (l + (Config.levelError freq xs % 20 : Nat) - 10).toNat
    else Nat.max 5990 (Config.levelOpen freq xs)

/-! ### Bands (R244) -/

/-- Centres of the octave bands. -/
def bandCentre (b : Nat) : Nat := 125 * 2 ^ b
/-- Bins of a spectrum over `n` points that lie in band b, between the centre x 2^(-1/2) and the centre x 2^(1/2), at a rate
in 0.01 Hz. -/
def bandBins (n rate b : Nat) : List Nat :=
  let c := (100 * bandCentre b * n) ^ 2
  (List.range (n / 2 + 1)).filter (fun k => decide (c < 2 * (k * rate) ^ 2 ∧ (k * rate) ^ 2 < 2 * c))
/-- The squared magnitude of bin k of the spectrum of xs, a period of n points, in units of 2^-120. -/
def binPower (n : Nat) (xs : List Int) (k : Nat) : Nat :=
  let re := (xs.zipIdx.map (fun e => e.1 * cosFix (k * e.2) n)).sum
  let im := (xs.zipIdx.map (fun e => e.1 * sinFix (k * e.2) n)).sum
  (re * re + im * im).toNat
/-- The sum of both halves of the spectrum over each of the seven bands, in units of 2^-120: n times the energy. -/
def bandSums (n rate : Nat) (xs : List Int) : List Nat :=
  (List.range 7).map (fun b => 2 * ((bandBins n rate b).map (binPower n xs)).sum)
/-- The seven bands and their sum, the broadband figure. -/
def withTotal (l : List Nat) : List Nat := l ++ [l.sum]

/-- Ambient, per band and broadband, in dB SPL (R244): the band sums of each capture of one period averaged, as a mean
square of the sample words. -/
def ambientLevels (cal : Int) (caps : List (List Nat)) : List Int :=
  (withTotal ((List.range 7).map (fun b => (caps.map (·.getD b 0)).sum))).map (fun p =>
    decibels p (caps.length * 65535 ^ 2 * 2 ^ 158) - cal + 9400)

/-! ### The response (R244) -/

/-- R over lags 0 to 61,439. -/
def directLags (r : List Int) : List Int := r.take 61440
/-- The sum of squares of a list. -/
def squares (l : List Int) : Nat := (l.map (fun x => (x * x).toNat)).sum
/-- The largest magnitude of a list. -/
def peak (l : List Int) : Nat := (l.map Int.natAbs).foldl Nat.max 0
/-- Band gains, per band and broadband, in dB SPL per full-scale excitation: the energy of h = R / (P x gain). -/
def bandGains (rate : Nat) (cal : Int) (periods : Nat) (gain : Int) (r : List Int) : List Int :=
  (withTotal (bandSums 65535 rate (directLags r))).map (fun p =>
    decibels p (65535 * (periods * gain.toNat) ^ 2 * 2 ^ 120) - cal + 9400)
/-- The noise floor: squares over lags 61,440 to 65,534, of which there are 4095. -/
def noiseSquares (r : List Int) : Nat := squares (r.drop 61440)
/-- DECAY_RANGE: the largest square over the mean square of the noise floor. -/
def decayRange (r : List Int) : Int := decibels (peak r ^ 2 * 4095) (noiseSquares r)
/-- Arrival delay in microseconds (R244): the first lag at which R reaches a tenth of its largest magnitude, less the
latency of the excitation and of the microphone's path in Bells, at a rate in 0.01 Hz, less EXT_LATENCY; a delay that comes
out below zero is free. -/
def arrival (rate latency extLatency : Nat) (r : List Int) : Int :=
  let k := r.findIdx (fun x => decide (peak r ≤ 10 * x.natAbs))
  let bells : Int := (k : Int) - latency
  let us := bells * 100000000 / (rate : Int) - extLatency
  if us < 0 then Config.arrivalOpen r else if bells * 100000000 % (rate : Int) ≠ 0 ∧ Config.roundsUp k rate then us + 1 else us

/-! ### The speech transmission index (R244) -/

/-- The 14 modulation frequencies of R244 in 0.01 Hz, a third of an octave apart (PRESUMED, log 11: the standard's). -/
def modulations : List Nat := [63, 80, 100, 125, 160, 200, 250, 315, 400, 500, 630, 800, 1000, 1250]
/-- The response in band b over lags 0 to 61,439: the band's bins of the spectrum of R, transformed back, up to a factor. -/
def bandResponse (rate b : Nat) (r : List Int) : List Int :=
  let xs := (directLags r).zipIdx
  let bins := (bandBins 65535 rate b).map (fun k =>
    (k, (xs.map (fun e => e.1 * cosFix (k * e.2) 65535)).sum, (xs.map (fun e => e.1 * sinFix (k * e.2) 65535)).sum))
  (List.range 61440).map (fun m =>
    (bins.map (fun e => e.2.1 * cosFix (e.1 * m) 65535 + e.2.2 * sinFix (e.1 * m) 65535)).sum)
/-- The modulation transfer at f of a squared response q: the magnitude of its component at f over its sum, in units of
2^-20 rounded down. -/
def modTransfer (rate f : Nat) (q : List Int) : Int :=
  let re : Int := (q.zipIdx.map (fun e => e.1 * cosFix (f * e.2) rate)).sum
  let im : Int := (q.zipIdx.map (fun e => e.1 * sinFix (f * e.2) rate)).sum
  climb (fun v => decide (v * v * (q.sum * fixOne * (q.sum * fixOne)) ≤ 1099511627776 * (re * re + im * im))) 21 0
/-- The modulation transfers of the seven bands at the 14 frequencies, corrected for the noise floor, without ambient
noise. -/
def quietMtf (rate : Nat) (r : List Int) : List (List Int) :=
  (List.range 7).map (fun b =>
    let q := (bandResponse rate b r).map (fun x => x ^ 2)
    modulations.map (fun f => Config.mtfNoise (modTransfer rate f q) q.sum.toNat (noiseSquares r / 4095)))
/-- 2^20 / (1 + 10^(-SNR / 10)) rounded down, SNR in 0.01 dB. -/
def snrFactor (snr : Int) : Int := climb (fun v => logBelow (1048576 - v).toNat v.toNat (-snr)) 20 0
/-- The transfers with each band's also multiplied by 1 / (1 + 10^(-SNR / 10)): SNR is the speech band level less the
ambient band level. -/
def noisyMtf (speech : Nat) (ambient : List Int) (mtf : List (List Int)) : List (List Int) :=
  mtf.zipIdx.map (fun e =>
    e.1.map (fun m => m * snrFactor (Config.speechBand speech e.2 - ambient.getD e.2 0) / 1048576))

/-- What the derivation of a record takes from plan and zone entry: the rate in 0.01 Hz, CAL of the microphone, the
latency to take off, EXT_LATENCY and SPEECH_LEVEL. -/
structure FigureArgs where
  rate : Nat
  cal : Int
  latency : Nat
  extLatency : Nat
  speech : Nat
  deriving DecidableEq, Repr

/-- The figures of R244: ambient (8), band gain (8), DECAY_RANGE, ARRIVAL, STI_N, STI_Q. -/
def vigilFigures (a : FigureArgs) (caps : List (List Nat)) (periods : Nat) (gain : Int) (r : List Int) : List Int :=
  let amb := ambientLevels a.cal caps
  let gains := bandGains a.rate a.cal periods gain r
  let mtf := quietMtf a.rate r
  amb ++ gains ++ [decayRange r, arrival a.rate a.latency a.extLatency r,
    Config.sti a.speech (amb.take 7) (noisyMtf a.speech amb mtf), Config.sti a.speech [] mtf]

/-! ### The injection gain (R244) -/

/-- (2v - 1) / 2^20 lies at or below 10^(l / 2000), l in 0.01 dB. -/
def gainBelow (l v : Int) : Bool :=
  if 0 ≤ l then true else decide ((2 * v - 1).toNat ^ 2000 * 10 ^ (-l).toNat ≤ 1048576 ^ 2000)
/-- 524,288 x 10^(l / 2000) rounded to the nearest, l at most 0. -/
def gainWord (l : Int) : Nat := if 0 ≤ l then 524288 else (climb (gainBelow l) 20 0).toNat
/-- The greatest gain in 0.01 dB at which every band of every microphone lies MARGIN below its ambient. -/
def marginGain (margin : Int) (ambient baseline : List Int) : Option Int :=
  (ambient.zip baseline).foldl (fun acc e => some (match acc with | none => e.1 - e.2 - margin | some m => Min.min m (e.1 - e.2 - margin)))
    none

end Sys2Proof.Machine
end

