-- ==== Sys2Proof/Machine/Crier.lean ====
section
/-! DEFINITION. The Crier's triggers, material and values (R263 to R275), and its rows that change
nothing but the Crier. -/

namespace Sys2Proof.Machine

/-- An internal trigger holds (R264). -/
def Crier.internal (c : Crier) : Bool := c.wdog || c.overrun || c.bootFail || c.fbCmd
/-- A trigger of rank r holds: 0 alarm, 1 host, 2 internal (R266). -/
def Crier.holds (c : Crier) (r : Nat) : Bool :=
  match r with | 0 => c.alarm | 1 => c.host | _ => c.internal
/-- Any trigger holds. -/
def Crier.triggered (c : Crier) : Bool := c.alarm || c.host || c.internal

/-- The sequence and the repetitions after the first that a rank plays (R264): ALARM_SEQ until the trigger ends, what the
host named as often as it said, FAULT_SEQ once. -/
def Crier.material (c : Crier) (r : Nat) : List Nat × Option Nat :=
  match r with
  | 0 => ((c.copy.map (·.alarmSeq)).getD [], none)
  | 1 => (c.hostSeq, c.hostRepeat)
  | _ => ((c.copy.map (·.faultSeq)).getD [], some 0)

/-- The place of the first message of a sequence from place k that is not bad (R270). -/
def Crier.nextGood (c : Crier) (seq : List Nat) (k : Nat) : Option Nat :=
  (List.range seq.length).find? (fun i => k ≤ i && !c.badMsg.getLsbD (seq.getD i 0))

/-- Message at a place of a sequence begins. -/
def Crier.beginAt (c : Crier) (p : CrierPlay) (k : Nat) : Crier :=
  { c with
    play := some { p with pos := k, block := 0, blockOk := false, sample := 0, gap := false, ramp := 0, frozen := false, held := 0 }
    msg := p.seq.getD k 0 }

/-- The material of rank r starts at its first message that is not bad; with playback disabled, an
empty sequence or only bad messages nothing plays (R264, R268, R270). -/
def Crier.startRank (c : Crier) (r : Nat) : Crier :=
  let m := c.material r
  let c1 := { c with begun := c.begun ||| BitVec.ofNat 3 (2 ^ r), play := none }
  match c.playOk, c.nextGood m.1 0 with
  | true, some k => c1.beginAt { rank := r, seq := m.1, repeats := m.2 } k
  | _, _ => c1

/-- The rank to start next: the first of those whose triggers hold, unless its material has started already, silent material
(R264, R270) like any other. Material of lower rank waits, and interrupted material does not resume (R266). -/
def Crier.toStart (c : Crier) : Option Nat :=
  ([0, 1, 2].find? (fun r => c.holds r)).filter (fun r => !c.begun.getLsbD r)

/-- A ramp of the message in progress to zero over n samples. -/
def Crier.rampOut (c : Crier) (n next : Nat) : Crier :=
  { c with play := c.play.map (fun p => if p.gap || p.ramp != 0 then { p with rampNext := next }
      else { p with ramp := n, rampLen := n, rampNext := next }) }

/-- What plays follows the triggers: material of higher rank ramps out what plays, its own trigger ended or not (R266);
else with its own trigger ended the message in progress plays to its end (R264). -/
def Crier.follow (c : Crier) : Crier :=
  let c0 := { c with begun := BitVec.ofNat 3 (ofBits
    [c.begun.getLsbD 0 && c.alarm, c.begun.getLsbD 1 && c.host, c.begun.getLsbD 2 && c.internal]) }
  match c0.play with
  | none => match c0.toStart with | some r => c0.startRank r | none => c0
  | some p =>
    let c1 := if c0.holds p.rank then c0 else { c0 with play := some { p with finishing := true } }
    match c0.toStart with
    | some r =>
      if r < p.rank ∨ (p.gap ∧ !c0.holds p.rank) then (if p.gap then c0.startRank r else c1.rampOut 160 2) else c1
    | none => if p.gap ∧ !c0.holds p.rank then { c0 with play := none } else c1

/-- ACTIVE while a trigger holds or a message is still being completed, else ARMED with END_EV; a
replacement copy is installed on the return (R263, R264, R269, R280). -/
def Crier.settle (c : Crier) : Crier :=
  match c.state with
  | .off => c
  | .armed => if c.triggered then ({ c with state := .active, actEv := true } : Crier).follow else c
  | .active =>
    let c1 := c.follow
    if c1.triggered || c1.play.isSome then c1
    else
      { c1 with
        state := .armed
        endEv := true
        values := []
        tx := []
        badGroups := 0
        x := 0
        voxOpen := false
        store := match c1.newCopy with | some n => n.slot + 1 | none => c1.store
        playOk := c1.playOk || c1.newCopy.isSome
        badMsg := c1.badMsg
        copy := match c1.newCopy with | some n => some n | none => c1.copy
        newCopy := none }

/-- The message after place p.pos, a repetition after a gap, or the end (R264, R266, R267, R270). -/
def Crier.advance (c : Crier) (p : CrierPlay) : Crier :=
  let stop : Crier := { c with play := none }
  if p.finishing then stop
  else match c.nextGood p.seq (p.pos + 1) with
    | some k => c.beginAt p k
    | none =>
      let again : Option Nat → Crier := fun rep =>
        match c.nextGood p.seq 0 with
        | none => stop
        | some k =>
          if (c.copy.map (·.gapMs)).getD 0 = 0 then c.beginAt { p with repeats := rep } k
          else { c with play := some { p with repeats := rep, gap := true, pos := k } }
      match p.repeats with
      | none => again none
      | some 0 => { stop with host := if p.rank = 1 then false else c.host }
      | some (n + 1) => again (some n)

/-- Samples of the message in progress. -/
def Crier.msgLen (c : Crier) (p : CrierPlay) : Nat :=
  ((c.copy.bind (fun k => k.msgs[p.seq.getD p.pos 0]?)).map (·.2)).getD 0
/-- First block of the message in progress. -/
def Crier.msgBlock (c : Crier) (p : CrierPlay) : Nat :=
  ((c.copy.bind (fun k => k.msgs[p.seq.getD p.pos 0]?)).map (·.1)).getD 0

/-- A message that ended: the next of its sequence, then what the triggers ask for. -/
def Crier.messageEnd (c : Crier) : Crier :=
  match c.play with
  | some p => if !p.gap && p.ramp == 0 && decide (c.msgLen p ≤ p.sample) then (c.advance p).settle else c
  | none => c

/-- The GAP_MS silence ends. -/
def Crier.gapEnd (c : Crier) : Crier :=
  match c.play with
  | some p => if p.gap then c.beginAt p p.pos else c
  | none => c

/-- The block due for the message in progress is read and checked, in a ramp of R266 as well (R270): a bad block ends the
message with a ramp of 2 ms from its last sample, marks it bad and sets BLOCK_ERR. -/
def Crier.blockRead (c : Crier) (good : Bool) : Crier :=
  match c.play with
  | some p =>
    if p.gap || p.blockOk || p.frozen || decide (c.msgLen p ≤ p.sample) then c
    else if good then { c with play := some { p with blockOk := true } }
    else
      let m := p.seq.getD p.pos 0
      { c with
        blockErr := true
        badMsg := c.badMsg ||| BitVec.ofNat 8 (2 ^ m)
        play := some { p with ramp := 32, rampLen := 32, rampNext := if p.ramp = 0 then 1 else p.rampNext, frozen := true } }
  | none => c

/-- The sample of the store that is due, 0 where none is. -/
def crierDue (s : State) : Sample :=
  let c := s.crier
  match c.play, c.copy with
  | some p, some k =>
    if p.gap || !p.blockOk || decide (c.msgLen p ≤ p.sample) then 0
    else BitVec.ofNat 20 (leNat (flashBytes s k.slot
      (crierBase + k.pcmOffset + 3072 * c.msgBlock p + 3 * p.sample) 3))
  | _, _ => 0

/-- The message sample of this period and the playback after it (R266, R270): a ramp scales what plays,
or the sample held before a bad block, linearly to zero. -/
def Crier.nextSample (c : Crier) (due : Sample) : Sample × Crier :=
  match c.play with
  | none => (0, c)
  | some p =>
    if p.gap then (0, c)
    else
      let base := if p.frozen then p.held else due
      let m := if p.ramp = 0 then base else smp (rneDiv (base.toInt * ((p.ramp : Int) - 1)) p.rampLen)
      let adv := p.blockOk && decide (p.sample < c.msgLen p)
      let n := if adv then p.sample + 1 else p.sample
      let p1 := { p with sample := n, held := if p.frozen then p.held else m,
                         blockOk := p.blockOk && !(adv && n % 1024 == 0), block := n / 1024 }
      if p.ramp = 0 then (m, { c with play := some p1 })
      else if 1 < p.ramp then (m, { c with play := some { p1 with ramp := p.ramp - 1 } })
      else match p.rampNext with
        | 1 => (m, (c.advance { p1 with ramp := 0 }).settle)
        | 2 => (m, match ({ c with play := none } : Crier).toStart with
            | some r => ({ c with play := none } : Crier).startRank r
            | none => ({ c with play := none } : Crier).settle)
        | _ => (m, ({ c with play := none } : Crier).settle)

/-! ### The Crier value (R271) -/

/-- The microphone's source shows a valid sample: `valid` as the Crier's own path has it, a PDM microphone that is not
stuck (R223), a TDM channel whose slot has VALID set where the core clocks its port (R271). -/
def micValid (s : State) (k : CrierStore) (valid : Bool) : Bool :=
  match k.micSrc with
  | 0 => false
  | 1 => valid && !s.audio.sieveStuck.getLsbD k.micPdm
  | _ => valid && match portDomain s (k.micTdm / 16) with
    | some d => (frontSlot s d (0x1E00 + k.micTdm)).valid
    | none => true
/-- The microphone's scaled sample v of R271; 0 without a valid sample. -/
def crierMic (k : CrierStore) (mic : Sample) (valid : Bool) : Sample :=
  if valid then (sat20 (conv (mic.toInt * k.micGain.toInt) 16)).1 else 0
/-- v x 10^(-db / 20), rounded convergently (R271, R78): the magnitude is the greatest n with n - 1/2 at or below it, which
a quotient that is not rational never meets. -/
def duck (db : Nat) (v : Sample) : Sample :=
  if db % 20 = 0 then smp (rneDiv v.toInt (10 ^ (db / 20)))
  else
    let n := climb (fun n => decide ((2 * n - 1).toNat ^ 20 * 10 ^ db ≤ (2 * v.toInt.natAbs) ^ 20)) 20 0
    smp (if v.toInt < 0 then -n else n)

/-! ### Crier-clocked groups (R273) -/

/-- The core runs group g: enabled, its first frame under the core's configuration begun. -/
def coreClocks (s : State) (g : Nat) : Bool := (group s g).enable && (group s g).passed
/-- The GROUPS entry of group g. -/
def CrierStore.entry (k : CrierStore) (g : Nat) : Option CrierGroup := k.groups.find? (fun e => e.group == g)
/-- TDM slots of an entry's frame (R211). -/
def CrierGroup.tdm (e : CrierGroup) : Nat := if e.format < 2 then 2 else e.slots
/-- The group the Crier attaches port p to: that of PORT_GROUPS, where a forced channel lies on the port. -/
def CrierStore.portGroup (k : CrierStore) (p : Nat) : Option Nat :=
  if k.chans.any (fun e => e.1 / 16 == p) then k.portGroups[p]?.filter (· < 8) else none
/-- The entry under which an ACTIVE Crier clocks group g. -/
def crierClocks (s : State) (g : Nat) : Option CrierGroup :=
  if s.crier.state = .active ∧ !coreClocks s g then s.crier.cfg.entry g else none
/-- The Crier-clocked slave groups without an external clock within 0.5 % of 48 kHz, bit g of `clk` saying that it is. -/
def badClocks (s : State) (clk : BitVec 8) : BitVec 8 :=
  BitVec.ofNat 8 (ofBits ((List.range 8).map (fun g => (crierClocks s g).any (fun e => !e.master && !clk.getLsbD g))))
/-- What TDM slot t of port p carries: the value of a forced channel, 0 for a channel that is not forced, nothing beyond the
frame, in a group that is not Crier-clocked or in a bad one. -/
def crierSlot (s : State) (k : CrierStore) (bad : BitVec 8) (value : Nat → Sample) (p t : Nat) : Option Word :=
  match k.portGroup p with
  | none => none
  | some g => match crierClocks s g with
    | none => none
    | some e =>
      if bad.getLsbD g ∨ e.tdm ≤ t then none
      else some (if k.chans.any (fun c => c.1 == 16 * p + t) then tdmWord e.outWl (value (16 * p + t)) else 0)
/-- The TDM slots of the Crier-clocked ports in frame j of a 16 kHz period, whose values are converted to 48 kHz (R272). -/
def crierFrame (s : State) (k : CrierStore) (bad : BitVec 8) (values : Tab Sample) (f j : Nat) (t0 : Tab (Option Word)) :
    Tab (Option Word) :=
  ((List.range 32).filter (fun p => (k.portGroup p).isSome)).foldl (fun t p =>
    (List.range 16).foldl (fun u i => Tab.set none u (512 * j + 16 * p + i)
      (crierSlot s k bad (fun o => Config.crierInterp o (Tab.get 0 values o) f j) p i)) t) t0
/-- The three frames of a 16 kHz period. -/
def crierFrames (s : State) (k : CrierStore) (bad : BitVec 8) (values : Tab Sample) (f : Nat) : Tab (Option Word) :=
  [0, 1, 2].foldl (fun t j => crierFrame s k bad values f j t) []

/-- The forced channels' values at 16 kHz (R271). -/
def crierValues (k : CrierStore) (x : Sample) : Tab Sample :=
  k.chans.foldl (fun t e => Tab.set 0 t e.1 (sat20 (conv (x.toInt * e.2.toInt) 19)).1) []

/-- One 16 kHz period (R271). -/
def crierSample (mic : Sample) (valid : Bool) (clk : BitVec 8) (s : State) : State :=
  if s.crier.state = .active then
    let k := s.crier.cfg
    let f := takeFresh s
    let v := crierMic k mic (micValid s k valid)
    let vox := Config.crierVox k.voxDb v s.crier.voxOpen f.1
    let r := s.crier.nextSample (crierDue s)
    let m := if vox then duck k.duckDb r.1 else r.1
    let x := (sat20 (m.toInt + v.toInt)).1
    let bad := badClocks s clk
    let values := crierValues k x
    f.2.setCrier { r.2 with
      voxOpen := vox
      x := x
      values := values
      tx := if audioPads s then crierFrames s k bad values f.1 else []
      badGroups := bad
      groupErr := r.2.groupErr || bad != 0 }
  else s

end Sys2Proof.Machine
end

