-- ==== Sys2Proof/Machine/Tally.lean ====
section
/-! DEFINITION. Tally (R236 to R242, R255 to R260): the excitation sequence, the averager lanes, the
transform unit and the Goertzel detectors, with the rows GOERTZEL_BLOCK_END, PILOT_NOT_FOUND,
XFORM_START and XFORM_DONE. -/

namespace Sys2Proof.Machine

/-! ### The excitation sequence (R236) -/

/-- The state of the sequence generator after n elements. -/
def mlsState : Nat → BitVec 16
  | 0 => 1
  | n + 1 =>
    let r := mlsState n
    let f := (r ^^^ (r >>> 2) ^^^ (r >>> 3) ^^^ (r >>> 5)).getLsbD 0
    (r >>> 1) ||| (if f then 0x8000#16 else 0)
/-- The sign of element i: +1 when its bit is 0. -/
def mlsSign (i : Nat) : Int := if (mlsState i).getLsbD 0 then -1 else 1
/-- The sample word of element i. -/
def mlsWord (i : Nat) : Sample := smp (mlsSign i * 524287)

/-! ### Lanes (R239 to R241) -/

/-- Lane n. -/
def lane (s : State) (n : Nat) : Lane := Tab.get {} s.tally.lanes n
/-- Lane n passed through f. -/
def modLane (s : State) (n : Nat) (f : Lane → Lane) : State :=
  modTally s (fun t => { t with lanes := Tab.mod {} t.lanes n f })

/-- Granary position of word w of bank b. -/
def bankPos (b w : Nat) : Nat := b % 16 * bankWords + w
/-- Point i of the lane data in bank b (R239): words 3i, 3i + 1, 3i + 2 hold bits [59:40], [39:20], [19:0]. -/
def point (s : State) (b i : Nat) : BitVec 60 :=
  let w := fun k => granGet s (b / 16) (bankPos b (3 * i + k))
  (w 0 ++ w 1 ++ w 2 : BitVec 60)
/-- Point i of bank b written. -/
def putPoint (b i : Nat) (v : BitVec 60) (s : State) : State :=
  let p := bankPos b (3 * i)
  granPut (granPut (granPut s (b / 16) p (v.extractLsb' 40 20)) (b / 16) (p + 1) (v.extractLsb' 20 20))
    (b / 16) (p + 2) (v.extractLsb' 0 20)

/-- A lane armed (R258): its count and data begin anew. -/
def Lane.arm (x : Lane) : Lane := { x with enable := true, running := false, hasData := false, periodsDone := 0 }

/-- Bells from a lane's ORIGIN, once ORIGIN has come. -/
def Lane.offset (x : Lane) (b : BitVec 48) : Option Nat :=
  if x.origin.toNat ≤ b.toNat then some (b.toNat - x.origin.toNat) else none

/-- A lane that meets a bus error (R241, R152). -/
def faultLane (n : Nat) (s : State) : State :=
  bankErr (modLane s n (fun x => { x with enable := false, running := false, fault := true })) (lane s n).bank 4

/-- A lane adds the sample of its slot to the point of period position i (R240). -/
def accumulate (n i : Nat) (s : State) : State :=
  let x := lane s n
  let v := frontSlot s x.domain x.srcSlot
  let old : Int := if x.periodsDone = 0 then 0 else (point s x.bank i).toInt
  let s1 := putPoint x.bank i (BitVec.ofInt 60 (old + v.word.toInt)) s
  let ends := i == 65534
  let fin := ends && x.periodsDone + 1 == x.periods
  modLane s1 n (fun y =>
    { y with
      start := if x.running then y.start else (dom s x.domain).bell
      running := !fin
      invalid := y.invalid || !v.valid || v.late
      periodsDone := if ends then y.periodsDone + 1 else y.periodsDone
      done := y.done || fin
      hasData := fin
      enable := !fin })

/-- Lane n at the present Bell of domain d, after action 3 (R240). -/
def laneBell (d n : Nat) (s : State) : State :=
  let x := lane s n
  if x.enable ∧ x.domain = d then
    match x.offset (dom s d).bell with
    | none => s
    | some off =>
      if x.running || off % 65535 == 0 then
        if (bank s x.bank).owner = 3 ∨ (bank s x.bank).owner = 0 then accumulate n (off % 65535) s else faultLane n s
      else s
  else s

/-! ### The transform (R242, R259) -/

/-- The accumulated points 0 to 65,534 of bank b. -/
def points (s : State) (b : Nat) : List Int := (List.range 65535).map (fun i => (point s b i).toInt)
/-- The correlation C[k]. -/
def correlate (acc : List Int) (k : Nat) : Int :=
  (acc.zipIdx.map (fun e => e.1 * mlsSign ((e.2 + 65535 - k) % 65535))).sum
/-- The results of the transform written in place. -/
def transform (b : Nat) (s : State) : State :=
  let acc := points s b
  let sum := acc.sum
  forEach (List.range 65535) (fun t k => putPoint b k (BitVec.ofInt 60 (rneDiv (correlate acc k - sum) 65536)) t)
    (putPoint b 65535 (BitVec.ofInt 60 sum) s)

/-- A write of LANE with START: the transform of that lane starts; while the unit is BUSY, or with the lane not DONE, it
only sets REFUSED (R242, R259). -/
def startTransform (n : Nat) (s : State) : State :=
  if s.tally.xBusy ∨ (lane s n).hasData = false then modTally s (fun t => { t with xRefused := true, xLane := n })
  else modTally s (fun t => { t with xBusy := true, xLane := n, xRun := n })
/-- XFORM_START (R259). -/
def execXformStart (n : Fin 32) (s : State) : Out := .next (startTransform n s)

/-- Tally may access bank b: lent to it, or SHARED (R152, R241). -/
def tallyMay (s : State) (b : Nat) : Bool := (bank s b).owner == 3 || (bank s b).owner == 0

/-- The transform in progress ends; a bank with another owner is a bus error, which the lane reports (R152). -/
def endTransform (s : State) : State :=
  let n := s.tally.xRun
  let done := if tallyMay s (lane s n).bank then transform (lane s n).bank s else faultLane n s
  modLane (modTally done (fun t => { t with xBusy := false })) n (fun x => { x with xformDone := true })
/-- XFORM_DONE (R242). -/
def execXformDone (s : State) : Out := .next (if s.tally.xBusy then endTransform s else s)

/-! ### Goertzel detectors (R255 to R257, R260) -/

/-- Detector k. -/
def detector (s : State) (k : Nat) : Detector := Tab.get {} s.tally.dets k
/-- Detector k passed through f. -/
def modDetector (s : State) (k : Nat) (f : Detector → Detector) : State :=
  modTally s (fun t => { t with dets := Tab.mod {} t.dets k f })

/-- The domain runs at 44.1 or 48 kHz. -/
def pilotRate (x : Domain) : Bool := x.runs && (x.rate == 4 || x.rate == 5)
/-- Word 0 to 2 of a detector (R260). -/
def Detector.word (x : Detector) (i : Nat) : Word :=
  match i with
  | 0 => pack [flag x.enable 31, (x.domain, 29), (x.srcSlot, 16), (x.freq, 0)]
  | 1 => pack [(x.block, 22), (x.lossBlocks, 18), (x.lossLevel, 10), (x.hyst, 4)]
  | _ => pack [(x.state, 30), flag x.lossEv 29, flag x.presentEv 28, (x.level, 0)]
/-- The configuration words of a detector. -/
def detectorOf (a b : Word) (x : Detector) : Detector :=
  { x with enable := bit a 31, domain := fld a 29 2, srcSlot := fld a 16 13, freq := fld a 0 16, block := fld b 22 10,
           lossBlocks := fld b 18 4, lossLevel := fld b 10 8, hyst := fld b 4 6 }
/-- A configuration within R256 and R260 for a rate code. -/
def Detector.fits (x : Detector) (code : Nat) : Bool :=
  (code == 4 || code == 5) && 18000 ≤ x.freq && decide (x.freq * 10000 ≤ 46 * nominalRate code) && 64 ≤ x.block &&
    1 ≤ x.lossBlocks

/-- A detector back to IDLE with no block in progress. -/
def Detector.idle (x : Detector) : Detector := { x with state := 0, xs := [], bad := false, inBlock := false, run := 0 }

/-- One sample of a detector; a block begins at each Bell whose count is a multiple of BLOCK. -/
def Detector.sample (x : Detector) (b : BitVec 48) (v : Slot) : Detector :=
  if x.block ≠ 0 ∧ b.toNat % x.block = 0 then { x with inBlock := true, xs := [v.word.toInt], bad := !v.valid }
  else if x.inBlock ∧ x.xs.length < x.block then { x with xs := v.word.toInt :: x.xs, bad := x.bad || !v.valid }
  else x

/-- Detector k at the present Bell of domain d. -/
def detectorBell (d k : Nat) (s : State) : State :=
  let x := detector s k
  if x.enable ∧ x.domain = d then
    if pilotRate (dom s d) ∧ x.fits (dom s d).rate then
      modDetector s k (fun y =>
        (if y.state = 0 then { y with state := 1, run := 0 } else y).sample (dom s d).bell (frontSlot s d y.srcSlot))
    else modDetector s k Detector.idle
  else s

/-- The state of a detector after a block (R257): loud is at or below LOSS_LEVEL - HYST, soft above LOSS_LEVEL. -/
def Detector.judge (x : Detector) (loud soft : Bool) : Detector :=
  match x.state with
  | 1 => if loud then { x with state := 2, presentEv := true, run := 0 } else x
  | 2 => if soft then
      if x.lossBlocks ≤ x.run + 1 then { x with state := 3, lossEv := true, run := 0 } else { x with run := x.run + 1 }
    else { x with run := 0 }
  | 3 => if loud then
      if 2 ≤ x.run then { x with state := 2, presentEv := true, run := 0 } else { x with run := x.run + 1 }
    else { x with run := 0 }
  | _ => x

/-- A complete block: LEVEL, and the detector's state (R256, R257). A block with a sample that is not
VALID counts as below threshold. -/
def Detector.blockEnd (x : Detector) (rate : Nat) : Detector :=
  let raw := goertzelLevel x.freq rate x.xs
  let level := if 65534 < raw then 65535 else raw
  let loud := !x.bad && level + 50 * x.hyst ≤ 50 * x.lossLevel
  let soft := x.bad || 50 * x.lossLevel < level
  { (({ x with level := level } : Detector).judge loud soft) with inBlock := false, xs := [], bad := false }

/-- GOERTZEL_BLOCK_END (R256, R257). -/
def execGoertzelBlockEnd (k : Fin 64) (s : State) : Out :=
  let x := detector s k
  if x.enable ∧ x.inBlock ∧ x.xs.length = x.block then
    .next (modDetector s k (fun y => y.blockEnd (dom s x.domain).rateNow))
  else .next s

/-- PILOT_NOT_FOUND: 1 s in ACQUIRE (R257). -/
def execPilotNotFound (k : Fin 64) (s : State) : Out :=
  if (detector s k).enable ∧ (detector s k).state = 1 then .next (postEvent 0x0054 [wrd k.val] s) else .next s

/-- Lanes and detectors at a Bell of domain d. -/
def tallyBell (d : Nat) (s : State) : State :=
  forEach (List.range 64) (fun t k => detectorBell d k t) (forEach (List.range 32) (fun t n => laneBell d n t) s)

/-! ### Register words (R258, R259) -/

/-- Word i of a lane. -/
def Lane.word (x : Lane) (i : Nat) : Word :=
  match i with
  | 0 => pack [flag x.enable 31, (x.domain, 29), (x.bank, 22), (x.periods, 0)]
  | 1 => pack [(x.srcSlot, 16), (bellHi x.origin, 0)]
  | 2 => bellLo x.origin
  | _ => pack [flag x.done 31, flag x.fault 30, flag x.xformDone 29, flag x.invalid 28, (x.periodsDone, 0)]
/-- A write of word i of a lane. -/
def Lane.write (x : Lane) (i : Nat) (v : Word) : Lane :=
  match i with
  | 0 =>
    let y := { x with domain := fld v 29 2, bank := fld v 22 7, periods := fld v 0 16 }
    if bit v 31 then (if x.enable then y else y.arm) else { y with enable := false, running := false }
  | 1 => { x with srcSlot := fld v 16 13, origin := bellOf (fld v 0 16) (bellLo x.origin).toNat }
  | 2 => { x with origin := bellOf (bellHi x.origin) v.toNat }
  | _ => { x with done := x.done && !bit v 31, fault := x.fault && !bit v 30, xformDone := x.xformDone && !bit v 29,
                  invalid := x.invalid && !bit v 28 }
/-- TALLY_XFORM. -/
def Tally.xformWord (t : Tally) : Word := pack [flag t.xBusy 31, flag t.xRefused 30, (t.xLane, 0)]

/-! ### PILOT_CONFIG and PILOT_STATUS (R261) -/

/-- The detector that PILOT_CONFIG gives. -/
def pilotArgs (s : State) (m : Nat) : Detector := detectorOf (arg s m 2) (arg s m 3) {}
/-- The check of PILOT_CONFIG, whether or not it enables the detector (0x77). -/
def pilotConfigChecks (m : Nat) (s : State) : Option Refuse :=
  let x := pilotArgs s m
  if fld (arg s m 3) 0 4 ≠ 0 then some (badParam 0xF4 (fld (arg s m 1) 0 6))
  else if x.fits (dom s x.domain).rate then none else some (badParam 0x77 (fld (arg s m 1) 0 6))
/-- The detectors of a domain that stops: it has left 44.1 and 48 kHz (R257). -/
def stopDetectors (d : Nat) (s : State) : State :=
  forEach (List.range 64) (fun t k =>
    if (detector t k).enable ∧ (detector t k).domain = d then modDetector t k Detector.idle else t) s
/-- PILOT_CONFIG accepted: the detector starts anew, in ACQUIRE while its domain runs (R257). -/
def pilotConfigRun (m : Nat) (s : State) : State :=
  reply m [0] (modDetector s (fld (arg s m 1) 0 6) (fun x =>
    let y := (detectorOf (arg s m 2) (arg s m 3) x).idle
    if y.enable ∧ pilotRate (dom s y.domain) ∧ y.fits (dom s y.domain).rate then { y with state := 1 } else y))
/-- PILOT_CONFIG (0x79). -/
def execPilotConfig (m : Fin 8) (s : State) : Out := .next (serve 0x79 m (pilotConfigChecks m) (pilotConfigRun m) s)
/-- PILOT_STATUS accepted. -/
def pilotStatusRun (m : Nat) (s : State) : State :=
  let k := fld (arg s m 1) 0 6
  reply m ((List.range 15).map (fun i => if k + i < 64 then (detector s (k + i)).word 2 else 0)) s
/-- PILOT_STATUS (0x7A). -/
def execPilotStatus (m : Fin 8) (s : State) : Out := .next (serve 0x7A m noChecks (pilotStatusRun m) s)

end Sys2Proof.Machine
end

