-- ==== Sys2Proof/Machine/Sexton.lean ====
section
/-! DEFINITION. Bank ownership and the Sexton (R150 to R165, R316): BANK_OWNER_WRITE, the visits at a
Bell, SEXTON_VISIT_DONE, the full test and SEXTON_FULL_TEST_DONE. -/

namespace Sys2Proof.Machine

/-! ### Ownership (R150 to R152) -/

/-- OWNER and CHANNEL take effect; the full test asks for its leave, and a bank taken back from it
returns it (R151, R162). -/
def setOwner (bk owner chan : Nat) (s : State) : State :=
  let s1 := modBank s bk (fun k => { k with owner := owner, channel := chan, ownerNext := none })
  if owner = 2 then requestLeave 9 bk s1 else releaseLeave 9 bk s1

/-- A write of OWNER is refused (R151). -/
def ownerRefused (s : State) (bk owner : Nat) : Bool :=
  owner != 0 &&
    (5 < owner || s.aon.mode == .service || (s.aon.mode == .vigil && owner != 3) ||
     (bankLines s bk != 0 && anyActive s) ||
     ((owner == 1 || owner == 2 || owner == 3) && bankLines s bk != 0) ||
     (owner == 5 && !s.gate.debugOpen))

/-- A write of OWNER and CHANNEL: refused, at once, or after the visit in progress (R151). -/
def writeOwner (bk owner chan : Nat) (s : State) : State :=
  let c := if owner = 1 then chan else 0
  if ownerRefused s bk owner then modBank s bk (fun k => { k with refused := true })
  else if owner ≠ 0 ∧ (bank s bk).visiting then modBank s bk (fun k => { k with ownerNext := some (owner, c) })
  else setOwner bk owner c s


/-! ### Visits (R155 to R160) -/

/-- Rows of a bank. -/
def bankRows : Nat := 12288

/-- The sweep goes on to the next row (R158). -/
def Bank.nextRow (k : Bank) : Bank :=
  if k.rowPtr + 1 = bankRows then { k with again := false, rowPtr := 0, sweeps := (k.sweeps + 1) % 256 }
  else { k with again := false, rowPtr := k.rowPtr + 1 }

/-! #### March C- (R157) -/

/-- A place of the March: word of the row, write or read, the value 1 or 0. -/
structure MarchOp where
  word : Nat
  write : Bool
  one : Bool
  deriving DecidableEq, Repr

/-- The March C- sequence over the 16 words of a row: up w0; up r0 w1; up r1 w0; down r0 w1; down r1 w0; up r0. The
elements that may run either way run upwards. -/
def march : List MarchOp :=
  let up := List.range 16
  let down := up.reverse
  let pair := fun (v : Bool) (i : Nat) => [⟨i, false, v⟩, ⟨i, true, !v⟩]
  up.map (⟨·, true, false⟩) ++ up.flatMap (pair false) ++ up.flatMap (pair true) ++ down.flatMap (pair false) ++
    down.flatMap (pair true) ++ up.map (⟨·, false, false⟩)

/-- The data background (R157): the word written for 0 or 1 in an even or odd sweep. -/
def background (odd one : Bool) : Sample :=
  match odd, one with
  | false, false => 0x00000 | false, true => 0xFFFFF | true, false => 0x55555 | true, true => 0xAAAAA

/-- One access of the March on the cells of a row: `obs` holds the reads, by access number, at which the array does not
answer the word last written. -/
def marchStep (odd : Bool) (obs : List (Nat × Sample)) (st : List Sample × Bool) (e : MarchOp × Nat) : List Sample × Bool :=
  if e.1.write then (st.1.set e.1.word (background odd e.1.one), st.2)
  else
    let got := ((obs.find? (fun o => o.1 == e.2)).map (·.2)).getD (st.1.getD e.1.word 0)
    (st.1, st.2 || got != background odd e.1.one)
/-- The March run on a row: the words it leaves, and whether a read differed from its expected value. -/
def marchRun (odd : Bool) (obs : List (Nat × Sample)) : List Sample × Bool :=
  march.zipIdx.foldl (marchStep odd obs) (List.replicate 16 0, false)
/-- The row fails the March. -/
def marchFails (odd : Bool) (obs : List (Nat × Sample)) : Bool := (marchRun odd obs).2

/-! #### The phases of a visit (R156, R159) -/

/-- A spare row taken out of use: it failed (R162; a replacement row that fails is not used again, log 95). -/
def Bank.spoil (k : Bank) (n : Nat) : Bank := { k with remap := Tab.set {} k.remap n { bad := true } }

/-- Spare row n takes the place of a row for good (R159); a spare row that had its place is spoilt. -/
def Bank.repair (k : Bank) (n row : Nat) : Bank :=
  let k1 := match k.repairOf row with | some o => k.spoil o | none => k
  { k1 with remap := Tab.set {} k1.remap n { valid := true, row := row }, repairEv := true, repairRows := insertSorted row k1.repairRows }

/-- A failing row that no spare row can replace (R160). -/
def Bank.giveUp (k : Bank) (row : Nat) : Bank := { k with unrepaired := true, lostRows := insertSorted row k.lostRows }

/-- A visit begins: the save row is the highest free good spare row; a repeat goes on with the row saved before (R156,
R159). -/
def Bank.visit (k : Bank) : Bank :=
  if k.again ∧ k.save.isSome then { k with visiting := true, phase := .march }
  else { k with visiting := true, phase := .save, copied := 0, save := k.spares.head? }

/-- The visit's save row. -/
def Bank.saveRow (k : Bank) : Nat := k.save.getD 0

/-- Save: words of the row copied from the copy pointer on; then the March has the row. -/
def visitSave (bk : Nat) (s : State) : State :=
  let k := bank s bk
  if k.phase = .save then
    modBank ((List.range (16 - k.copied)).foldl (fun t j =>
      let i := k.copied + j
      modBank (cellPut t (bk / 16) (spareCell bk k.saveRow i) (cellGet t (bk / 16) (homeCell t bk k.rowPtr i))) bk
        (fun x => { x with copied := i + 1 })) s) bk (fun x => { x with phase := .march })
  else s
/-- The March leaves its last writes in the row under test. -/
def visitMarch (bk : Nat) (obs : List (Nat × Sample)) (s : State) : State :=
  let k := bank s bk
  ((marchRun (k.sweeps % 2 == 1) obs).1.zipIdx).foldl (fun t e => cellPut t (bk / 16) (homeCell t bk k.rowPtr e.2) e.1) s
/-- Restore: the words copied back, and the redirection ends. -/
def visitRestore (bk : Nat) (s : State) : State :=
  let k := bank s bk
  modBank (forEach (List.range 16) (fun t i =>
    modBank (cellPut t (bk / 16) (homeCell t bk k.rowPtr i) (cellGet t (bk / 16) (spareCell bk k.saveRow i))) bk
      (fun x => { x with copied := i + 1 })) (modBank s bk (fun x => { x with phase := .restore, copied := 0 }))) bk
    (fun x => { x with phase := .idle, copied := 0, save := none })

/-- The bank after a visit (R159, R160): restored, to be repeated, or repaired. A row that fails its repeat while its save row is
the last free good spare is repaired into it (DESIGN CHOICE, log 156: R160 first has such a repair set EXHAUSTED, then leaves
such a row where it is). -/
def Bank.visited (k : Bank) (failed : Bool) : Bank :=
  let v := { k with visiting := false }
  match k.again, failed with
  | false, false => v.nextRow
  | false, true => { v with again := true, phase := .held }
  | true, false => ({ v with soft := true, softRows := insertSorted v.rowPtr v.softRows } : Bank).nextRow
  | true, true => (({ v with phase := .idle, copied := 0, save := none } : Bank).repair v.saveRow v.rowPtr).nextRow

/-- Jexolaryn records the repairs of a bank (R159). -/
def recordRepairs (bk : Nat) (s : State) : State :=
  modJex s (fun j =>
    { j with
      repairs := j.repairs.filter (fun e => e.1 != bk) ++
        ((bank s bk).remap.filter (fun e => e.2.valid)).map (fun e => (bk, e.1, e.2.row)) })

/-- The bank can be visited (R155). -/
def Bank.visitable (k : Bank) : Bool := k.owner == 0 && !k.visiting && !k.spares.isEmpty

/-- The set moves to the next hamlet when every bank of the present one has completed a sweep (R158). -/
def moveSet (s : State) : State :=
  let bs := maskQuerns s.sexton.set
  if bs ≠ [] ∧ jexOn s ∧ bs.all (fun b => s.jex.swept.contains b) then
    let h := ((bs.headD 0) / 16 + 1) % 8
    modSexton (modJex s (fun j => { j with swept := [] })) (fun x =>
      { x with set := querMask ((List.range 16).map (16 * h + ·)) })
  else s

/-- The phases of a visit run to their end: save, March, and restore where the row passed (R156, R157, R159). -/
def visitPhases (bk : Nat) (obs : List (Nat × Sample)) (s : State) : State :=
  let s1 := visitMarch bk obs (visitSave bk s)
  if marchFails ((bank s bk).sweeps % 2 == 1) obs then s1 else visitRestore bk s1

/-- SEXTON_VISIT_DONE: a visit in progress ends; its leave returns, and a change of owner that waited
takes effect (R151, R156, R316). -/
def visitDone (bk : Nat) (obs : List (Nat × Sample)) (s : State) : State :=
  let k := bank s bk
  let failed := marchFails (k.sweeps % 2 == 1) obs
  let s1 := modBank (returnLeave 8 bk (visitPhases bk obs s)) bk (fun x => x.visited failed)
  let s2 := if jexOn s then recordRepairs bk s1 else s1
  let s3 := if (bank s1 bk).sweeps ≠ k.sweeps then
      moveSet (modJex s2 (fun j => { j with swept := insertSorted bk j.swept }))
    else s2
  match k.ownerNext with
  | some o => setOwner bk o.1 o.2 s3
  | none => s3

/-- SEXTON_VISIT_DONE; the row carries the March reads, by access number, that the array answered with another word
than the one last written. -/
def execSextonVisitDone (bk : Fin 128) (obs : List (Nat × Sample)) (s : State) : Out :=
  .next (if (bank s bk).visiting then visitDone bk obs s else s)

/-- One bank of the set at a Bell: leave is asked for, and a granted visit begins. -/
def visitBank (s : State) (b : Nat) : State :=
  if (bank s b).visitable then
    let s1 := requestLeave 8 b s
    if hasGrant s1 8 b then modSexton (modBank s1 b Bank.visit) (fun x => { x with last := b }) else s1
  else s

/-- The visits of a Bell of domain d, in ascending order from the bank after the last one visited. -/
def sextonBell (d : Nat) (s : State) : State :=
  let x := s.sexton
  if x.enable ∧ x.domain = d then
    ((List.range 128).map (fun i => (x.last + 1 + i) % 128)).foldl
      (fun t b => if x.set.getLsbD b then visitBank t b else t) s
  else s

/-! ### Full test (R162) -/

/-- A failing data row found by the full test: the spare row it stands in is BAD; it is repaired into a
free good spare row, or UNREPAIRED is set. Of several the highest is taken (DESIGN CHOICE, log 131: R162 names none). -/
def Bank.testRow (k : Bank) (row : Nat) : Bank :=
  let k1 := match k.repairOf row with | some n => k.spoil n | none => k
  match k1.spares.head? with
  | some n => k1.repair n row
  | none => k1.giveUp row

/-- The rows that failed the full test: free spare row n as 12,288 + n, first, then data rows (R162). -/
def Bank.tested (k : Bank) (bad : List Nat) : Bank :=
  let spares := bad.filter (fun r => bankRows ≤ r && k.spares.contains (r - bankRows))
  let k1 := spares.foldl (fun x r => x.spoil (r - bankRows)) k
  { (bad.filter (· < bankRows)).foldl Bank.testRow k1 with fullDone := true }

/-- The rows whose March fails with the even background; `obs` holds, by row, the reads that differed from the word last
written. -/
def failingRows (obs : List (Nat × List (Nat × Sample))) : List Nat :=
  (obs.filter (fun e => marchFails false e.2)).map (·.1)

/-- Every data word of a bank 0. -/
def zeroBank (bk : Nat) (s : State) : State := granZero (bk / 16) (bankPos bk 0) bankWords s
/-- Every word of the free good spare rows 0. -/
def zeroSpares (bk : Nat) (s : State) : State :=
  forEach (bank s bk).spares (fun t n => forEach (List.range 16) (fun u i => cellPut u (bk / 16) (spareCell bk n i) 0) t) s

/-- The full test of a bank: the March with the even background over every row through its remap and every free spare
row, which it leaves 0; repairs; then 0 in every data word (R162). A visit's redirection ends with it. -/
def fullTest (bk : Nat) (obs : List (Nat × List (Nat × Sample))) (s : State) : State :=
  let s1 := modBank s bk (fun k => { k with again := false, visiting := false, phase := .idle, copied := 0, save := none })
  zeroBank bk (modBank (zeroSpares bk (zeroBank bk s1)) bk (fun k => k.tested (failingRows obs)))

/-- The recorded repairs of bank b written while it is owned by the full test (R162, R164). -/
def restoreRepairs (b : Nat) (s : State) : State :=
  (s.jex.repairs.filter (fun e => e.1 == b)).foldl (fun t e => modBank t b (fun k =>
    { k with remap := Tab.set {} k.remap e.2.1 { valid := true, row := e.2.2 } })) s

/-- The full test of the next hamlet after a cold boot; after the last the Sexton is started over the
banks of hamlet 0, paced by domain 0 (DESIGN CHOICE, log 23). -/
def startHamlet (s : State) : State :=
  match s.jex.fullLeft with
  | 0 => modSexton s (fun x => { x with enable := true, domain := 0, set := querMask (List.range 16) })
  | n + 1 => forEach (List.range 16) (fun t i =>
      let b := 16 * (7 - n) + i
      restoreRepairs b (setOwner b 2 0 t)) s

/-- The test's leave ends; Jexolaryn, while it runs, returns the tested bank to SHARED, and when no bank of the hamlet is
left it goes on. -/
def endTest (bk : Nat) (s : State) : State :=
  let s1 := if jexOn s then setOwner bk 0 0 (recordRepairs bk s) else releaseLeave 9 bk s
  let h := bk / 16
  if jexOn s ∧ s.jex.fullLeft ≠ 0 ∧ h = 8 - s.jex.fullLeft ∧ (List.range 16).all (fun i => (bank s1 (16 * h + i)).owner != 2) then
    startHamlet (modJex s1 (fun j => { j with fullLeft := j.fullLeft - 1 }))
  else s1

/-- SEXTON_FULL_TEST_DONE (R162): a bank under test with its leave granted. -/
def execSextonFullTestDone (bk : Fin 128) (obs : List (Nat × List (Nat × Sample))) (s : State) : Out :=
  if (bank s bk).owner = 2 ∧ hasGrant s 9 bk then .next (endTest bk (fullTest bk obs s)) else .next s

/-- The recorded repairs put back on another boot: each bank with repairs is owned by a DMA channel while they are
written (R164; DESIGN CHOICE, log 132: R162 speaks of the cold boot alone, and no rule names an owner for the restore). -/
def warmBanks (s : State) : State :=
  (s.jex.repairs.map (·.1)).foldl (fun t b => setOwner b 0 0 (restoreRepairs b (setOwner b 1 0 t))) s

/-- The full test begun after a cold boot, hamlet by hamlet, each bank's recorded repairs put back first (R162). -/
def coldBanks (s : State) : State := startHamlet (modJex s (fun j => { j with fullLeft := 8, swept := [] }))

end Sys2Proof.Machine
end

