-- ==== Sys2Proof/Machine/Mode.lean ====
section
/-! DEFINITION. Mode changes and what they end (R20, R33, R439), flash operations waiting for leave
(R481), and the output interlock DUTY_OUT (R38, R275, R293). -/

namespace Sys2Proof.Machine

/-! ### Flash operations (R481) -/

/-- The operation of a select. -/
def flashOp (s : State) (sel : Nat) : Option FlashOp := (s.flash.ops.find? (fun e => e.1 == sel)).map (·.2)

/-- An operation takes its select and asks for leave. -/
def beginFlash (o : FlashOp) (s : State) : State :=
  requestLeave o.cls o.sel (modFlash s (fun f => { f with ops := Tab.ins f.ops o.sel o, busy := Tab.set false f.busy o.sel false }))

/-- A row of operations that writes an area with places that take turns, aimed at the place that is next as it begins (R484). -/
def aimFlash (o : FlashOp) (s : State) : FlashOp :=
  let saves := match o.work with | .cmd m => cmdOp s m == 0x04 || cmdOp s m == 0x13 | .reseal => true | _ => false
  if o.work = .log then { o with steps := logSteps s }
  else if o.work = .results then { o with steps := resultSteps s }
  else if saves then { o with steps := configSteps s }
  else if o.addr = dirAddr 0 ∨ o.addr = dirAddr 1 then { o with steps := dirSteps s }
  else o
/-- An operation begins, or waits while its select has another (R481). -/
def startFlash (o : FlashOp) (s : State) : State :=
  if (flashOp s o.sel).isSome then modFlash s (fun f => { f with waiting := f.waiting ++ [o] }) else beginFlash o s

/-- The operation of a select ends: leave returned, the next that waits begins. -/
def endFlash (sel : Nat) (s : State) : State :=
  let s1 := modFlash s (fun f =>
    let g := if Tab.get false f.busy sel then f.complete 5 sel (Tab.get {} f.ops sel : FlashOp).now else f
    { g with ops := Tab.del g.ops sel, busy := Tab.set false g.busy sel false })
  let s2 := match flashOp s sel with | some o => releaseLeave o.cls sel s1 | none => s1
  match s2.flash.waiting.find? (fun o => o.sel == sel) with
  | some o => beginFlash (aimFlash o s2) (modFlash s2 (fun f => { f with waiting := f.waiting.erase o }))
  | none => s2

/-- The operation in progress is complete, and the next of its row asks for leave of its own (R441, R481). -/
def followFlash (o : FlashOp) (s : State) : State :=
  beginFlash o (releaseLeave o.cls o.sel (modFlash s (fun f => f.complete 5 o.sel (Tab.get {} f.ops o.sel : FlashOp).now)))
/-- An operation of the command in mailbox m is in progress. -/
def flashRuns (s : State) (m : Nat) : Bool := s.flash.ops.any (fun e => e.2.mb == m + 1 && Tab.get false s.flash.busy e.1)
/-- The operations of the command in mailbox m that have not begun are dropped. -/
def dropFlash (m : Nat) (s : State) : State :=
  (s.flash.ops.filter (fun e => e.2.mb == m + 1 && !(Tab.get false s.flash.busy e.1))).foldl (fun t e => endFlash e.1 t)
    (modFlash s (fun f => { f with waiting := f.waiting.filter (fun o => o.mb != m + 1) }))
/-- The operation in progress of the command in mailbox m is its last: the command is answered with a code when it ends
(R439). -/
def stopFlash (m code : Nat) (s : State) : State :=
  modFlash s (fun f =>
    { f with ops := f.ops.map (fun e => if e.2.mb = m + 1 then (e.1, { e.2 with stop := some (e.2.stop.getD code) }) else e) })

/-- Flash operations when the Reeves are halted: those that have not begun are dropped, one in progress runs out in its flash
with nothing to follow. -/
def haltFlash (s : State) : State :=
  let waiting := s.flash.ops.filter (fun e => !(Tab.get false s.flash.busy e.1))
  let s1 := modFlash s (fun f =>
    { f with
      ops := (f.ops.filter (fun e => Tab.get false f.busy e.1)).map (fun e =>
        (e.1, { e.2 with mb := 0, steps := e.2.steps.take 1, work := .none, stop := none }))
      frames := f.frames.filter (fun x => x.rank < 3)
      readers := []
      waiting := [] })
  waiting.foldl (fun t e => releaseLeave e.2.cls e.2.sel t) s1

/-! ### The pair's own parts -/

/-- A TWIN_EVENTS flag set (R308): 0 ARM_FAIL, 1 ARMED_EV, 2 HANDED_OVER, 3 TAKEOVER, 4 OUT_OF_STEP,
5 LINK_LOST, 6 POS_CONFLICT, 7 VERSION_EV, 8 MIRROR_ERR. -/
def twinEvent (i : Nat) (s : State) : State := modTwin s (fun t => { t with events := t.events ||| BitVec.ofNat 9 (2 ^ i) })

/-- The domains that follow the partner's Bells take their own sources (R300, R307). An enabled domain whose OWN_SRC names no
source keeps SRC 5, since it always names one of 1 to 5 (R44, R60; DEDUCED, log 119). -/
def ownSources (s : State) : State :=
  forEach (List.range 4) (fun t d =>
    let src := (t.twin.ownSrc.toNat >>> (7 * d + 3)) % 16
    if (dom t d).src = 5 ∧ (!(dom t d).enable ∨ (1 ≤ src ∧ src ≤ 5)) then
      changeSource d src ((t.twin.ownSrc.toNat >>> (7 * d)) % 8) t
    else t) s

/-- Banks held by the twin copy engine are SHARED again (R307). -/
def freeCopyBanks (s : State) : State :=
  (s.banks.filter (fun e => e.2.owner == 4)).foldl (fun t e => setOwner e.1 0 0 t) s

/-- Arming ends without a pair (R302, R307): banks and sources as before, leave returned, TWIN_ARM_FAILED
with its detail code. -/
def failArming (code : Nat) (s : State) : State :=
  if s.twin.arm = .idle then s
  else
    postEvent 0x0063 [wrd code] (twinEvent 0 (releaseLeave 5 0 (ownSources (freeCopyBanks (modTwin (dropCaptures s) (fun t =>
      { t with arm := .idle, armMb := none, armLeave := false, joinBell := [], joinIdx := [], replay := [], attempts := 0,
               inStep := false }))))))

/-! ### Mode changes -/

/-- The work of the ACCEPTED command in mailbox m stops at its next step (R439). -/
def dropWork (m : Nat) (s : State) : State :=
  let mine := s.jex.load.any (fun l => l.mb == m)
  let s0 := if s.twin.armMb = some m then failArming 0x84 s else s
  let waits := s0.vigil.mb == m + 1
  let s1 := (s0.jex.swaps.filter (fun w => w.mb == m + 1)).foldl (fun t w => dropSwap w t)
    ((if waits then releaseLeave 7 0 else id) (if mine then releaseLeave 4 0 s0 else s0))
  nextLoad (dropFlash m (modVigil (modJex s1 (fun j =>
    { j with
      load := if mine then none else j.load
      loads := j.loads.filter (fun l => l.mb != m)
      held := j.held.filter (· != m)
      bundles := j.bundles.map (fun b => if b.unload = m + 1 then { b with unload := 0 } else b)
      sets := j.sets.map (fun e => if e.2.mb = m + 1 then (e.1, { e.2 with mb := 0 }) else e) }))
    (fun v => if waits then { v with mb := 0, step := 0 } else v)))

/-- An opcode that asks for a transition of the mode: SERVICE_START, SERVICE_STOP, VIGIL_START, SLEEP_ENTER. -/
def asksMode (op : Nat) : Bool := [0x01, 0x02, 0x72, 0x93].contains op
/-- The code of an accepted command that a mode does not allow: 0xF7 (R439), for a transition that an entry to FALLBACK
displaces 0xF6 (R36). -/
def endCode (mode : Mode) (op : Nat) : Nat := if mode = .fallback ∧ asksMode op then 0xF6 else 0xF7
/-- The refusal of the accepted command in mailbox m that a mode ends; a program swap concerns its domain (R516). -/
def endRefusal (mode : Mode) (s : State) (m : Nat) : Refuse :=
  let op := cmdOp s m
  ({ stateRefused (endCode mode op) with idx := if op = 0x22 then some (swapArgs s m).domain else none } : Refuse).inGroup op
/-- Accepted commands that a mode does not allow stop: at the end of the flash operation in progress, else at once (R439). -/
def endDisallowed (mode : Mode) (s : State) : State :=
  (acceptedMbs s).foldl (fun t m =>
    if modeAllows t mode m then t
    else if flashRuns t m then stopFlash m (endCode mode (cmdOp s m)) (dropWork m t)
    else refuse m (endRefusal mode s m) (dropWork m t)) s

/-- MODE takes a new value (R20, R33): LAST_MODE, the commands it ends, MODE_CHANGED with its cause. -/
def setMode (new : Mode) (cause : Nat) (s : State) : State :=
  let old := s.aon.mode
  if old = new then s
  else
    postEvent 0x0002 [wrd (new.code + 16 * old.code + 256 * cause)]
      (endDisallowed new (modAon s (fun a => { a with mode := new, lastMode := old.code })))

/-! ### The output interlock -/

/-- A SINGLE device claims the outputs (R275, R293): in SERVICE and VIGIL, else while its Crier is
ACTIVE. -/
def claims (s : State) : Bool :=
  s.aon.mode == .service || s.aon.mode == .vigil || s.crier.state == .active

/-- DUTY_OUT as role, mode, Crier and DUTY_IN have it (R275, R293). Where a reset released it while the Crier was ACTIVE, a
device at position A gives its partner the 4 ms of position B (R296; DESIGN CHOICE, log 162). -/
def dutyValue (s : State) : Bool :=
  let t := s.twin
  match t.role with
  | .duty => true
  | .standby => false
  | .single =>
    claims s &&
      (if t.dutyOut then !(t.pos && t.dutyIn)
       else if t.pos || (t.released && s.aon.mode != .service && s.aon.mode != .vigil) then t.settled && !t.dutyIn
       else !t.dutyIn)

/-- DUTY_OUT driven. -/
def updateDuty (s : State) : State := modTwin s (fun t => { t with dutyOut := dutyValue s })

/-- Frames of group g come: from the Crier, or with the Bells of its domain. -/
def framed (s : State) (g : Nat) : Bool := (crierClocks s g).isSome || (dom s (group s g).domain).runs

end Sys2Proof.Machine
end

