-- ==== Sys2Proof/Machine/Files.lean ====
section
/-! DEFINITION. Segment transfers (R441) into the flash layout of R483 and R484: IMAGE_WRITE, BUNDLE_WRITE,
MESSAGE_WRITE, TASK_INSTALL, CRIER_STORE_WRITE, and the message store. -/

namespace Sys2Proof.Machine

/-! ### Flash commands -/

/-- Another accepted command of an opcode is at work. -/
def opBusy (s : State) (m op : Nat) : Bool := (acceptedMbs s).any (fun k => k != m && cmdOp s k == op)
/-- The refusal of a flash command that did not get its leave in time (R317). -/
def noFlashLeave : Refuse := ⟨9, openCode 9, 0x7F, none⟩
/-- The refusal of a command whose erase or program failed: the segment refusal of its group, else no
stated code (R481; log 27). -/
def flashRefusal (op : Nat) : Refuse :=
  match op with
  | 0x10 => badParam 0x10 | 0x20 => badParam 0xFB | 0x57 => badParam 0x6B | 0xC0 => badParam 0xC1 | 0xD3 => badParam 0xD3
  | _ => stateRefused (openCode 5)
/-- Flash operations of the command in mailbox m on a select, each under FLASH leave (R441, R481). -/
def flashCmd (m sel : Nat) (steps : List FlashStep) (work : FlashWork) (s : State) : State :=
  startFlash { sel := sel, mb := m + 1, cls := 3, steps := steps, work := work } s

/-! ### Tasks -/

/-- Installed task of index i. -/
def taskOf (s : State) (i : Nat) : Task := Tab.get {} s.jex.tasks i
/-- Installed task of index i passed through f. -/
def modTask (s : State) (i : Nat) (f : Task → Task) : State := modJex s (fun j => { j with tasks := Tab.mod {} j.tasks i f })
/-- Index of the installed task with an identifier. -/
def taskIndex (s : State) (id : Nat) : Option Nat :=
  if id = 0 then none else (s.jex.tasks.find? (fun e => e.2.id == id)).map (·.1)
/-- No task installed; the place in task storage stays (R484). -/
def Task.stored0 (x : Task) : Task := { halfSel := x.halfSel, stored := x.stored }

/-- Byte address of task index i in the task area. -/
def taskPlace (i : Nat) : Nat := 0x01200000 + 0x40000 * i

/-! ### Targets -/

/-- The kind of file a segment command writes, and its place in the table of targets. -/
def fileKey (op target : Nat) : Nat :=
  match op with
  | 0x10 => 0 | 0x20 => 1000 + target | 0x57 => 2000 + target | 0xC0 => 3000 + target | _ => 4000
/-- State of a target. -/
def fileSt (s : State) (k : Nat) : FileSt := Tab.get {} s.jex.files k
/-- A target passed through f. -/
def modFile (s : State) (k : Nat) (f : FileSt → FileSt) : State := modJex s (fun j => { j with files := Tab.mod {} j.files k f })

/-- SEQ of image slot n as its record has it; 0 where the record's check fails (R342). -/
def slotSeq (s : State) (n : Nat) : Nat :=
  if crc32c (flashBytes s n 8 8) = BitVec.ofNat 32 (flashWord s n 16) then leNat (flashBytes s n 8 8) else 0
/-- The sequence record's check fails (R342). -/
def slotSeqErr (s : State) (n : Nat) : Bool := crc32c (flashBytes s n 8 8) != BitVec.ofNat 32 (flashWord s n 16)
/-- State word of image slot n decoded (R343). -/
def slotState (s : State) (n : Nat) : Nat :=
  if flashByte s n 0 ≠ 0 then 0 else if flashByte s n 1 ≠ 0 then 1 else if flashByte s n 2 ≠ 0 then 2 else 3
/-- GH_SLOT.STATE follows the state word (R365). -/
def refreshSlot (n : Nat) (s : State) : State :=
  modGate s (fun g => { g with slots := Tab.mod {} g.slots n (fun x => { x with state := slotState s n }) })
/-- GH_SLOT and the verification of Crier stores take note of what is written at byte a of select k (R281, R365). -/
def noteWritten (k a : Nat) (s : State) : State :=
  if a < 0x110000 then refreshSlot k s
  else if a < configAddr then modGate s (fun g => { g with crierWritten := g.crierWritten ||| BitVec.ofNat 2 (2 ^ k) })
  else s
/-- An erase on select 0 takes what its area holds (R484). -/
def noteArea (k : Nat) (st : FlashStep) (s : State) : State := if k = 0 ∧ st.erases then eraseArea st.addr s else s
/-- A flash operation of select k carried out (R481). -/
def doStep (k : Nat) (st : FlashStep) (s : State) : State :=
  noteWritten k st.addr (match st with
    | .erase a n => flashErase k a n (noteArea k st s)
    | .program a bs => flashPut k a bs s)
/-- A flash operation of select k cut short or failed: each byte of it is left anywhere between what it held and what it was
to hold (R343, R349). -/
def cutStep (k : Nat) (st : FlashStep) (s : State) : State :=
  let f := takeFresh s
  noteWritten k st.addr (match st with
    | .erase a n => (s.flash.bytes.filter (fun e => flashKey k a ≤ e.1 && e.1 < flashKey k (a + n))).foldl
        (fun t e => modFlash t (fun x => { x with bytes := Tab.mod 0 x.bytes e.1 (fun b => b &&& Config.cutByte f.1 e.1) })) (noteArea k st f.2)
    | .program a bs => flashPut k a (bs.zipIdx.map (fun e => e.1 ||| Config.cutByte f.1 (flashKey k (a + e.2)))) f.2)

/-- The slot the device does not run from (R348); under a host-loaded image the one with the lower SEQ
(DESIGN CHOICE, log 28). -/
def idleSlot (s : State) : Nat :=
  match s.gate.bootSrc with
  | 1 => 1 | 2 => 0 | _ => if slotSeq s 0 ≤ slotSeq s 1 then 0 else 1
/-- The Crier store slot that the Crier does not use (R281). -/
def idleStore (s : State) : Nat := match s.crier.copy with | some c => 1 - c.slot | none => 0

/-- Units of the message area (R484). -/
def msgUnits (s : State) : Nat := (regionSize s 0 0x02A00000 0x1600000 - 65536) / 65536
/-- Address of a unit. -/
def unitAddr (u : Nat) : Nat := 0x02A10000 + 65536 * u
/-- Message i. -/
def msg (s : State) (i : Nat) : Msg := Tab.get {} s.jex.msgs i
/-- Message i passed through f. -/
def modMsg (s : State) (i : Nat) (f : Msg → Msg) : State := modJex s (fun j => { j with msgs := Tab.mod {} j.msgs i f })

/-- Select, first byte and usable bytes of a target; none: no such target (R441, R483). -/
def segPlace (s : State) (op target : Nat) : Option (Nat × Nat × Nat) :=
  match op with
  | 0x10 =>
    let n := idleSlot s
    some (n, 4096, Nat.min 0x100000 (regionSize s n 0 0x110000 - 4096))
  | 0x20 =>
    if target < 8 then
      let p := bundlePlace target
      some (p.1, p.2, regionSize s p.1 p.2 0x800000)
    else none
  | 0x57 => if target < 255 then some (0, unitAddr (msg s target).unit, 65536 * (msg s target).units) else none
  | 0xC0 =>
    if target < 64 then some (0, taskPlace target, regionSize s 0 (taskPlace target) 0x40000) else none
  | _ =>
    let n := idleStore s
    some (n, crierBase, regionSize s n crierBase 0x600000)

/-! ### The message store (R484) -/

/-- A unit is held by a message. -/
def unitHeld (s : State) (u : Nat) : Bool := s.jex.msgs.any (fun e => e.2.unit ≤ u && u < e.2.unit + e.2.units)
/-- Free units in a row from u, at most n. -/
def freeRun (s : State) : Nat → Nat → Nat
  | _, 0 => 0
  | u, n + 1 => if unitHeld s u then 0 else 1 + freeRun s (u + 1) n
/-- Start and length of the largest free run of units; the first of equals. -/
def largestRun (s : State) : Nat × Nat :=
  (List.range (msgUnits s)).foldl (fun best u =>
    let n := freeRun s u (msgUnits s - u)
    if best.2 < n then (u, n) else best) (0, 0)
/-- Messages without their LAST become absent and free their units. -/
def dropUnfinished (s : State) : State :=
  modJex s (fun j => { j with msgs := (j.msgs.map (fun e => (e.1, if e.2.present then e.2 else {}))).filter (fun e => e.2 != {}) })
/-- Message i starts anew with a rate: the largest free run is its own (R484). -/
def startMessage (i rate : Nat) (s : State) : State :=
  let s1 := modMsg (dropUnfinished s) i (fun _ => {})
  let r := largestRun s1
  modMsg s1 i (fun _ => { rate := rate, unit := r.1, units := r.2 })
/-- Content of message i. -/
def msgBytes (s : State) (i : Nat) : List (BitVec 8) := flashBytes s 0 (unitAddr (msg s i).unit) (msg s i).bytes
/-- The written length is fixed: units beyond it are freed, the CRC is kept (R484). -/
def finishMessage (i len : Nat) (s : State) : State :=
  let s1 := modMsg s i (fun x => { x with present := true, bytes := len, units := (len + 65535) / 65536 })
  modMsg s1 i (fun x => { x with crc := crc32c (msgBytes s1 i) })

/-! ### Segments (R441) -/

/-- ERASE, LAST, TARGET, OFFSET and BYTES of the segment in mailbox m. -/
def segErase (s : State) (m : Nat) : Bool := bit (arg s m 1) 31
/-- LAST. -/
def segLast (s : State) (m : Nat) : Bool := bit (arg s m 1) 30
/-- TARGET. -/
def segTarget (s : State) (m : Nat) : Nat := fld (arg s m 1) 16 8
/-- OFFSET. -/
def segOffset (s : State) (m : Nat) : Nat := (arg s m 2).toNat
/-- BYTES. -/
def segBytes (s : State) (m : Nat) : Nat := 4 * (cmdLen s m - 3)
/-- The data bytes. -/
def segData (s : State) (m : Nat) : List (BitVec 8) := (args s m 3 (cmdLen s m - 3)).flatMap wordBytes

/-- The refusal of a segment, and of a command whose flash write failed (R481): the element where the spec names one. -/
def segRefusal (s : State) (m op : Nat) : Refuse :=
  { flashRefusal op with
    idx := match op with
      | 0xC0 => some (segTarget s m)
      | 0x10 => some (idleSlot s)
      | 0xD3 => some (idleStore s)
      | _ => (flashRefusal op).idx }

/-- The usable bytes of the segment's target: a message with ERASE is placed first. -/
def segRoom (s : State) (m op : Nat) : Nat :=
  if op = 0x57 ∧ segErase s m then
    if segTarget s m < 255 then 65536 * (largestRun (modMsg (dropUnfinished s) (segTarget s m) (fun _ => {}))).2 else 0
  else match segPlace s op (segTarget s m) with | some p => p.2.2 | none => 0

/-- Every byte of the segment is unwritten since the erase. -/
def segFresh (s : State) (m op : Nat) : Bool :=
  let f := fileSt s (fileKey op (segTarget s m))
  let a := segOffset s m
  let z := a + segBytes s m
  segErase s m || (f.erased && f.spans.all (fun p => z ≤ p.1 || p.1 + p.2 ≤ a))

/-- The checks of a segment write: TARGET 255 is a message number out of range (R462). -/
def segChecks (op m : Nat) (s : State) : Option Refuse :=
  let bad := segRefusal s m op
  firstRefusal [
    (op != 0x57 || segTarget s m != 255, badParam 0x60 (some 255)),
    ((segPlace s op (segTarget s m)).isSome, bad),
    (segOffset s m % 4 == 0 && (!segErase s m || segOffset s m == 0), bad),
    (op == 0x57 || fld (arg s m 1) 8 4 == 0, badParam 0xF4),
    (op != 0x57 || !segErase s m || fld (arg s m 1) 8 4 < 8, bad),
    (decide (segOffset s m + segBytes s m ≤ segRoom s m op), bad),
    (segFresh s m op, bad)]

/-- U1 and U2 on slot n: a VALID slot is retired, its control sector erased, then its image sectors (R348). -/
def slotErase (s : State) (n : Nat) : List FlashStep :=
  (if slotState s n = 2 then [.program 2 [0]] else []) ++ .erase 0 4096 :: eraseUnits 4096 (regionSize s n 0 0x110000 - 4096)
/-- The operations that a segment with ERASE begins with: the erase of its target; of a message, the directory (R484). -/
def segErases (op m : Nat) (s : State) : List FlashStep :=
  match op with
  | 0x10 => slotErase s (idleSlot s)
  | 0x57 => dirSteps s
  | _ => match segPlace s op (segTarget s m) with | some (_, a, n) => eraseUnits a n | none => []
/-- The erases of the units of a message that n bytes from offset off are the first to reach (R484). -/
def reachSteps (a off n : Nat) (spans : List (Nat × Nat)) : List FlashStep :=
  ((List.range (n / 65536 + 2)).map (off / 65536 + ·)).filterMap (fun u =>
    if u * 65536 < off + n ∧ spans.all (fun p => p.1 + p.2 ≤ u * 65536 ∨ (u + 1) * 65536 ≤ p.1) then
      some (.erase (a + 65536 * u) 65536) else none)

/-- The segment's programs, one for each page it touches. A message that has had its LAST ends with its directory. -/
def segProgram (op m : Nat) (s : State) : State :=
  let f := fileSt s (fileKey op (segTarget s m))
  match segPlace s op (segTarget s m) with
  | some (sel, a, _) =>
    let off := segOffset s m
    flashCmd m sel ((if op = 0x57 then reachSteps a off (segBytes s m) f.spans else []) ++ pageSteps s sel (a + off) (segData s m))
      (if op = 0x57 ∧ (segLast s m ∨ f.last) then .part m 1 else .cmd m) s
  | none => s
/-- The flash operations of an accepted segment: the erases, if it has ERASE, then the programs (R441). -/
def segRun (op m : Nat) (s : State) : State :=
  match segPlace s op (segTarget s m) with
  | some (sel, _, _) => if segErase s m then flashCmd m sel (segErases op m s) (.part m 0) s else segProgram op m s
  | none => s

/-- An erase of a segment's target has begun: nothing of the target counts as written until all of it is erased. -/
def segSpoilt (op m : Nat) (s : State) : State := modFile s (fileKey op (segTarget s m)) (fun _ => {})
/-- A segment's target is erased: a message has its place (R484), a task index no task. -/
def segErased (op m : Nat) (s : State) : State :=
  let t := segTarget s m
  let s1 := match op with
    | 0x57 => startMessage t (fld (arg s m 1) 8 4) (turnDir s)
    | 0xC0 => modTask s t Task.stored0
    | _ => s
  modFile s1 (fileKey op t) (fun _ => { erased := true, rate := fld (arg s m 1) 8 4 })
/-- The segment is programmed, and LAST noted (R441). -/
def segNoted (op m : Nat) (s : State) : State :=
  let n := segBytes s m
  modFile s (fileKey op (segTarget s m)) (fun f =>
    { f with
      spans := (segOffset s m, n) :: f.spans
      written := f.written + n
      last := f.last || segLast s m
      length := if segLast s m then segOffset s m + n else f.length })
/-- The last operation of a segment has ended: a message with its LAST is fixed, unless the start of another has taken its
units (R484). -/
def segApply (op m : Nat) (s : State) : State :=
  let f := fileSt s (fileKey op (segTarget s m))
  if op = 0x57 ∧ f.last then
    (if (msg s (segTarget s m)).units = 0 then turnDir s else finishMessage (segTarget s m) f.length (turnDir s))
  else segNoted op m s

/-- The reply: bytes written since the erase. -/
def segReply (op m : Nat) (s : State) : State := reply m [wrd (fileSt s (fileKey op (segTarget s m))).written] s

/-- The target that a command in mailbox k changes, by its place in the table of targets. -/
def fileObject (s : State) (k : Nat) : Option Nat :=
  match cmdOp s k with
  | 0x20 => some (fileKey 0x20 (segTarget s k))
  | 0x57 => some (fileKey 0x57 (segTarget s k))
  | 0x59 => some (fileKey 0x57 (fld (arg s k 1) 0 8))
  | 0xC0 => some (fileKey 0xC0 (segTarget s k))
  | 0xC3 => (taskIndex s (arg s k 1).toNat).map (fileKey 0xC0)
  | 0xD3 => some (fileKey 0xD3 0)
  | _ => none
/-- An earlier command that is still at work changes a target (R438). -/
def changing (s : State) (m key : Nat) : Bool := (acceptedMbs s).any (fun k => k != m && fileObject s k == some key)
/-- Checks of a segment command whose target no earlier command may be changing. -/
def soleChecks (op m : Nat) (s : State) : Option Refuse :=
  if changing s m (fileKey op (segTarget s m)) then some (busyRefused 0xFA) else segChecks op m s

/-- Checks of BUNDLE_WRITE: its slot is not being loaded or written (R438). -/
def bundleWriteChecks (m : Nat) (s : State) : Option Refuse :=
  if (loadsNow s).any (fun l => l.bundle.slot == segTarget s m) then some (busyRefused 0xFA) else soleChecks 0x20 m s
/-- BUNDLE_WRITE (0x20). -/
def execBundleWrite (m : Fin 8) (s : State) : Out := .next (serve 0x20 m (bundleWriteChecks m) (segRun 0x20 m) s)

/-- U8 on the other slot, begun at the start of Jexolaryn, has not been carried out yet (R350). -/
def retiring (s : State) : Bool :=
  s.flash.ops.any (fun e => e.2.work == .retire) || s.flash.waiting.any (fun o => o.work == .retire)
/-- Checks of IMAGE_WRITE: no image write or commit in progress (0x17), nor the retirement that is to come before it (R350; the
code DESIGN CHOICE, log 164). -/
def imageWriteChecks (m : Nat) (s : State) : Option Refuse :=
  if opBusy s m 0x10 ∨ opBusy s m 0x11 ∨ retiring s then some (busyRefused 0x17 (idleSlot s)) else segChecks 0x10 m s
/-- IMAGE_WRITE (0x10). -/
def execImageWrite (m : Fin 8) (s : State) : Out := .next (serve 0x10 m (imageWriteChecks m) (segRun 0x10 m) s)

/-- MESSAGE_WRITE (0x57). -/
def execMessageWrite (m : Fin 8) (s : State) : Out := .next (serve 0x57 m (soleChecks 0x57 m) (segRun 0x57 m) s)
/-- CRIER_STORE_WRITE (0xD3). -/
def execCrierStoreWrite (m : Fin 8) (s : State) : Out := .next (serve 0xD3 m (soleChecks 0xD3 m) (segRun 0xD3 m) s)

/-! ### MESSAGE_STATUS, MESSAGE_ERASE (R461, R484) -/

/-- MESSAGE_STATUS: the message number. -/
def msgNumChecks (m : Nat) (s : State) : Option Refuse :=
  if fld (arg s m 1) 0 8 = 255 then some (badParam 0x60) else none
/-- MESSAGE_STATUS: its reply. -/
def messageStatusRun (m : Nat) (s : State) : State :=
  let x := msg s (fld (arg s m 1) 0 8)
  reply m (if x.present then [wrd (2 ^ 31 + x.rate), wrd (x.bytes / 3), x.crc] else [0, 0, 0]) s
/-- MESSAGE_STATUS (0x58). -/
def execMessageStatus (m : Fin 8) (s : State) : Out := .next (serve 0x58 m (msgNumChecks m) (messageStatusRun m) s)
/-- MESSAGE_ERASE: the message number; no earlier command may be changing the message (R438). -/
def messageEraseChecks (m : Nat) (s : State) : Option Refuse :=
  firstRefusal [((msgNumChecks m s).isNone, badParam 0x60), (!changing s m (fileKey 0x57 (fld (arg s m 1) 0 8)), busyRefused 0xFA),
    (decide (0 < areaSectors s 0x02A00000 0x1600000), flashRefusal 0x59)]
/-- MESSAGE_ERASE (0x59). -/
def execMessageErase (m : Fin 8) (s : State) : Out := .next (serve 0x59 m (messageEraseChecks m) (fun t => flashCmd m 0 (dirSteps t) (.cmd m) t) s)
/-- The message's units are freed. -/
def messageEraseDone (m : Nat) (s : State) : State :=
  let i := fld (arg s m 1) 0 8
  modFile (modMsg (turnDir s) i (fun _ => {})) (fileKey 0x57 i) (fun _ => {})

end Sys2Proof.Machine
end

