-- ==== Sys2Proof/Machine/Vigil.lean ====
section
/-! DEFINITION. Vigil's campaigns (R236 to R254): the plan, the checks of a start, the sequence of R249,
the phases of a zone, aborts and retries, verdicts and results records. -/

namespace Sys2Proof.Machine

/-! ### The plan (R246, R450) -/

/-- Plan word i. -/
def planWord (s : State) (i : Nat) : Word := Tab.get 0 s.vigil.plan i
/-- BUNDLE_ID. -/
def planBundle (s : State) : Option Bundle := bundleOf s (planWord s 0).toNat
/-- DOMAIN. -/
def planDomain (s : State) : Nat := fld (planWord s 1) 28 2
/-- AMBIENT_CAPTURES. -/
def planCaptures (s : State) : Nat := fld (planWord s 1) 16 4
/-- MAX_RETRY. -/
def planRetry (s : State) : Nat := fld (planWord s 1) 13 3
/-- BASELINE. -/
def planBaseline (s : State) : Bool := bit (planWord s 1) 12
/-- EXC_LINE. -/
def planExc (s : State) : Nat := fld (planWord s 1) 0 12
/-- WINDOW_END. -/
def planEnd (s : State) : Nat := (planWord s 2).toNat
/-- START_TIME. -/
def planStart (s : State) : Nat := (planWord s 7).toNat
/-- Zone entries. -/
def planZones (s : State) : Nat := fld (planWord s 6) 0 9
/-- GROUP of zone z. -/
def planGroup (s : State) (z : Nat) : Nat := fld (planWord s (16 + z / 4)) (8 * (z % 4)) 6
/-- Square slot of microphone i. -/
def micSlot (s : State) (i : Nat) : Nat := fld (planWord s (80 + i)) 19 13
/-- Word k of zone entry e. -/
def entryWord (s : State) (e k : Nat) : Word := planWord s (112 + 8 * e + k)
/-- MICS of zone entry e. -/
def entryMics (s : State) (e : Nat) : List Nat :=
  ((wordBytes (entryWord s e 1) ++ wordBytes (entryWord s e 2)).map BitVec.toNat).filter (· != 255)
/-- HANDLE of zone entry e: its records in the plan's bundle. -/
def entryHandles (s : State) (e : Nat) : List Handle :=
  ((planBundle s).map (fun b => b.handles.filter (fun h => h.id == (entryWord s e 3).toNat))).getD []
/-- AVG_TIME of zone entry e. -/
def entryAvg (s : State) (e : Nat) : Nat := fld (entryWord s e 4) 10 12
/-- PERIODS of zone entry e (R243). -/
def entryPeriods (s : State) (e : Nat) : Nat :=
  Nat.min 65535 (entryAvg s e * (nominalRate (dom s (planDomain s)).rate / 100) / 65535)

/-- A zone entry within the ranges of R246. -/
def entryOk (s : State) (e : Nat) : Bool :=
  let w := entryWord s e
  let mics := entryMics s e
  1 ≤ mics.length && mics.all (· < 32) && 60 ≤ entryAvg s e && entryAvg s e ≤ 3600 &&
    fld (w 5) 0 16 ≤ 10000 && 400 ≤ fld (w 5) 16 16 && fld (w 5) 16 16 ≤ 1100 && fld (w 6) 0 10 ≤ 1000 &&
    1 ≤ fld (w 6) 10 10
/-- A plan within the ranges of R246 (0x70). -/
def planOk (s : State) : Bool :=
  1 ≤ planZones s && planZones s ≤ 256 && 1 ≤ planCaptures s && (List.range (planZones s)).all (entryOk s)
/-- ZONE of zone entry e. -/
def entryZone (s : State) (e : Nat) : Nat := fld (entryWord s e 0) 0 8
/-- The zone of the first entry that fails a check: the number a refusal of it carries (R262). -/
def failingZone (s : State) (ok : Nat → Bool) : Option Nat :=
  ((List.range (planZones s)).find? (fun e => !ok e)).map (entryZone s)
/-- No entry before entry e names its zone. -/
def entryFirst (s : State) (e : Nat) : Bool := (List.range e).all (fun k => entryZone s k != entryZone s e)
/-- The plan is complete and each zone appears once (check 1 of R247). -/
def planWhole (s : State) : Bool :=
  s.vigil.planLast && 112 + 8 * planZones s ≤ s.vigil.planLen && planOk s && (List.range (planZones s)).all (entryFirst s)

/-! ### Lines and banks of the variants (R249 steps 3, 4, 7) -/

/-- The programs that run once the variants of domain d have been swapped in. -/
def Bundle.reduced (b : Bundle) (d : Nat) : List Program :=
  b.variants.filter (fun v => v.domain == d) ++
    b.normal.filter (fun p => !b.variants.any (fun v => v.quern == p.quern && v.domain == d))
/-- The lines of the normal programs that the programs with the variants of domain d in place do not share. -/
def Bundle.spared (b : Bundle) (d : Nat) (s : State) : List LineRec :=
  b.lineRecs.filter (fun l => !(b.reduced d).any (fun p => p.reaches l.entry) && !b.variantOnly l && !lineShared s b l)
/-- The lines with the variants in place: those of a list freed, the variants' own allocated where they are not. -/
def variantLines (b : Bundle) (out : List LineRec) (s : State) : State :=
  (b.lineRecs.filter (fun l => b.variantOnly l && !(line s l.entry).valid)).foldl allocLine (out.foldl freeLine s)
/-- The lines of the normal programs allocated and zeroed. -/
def normalLines (b : Bundle) (d : Nat) (s : State) : State :=
  ((b.spared d s).filter (fun l => !(line s l.entry).valid)).foldl allocLine s
/-- SHARED banks with no lines. -/
def freeBanks (s : State) : List Nat := (List.range 128).filter (fun k => (bank s k).owner == 0 && bankLines s k == 0)

/-- ROUND of zone entry e. -/
def entryRound (s : State) (e : Nat) : Nat := fld (entryWord s e 0) 8 6
/-- The rounds of the plan, ascending. -/
def planRounds (s : State) : List Nat :=
  (List.range (planZones s)).foldl (fun l e => insertSorted (entryRound s e) l) []
/-- Lanes that round r needs. -/
def roundLanes (s : State) (r : Nat) : Nat :=
  (((List.range (planZones s)).filter (fun e => entryRound s e == r)).map (fun e => (entryMics s e).length)).sum
/-- B of R249. -/
def lanesNeeded (s : State) : Nat := ((planRounds s).map (roundLanes s)).foldl Nat.max 0
/-- Seconds a zone entry takes, as Jexolaryn estimates (DESIGN CHOICE, log 24). -/
def entrySecs (s : State) (e : Nat) : Nat :=
  entryAvg s e + ceilDiv ((2 * planCaptures s + 3) * 65535 * 100) (Nat.max 1 (nominalRate (dom s (planDomain s)).rate)) + 6

/-! ### The checks of R247 -/

/-- Square slot n lies in domain d: an input of one of its ports, a Sieve of its clocks, a Stile into it, or
a slot one of its programs owns. -/
def slotIn (s : State) (d n : Nat) : Bool :=
  if 0x1E00 ≤ n then portDomain s ((n - 0x1E00) / 16) == some d
  else if 0x1DE0 ≤ n then false
  else if 0x1DA0 ≤ n then
    let c := Tab.get {} s.audio.stileA (n - 0x1DA0)
    c.enable && c.dstDom == d
  else if 0x1D80 ≤ n then
    let k := Tab.get {} s.audio.pdmClks ((n - 0x1D80) / 8)
    k.enable && k.domain == d
  else (activePrograms s).any (fun e => e.2.domain == d && e.2.owned.contains n)

/-- HANDLE of a zone entry is of KIND 1 in the bundle. -/
def entryHandleOk (s : State) (e : Nat) : Bool := entryHandles s e != [] && (entryHandles s e).all (fun h => h.kind == 1)
/-- The microphone slots of a zone entry lie in DOMAIN. -/
def entrySlotsOk (s : State) (e : Nat) : Bool := (entryMics s e).all (fun i => slotIn s (planDomain s) (micSlot s i))
/-- Check 3 of R247. -/
def planLinesOk (s : State) : Bool :=
  match planBundle s with
  | none => false
  | some b => b.state == .active && b.variants != [] &&
      b.lineRecs.any (fun l => l.entry == planExc s && b.variantOnly l && l.length == 65535 && l.stored) &&
      (List.range (planZones s)).all (entryHandleOk s)
/-- Check 4 of R247. -/
def planDomainOk (s : State) : Bool :=
  pilotRate (dom s (planDomain s)) && (List.range (planZones s)).all (entrySlotsOk s)
/-- Check 5 of R247. -/
def planRoomOk (s : State) : Bool :=
  lanesNeeded s ≤ 32 && match planBundle s with
    | some b => decide (lanesNeeded s ≤ (freeBanks (variantLines b (b.spared (planDomain s) s) s)).length)
    | none => false
/-- The Querns that receive a variant hold no staged program (check 6 of R247). -/
def planStoresOk (s : State) : Bool :=
  match planBundle s with
  | some b => b.variants.all (fun p => p.domain != planDomain s || !(quern s p.quern).stagedOk)
  | none => false

/-- Checks 1 to 6 of R247, with the zone of an entry that fails (R262); at START_TIME the start time itself has come. -/
def startRefusal (s : State) (now idle : Bool) : Option Refuse :=
  let t := s.jex.clock
  firstRefusal
    [(planWhole s, badParam 0x70 (failingZone s (fun e => entryOk s e && entryFirst s e))),
     (s.jex.clockSet && t < planEnd s && (now || planStart s == 0 || (t < planStart s && planStart s < planEnd s)), badParam 0x79),
     (planLinesOk s, badParam 0x71 (failingZone s (entryHandleOk s))), (planDomainOk s, badParam 0x73 (failingZone s (entrySlotsOk s))), (planRoomOk s, badParam 0x72),
     (planStoresOk s && idle, busyRefused 0x74)]

/-! ### Records and verdicts (R245, R254) -/

/-- A signed 16-bit field. -/
def half (x : Int) : Nat := (x % 65536).toNat
/-- Band b of an eight-band figure packed from word k of a record. -/
def recBand (ws : List Word) (k b : Nat) : Int :=
  (BitVec.ofNat 16 (fld (ws.getD (k + b / 2) 0) (16 * (b % 2)) 16)).toInt
/-- The baseline of a zone and microphone. -/
def baselineOf (s : State) (z m : Nat) : Option (List Word) :=
  let r := Tab.get {} s.vigil.baselines (8 * z + m)
  if r.words = [] then none else some r.words
/-- A level of a band against the baseline: the deviations of the seven bands. -/
def deviations (fig : List Int) (base : List Word) : List Int := (List.range 7).map (fun b => fig.getD (8 + b) 0 - recBand base 10 b)
/-- Index of the largest deviation. -/
def worstBand (l : List Int) : Nat := (List.range 7).foldl (fun k b => if (l.getD k 0).natAbs < (l.getD b 0).natAbs then b else k) 0

/-- Reasons bits 0 to 7 (R245). -/
def judgeReasons (s : State) (e : Nat) (fig : List Int) (base : Option (List Word)) (invalid fault : Bool) : Nat :=
  let w3 := planWord s 3
  let w4 := planWord s 4
  match base with
  | none => ofBits [false, false, decide (fig.getD 18 0 < fld (entryWord s e 6) 0 10), false,
      decide (fig.getD 16 0 < fld (planWord s 5) 0 16), invalid, true, fault]
  | some b =>
    let dv := deviations fig b
    let above := fun (k lim : Nat) => decide (lim < (dv.getD k 0).natAbs)
    let level := [2, 3, 4, 5].any (fun k => above k (fld w3 0 16)) || [0, 1, 6].any (fun k => above k (fld w3 16 16))
    let delay := decide (fld w4 0 16 < (fig.getD 17 0 - (fld (b.getD 15 0) 0 24 : Int)).natAbs)
    let drift := decide ((fld w4 16 16 : Int) < (fld (b.getD 16 0) 0 16 : Int) - fig.getD 19 0)
    ofBits [level, delay, decide (fig.getD 18 0 < fld (entryWord s e 6) 0 10), drift,
      decide (fig.getD 16 0 < fld (planWord s 5) 0 16), invalid, false, fault]
/-- The verdict of reasons: 0 PASS, 1 FAIL, 2 INCONCLUSIVE. -/
def verdictOf (reasons : Nat) : Nat := if reasons % 16 ≠ 0 then 1 else if reasons % 256 ≠ 0 then 2 else 0

/-- Word 18 appended: CRC-32C over words 0 to 17. -/
def sealRecord (ws : List Word) : VRecord := { words := ws ++ [crc32c (ws.flatMap wordBytes)] }

/-- Word 0 of a record. -/
def recHead (s : State) (z : VZone) (mic verdict attempts : Nat) : Word :=
  pack [(verdict, 28), (mic, 24), (z.zone, 16), (attempts, 12), flag (planBaseline s) 8, (s.vigil.campaign, 0)]

/-- A record of an aborted zone or one not run: figures 0. -/
def emptyRecord (s : State) (z : VZone) (mic verdict attempts reasons : Nat) : VRecord :=
  sealRecord ([recHead s z mic verdict attempts, wrd reasons, 0, 0, wrd s.jex.clock] ++ List.replicate 13 0)

/-- CAL of microphone i of the table, signed, in 0.01 dB. -/
def micCal (s : State) (i : Nat) : Int := (BitVec.ofNat 16 (fld (planWord s (80 + i)) 0 16)).toInt
/-- Bells a microphone's sample takes to its slot (R63): a port's frame, a Sieve, one more where it is mirrored. -/
def inputLatency (s : State) (n : Nat) : Nat :=
  if 0x1E00 ≤ n then
    let e := Tab.get {} s.audio.inA (n - 0x1E00)
    if e.mirrorTx ∨ e.source = 2 then 2 else 1
  else if 0x1D80 ≤ n ∧ n < 0x1DA0 then 24 + b2n ((s.twin.sieveTx ||| s.twin.sieveRx).getLsbD (n - 0x1D80))
  else 0
/-- What the figures of microphone `mic` of a zone are derived from besides its captures and response. -/
def figureArgs (s : State) (z : VZone) (mic : Nat) : FigureArgs :=
  let i := (entryMics s z.entry).getD mic 0
  { rate := nominalRate (dom s (planDomain s)).rate
    cal := micCal s i
    latency := fld (entryWord s z.entry 6) 10 10 + inputLatency s (micSlot s i)
    extLatency := fld (entryWord s z.entry 7) 0 16
    speech := fld (entryWord s z.entry 5) 16 16 }
/-- The band sums of a microphone's captures. -/
def micCaptures (powers : List (Nat × List Nat)) (mic : Nat) : List (List Nat) := (powers.filter (fun p => p.1 == mic)).map (·.2)

/-- A measurement's record. -/
def measuredRecord (s : State) (z : VZone) (mic : Nat) : VRecord :=
  let x := lane s (z.lane0 + mic)
  let fault := x.fault || z.micFault.getLsbD mic
  let fig := if fault then List.replicate 20 0
    else vigilFigures (figureArgs s z mic) (micCaptures z.powers mic) x.periodsDone z.gain.toInt (points s x.bank)
  let base := baselineOf s z.zone mic
  let invalid := x.invalid || z.micInvalid.getLsbD mic
  let rs := if fault then ofBits [false, false, false, false, false, invalid, base.isNone, true]
    else judgeReasons s z.entry fig base invalid false
  let dv := match base with | some b => deviations fig b | none => []
  let k := worstBand dv
  let start := x.start
  let pair := fun (i : Nat) => wrd (half (fig.getD i 0) + 65536 * half (fig.getD (i + 1) 0))
  sealRecord
    ([recHead s z mic (verdictOf rs) (z.tries + 1), wrd ((z.reasons.toNat ||| rs) ||| 32768 * b2n z.capped), bellLo start,
      wrd (65536 * x.periodsDone + bellHi start), wrd s.jex.clock, pack [(z.gain.toNat, 0)],
      pair 0, pair 2, pair 4, pair 6, pair 8, pair 10, pair 12, pair 14,
      wrd (65536 * half (dv.getD k 0) + half (fig.getD 16 0)), wrd (16777216 * k + ((fig.getD 17 0) % 16777216).toNat),
      wrd (65536 * half (fig.getD 18 0) + half (fig.getD 19 0)),
      wrd (match base with | some b => fld (b.getD 16 0) 0 16 | none => 65535)])

/-- VERDICT of a record. -/
def VRecord.verdict (r : VRecord) : Nat := fld (r.words.headD 0) 28 4

/-- The write of the oldest waiting record ended: served from then on, and reported (R254, R464). -/
def recordWritten (ok : Bool) (s : State) : State :=
  match s.vigil.writing with
  | [] => s
  | r :: rest =>
    let s1 := modVigil s (fun v =>
      { v with
        writing := rest
        results := if ok ∧ 0 < resultRoom s then r :: v.results else v.results
        resultPlace := if ok then (v.resultPlace + 1) % resultRoom s else v.resultPlace })
    let s2 := if ok then
        (if r.verdict < 3 then postEvent 0x0050 [r.words.headD 0, 0]
            (if r.verdict = 0 ∧ jexOn s1 then passedFault [r.words.headD 0] s1 else s1)
         else postEvent 0x0051 [r.words.headD 0, 0, r.words.getD 1 0] s1)
      else s1
    if rest = [] then s2 else startFlash { sel := 0, cls := 3, steps := resultSteps s2, work := .results } s2

/-- A record formed: counted, and put in line for its flash write (R254); without a results area it is reported and not kept
(DESIGN CHOICE, log 166). -/
def queueRecord (r : VRecord) (s : State) : State :=
  let s1 := modVigil s (fun v =>
    { v with
      writing := v.writing ++ [r]
      pass := v.pass + b2n (r.verdict == 0)
      fail := v.fail + b2n (r.verdict == 1)
      inconc := v.inconc + b2n (r.verdict == 2)
      abort := v.abort + b2n (r.verdict == 3)
      notRun := v.notRun + b2n (r.verdict == 4) })
  if resultRoom s = 0 then recordWritten true s1
  else if s.vigil.writing = [] then startFlash { sel := 0, cls := 3, steps := resultSteps s1, work := .results } s1 else s1

/-! ### Zones in progress -/

/-- A zone of the campaign passed through f. -/
def modZone (s : State) (n : Nat) (f : VZone → VZone) : State :=
  modVigil s (fun v => { v with zones := v.zones.map (fun z => if z.zone = n then f z else z) })
/-- A zone is being measured. -/
def VZone.active (z : VZone) : Bool := 1 ≤ z.phase && z.phase ≤ 5
/-- Lanes of a zone. -/
def zoneLanes (s : State) (z : VZone) : List Nat := (List.range (entryMics s z.entry).length).map (z.lane0 + ·)
/-- The glides that take a zone's injection gain to a target. -/
def gainGlides (s : State) (z : VZone) (target : Sample) (len : Nat) : List OwnGlide :=
  (entryHandles s z.entry).flatMap (fun h => (List.range h.count).map (fun i =>
    { quern := h.quern, reg := h.first + i, target := target, len := len, why := 4, zone := z.zone }))
/-- A zone's lanes armed from B0 for a count of periods (R250). -/
def armLanes (z : VZone) (periods : Nat) (s : State) : State :=
  ((entryMics s z.entry).zipIdx).foldl (fun t e =>
    let x : Lane := {
      domain := planDomain s
      bank := s.vigil.banks.getD (z.lane0 + e.2) 0
      periods := periods
      srcSlot := micSlot s e.1
      origin := s.vigil.b0 }
    modLane t (z.lane0 + e.2) (fun _ => x.arm)) s
/-- Lanes that have ended. -/
def Lane.ended (x : Lane) : Bool := !x.enable && (x.done || x.fault)
/-- Every lane of a zone has ended. -/
def lanesEnded (s : State) (z : VZone) : Bool := (zoneLanes s z).all (fun l => (lane s l).ended)
/-- A zone's lanes stopped. -/
def stopLanes (z : VZone) (s : State) : State :=
  (zoneLanes s z).foldl (fun t l => modLane t l (fun x => { x with enable := false, running := false })) s

/-- A zone's records for one verdict, one for each microphone. -/
def recordEmpty (z : VZone) (verdict attempts reasons : Nat) (s : State) : State :=
  let s1 := forEach (List.range (entryMics s z.entry).length)
    (fun t m => queueRecord (emptyRecord t z m verdict attempts reasons) t) s
  modZone s1 z.zone (fun x => { x with verdict := verdict, phase := if x.active then 6 else x.phase, retry := false })

/-- Own gain changes of a zone that have not fired are dropped. -/
def dropGain (z : VZone) (s : State) : State :=
  dropOwn (planDomain s) (fun g => g.why == 4 && g.zone == z.zone) s

/-- A zone in progress is aborted for a reason bit (R251, R252): lanes stopped, data discarded; queued
again, or recorded ABORTED on its last attempt. -/
def abortZone (reason : Nat) (z : VZone) (s : State) : State :=
  let rs := z.reasons ||| BitVec.ofNat 32 (2 ^ reason)
  let s1 := modZone (stopLanes z (dropGain z s)) z.zone (fun x =>
    { x with reasons := rs, phase := 0, tries := x.tries + 1, retry := true })
  if planRetry s ≤ z.tries ∨ reason = 13 then
    recordEmpty { z with phase := 6 } 3 (z.tries + 1) rs.toNat (modZone s1 z.zone (fun x => { x with phase := 6, retry := false }))
  else s1

/-- The zones in progress that satisfy p. -/
def activeZones (s : State) (p : VZone → Bool) : List VZone :=
  if s.vigil.state = .running then s.vigil.zones.filter (fun z => z.active && p z) else []

/-- Zones in progress aborted, their gains to 0 at Bell b with a glide of 1 (R251). A STANDBY device leaves its zones to the
DUTY device and follows its commits; the gains of a Crier activation, which comes on both, it takes to 0 itself. -/
def abortZones (reason : Nat) (b : BitVec 48) (prio : Nat) (p : VZone → Bool) (s : State) : State :=
  let zs := activeZones s p
  let gs := zs.flatMap (fun z => gainGlides s z 0 1)
  if s.twin.role = .standby then (if reason = 9 then armOwn (planDomain s) b prio gs s else s)
  else armOwn (planDomain s) b prio gs (zs.foldl (fun t z => abortZone reason z t) s)

/-! ### Rounds (R250, R252) -/

/-- The zones that the next round may take: planned ones, then those queued again. -/
def waitingZones (s : State) : List VZone :=
  let fresh := s.vigil.zones.filter (fun z => z.verdict == 7 && z.phase == 0 && !z.retry)
  if fresh = [] then s.vigil.zones.filter (fun z => z.verdict == 7 && z.phase == 0 && z.retry) else fresh

/-- The ROUND that runs next. -/
def nextRound (s : State) : Option Nat :=
  (waitingZones s).foldl (fun acc z => match acc with | none => some z.round | some r => some (Nat.min r z.round)) none

/-- Zones put into a round, each on its own lanes from lane n. -/
def placeZones (s : State) : Nat → List VZone → State
  | _, [] => s
  | n, z :: zs =>
    let s1 := modZone s z.zone (fun x =>
      { x with phase := 1, retry := false, captures := 0, powers := [], gain := 0, capped := false, lane0 := n, micInvalid := 0,
               micFault := 0 })
    placeZones (armLanes { z with lane0 := n } 1 s1) (n + (entryMics s z.entry).length) zs

/-- A round starts: ambient first (R250 step 1). -/
def startRound (r : Nat) (s : State) : State :=
  let zs := (waitingZones s).filter (fun z => z.round == r)
  placeZones (modVigil s (fun v => { v with round := r, step := 6 })) 0 zs

/-- The end of the rounds: banks returned, lines of the normal programs allocated, the swap back stated
(R249 steps 7, 8). -/
def restore (s : State) : State :=
  let s1 := s.vigil.banks.foldl (fun t b => setOwner b 0 0 t) s
  let s2 := match planBundle s1 with | some b => normalLines b (planDomain s1) s1 | none => s1
  modVigil s2 (fun v => { v with state := .restoring, step := 8, banks := [], bell := firstBell s2 (planDomain s2) 0 })

/-- A record for every zone that has none (R251): NOT_RUN with WINDOW_END for those not measured by then; at a host abort
(`reason` 0) NOT_RUN for those not started and ABORTED for those queued again. -/
def closeZones (reason : Nat) (s : State) : State :=
  (s.vigil.zones.filter (fun z => z.verdict == 7 && !z.active)).foldl (fun t z =>
    recordEmpty z (if z.retry && reason == 0 then 3 else 4) z.tries (z.reasons.toNat ||| reason) t) s

/-- Seconds of a round. -/
def roundSecs (s : State) (r : Nat) : Nat :=
  (((waitingZones s).filter (fun z => z.round == r)).map (fun z => entrySecs s z.entry)).foldl Nat.max 0

/-- The next round, or the end of the campaign: none is left, the window is over, or the round cannot end
before WINDOW_END (R246, R251). -/
def goOn (s : State) : State :=
  match nextRound s with
  | none => restore s
  | some r =>
    if s.vigil.windowOver ∨ planEnd s < s.jex.clock + roundSecs s r then restore (closeZones 0x4000 s)
    else startRound r s

/-- The round has ended: every zone has its record written or is queued again (R250). -/
def roundOver (s : State) : Bool :=
  s.vigil.state == .running && s.vigil.step == 6 && s.vigil.zones.all (fun z => !z.active) && s.vigil.writing == []

/-- VIGIL_ROUND_END. -/
def execVigilRoundEnd (s : State) : Out := .next (if roundOver s then goOn s else s)

/-- WINDOW_END is reached (R251). -/
def execWindowEnd (s : State) : Out :=
  .next (if s.vigil.state = .running ∧ planEnd s ≤ s.jex.clock then modVigil s (fun v => { v with windowOver := true }) else s)

/-! ### The phases of a zone (R250) -/

/-- The band sums of an ambient capture, one entry for each lane that met no fault (R244). -/
def capture (s : State) (z : VZone) : List (Nat × List Nat) :=
  let ok := (zoneLanes s z).zipIdx.filter (fun e => !(lane s e.1).fault)
  ok.map (fun e => (e.2, bandSums 65535 (nominalRate (dom s (planDomain s)).rate) (points s (lane s e.1).bank)))
/-- The microphones of a zone whose lane has a flag. -/
def laneBits (s : State) (z : VZone) (p : Lane → Bool) : BitVec 8 :=
  BitVec.ofNat 8 (ofBits ((zoneLanes s z).map (fun l => p (lane s l))))

/-- The gain that R244 derives, as a Q1.19 word at most 524,288, and whether MAX_INJECT capped it: MAX_INJECT itself in a
baseline campaign; else MARGIN below ambient in every band of every microphone that has a baseline, free where none has
one. -/
def derivedGain (s : State) (z : VZone) (powers : List (Nat × List Nat)) : Nat × Bool :=
  let most : Int := -(fld (entryWord s z.entry 5) 0 16 : Int)
  let levels := (entryMics s z.entry).zipIdx.flatMap (fun e =>
    match baselineOf s z.zone e.2 with
    | none => []
    | some b => ((ambientLevels (micCal s e.1) (micCaptures powers e.2)).take 7).zip ((List.range 7).map (recBand b 10)))
  if planBaseline s then (gainWord most, false)
  else match marginGain (10 * (fld (entryWord s z.entry 4) 0 10 : Int)) (levels.map (·.1)) (levels.map (·.2)) with
    | some l => (gainWord (Min.min l most), decide (most < l))
    | none => (Nat.min (Config.gainOpen powers) (gainWord most), decide (gainWord most < Config.gainOpen powers))

/-- The gain committed (R244): at most 0x7_FFFF, within the handle's limits; INJECT_CAPPED. -/
def injectGain (s : State) (z : VZone) (powers : List (Nat × List Nat)) : Sample × Bool :=
  let g := derivedGain s z powers
  let v : Int := Nat.min g.1 524287
  match (entryHandles s z.entry).head? with
  | none => (smp v, g.2)
  | some h =>
    let c := Max.max h.min.toInt (Min.min h.max.toInt v)
    (smp c, g.2 || c != v)

/-- The end of one ambient capture: the next, or the commit of the gain. -/
def ambientDone (z : VZone) (s : State) : State :=
  let caps := z.powers ++ capture s z
  let s0 := modZone s z.zone (fun x =>
    { x with
      captures := x.captures + 1
      powers := caps
      micInvalid := x.micInvalid ||| laneBits s z (·.invalid)
      micFault := x.micFault ||| laneBits s z (·.fault) })
  if z.captures + 1 < planCaptures s then armLanes z 1 s0
  else
    let g := injectGain s z caps
    armOwn (planDomain s) (firstBell s (planDomain s) 0) 15 (gainGlides s z g.1 480)
      (modZone s0 z.zone (fun x => { x with gain := g.1, capped := g.2, phase := 2 }))

/-- The records of a zone whose lanes are all transformed. -/
def zoneDone (z : VZone) (s : State) : State :=
  let s1 := forEach (List.range (entryMics s z.entry).length) (fun t m => queueRecord (measuredRecord t z m) t) s
  modZone s1 z.zone (fun x => { x with phase := 6, verdict := (measuredRecord s z 0).verdict })

/-- One zone at a Bell of the plan's domain. -/
def zoneBell (z : VZone) (s : State) : State :=
  let b := (dom s (planDomain s)).bell
  match z.phase with
  | 1 => if lanesEnded s z then ambientDone z s else s
  | 3 => if z.bell.toNat ≤ b.toNat + 1 then
      modZone (armLanes z (entryPeriods s z.entry) s) z.zone (fun x => { x with phase := 4 })
    else s
  | 4 => if lanesEnded s z then
      armOwn (planDomain s) (firstBell s (planDomain s) 0) 15 (gainGlides s z 0 480)
        (modZone s z.zone (fun x => { x with phase := 5, bell := b }))
    else s
  | 5 => if (zoneLanes s z).zipIdx.all (fun e => (lane s e.1).xformDone || (lane s e.1).fault || z.micFault.getLsbD e.2) then
      zoneDone z s
    else s
  | _ => s

/-- The gains of zones have been committed at the present Bell: the preroll begins (R250 step 3). -/
def gainFired (d : Nat) (gs : List OwnGlide) (s : State) : State :=
  (s.vigil.zones.filter (fun z => z.phase == 2 && gs.any (fun g => g.why == 4 && g.zone == z.zone))).foldl
    (fun t z => modZone t z.zone (fun x => { x with phase := 3, bell := (dom s d).bell + 65535 })) s

/-- A microphone whose transform was refused (R245). -/
def refuseTransform (z : VZone) (mic : Nat) (s : State) : State :=
  modZone s z.zone (fun x => { x with micFault := x.micFault ||| BitVec.ofNat 8 (2 ^ mic) })
/-- The next lane is given to the transform unit, once it is free: a lane that has not set DONE is refused, and its
microphone is done with (R242, R245). -/
def nextTransform (s : State) : State :=
  if s.tally.xBusy then s
  else
    let ls := (activeZones s (fun z => z.phase == 5)).flatMap (fun z => (zoneLanes s z).zipIdx.map (fun e => (z, e)))
    match ls.find? (fun e => !(lane s e.2.1).xformDone && !(lane s e.2.1).fault && !e.1.micFault.getLsbD e.2.2) with
    | some (z, l, mic) =>
      if (lane s l).hasData then startTransform l s else refuseTransform z mic (startTransform l s)
    | none => s

/-! ### The sequence of R249 -/

/-- The zones of the plan as a campaign takes them. -/
def campaignZones (s : State) : List VZone :=
  (List.range (planZones s)).map (fun e => { zone := entryZone s e, round := entryRound s e, entry := e })

/-- A campaign with a new number and cleared counts. -/
def newCampaign (st : VState) (step : Nat) (s : State) : State :=
  modVigil s (fun v =>
    { v with
      state := st
      step := step
      campaign := (v.campaign + 1) % 256
      zones := campaignZones s
      round := 0
      failDetail := 0
      pass := 0
      fail := 0
      inconc := 0
      abort := 0
      notRun := 0
      windowOver := false
      banks := [] })

/-- The rounds go on, once Tally leave is held (R249, R251). -/
def runRounds (s : State) : State :=
  if hasGrant s 7 0 then goOn (modVigil s (fun v => { v with step := 6 })) else modVigil s (fun v => { v with step := 5 })

/-- Step 1 passed: MODE = VIGIL, and the loader leave for the variants is asked for. -/
def enterVigil (s : State) : State :=
  requestLeave 4 1 (setMode .vigil 2 (modVigil s (fun v => { v with state := .running, step := 2 })))

/-- Variants removed from the staged stores. -/
def unstageVariants (s : State) : State :=
  match planBundle s with
  | none => s
  | some k => k.variants.foldl (fun t p => modQuern t p.quern (fun u =>
      if u.staged.any (·.variant) then { u with staged := none, stagedOk := false, swapDue := false } else u)) s

/-- The excitation line filled (R237). -/
def fillExcitation (s : State) : State :=
  let l := line s (planExc s)
  forEach (List.range 65535) (fun t i => dmaPut l.hamlet (l.pos i) (mlsWord i) t) s

/-- Querns of the plan's variants in its domain. -/
def variantQuerns (s : State) : List Nat :=
  match planBundle s with
  | some k => (k.variants.filter (fun p => p.domain == planDomain s)).map (·.quern)
  | none => []

/-- The Querns of the variants exchange their programs at the present Bell; a late Quern follows later, which is reported
(R28). -/
def exchange (qs : List Nat) (s : State) : State :=
  let id := (planWord s 0).toNat
  let late := qs.filter (fun q => (quern s q).lateNow)
  let s1 := (qs.filter (fun q => !(quern s q).lateNow)).foldl (fun t q => swapQuern q id t) s
  noteDeferred (planDomain s) 2 0 id (dom s (planDomain s)).bell late (late.foldl (fun t q => deferSwap q id t) s1)

/-- The lines that the variants do without are freed, and those that only they use are taken (R138, R249). -/
def sparedLines (d : Nat) (s : State) : State :=
  match planBundle s with
  | some b => variantLines b ((b.spared d s).filter (fun l => !lineUsed s l.entry)) s
  | none => s
/-- Steps 3 to 6 (R249), once every variant runs: lines freed that no active program uses, banks lent, the excitation line
filled. A STANDBY device swaps and lends alike and measures nothing (R253). -/
def lendBanks (s : State) : State :=
  if (variantQuerns s).any (fun q => (quern s q).swapDue) then s
  else
    let d := planDomain s
    let s2 := sparedLines d s
    let banks := (freeBanks s2).take (lanesNeeded s2)
    let s3 := fillExcitation (banks.foldl (fun t b => writeOwner b 3 0 t) s2)
    let b0 := (dom s3 d).bell - BitVec.ofNat 48 (line s3 (planExc s3)).widx
    let s4 := modVigil s3 (fun v => { v with banks := banks, b0 := b0, step := 6 })
    if s.twin.role = .standby then s4 else runRounds s4

/-- Bell v: the variants are swapped in (R249 step 3). -/
def campaignIn (s : State) : State := lendBanks (modVigil (exchange (variantQuerns s) s) (fun v => { v with step := 4 }))

/-- What is left once a campaign's variants have been swapped out: they leave the staged stores, and the excitation line is
freed when no active program uses it any longer (R138, R249 step 8). -/
def vigilTidy (s : State) : State :=
  if s.vigil.excDue then
    let s1 := unstageVariants s
    if (variantQuerns s1).any (fun q => (quern s1 q).active.any (·.variant)) then s1
    else
      let out : List LineRec := match planBundle s1 with
        | some b => b.lineRecs.filter (fun l => l.entry == planExc s1 && b.variantOnly l && !lineUsed s1 l.entry)
        | none => []
      modVigil (out.foldl freeLine s1) (fun v => { v with excDue := false })
  else s

/-- Bell w: the normal programs run again, MODE = SERVICE, and the Tally leave is returned (R249 steps 8, 9). A variant
that never came in is taken back. -/
def campaignOut (s : State) : State :=
  let s1 := exchange ((variantQuerns s).filter (fun q => (quern s q).active.any (·.variant))) s
  returnLeave 7 0 (setMode .service 2 (vigilTidy (modVigil s1 (fun v => { v with step := 9, excDue := true }))))

/-- The end of a campaign: VIGIL_COMPLETE once every record is written (R249 step 9); a STANDBY device measured nothing
and posts nothing (R253). -/
def campaignEnd (s : State) : State :=
  let v := s.vigil
  if s.twin.role = .standby then modVigil s (fun v => { v with state := .idle, step := 0 })
  else postEvent 0x0052 [wrd v.campaign, wrd (v.pass + 65536 * v.fail), wrd (v.inconc + 65536 * v.abort), wrd v.notRun]
    (modVigil s (fun v => { v with state := .idle, step := 0 }))

/-- A campaign that ends before its time: what has not been swapped in is taken back (R251). -/
def endCampaign (s : State) : State :=
  match s.vigil.step with
  | 1 => modVigil (releaseLeave 7 0 s) (fun v => { v with state := .restoring, step := 9 })
  | 2 | 3 => returnLeave 7 0 (setMode .service 2 (unstageVariants (releaseLeave 4 1
      (modVigil s (fun v => { v with state := .restoring, step := 9 })))))
  | 4 | 5 | 6 => restore s
  | _ => s

/-- A variant of the plan's domain that fails a check of R105 as it is written. -/
def variantFails (s : State) : Bool :=
  match planBundle s with
  | some k => k.variants.any (fun p => p.domain == planDomain s && (progFail s k p).isSome)
  | none => false
/-- Step 2: the variants stand in the staged stores, checked as R105 has it; the swap is stated for Bell v. Where one fails,
the staged stores are left empty and the campaign ends, as no row of R251 says it (DESIGN CHOICE, log 134). -/
def stageVariants (b : BitVec 48) (s : State) : State :=
  if variantFails s then
    let s1 := match planBundle s with
      | some k => k.variants.foldl (fun t p => modQuern t p.quern (fun u => { u with staged := none, stagedOk := false })) s
      | none => s
    endCampaign (closeZones 0 s1)
  else
    let s1 := match planBundle s with
      | some k => (k.variants.filter (fun p => p.domain == planDomain s)).foldl (fun t p =>
          modQuern t p.quern (fun u => { u with staged := some p, stagedOk := true })) s
      | none => s
    modVigil s1 (fun v => { v with step := 3, bell := b })

/-- The campaign of a device that handed its outputs over (R251): the new DUTY device continues the plan; here zones in
progress are aborted with ABORT_TAKEOVER, and the campaign ends as for a host abort (DESIGN CHOICE, log 135). -/
def partCampaign (s : State) : State :=
  if s.vigil.state = .running then
    endCampaign (closeZones 0 (abortZones 10 (firstBell s (planDomain s) 0) 15 (fun _ => true) s))
  else s

/-- An abort of the whole campaign (R251): zones in progress ABORTED, the others NOT_RUN, then steps 7 to
9. -/
def abortCampaign (b : BitVec 48) (s : State) : State :=
  endCampaign (closeZones 0 (abortZones 13 b 15 (fun _ => true) s))

/-- A start that waits for Tally leave is given up: the device sleeps, or is no longer in SERVICE (R33); with 0xF6 where a
command that goes before it discards it (R36). -/
def dropStart (s : State) (code : Nat := 0xF7) : State :=
  let s1 := releaseLeave 7 0 (modVigil s (fun v => { v with step := 0, mb := 0 }))
  if s.vigil.mb = 0 then s1 else refuse (s.vigil.mb - 1) (stateRefused code) s1

/-- What the reply of VIGIL_START gives. -/
def startWords (s : State) : List Word :=
  [wrd s.vigil.campaign, wrd (planRounds s).length, wrd (((planRounds s).map (roundSecs s)).sum)]

/-- The Tally leave of a start is granted (check 7 of R247): the campaign begins, one that was not armed with a new number
and cleared counts. -/
def startGranted (s : State) : State :=
  let t := if s.vigil.state = .armed then s else newCampaign .idle 1 s
  enterVigil (if s.vigil.mb = 0 then t else
    reply (s.vigil.mb - 1) (startWords t) (modVigil t (fun x => { x with mb := 0 })))

/-- What follows a grant: the campaign enters VIGIL, its variants are staged, the rounds of a device that took over go on,
VIGIL_COMPLETE is posted. -/
def vigilSettle (s : State) : State :=
  let v := s.vigil
  match v.step with
  | 1 => if s.twin.role = .standby then s
    else if s.aon.mode ≠ .service ∨ s.aon.sleeping then dropStart s
    else if hasGrant s 7 0 then startGranted s else s
  | 2 => if hasGrant s 4 1 then
      returnLeave 4 1 (stageVariants (firstBell s (planDomain s) 0) s)
    else s
  | 5 => if hasGrant s 7 0 then runRounds s else s
  | 9 => if v.writing = [] then campaignEnd s else s
  | _ => s

/-- Vigil at a Bell of domain d after the lanes have run. -/
def vigilBell (d : Nat) (s : State) : State :=
  if d = planDomain s ∧ (s.vigil.step ≠ 0) then
    let s1 := if s.vigil.step = 6 ∧ s.twin.role ≠ .standby then
        nextTransform (s.vigil.zones.foldl (fun t z => match t.vigil.zones.find? (fun x => x.zone == z.zone) with
          | some x => zoneBell x t | none => t) s)
      else s
    vigilSettle s1
  else s

/-- Action 5 of a Bell: the exchange of a campaign that falls due. -/
def vigilSwap (d : Nat) (s : State) : State :=
  let v := s.vigil
  if d = planDomain s then
    if v.bell.toNat ≤ (dom s d).bell.toNat then
      match v.step with
      | 3 => campaignIn s
      | 4 => lendBanks s
      | 8 => if v.writing = [] then campaignOut s else s
      | _ => vigilTidy s
    else vigilTidy s
  else s

/-! ### What lies between the excitation line and the outputs (R251; DEDUCED, log 24) -/

/-- An operand of a program may read one of a list of Square slots: it names one, or reads the Square through a pointer. -/
def Program.readsSlots (p : Program) (slots : List Nat) : Bool :=
  p.words.any (fun w => [bits48 w 16 16, bits48 w 0 16].any (fun f =>
    (f / 8192 == 5 && slots.contains (f % 8192)) || (f / 8192 == 7 && f / 2048 % 4 == 3)))
/-- What program `a` makes reaches program `b`: through a slot it owns or a delay line of its Quern. -/
def Program.feeds (s : State) (a b : Program) : Bool :=
  b.readsSlots a.owned || b.windows.any (fun w => w.bound && (line s w.entry).owner == a.quern)
/-- The Querns that the Querns of a list reach in n steps, themselves included. -/
def reached (s : State) : Nat → List Nat → List Nat
  | 0, qs => qs
  | n + 1, qs =>
    let ps := (activePrograms s).map (·.2)
    let from_ := ps.filter (fun p => qs.contains p.quern)
    reached s n ((ps.filter (fun p => qs.contains p.quern || from_.any (fun a => a.feeds s p))).map (·.quern))
/-- The Querns that a list of Querns reaches. -/
def downstream (s : State) (qs : List Nat) : List Nat := reached s 128 qs
/-- The Querns of a zone's injection handle. -/
def gainQuerns (s : State) (z : VZone) : List Nat := (entryHandles s z.entry).map (·.quern)
/-- Quern q lies between the excitation line and the outputs of a zone: the line reaches it, and it reaches a Quern of the
zone's handle or is reached by one. -/
def betweenQuern (s : State) (z : VZone) (q : Nat) : Bool :=
  let taps := ((activePrograms s).filter (fun e => e.2.reaches (planExc s))).map (·.1)
  let gs := gainQuerns s z
  (downstream s taps).contains q && ((downstream s gs).contains q || (downstream s [q]).any (gs.contains ·))

/-- A late marking between the excitation line and a zone's outputs (R251). -/
def vigilLate (d : Nat) (q : Nat) (s : State) : State :=
  if d = planDomain s ∧ s.vigil.state = .running then abortZones 11 (firstBell s d 0) 15 (fun z => betweenQuern s z q) s
  else s

/-- Zones served by a forced channel of the Crier: the output map entry of the channel reads a slot of a Quern that the
zone's handle reaches (R32, R251). -/
def zoneForced (s : State) (z : VZone) : Bool :=
  let qs := downstream s (gainQuerns s z)
  s.crier.cfg.chans.any (fun e =>
    let o := Tab.get {} s.audio.outA e.1
    o.enable && (activePrograms s).any (fun p => qs.contains p.1 && p.2.owned.contains o.src))

/-- A rate reconfiguration of DOMAIN (R251): zones in progress aborted; a rate other than 44.1 or 48 kHz
ends the campaign. -/
def vigilRate (d code : Nat) (s : State) : State :=
  if d = planDomain s ∧ s.vigil.state = .running ∧ s.twin.role ≠ .standby then
    let s1 := abortZones 12 (firstBell s d 0) 15 (fun _ => true) s
    if code = 4 ∨ code = 5 then s1 else abortCampaign (firstBell s d 0) s1
  else s

/-- A campaign is lost: at a reset or at entry to FALLBACK (R248, R251). -/
def loseCampaign (s : State) : State :=
  modVigil s (fun v =>
    if v.state = .idle then { v with step := 0, mb := 0 }
    else { v with state := .idle, step := 0, mb := 0, zones := [], writing := [], banks := [], lost := some v.campaign })

/-- CAMPAIGN_START_TIME: every check is made again, and the campaign starts or is recorded NOT_RUN (R248); it comes in
SERVICE, which an armed campaign waits for (log 103). -/
def execCampaignStartTime (s : State) : Out :=
  if s.vigil.state = .armed ∧ s.vigil.step = 0 ∧ planStart s ≤ s.jex.clock ∧ s.twin.role ≠ .standby ∧ s.aon.mode = .service then
    match startRefusal s true true with
    | some r => .next (vigilSettle (closeZones 0 (modVigil s (fun v =>
        { v with state := .restoring, step := 9, failDetail := r.code }))))
    | none => .next (vigilSettle (requestLeave 7 0 (modVigil s (fun v => { v with step := 1 }))))
  else .next s

/-- The Tally leave was not granted within 1 s (check 7 of R247): a start by command changes nothing. A device that took
over asks again (log 24). -/
def vigilNoLeave (s : State) : State :=
  match s.vigil.step with
  | 1 =>
    if s.vigil.mb ≠ 0 then refuse (s.vigil.mb - 1) ⟨9, 0x78, 0x7F, none⟩ (modVigil s (fun v => { v with step := 0, mb := 0 }))
    else vigilSettle (closeZones 0 (modVigil s (fun v => { v with state := .restoring, step := 9, failDetail := 0x78 })))
  | 5 => requestLeave 7 0 s
  | _ => s

end Sys2Proof.Machine
end

