-- ==== Sys2Proof/Machine/Service.lean ====
section
/-! DEFINITION. The service model (R453 to R460): zones, sources and priorities, the winner of a zone, a
change of winner and its two commits, players and their lines, and ambient gain. -/

namespace Sys2Proof.Machine

/-! ### Settings -/

/-- Zone z of the service model. -/
def svcZone (s : State) (z : Nat) : Zone := Tab.get {} s.jex.zones z
/-- Zone z passed through f. -/
def modSvcZone (s : State) (z : Nat) (f : Zone → Zone) : State := modJex s (fun j => { j with zones := Tab.mod {} j.zones z f })
/-- Source i. -/
def source (s : State) (i : Nat) : Source := Tab.get {} s.jex.sources i
/-- Source i passed through f. -/
def modSource (s : State) (i : Nat) (f : Source → Source) : State := modJex s (fun j => { j with sources := Tab.mod {} j.sources i f })
/-- The settings of priority p. -/
def prioOf (s : State) (p : Nat) : Prio := Tab.get {} s.jex.prios p
/-- FADE_OUT of priority p (R458). -/
def fadeOut (s : State) (p : Nat) : Nat :=
  if (prioOf s p).fadeOut ≠ 0 then (prioOf s p).fadeOut else if p = 0 then 1 else 480
/-- FADE_IN of priority p (R458). -/
def fadeIn (s : State) (p : Nat) : Nat :=
  if (prioOf s p).fadeIn ≠ 0 then (prioOf s p).fadeIn else if p = 0 then 48 else 480
/-- An announcement by its identifier. -/
def ann (s : State) (id : Nat) : Option Ann := s.jex.anns.find? (fun a => a.id == id)
/-- An announcement passed through f. -/
def modAnn (s : State) (id : Nat) (f : Ann → Ann) : State :=
  modJex s (fun j => { j with anns := j.anns.map (fun a => if a.id == id then f a else a) })

/-- The records of a handle of a zone's bundle. -/
def zoneHandles (s : State) (x : Zone) (id : Nat) : List Handle :=
  ((bundleOf s x.bundle).map (fun b => b.handles.filter (fun h => h.id == id))).getD []
/-- The zone's domain: that of its SELECT handle's Querns (R453). -/
def zoneDomain (s : State) (x : Zone) : Option Nat :=
  (zoneHandles s x x.select).head?.bind (fun h => quernDom (quern s h.quern))
/-- A handle is present, of KIND 1, in an ACTIVE bundle. -/
def handleGood (s : State) (x : Zone) (id : Nat) : Bool :=
  (bundleOf s x.bundle).any (fun b => b.state == .active) && zoneHandles s x id != [] &&
    (zoneHandles s x id).all (fun h => h.kind == 1)
/-- The handles a zone binds. -/
def zoneIds (x : Zone) : List Nat := [x.select, x.gain] ++ (if x.ambient = 0 then [] else [x.ambient])
/-- The zone's handles are good (0x61). -/
def zoneBound (s : State) (x : Zone) : Bool := (zoneIds x).all (handleGood s x)
/-- All the Querns of the zone's handles are bound to one domain (0x62). -/
def zoneOneDomain (s : State) (x : Zone) : Bool :=
  (zoneIds x).all (fun id => (zoneHandles s x id).all (fun h => quernDom (quern s h.quern) == zoneDomain s x))
/-- The glides that take a handle of zone z to a target. -/
def zoneGlides (s : State) (z id : Nat) (target : Sample) (len why : Nat) : List OwnGlide :=
  (zoneHandles s (svcZone s z) id).flatMap (fun h => (List.range h.count).map (fun i =>
    { quern := h.quern, reg := h.first + i, target := target, len := len, why := why, zone := z }))

/-! ### Material -/

/-- Priority of what a zone carries or takes: 15 for the background (R457). -/
def annPrio (s : State) (o : Option Nat) : Nat := ((o.bind (ann s)).map (·.prio)).getD 15
/-- The Square slot of a source; the silent slot for none (R453). -/
def sourceSlot (s : State) (i : Nat) : Nat := if i < 255 ∧ (source s i).kind ≠ 0 then (source s i).slot else 0x1DE0
/-- Samples of message i. -/
def msgSamples (s : State) (i : Nat) : Nat := (msg s i).bytes / 3
/-- The slot an announcement is read from at Bell b: its chime player until the chime is over (R458). -/
def annSlot (s : State) (a : Ann) (b : BitVec 48) : Nat :=
  sourceSlot s (if a.chimeSrc = 255 ∨ a.start.toNat + msgSamples s a.chime ≤ b.toNat then a.source else a.chimeSrc)
/-- The slot of what zone z takes at Bell b. -/
def incomingSlot (s : State) (z : Nat) (o : Option Nat) (b : BitVec 48) : Nat :=
  match o.bind (ann s) with
  | some a => annSlot s a b
  | none => sourceSlot s (svcZone s z).bg
/-- The gain of what zone z takes (R457). -/
def incomingGain (s : State) (z : Nat) (o : Option Nat) : Sample :=
  if o.isSome then (svcZone s z).annGain else (svcZone s z).bgGain

/-- Sample k of message i. -/
def msgSample (s : State) (i k : Nat) : Sample :=
  BitVec.ofNat 20 (leNat (flashBytes s 0 (unitAddr (msg s i).unit + 3 * k) 3))
/-- A message is present, passes its CRC and has a rate (0x66). -/
def msgGood (s : State) (rate i : Nat) : Bool :=
  (msg s i).present && (msg s i).rate == rate && crc32c (msgBytes s i) == (msg s i).crc

/-- The message and its sample at place k of a sequence played once. -/
def locate (s : State) : List Nat → Nat → Option (Nat × Nat)
  | [], _ => none
  | i :: t, k => if k < msgSamples s i then some (i, k) else locate s t (k - msgSamples s i)
/-- Samples of a sequence. -/
def seqLen (s : State) (l : List Nat) : Nat := (l.map (msgSamples s)).sum
/-- Samples of the chime that plays on the player of the announcement itself. -/
def chimeLead (s : State) (a : Ann) : Nat := if a.chime < 255 ∧ a.chimeSrc = 255 then msgSamples s a.chime else 0
/-- Repetition in progress at place k of an announcement's stream. -/
def annRound (s : State) (a : Ann) (k : Nat) : Nat := (k - chimeLead s a) / Nat.max 1 (seqLen s a.seq)
/-- The message and sample at place k of an announcement's stream; none past its end (R455, R458). -/
def streamAt (s : State) (a : Ann) (k : Nat) : Option (Nat × Nat) :=
  if k < chimeLead s a then some (a.chime, k)
  else if seqLen s a.seq = 0 ∨ (a.repeats ≠ 0 ∧ a.repeats ≤ annRound s a k) then none
  else locate s a.seq ((k - chimeLead s a) % seqLen s a.seq)
/-- What player i plays for announcement a at place k. -/
def playerAt (s : State) (i : Nat) (a : Ann) (k : Nat) : Option (Nat × Nat) :=
  if a.source = i then streamAt s a k else if k < msgSamples s a.chime then some (a.chime, k) else none

/-! ### The winner of a zone (R456) -/

/-- An announcement outranks another. -/
def Ann.before (a b : Ann) : Bool := a.prio < b.prio || (a.prio == b.prio && decide (a.id < b.id))
/-- winner(z) of R456. -/
def winner (s : State) (z : Nat) : Option Nat :=
  ((s.jex.anns.filter (fun a => a.ended.isNone && a.zones.contains z)).foldl (fun best a =>
    match best with | none => some a | some b => if a.before b then some a else some b) (none : Option Ann)).map (·.id)
/-- What a zone carries or is being switched to. -/
def Zone.heading (x : Zone) : Option Nat := if x.due then x.next else x.carries
/-- Zones in which an announcement wins. -/
def wonZones (s : State) (id : Nat) : List Nat := (List.range 256).filter (fun z => winner s z == some id)

/-! ### The lines of players (R454) -/

/-- A word of a line written for the Bell b Bells from now, by DMA (R152, R454). -/
def putAhead (e b : Nat) (v : Sample) (s : State) : State :=
  let l := line s e
  dmaPut l.hamlet (l.pos ((l.widx + b) % l.length)) v s
/-- 400 ms of samples at a nominal rate in 0.01 Hz. -/
def leadFull (rate : Nat) : Nat := rate / 250
/-- The sample of player i for the Bell b Bells from now. -/
def playerSample (s : State) (i b : Nat) (a : Ann) : Sample :=
  let n := (dom s (source s i).domain).bell.toNat + b
  if n < a.start.toNat then 0
  else match playerAt s i a (n - a.start.toNat) with
    | some p => msgSample s p.1 p.2
    | none => 0

/-- The line of player i filled from place `done` on to the full lead, zero beyond it. -/
def fillLine (i done zeroTo : Nat) (a : Ann) (s : State) : State :=
  let x := source s i
  let full := leadFull (nominalRate (dom s x.domain).rate)
  let s1 := forEach ((List.range ((line s x.line).length - 1 - done)).map (done + 1 + ·)) (fun t b =>
    putAhead x.line b (if b ≤ full ∧ zeroTo < b then playerSample s i b a else 0) t) s
  modSource s1 i (fun y => { y with lead := full })

/-- The Bells c2 at which zones take announcement id. -/
def startsOf (s : State) (id : Nat) : List Nat :=
  (s.jex.zones.filter (fun e => e.2.due && e.2.next == some id && e.2.c2 != 0)).map (fun e => e.2.c2.toNat)
/-- The material of an announcement begins with the first zone that takes it (R457, R461); as long as none has, a new Bell of
that start fills the lines of its players anew. -/
def noteStart (id : Nat) (s : State) : State :=
  match ann s id, (startsOf s id).min? with
  | some a, some b =>
    if a.announced ∨ a.start.toNat = b then s
    else
      let y := { a with start := BitVec.ofNat 48 b }
      ((s.jex.sources.filter (fun e => e.2.user == some id)).map (·.1)).foldl (fun t i => fillLine i 0 0 y t)
        (modAnn s id (fun _ => y))
  | _, _ => s
/-! ### A change of winner (R457) -/

/-- The glides of c2, Bell b, in zone z: SELECT with a glide of 1, GAIN over the FADE_IN. -/
def secondGlides (s : State) (z : Nat) (o : Option Nat) (b : BitVec 48) : List OwnGlide :=
  let x := svcZone s z
  zoneGlides s z x.select (smp (incomingSlot s z o b)) 1 2 ++
    zoneGlides s z x.gain (incomingGain s z o) (fadeIn s (annPrio s o)) 2

/-- The gains of zones that p names which are stated to go to 0 after Bell b of the plan's domain go to 0 at b (R251). -/
def muteBy (b : BitVec 48) (prio : Nat) (p : VZone → Bool) (s : State) : State :=
  let d := planDomain s
  let zs := (s.vigil.zones.filter p).map (·.zone)
  let gs := ((List.range 8).filter (fun k => (slotOf s d k).armed && decide (b.toNat < (slotOf s d k).bell.toNat))).flatMap (fun k =>
    (slotOf s d k).own.filter (fun g => g.why == 4 && g.target == 0 && zs.contains g.zone))
  if gs = [] then s else armOwn d b prio gs (dropOwn d (fun g => gs.contains g) s)
/-- The measured zones of the acoustic group of zone z that an announcement aborts, at Bell b of the zone's domain (R251); those
aborted already for a later Bell are silent by b, where it sounds in the group first. Where the plan runs in another domain no
commit can be the same: their gains are stated there for the first Bell that R171 allows, which comes before the announcement
sounds (DESIGN CHOICE, log 129). -/
def abortFor (z : Nat) (o : Option Nat) (b : BitVec 48) (s : State) : State :=
  match o.bind (ann s) with
  | none => s
  | some a =>
    let c := if zoneDomain s (svcZone s z) = some (planDomain s) then b else firstBell s (planDomain s) 0
    let p := fun (v : VZone) => planGroup s v.zone == planGroup s z && decide (a.prio ≤ fld (entryWord s v.entry 4) 22 4)
    abortZones 8 c a.prio p (if s.twin.role = .standby then s else muteBy c a.prio p s)

/-- The Bell at which the chime of an announcement ends (R458). -/
def chimeStop (s : State) (a : Ann) : Nat := a.start.toNat + msgSamples s a.chime
/-- SELECT of zone z takes the live slot at the end of the chime, or at Bell b where that comes later, with no fade (R458). -/
def armChimeEnd (a : Ann) (z : Nat) (b : BitVec 48) (s : State) : State :=
  let d := (zoneDomain s (svcZone s z)).getD 0
  armOwn d (BitVec.ofNat 48 (Nat.max (Nat.max (chimeStop s a) (firstBell s d 0).toNat) b.toNat)) a.prio
    (zoneGlides s z (svcZone s z).select (smp (sourceSlot s a.source)) 1 5) s

/-- The second commit of zone z stated for Bell b. -/
def stateSecond (z : Nat) (b : BitVec 48) (s : State) : State :=
  let x := svcZone s z
  let d := (zoneDomain s x).getD 0
  let s1 := modSvcZone s z (fun y => { y with c2 := b, bgDue := y.bgDue && y.next.isSome })
  let s2 := match x.next with | some id => noteStart id s1 | none => s1
  let s3 := armOwn d b (Nat.min x.prio (annPrio s x.next)) (secondGlides s2 z x.next b) s2
  let s4 := match x.next.bind (ann s3) with
    | some a => if a.chimeSrc ≠ 255 ∧ a.chimeOver ∧ b.toNat < chimeStop s3 a then armChimeEnd a z 0 s3 else s3
    | none => s3
  abortFor z x.next b s4

/-- A change of zone z to o begins: c1 at Bell b, and c2 with it unless c1 has to wait (R457, R448). -/
def startSwitch (z : Nat) (o : Option Nat) (b : BitVec 48) (s : State) : State :=
  let x := svcZone s z
  let d := (zoneDomain s x).getD 0
  let p := Nat.min x.prio (annPrio s o)
  let fade := fadeOut s p
  let s1 := modSvcZone s z (fun y => { y with due := true, next := o, switching := false, fade := fade, c1 := b, c2 := 0, bgDue := y.bgDue && o.isSome })
  let s2 := armOwn d b p (zoneGlides s1 z x.gain 0 fade 1) s1
  if (ownSlot s1 d b).isSome then stateSecond z (b + BitVec.ofNat 48 fade) s2 else s2

/-- ANNOUNCE_PREEMPTED. -/
def postPreempted (id z : Nat) (winId : Option Nat) (s : State) : State := postEvent 0x0041 [wrd id, wrd z, wrd (winId.getD 0)] s

/-- An announcement loses zone z: for good unless HOLD (R456); one that the zone does not yet carry is
reported at once, else at c2. -/
def loseZone (z : Nat) (o w : Option Nat) (s : State) : State :=
  match o.bind (ann s) with
  | none => s
  | some a =>
    if a.ended.isSome ∨ !a.zones.contains z then s
    else
      let s1 := if (svcZone s z).carries = o then s else postPreempted a.id z w s
      if a.hold then s1 else modAnn s1 a.id (fun y => { y with zones := y.zones.erase z })

/-- The own glides of zone z's change are dropped, those of c2 only when c1 has fired. -/
def dropSwitch (z : Nat) (onlySecond : Bool) (s : State) : State :=
  dropOwn ((zoneDomain s (svcZone s z)).getD 0)
    (fun g => g.zone == z && (g.why == 2 || (g.why == 1 && !onlySecond))) s

/-- A new winner of a zone whose change has had its c1: taken at c2 when the lead allows (R457). -/
def replaceSecond (z : Nat) (w : Option Nat) (b : BitVec 48) (s : State) : State :=
  let x := svcZone s z
  if b.toNat ≤ x.c2.toNat then
    stateSecond z x.c2 (modSvcZone (dropSwitch z true s) z (fun y => { y with next := w }))
  else s
/-- Zone z, which carries the background, takes the one that BACKGROUND_SET has named meanwhile (R461). -/
def newBackground (b : BitVec 48) (z : Nat) (s : State) : State :=
  if (svcZone s z).bgDue then startSwitch z none b s else s

/-- The winner of zone z is chosen anew; b is the first Bell a commit may be stated for (R456, R457). -/
def retarget (b : BitVec 48) (z : Nat) (s : State) : State :=
  let x := svcZone s z
  let w := winner s z
  if !x.enable || w == x.heading then s
  else
    let s1 := loseZone z x.heading w s
    if x.due && x.switching then replaceSecond z w b s1
    else if x.due then
      let s2 := dropSwitch z false s1
      if w = x.carries then
        let s3 := modSvcZone s2 z (fun y => { y with due := false, next := none })
        if w = none then newBackground b z s3 else s3
      else startSwitch z w b s2
    else startSwitch z w b s1

/-- A player that no announcement uses any longer: its line is 0 throughout (R454). -/
def freePlayer (i : Nat) (s : State) : State :=
  let e := (source s i).line
  modSource (forEach ((List.range ((line s e).length - 1)).map (· + 1)) (fun t b => putAhead e b 0 t) s) i
    (fun y => { y with user := none, lead := 0 })

/-- Ended announcements that no zone carries any more go, and their players are free. -/
def tidyAnns (s : State) : State :=
  let used := fun (id : Nat) => s.jex.zones.any (fun e => e.2.carries == some id || (e.2.due && e.2.next == some id))
  let gone := (s.jex.anns.filter (fun a => a.ended.isSome && !used a.id)).map (·.id)
  if gone = [] then s
  else
    let out := (s.jex.sources.filter (fun e => e.2.user.any gone.contains)).map (·.1)
    out.foldl (fun t i => freePlayer i t) (modJex s (fun j => { j with anns := j.anns.filter (fun a => !gone.contains a.id) }))

/-- An announcement ends (R455): cause 0 stop, 1 sequence done, 2 no zone left. -/
def markEnded (id cause : Nat) (s : State) : State :=
  match ann s id with
  | some a => if a.ended.isSome then s
      else postEvent 0x0042 [wrd (id + 65536 * cause)] (modAnn s id (fun y => { y with ended := some cause }))
  | none => s

/-- The announcements that hold no zone end. -/
def endEmpty (s : State) : State :=
  (s.jex.anns.filter (fun a => a.ended.isNone && a.zones == [])).foldl (fun t a => markEnded a.id 2 t) s

/-- Every zone's winner after a start or an end; `first d` is the first Bell of domain d. -/
def retargetAll (first : Nat → BitVec 48) (s : State) : State :=
  tidyAnns (endEmpty (forEach (s.jex.zones.map (·.1)) (fun t z =>
    retarget (first ((zoneDomain t (svcZone t z)).getD 0)) z t) s))

/-- An announcement ends, and what it won is chosen anew. -/
def endAnn (first : Nat → BitVec 48) (id cause : Nat) (s : State) : State := retargetAll first (markEnded id cause s)

/-- The ends of chimes that zone z, which now takes o, no longer carries: their SELECT is not made (R457, R458). -/
def dropChime (d z : Nat) (o : Option Nat) (s : State) : State :=
  let keep := (o.bind (ann s)).map (fun a => smp (sourceSlot s a.source))
  dropOwn d (fun g => g.zone == z && g.why == 5 && some g.target != keep) s

/-- c2 of zone z has fired: the zone carries what it was switched to; ANNOUNCE_PREEMPTED for what lost the zone, with announcement
0 where its winner has ended and the background follows (R456; log 163), and, once, ANNOUNCE_STARTED (R457, R464). -/
def completeSwitch (d z : Nat) (s : State) : State :=
  let x := svcZone s z
  let b := (dom s d).bell
  let s1 := modSvcZone (dropChime d z x.next s) z (fun y =>
    { y with carries := x.next, next := none, prio := annPrio s x.next, due := false, switching := false, lastSwitch := b, c2 := 0,
             bgDue := y.bgDue && x.next.isNone })
  let s2 := match x.carries.bind (ann s) with
    | some a => if some a.id ≠ x.next ∧ (a.ended = none ∨ a.ended = some 2) then postPreempted a.id z x.next s1 else s1
    | none => s1
  let s3 := match x.next.bind (ann s2) with
    | some a => if a.announced then s2
        else postEvent 0x0040 [pack [flag a.chimeSkipped 31, (a.prio, 24), (a.id, 0)], bellLo b, wrd (wonZones s2 a.id).length]
          (modAnn s2 a.id (fun y => { y with announced := true }))
    | none => s2
  let s4 := retarget (firstBell s3 d 0) z s3
  tidyAnns (if (svcZone s4 z).carries.isNone ∧ !(svcZone s4 z).due then newBackground (firstBell s3 d 0) z s4 else s4)

/-- c1 of zone z has fired. -/
def firstFired (d z : Nat) (s : State) : State :=
  let s1 := modSvcZone s z (fun y => { y with switching := true })
  if (svcZone s z).c2 = 0 then stateSecond z ((dom s d).bell + BitVec.ofNat 48 (svcZone s z).fade) s1 else s1

/-- What the service model does when own glides have fired at the present Bell of domain d. -/
def serviceFired (d : Nat) (gs : List OwnGlide) (s : State) : State :=
  let zs := fun (k : Nat) => ((gs.filter (fun g => g.why == k)).map (·.zone)).eraseDups
  let s1 := forEach (zs 1) (fun t z => if (svcZone t z).due then firstFired d z t else t) s
  forEach (zs 2) (fun t z => if (svcZone t z).due then completeSwitch d z t else t) s1

/-! ### Players (R454) -/

/-- 20 ms of samples. -/
def leadLow (rate : Nat) : Nat := rate / 5000

/-- A player is taken for an announcement. -/
def takePlayer (i id : Nat) (s : State) : State :=
  let s1 := modSource s i (fun y => { y with user := some id, lead := 0 })
  match ann s1 id with
  | some a => fillLine i 0 0 a s1
  | none => s1

/-- One Bell of domain d passes for its players. -/
def playersBell (d : Nat) (s : State) : State :=
  modJex s (fun j => { j with sources := j.sources.map (fun e =>
    (e.1, if e.2.kind = 2 ∧ e.2.domain = d then { e.2 with lead := e.2.lead - 1 } else e.2)) })

/-- The stated c2 of zone z takes the slot of a chime player. -/
def statesChime (s : State) (z slot : Nat) : Bool :=
  let p := fun (g : OwnGlide) => g.zone == z && g.why == 2 && g.target == smp slot
  (List.range 8).any (fun k => (slotOf s ((zoneDomain s (svcZone s z)).getD 0) k).own.any p) || s.jex.heldChanges.any (fun h => h.own.any p)
/-- The chime of a LIVE announcement is all written: SELECT takes the live slot at the chime's end in every zone that carries
it or has a c2 that selects the chime player (R458). -/
def chimeEnds (i : Nat) (a : Ann) (s : State) : State :=
  let d := (source s i).domain
  let stop := chimeStop s a
  let now := (dom s d).bell.toNat
  let full := leadFull (nominalRate (dom s d).rate)
  if !a.chimeOver && decide (stop ≤ now + full) then
    let zs := s.jex.zones.filter (fun e => e.2.carries == some a.id ||
      (e.2.due && e.2.next == some a.id && statesChime s e.1 (sourceSlot s a.chimeSrc)))
    zs.foldl (fun t e => armChimeEnd a e.1 (if e.2.due && e.2.next == some a.id then e.2.c2 else 0) t)
      (modAnn s a.id (fun y => { y with chimeOver := true }))
  else if a.chimeOver && decide (stop ≤ now) then freePlayer i s
  else s

/-- The samples that a player needs next are read from flash (R454, R478). -/
def messageRead (i : Nat) (a : Ann) (s : State) : State :=
  let x := source s i
  match playerAt s i a ((dom s x.domain).bell.toNat + x.lead - a.start.toNat) with
  | some e => modFlash s (Flash.wantRead 3 0 (unitAddr (msg s e.1).unit + 3 * e.2) (3 * (msgSamples s e.1 - e.2)))
  | none => s
/-- The line of a player in use is filled; below 20 ms zeros stand ahead of WIDX and PLAYER_UNDERRUN is
raised (R454). A stream that has been played ends its announcement (R455). -/
def fillPlayer (i : Nat) (s : State) : State :=
  let x := source s i
  match x.user.bind (ann s) with
  | none => s
  | some a =>
    let rate := nominalRate (dom s x.domain).rate
    let now := (dom s x.domain).bell.toNat
    let low := x.lead < leadLow rate
    let s1 := fillLine i (if low then 0 else x.lead) (if low then leadLow rate else 0) a (messageRead i a s)
    let s2 := if low then raiseFault 0x0305 [wrd i] s1 else s1
    if a.source = i then
      if a.start.toNat ≤ now ∧ streamAt s2 a (now - a.start.toNat) = none then endAnn (fun d => firstBell s2 d 0) a.id 1 s2 else s2
    else chimeEnds i a s2

/-- PLAYER_LINE_FILL (R454). -/
def execPlayerLineFill (src : BitVec 8) (s : State) : Out :=
  if jexOn s ∧ (source s src.toNat).kind = 2 ∧ (line s (source s src.toNat).line).valid then .next (fillPlayer src.toNat s)
  else .next s

/-! ### Starting an announcement (R455, R458) -/

/-- Zones of the mask in eight words. -/
def maskZones (ws : List Word) : List Nat := (ws.zipIdx).flatMap (fun e => setBits (32 * e.2) e.1)
/-- The message sequence in two words. -/
def seqWords (ws : List Word) : List Nat := seqOf (ws.flatMap wordBytes)

/-- The chime of an announcement and the player it takes: message, player or 255, skipped (R458). -/
def chimeFor (s : State) (src p : Nat) (noChime : Bool) : Nat × Nat × Bool :=
  let k := prioOf s p
  if noChime ∨ k.chime = 255 then (255, 255, false)
  else if (source s src).kind = 2 then (k.chime, 255, false)
  else
    let c := source s k.chimeSrc
    if c.kind = 2 ∧ c.domain = (source s src).domain ∧ c.user = none then (k.chime, k.chimeSrc, false) else (255, 255, true)

/-- An announcement of the parameter words w1 to w12, its first Bell b (R455). -/
def announcement (s : State) (ws : List Word) (b : BitVec 48) : Ann :=
  let w := ws.getD 0 0
  let src := fld w 0 8
  let c := chimeFor s src (fld w 8 4) (bit w 29)
  { id := s.jex.nextAnn
    source := src
    prio := fld w 8 4
    zones := maskZones (ws.drop 4)
    seq := if (source s src).kind = 2 then seqWords ((ws.drop 2).take 2) else []
    repeats := fld (ws.getD 1 0) 8 8
    hold := bit w 30
    chime := c.1
    chimeSrc := c.2.1
    chimeSkipped := c.2.2
    start := b + BitVec.ofNat 48 (fadeOut s (fld w 8 4)) }

/-- A player is taken for an announcement that goes on. -/
def takeFor (i id : Nat) (s : State) : State :=
  if (ann s id).any (fun a => a.ended.isNone) then takePlayer i id s else s

/-- The zones that an announcement wins while their change to something else can no longer be altered: a new c1 follows their
c2 (R457), and until its c2 is stated the announcement starts at the earliest that can be (R461). -/
def noteWait (id : Nat) (s : State) : State :=
  match ann s id with
  | none => s
  | some a =>
    let waits := (wonZones s id).filterMap (fun z =>
      let x := svcZone s z
      let d := (zoneDomain s x).getD 0
      if x.due ∧ x.switching ∧ x.next ≠ some id then
        some (x.c2.toNat + ((firstBell s d 0).toNat - (dom s d).bell.toNat) + fadeOut s (Nat.min (annPrio s x.next) a.prio))
      else none)
    match startsOf s id, waits.min? with
    | [], some b => modAnn s id (fun y => { y with start := BitVec.ofNat 48 b })
    | _, _ => s
/-- An announcement starts: every zone's winner is chosen anew, and it takes its players. -/
def announce (ws : List Word) (b : BitVec 48) (s : State) : State :=
  let a := announcement s ws b
  let s1 := modJex s (fun j => { j with anns := j.anns ++ [a], nextAnn := if j.nextAnn = 65535 then 1 else j.nextAnn + 1 })
  let s2 := noteWait a.id (retargetAll (fun _ => b) s1)
  let s3 := if (source s a.source).kind = 2 then takeFor a.source a.id s2 else s2
  if a.chimeSrc = 255 then s3 else takeFor a.chimeSrc a.id s3

/-! ### Ambient gain (R459) -/

/-- The integer square root of n, bits of it from the highest. -/
def isqrtFrom (n : Nat) : Nat → Nat → Nat
  | 0, r => r
  | b + 1, r => isqrtFrom n b (if (r + 2 ^ b) * (r + 2 ^ b) ≤ n then r + 2 ^ b else r)

/-- 10^(p/q) for a fraction below 1 by its binary digits, in units of 2^-200: root is 10^(2^-j), acc the
product so far. -/
def powFrac (q : Nat) : Nat → Nat → Nat → Nat → Nat
  | 0, _, _, acc => acc
  | n + 1, p, root, acc =>
    let r := isqrtFrom (root * 2 ^ 200) 204 0
    if q ≤ 2 * p then powFrac q n (2 * p - q) r (acc * r / 2 ^ 200) else powFrac q n (2 * p) r acc

/-- round(10^(num/den) * 2^k) (log 16). -/
def powRound (num : Int) (den k : Nat) : Nat :=
  let i := num / (den : Int)
  let acc := powFrac den 160 (num % (den : Int)).toNat (10 * 2 ^ 200) (2 ^ 200)
  if 0 ≤ i then (2 * acc * 10 ^ i.toNat * 2 ^ k + 2 ^ 200) / 2 ^ 201
  else (2 * acc * 2 ^ k + 2 ^ 200 * 10 ^ i.natAbs) / (2 ^ 201 * 10 ^ i.natAbs)

/-- g of R459 as a fraction of 0.01 dB: sum of the readings, their number, and the zone's settings. -/
def ambientDb (x : Zone) (sum : Int) (n : Nat) : Int × Nat :=
  let den := 1638400000 * n
  let num := (x.slope : Int) * (60206 * sum - x.ref * (1638400 * n : Nat))
  if num < -((x.maxCut : Int) * den) then (-(x.maxCut : Int), 1)
  else if (x.maxBoost : Int) * den < num then (x.maxBoost, 1)
  else (num, den)

/-- One UPDATE of zone z with readings taken (R459). -/
def ambientCommit (z : Nat) (b : Nat → BitVec 48) (s : State) : State :=
  let x := svcZone s z
  let n := x.readings.length
  let sum := x.readings.sum
  let g := ambientDb x sum n
  let hs := zoneHandles s x x.ambient
  let d := (zoneDomain s x).getD 0
  let len := Nat.min (nominalRate (dom s d).rate / 100) 65535
  let gs := hs.flatMap (fun h =>
    let v : Int := powRound g.1 (2000 * g.2) (if h.cf then 16 else 19)
    let t := smp (Max.max h.min.toInt (Min.min h.max.toInt v))
    (List.range h.count).map (fun i => ({ quern := h.quern, reg := h.first + i, target := t, len := len, why := 3, zone := z } : OwnGlide)))
  armOwn d (b d) 15 gs (modSvcZone s z (fun y =>
    { y with lastA := rneDiv (60206 * sum) (1638400 * n), lastG := rneDiv g.1 g.2, lastN := n, readings := [] }))

/-- Ambient gain of zone z runs on this device: AMBIENT is enabled (R459); a STANDBY device takes the gains of the DUTY device
and takes no readings of its own (DEDUCED, log 130). -/
def ambientRuns (s : State) (z : Nat) : Bool :=
  jexOn s && s.twin.role != .standby && (svcZone s z).enable && (svcZone s z).ambEn

/-- AMBIENT_METER_SAMPLE: a reading while the zone carries no announcement (R459). -/
def execAmbientMeterSample (z : Fin 256) (s : State) : Out :=
  let x := svcZone s z
  if ambientRuns s z ∧ x.carries = none then
    .next (modSvcZone s z (fun y => { y with readings := y.readings ++ [(Tab.get 0 (quern s x.mQuern).nb x.mWord).toInt] }))
  else .next s

/-- Zone z neither carries an announcement nor is changing to one. -/
def Zone.quiet (x : Zone) : Bool := x.carries.isNone && x.heading.isNone
/-- AMBIENT_UPDATE (R459). In a zone with an announcement the gain stays as it is, and the readings taken before are dropped
(DESIGN CHOICE, log 163). -/
def execAmbientUpdate (z : Fin 256) (since : Nat) (s : State) : Out :=
  if ambientRuns s z then
    if (svcZone s z).quiet = false then
      .next (modSvcZone s z (fun y => { y with lastN := y.readings.length, readings := [] }))
    else if (svcZone s z).readings = [] then .next (modSvcZone s z (fun y => { y with lastN := 0 }))
    else .next (ambientCommit z (fun d => firstBell s d since) s)
  else .next s

end Sys2Proof.Machine
end

