-- ==== Sys2Proof/Machine/CmdParam.lean ====
section
/-! DEFINITION. The parameter commands (R167 to R171, R180, R181, R183 to R185, R518) and
SHADOW_RESYNC_DONE (R175). -/

namespace Sys2Proof.Machine

/-- A set that is not FREE. -/
def freeSet (s : State) : Option Nat := (List.range 8).find? (fun n => (hostSet s n).state == .free)

/-- The check of PARAM_SET_OPEN. -/
def paramSetOpenChecks (s : State) : Option Refuse := if (freeSet s).isSome then none else some (busyRefused 0x49)
/-- PARAM_SET_OPEN accepted: the lowest FREE set opens. -/
def paramSetOpenRun (m : Nat) (s : State) : State :=
  match freeSet s with
  | some n => reply m [wrd n] (modSet s n (fun _ => { state := .opened }))
  | none => s
/-- PARAM_SET_OPEN (0x30). -/
def execParamSetOpen (m : Fin 8) (s : State) : Out := .next (serve 0x30 m paramSetOpenChecks (paramSetOpenRun m) s)

/-! ### Handles -/

/-- The records of the handle that w2 and w3 name, lowest Quern first (R167, R183). -/
def namedHandles (s : State) (m : Nat) : List Handle :=
  match bundleOf s (arg s m 2).toNat with
  | some b => (List.range 128).flatMap (fun q => b.handles.filter (fun h => h.id == (arg s m 3).toNat && h.quern == q))
  | none => []

/-- The bundle that w2 names is ACTIVE. -/
def namedActive (s : State) (m : Nat) : Bool := (bundleOf s (arg s m 2).toNat).any (fun b => b.state == .active)

/-- COUNT values from FIRST lie within the handle's COUNT. -/
def rangeOk (h : Handle) (first count : Nat) : Bool := first + count ≤ h.count

/-! ### Staging (R167 to R169) -/

/-- The values of a PARAM_STAGE. -/
def stageValues (s : State) (m : Nat) : List Word := args s m 5 (fld (arg s m 4) 10 6)

/-- GLIDE agrees with the handle's kind (0x44). -/
def glideFits (kind glide : Nat) : Bool := if kind = 1 then glide ≠ 0 else glide = 0

/-- The claims of set n besides its own that meet a list of Querns: the lowest Quern. -/
def rivalClaim (s : State) (n : Nat) (qs : List Nat) : Option Nat :=
  (List.range 128).find? (fun q => qs.contains q && (List.range 8).any (fun k => k != n && (hostSet s k).claims.contains q))

/-- The domain a staging command meets (R168): that of the set, else that of its first Quern. -/
def stageDomain (s : State) (n : Nat) (qs : List Nat) : Option Nat :=
  let h := hostSet s n
  if h.hasDomain then some h.domain else (qs.head?.bind (fun q => quernDom (quern s q)))
/-- Quern q is bound to the domain of a staging command. -/
def inDomain (s : State) (n : Nat) (qs : List Nat) (q : Nat) : Bool :=
  let d := stageDomain s n qs
  quernDom (quern s q) == d && d.isSome
/-- All the Querns of a staging command are bound to one domain (0x47). -/
def oneDomain (s : State) (n : Nat) (qs : List Nat) : Bool := qs.all (inDomain s n qs)
/-- The lowest Quern of a staging command that is bound to another domain (R185). -/
def strayQuern (s : State) (n : Nat) (qs : List Nat) : Nat :=
  ((List.range 128).find? (fun q => qs.contains q && !inDomain s n qs q)).getD 0x7F

/-- The checks of PARAM_STAGE in the order of R185, the pattern of R519 first. Where a refusal concerns the range or the whole
command and not one element, its element index is FIRST (DESIGN CHOICE, log 120: R185 says only "the element index"). -/
def paramStageChecks (m : Nat) (s : State) : Option Refuse :=
  let n := fld (arg s m 1) 0 3
  let hs := namedHandles s m
  let first := fld (arg s m 4) 0 10
  let glide := fld (arg s m 4) 16 16
  let vs := stageValues s m
  let qs := hs.map (·.quern)
  match hs.head? with
  | none => firstRefusal [(vs.all (fun w => signedOk w 20), badParam 0xF4),
      ((hostSet s n).state == .opened, badParam 0x45), (false, badParam 0x40)]
  | some h =>
    let out := vs.findIdx? (fun w => let v := (wordSample w).toInt; v < h.min.toInt || h.max.toInt < v)
    let rival := rivalClaim s n qs
    firstRefusal
      [(vs.all (fun w => signedOk w 20), badParam 0xF4), ((hostSet s n).state == .opened, badParam 0x45),
       (namedActive s m, badParam 0x41), (rangeOk h first vs.length, badParam 0x42 first),
       (glideFits h.kind glide, badParam 0x44 first), (out.isNone, badParam 0x43 (first + out.getD 0)),
       (oneDomain s n qs, badParam 0x47 first (strayQuern s n qs)), (rival.isNone, busyRefused 0x46 first (rival.getD 0x7F))]

/-- The last value staged to a word stands (R169). -/
def noteStaged (l : List StagedVal) (v : StagedVal) : List StagedVal :=
  l.filter (fun x => !(x.quern == v.quern && x.kind == v.kind && x.addr == v.addr)) ++ [v]

/-- Words staged to set n: places written, Querns claimed, the domain fixed (R168, R169). -/
def stageInto (n : Nat) (vs : List StagedVal) (s : State) : State :=
  let s1 := vs.foldl stageWord s
  modSet s1 n (fun h =>
    { h with
      claims := vs.foldl (fun c v => insertSorted v.quern c) h.claims
      staged := vs.foldl noteStaged h.staged
      hasDomain := true
      domain := if h.hasDomain then h.domain
        else ((vs.head?.bind (fun v => quernDom (quern s v.quern))).getD 0) })

/-- A record of a handle of an ACTIVE bundle reaches a staged word with its value, and the word is no word of the working
region; a glide length goes with a glide register alone (R75, R167, R169). -/
def handleTakes (s : State) (v : StagedVal) : Bool :=
  s.jex.bundles.any (fun b => b.state == .active && !b.loading && b.handles.any (fun h =>
    h.quern == v.quern && h.kind == v.kind && h.first ≤ v.addr && v.addr < h.first + h.count &&
      h.min.toInt ≤ v.value.toInt && v.value.toInt ≤ h.max.toInt)) &&
    glideFits v.kind v.glide && (v.kind != 0 || v.addr < (quern s v.quern).workBase)
/-- A mirrored word can be staged by R167 to R169: the set is open, or free to be opened; a handle takes the word; the Quern is
in the set's domain and claimed by no other set. -/
def peerStageOk (n : Nat) (v : StagedVal) (s : State) : Bool :=
  let h := hostSet s n
  (h.state == .opened || h.state == .free || h.state == .discarded) && handleTakes s v &&
    (rivalClaim s n [v.quern]).isNone && oneDomain s n [v.quern]
/-- Quern q is being resynchronised: its shadows are brought up to date, or the set that claims it has fired for all its
Querns and has not released them yet (R175). -/
def resyncing (s : State) (q : Nat) : Bool :=
  (quern s q).resync || (setsWhere s (fun h => h.state == .resync)).any (fun n => (hostSet s n).claims.contains q)
/-- A staged word mirrored (R180): held while its Quern's shadows are brought up to date (R175). -/
def peerStage (n : Nat) (v : StagedVal) (s : State) : State :=
  if resyncing s v.quern then modJex s (fun j => { j with peerHeld := j.peerHeld ++ [(n, v)] })
  else if peerStageOk n v s then
    stageInto n [v] (modSet s n (fun h => if h.state = .opened then h else { state := .opened }))
  else s
/-- Mirrored words whose Querns' shadows have been brought up to date are staged (R175, R180). -/
def peerGo (s : State) : State :=
  let go := s.jex.peerHeld.filter (fun e => !resyncing s e.2.quern)
  go.foldl (fun t e => peerStage e.1 e.2 t)
    (modJex s (fun j => { j with peerHeld := j.peerHeld.filter (fun e => resyncing s e.2.quern) }))

/-- The words a PARAM_STAGE stages: every record's target. -/
def stageList (s : State) (m : Nat) : List StagedVal :=
  (namedHandles s m).flatMap (fun h => (stageValues s m).zipIdx.map (fun e =>
    { quern := h.quern, kind := h.kind, addr := h.first + fld (arg s m 4) 0 10 + e.2, value := wordSample e.1,
      glide := fld (arg s m 4) 16 16 }))

/-- A handle of the command names a Quern that is being resynchronised (R175). -/
def stageHeld (s : State) (m : Nat) : Bool := (namedHandles s m).any (fun h => resyncing s h.quern)

/-- PARAM_STAGE carried out. -/
def paramStageNow (m : Nat) (s : State) : State :=
  match paramStageChecks m s with
  | some r => refuse m r s
  | none => reply m [0] (stageInto (fld (arg s m 1) 0 3) (stageList s m) s)

/-- PARAM_STAGE accepted: held during a resynchronisation of its Querns (R175). -/
def paramStageRun (m : Nat) (s : State) : State :=
  if stageHeld s m then modJex s (fun j => { j with held := j.held ++ [m] }) else paramStageNow m s

/-- PARAM_STAGE (0x31). -/
def execParamStage (m : Fin 8) (s : State) : Out := .next (serve 0x31 m noChecks (paramStageRun m) s)

/-- SHADOW_RESYNC_DONE: shadows and in-region shadows match, sets in RESYNC are FREE, held staging
commands are carried out (R175). -/
def execShadowResyncDone (d : Fin 4) (s : State) : Out :=
  if jexOn s then
    let s1 := peerGo (resyncDone d s)
    let go := s1.jex.held.filter (fun m => cmdOp s1 m == 0x31 && !stageHeld s1 m)
    .next (go.foldl (fun t m => paramStageNow m t)
      (modJex s1 (fun j => { j with held := j.held.filter (fun m => !go.contains m) })))
  else .next s

/-! ### Committing (R171, R172, R181) -/

/-- A free commit slot for a host set: Jexolaryn keeps two (R447). -/
def hostSlot (s : State) (d : Nat) : Option Nat := (List.range 6).find? (fun k => !(slotOf s d k).armed)

/-- The checks of PARAM_COMMIT in the order of R185. -/
def paramCommitChecks (m since : Nat) (s : State) : Option Refuse :=
  let h := hostSet s (fld (arg s m 1) 0 3)
  let d := h.domain
  let b := bellOf (fld (arg s m 2) 0 16) (arg s m 3).toNat
  let bellOk := if bit (arg s m 1) 31 then (dom s d).runs else bellAllowed s d b (leadPs s) since
  firstRefusal [(h.state == .opened || h.state == .missed, badParam 0x45), (h.staged != [], badParam 0x4A),
    ((hostSlot s d).isSome, busyRefused 0x49), (bellOk, badParam 0x48)]

/-- The CRC-32C that a commit record carries over a set (R181). -/
def setDigest (h : HostSet) : Word := Config.setCrc (h.staged.map (fun v => (v.quern, v.kind, v.addr, v.value, v.glide)))

/-- Own glides stated for Bell b on Querns that the host set of slot k claims move into it from the own slots (R447). -/
def mergeOwn (d k : Nat) (b : BitVec 48) (claims : List Nat) (s : State) : State :=
  forEach (List.range 8) (fun t j =>
    let c := slotOf t d j
    let gs := c.own.filter (fun g => claims.contains g.quern)
    if c.isOwn && !c.next && c.bell == b && gs != [] then
      modSlot (modSlot t d j (fun x => ({ x with own := x.own.filter (fun g => !claims.contains g.quern) } : CommitSlot).trim [])) d k
        (fun x => x.carry b gs [])
    else t) s
/-- A set armed for a Bell in commit slot k of its domain (R172), which carries the own changes of its Querns for that Bell. -/
def armSet (n k : Nat) (next : Bool) (b : BitVec 48) (s : State) : State :=
  let h := hostSet s n
  let s1 := modSet (modSlot s h.domain k (fun c => { c.arm next b (querMask h.claims) with set := some n })) n
    (fun x => { x with state := .armed, bell := b, slot := some k, lowDef := none, partner := false, paired := paired s })
  if next then s1 else mergeOwn h.domain k b h.claims s1

/-- The words of a PARAM_COMMIT reply. -/
def commitWords (n : Nat) (h : HostSet) : List Word :=
  [wrd (b2n h.partner * 2147483648 + b2n h.paired * 1073741824 + n), wrd (bellHi h.bell), bellLo h.bell]

/-- PARAM_COMMIT accepted: the slot is armed; in a pair the record goes to the partner and the reply
waits for its answer (R171, R181); in an arming it goes too (R303). -/
def paramCommitRun (m since : Nat) (s : State) : State :=
  let n := fld (arg s m 1) 0 3
  let h := hostSet s n
  let nb := statedBell s h.domain since (bit (arg s m 1) 31) (bellOf (fld (arg s m 2) 0 16) (arg s m 3).toNat)
  match hostSlot s h.domain with
  | none => s
  | some k =>
    let b := if nb.1 then (dom s h.domain).bell + 1 else nb.2
    let s1 := modSlot (armSet n k nb.1 b s) h.domain k (fun c => { c with bell := b })
    let s2 := sendRecord h.domain 1 [wrd n, wrd (bellHi b), bellLo b, setDigest h] s1
    if paired s then modSet s2 n (fun x => { x with mb := m + 1 })
    else reply m (commitWords n (hostSet s2 n)) s2

/-- PARAM_COMMIT (0x32). -/
def execParamCommit (m : Fin 8) (since : Nat) (s : State) : Out :=
  .next (serve 0x32 m (paramCommitChecks m since) (paramCommitRun m since) s)

/-- The partner's answer on set n, or the Bell passing without one: the reply is given (R181). -/
def commitAnswered (n : Nat) (ok : Bool) (s : State) : State :=
  let h := hostSet s n
  if h.mb = 0 then s
  else
    let s1 := modSet s n (fun x => { x with partner := ok, mb := 0 })
    reply (h.mb - 1) (commitWords n { h with partner := ok }) s1

/-- The check of PARAM_DISCARD: the set is OPEN or ARMED (R185). -/
def paramDiscardChecks (m : Nat) (s : State) : Option Refuse :=
  let st := (hostSet s (fld (arg s m 1) 0 3)).state
  if st = .opened ∨ st = .armed then none else some (badParam 0x45)
/-- PARAM_DISCARD accepted (R518). -/
def paramDiscardRun (m : Nat) (s : State) : State := reply m [0] (discardSet (fld (arg s m 1) 0 3) 0 s)
/-- PARAM_DISCARD (0x33). -/
def execParamDiscard (m : Fin 8) (s : State) : Out := .next (serve 0x33 m (paramDiscardChecks m) (paramDiscardRun m) s)

/-! ### Reading (R183) -/

/-- The checks of PARAM_READ in the order of R185: a staged value is read from an OPEN set. A range refused with 0x42 is named by
its FIRST (DESIGN CHOICE, log 120: R185 does not say which element). -/
def paramReadChecks (m : Nat) (s : State) : Option Refuse :=
  let st := (hostSet s (fld (arg s m 1) 0 3)).state
  let count := fld (arg s m 4) 10 6
  let first := fld (arg s m 4) 0 10
  let setOk := !bit (arg s m 1) 31 || st == .opened
  match (namedHandles s m).head? with
  | none => firstRefusal [(setOk, badParam 0x45), (false, badParam 0x40)]
  | some h => firstRefusal [(setOk, badParam 0x45), (namedActive s m, badParam 0x41),
      (1 ≤ count && count ≤ 56 && rangeOk h first count, badParam 0x42 first)]

/-- The active or the staged value of word a of a kind of Quern u; the active one of a glide register is that of the last
action 6 (R183). The staged value of an element that the set has not staged is what the Quern's staging place holds, for a glide
register without one its target (DESIGN CHOICE, log 159: R183 does not say). -/
def paramValue (u : Quern) (kind a : Nat) (staged : Bool) : Sample :=
  match kind, staged with
  | 0, false => Tab.get 0 u.ledgerA a
  | 0, true => Tab.get 0 u.ledgerS a
  | 1, false => (Tab.get {} u.glides a).value
  | 1, true => match u.stagedGlides.find? (fun e => e.1 == a) with
    | some e => e.2.target
    | none => (Tab.get {} u.glides a).target
  | _, false => Tab.get 0 u.nb a
  | _, true => Tab.get 0 u.nbShadow (a - 192)

/-- PARAM_READ accepted. For a glide handle w2 and w3 are those of the glide in force, in a STAGED read too (DESIGN CHOICE,
log 159: R183 gives them with the active value). -/
def paramReadRun (m : Nat) (s : State) : State :=
  let count := fld (arg s m 4) 10 6
  let first := fld (arg s m 4) 0 10
  match (namedHandles s m).head? with
  | none => s
  | some h =>
    let u := quern s h.quern
    let g := Tab.get {} u.glides (h.first + first)
    let gl := h.kind == 1
    reply m ([wrd (count * 1024 + first), if gl then sampleWord g.target else 0, if gl then wrd (g.len - g.k) else 0] ++
      (List.range count).map (fun i => sampleWord (paramValue u h.kind (h.first + first + i) (bit (arg s m 1) 31)))) s
/-- PARAM_READ (0x34). -/
def execParamRead (m : Fin 8) (s : State) : Out := .next (serve 0x34 m (paramReadChecks m) (paramReadRun m) s)

/-- State code of PARAM_SET_STATUS. -/
def SetState.code : SetState → Nat
  | .free => 0 | .opened => 1 | .armed => 2 | .deferred => 3 | .resync => 4 | .missed => 5 | .discarded => 6

/-- PARAM_SET_STATUS accepted: a DISCARDED set becomes FREE once read. -/
def paramSetStatusRun (m : Nat) (s : State) : State :=
  let n := fld (arg s m 1) 0 3
  let h := hostSet s n
  let s1 := reply m [wrd (h.state.code * 268435456 + h.domain * 67108864), wrd (bellHi h.bell), bellLo h.bell,
    wrd (h.staged.length * 65536 + h.claims.length), wrd (h.lowDef.getD 0x7F)] s
  if h.state = .discarded then modSet s1 n (fun _ => {}) else s1
/-- PARAM_SET_STATUS (0x35). -/
def execParamSetStatus (m : Fin 8) (s : State) : Out := .next (serve 0x35 m noChecks (paramSetStatusRun m) s)

/-- The check of METER_READ: 0x42 names the Quern of the command and the FIRST word of the range (DESIGN CHOICE, log 120: R185
does not say which). -/
def meterReadChecks (m : Nat) (s : State) : Option Refuse :=
  let first := fld (arg s m 2) 8 8
  let count := fld (arg s m 2) 0 8
  if 1 ≤ count ∧ count ≤ 60 ∧ first + count ≤ 192 then none else some (badParam 0x42 first (fld (arg s m 1) 0 7))
/-- METER_READ accepted. -/
def meterReadRun (m : Nat) (s : State) : State :=
  let u := quern s (fld (arg s m 1) 0 7)
  let first := fld (arg s m 2) 8 8
  let b := match quernDom u with | some d => bellLo (dom s d).bell | none => 0
  reply m (b :: (List.range (fld (arg s m 2) 0 8)).map (fun i => sampleWord (Tab.get 0 u.nb (first + i)))) s
/-- METER_READ (0x36). -/
def execMeterRead (m : Fin 8) (s : State) : Out := .next (serve 0x36 m (meterReadChecks m) (meterReadRun m) s)

end Sys2Proof.Machine
end

