-- ==== Sys2Proof/Machine/Link.lean ====
section
/-! DEFINITION. The Bell frames of the Twin link (R286 to R290): mirror sets, digests, a frame's words and
their reading, and the registers of the pair (R308, R309). -/

namespace Sys2Proof.Machine

/-! ### Mirror sets (R288) -/

/-- Sieves of a mask whose PDM clock belongs to domain d, numbered 512 upwards. -/
def maskSieves (s : State) (d : Nat) (m : BitVec 32) : List Nat :=
  ((List.range 32).filter (fun i => m.getLsbD i && (Tab.get {} s.audio.pdmClks (i / 8) : PdmClk).domain == d)).map (512 + ·)
/-- The transmit mirror set of domain d under an input map. -/
def mirrorTx (s : State) (map : Tab InEntry) (d : Nat) : List Nat :=
  (domChannels s d).filter (fun c => (Tab.get {} map c : InEntry).mirrorTx) ++ maskSieves s d s.twin.sieveTx
/-- The receive set of domain d under an input map. -/
def mirrorRx (s : State) (map : Tab InEntry) (d : Nat) : List Nat :=
  (domChannels s d).filter (fun c => (Tab.get {} map c : InEntry).source == 2) ++ maskSieves s d s.twin.sieveRx
/-- The sample transmitted for a channel or Sieve of the set: the one its own copy holds back (R189). -/
def mirrorSlot (s : State) (c : Nat) : Slot :=
  if c < 512 then (inChan s c).delayed else Tab.get {} s.audio.sieveDelay (c - 512)
/-- Stiles into domain d under a Stile table. -/
def stilesInto (tab : Tab StileCfg) (d : Nat) : List Nat :=
  (List.range 64).filter (fun i => let c := (Tab.get {} tab i : StileCfg); c.enable && c.dstDom == d)

/-! ### Samples in a frame -/

/-- A slot in 24 bits (R288). -/
def slotBits (v : Slot) : Nat := v.word.toNat + 1048576 * b2n v.valid + 2097152 * b2n v.late
/-- A slot from 24 bits. -/
def slotOfBits (n : Nat) : Slot := { word := BitVec.ofNat 20 n, valid := n / 1048576 % 2 == 1, late := n / 2097152 % 2 == 1 }
/-- Bytes as words, least significant byte first, the last padded with zeros. -/
def packWords (bs : List (BitVec 8)) : List Word :=
  (List.range ((bs.length + 3) / 4)).map (fun i => wrd (leNat ((bs.drop (4 * i)).take 4)))
/-- Slots packed, 4 to 3 words. -/
def packSlots (l : List Slot) : List Word := packWords (l.flatMap (fun v => leBytes (slotBits v) 3))
/-- Words that n packed slots take. -/
def packedLen (n : Nat) : Nat := (3 * n + 3) / 4
/-- n slots from packed words. -/
def unpackSlots (ws : List Word) (n : Nat) : List Slot :=
  let bs := ws.flatMap wordBytes
  (List.range n).map (fun i => slotOfBits (leNat ((bs.drop (3 * i)).take 3)))
/-- Slots put under their numbers. -/
def slotTab (keys : List Nat) (l : List Slot) : Tab Slot := (keys.zip l).foldl (fun t e => Tab.ins t e.1 e.2) []

/-- The digest of the front page of domain d (R290). -/
def digestNow (s : State) (d : Nat) : Word :=
  crc32c ((List.range 8192).flatMap (fun n => leBytes (slotBits (frontSlot s d n)) 3))
/-- The digest of Bell b of domain d, if it is still held. -/
def digestAt (s : State) (d : Nat) (b : BitVec 48) : Option Word :=
  ((dom s d).digests.find? (fun e => e.1 == b)).map (·.2)

/-! ### The frame (R287) -/

/-- A Quern of domain d was marked late at the present Bell. -/
def domLate (s : State) (d : Nat) : Bool := s.querns.any (fun e => e.2.lateNow && quernDom e.2 == some d)
/-- The partner of an arming in progress forwards its Stile outputs (R306). -/
def forwards (s : State) : Bool := s.twin.arm != .idle && s.twin.armMb.isNone

/-- Word 0 of the Bell frame of domain d; in FALLBACK its ROLE is SINGLE (R284). -/
def frameHead (s : State) (d : Nat) : Word :=
  let t := s.twin
  pack [(1, 28), (d, 26), (if s.aon.mode = .fallback then 0 else t.role.code, 24), (t.proto, 16), ((Tab.get {} t.peers d : Peer).hbOut, 8), flag t.selfFault 7,
    flag (domLate s d) 6, flag t.inStep 5, flag (t.arm != .idle) 4, flag (s.crier.state == .active) 3]
/-- The words of the frame before its CRC. -/
def frameBody (s : State) (d : Nat) : List Word :=
  let b := (dom s d).bell
  let recs := (Tab.get {} s.twin.peers d : Peer).records
  let set := mirrorTx s s.audio.inA d
  let st := stilesInto s.audio.stileA d
  let outs := if forwards s then st else []
  [frameHead s d, bellLo b, wrd (65536 * recs.length + bellHi b), (digestAt s d (b - 1)).getD 0, Config.mirrorCrc set,
    pack [(set.length, 20), (st.length, 13), (outs.length, 6)]] ++ recs ++ packSlots (set.map (mirrorSlot s)) ++
    st.map (fun i => pack [(i, 26), ((stileStat s i).phase, 0)]) ++ packSlots (outs.map (fun i => frontSlot s d (0x1DA0 + i)))
/-- The Bell frame of domain d with its CRC. -/
def bellFrame (s : State) (d : Nat) : List Word :=
  let ws := frameBody s d
  ws ++ [crc32c (ws.flatMap wordBytes)]

/-- The digest of the present Bell of domain d is kept (R290). -/
def keepDigest (d : Nat) (s : State) : State :=
  modDom s d (fun x => { x with digests := ((x.bell, digestNow s d) :: x.digests).take 8 })
/-- A Bell frame goes out. -/
def putFrame (d : Nat) (ws : List Word) (s : State) : State :=
  modTwin s (fun t => { t with peers := Tab.mod {} t.peers d (fun p =>
    { p with hbOut := (p.hbOut + 1) % 256, lastSent := ws, records := [] }) })
/-- A joiner makes up the Bells it has buffered, whose frames have gone out (R306). -/
def replaying (s : State) : Bool := s.twin.armMb.isSome && s.twin.arm == .catchup
/-- At a Bell of domain d: the digest is kept, and the frame goes out while the link is UP (R286, R290). -/
def sendFrame (d : Nat) (s : State) : State :=
  let s1 := keepDigest d s
  if s.twin.link = .up ∧ !replaying s then putFrame d (bellFrame s1 d) s1 else s1

/-- A received frame is whole: its type, domain, length and CRC. -/
def frameWhole (d : Nat) (ws : List Word) : Bool :=
  let w := fun i => ws.getD i 0
  let body := ws.dropLast
  7 ≤ ws.length && fld (w 0) 28 4 == 1 && fld (w 0) 26 2 == d &&
    ws.length == 7 + fld (w 2) 16 16 + packedLen (fld (w 5) 20 12) + fld (w 5) 13 7 + packedLen (fld (w 5) 6 7) &&
    ws.getLast? == some (crc32c (body.flatMap wordBytes))
/-- The Bell number of a frame. -/
def frameBell (ws : List Word) : BitVec 48 := bellOf (fld (ws.getD 2 0) 0 16) (ws.getD 1 0).toNat
/-- The record words of a frame. -/
def frameRecs (ws : List Word) : List Word := (ws.drop 6).take (fld (ws.getD 2 0) 16 16)
/-- The words of a frame after its records. -/
def frameTail (ws : List Word) : List Word := (ws.drop 6).drop (fld (ws.getD 2 0) 16 16)
/-- The mirrored samples of a frame. -/
def frameMirror (ws : List Word) : List Slot := unpackSlots (frameTail ws) (fld (ws.getD 5 0) 20 12)
/-- The Stile phase words of a frame. -/
def framePhases (ws : List Word) : List (Nat × Nat) :=
  (((frameTail ws).drop (packedLen (fld (ws.getD 5 0) 20 12))).take (fld (ws.getD 5 0) 13 7)).map (fun w => (fld w 26 6, fld w 0 26))
/-- The forwarded Stile outputs of a frame. -/
def frameOuts (ws : List Word) : List Slot :=
  unpackSlots ((frameTail ws).drop (packedLen (fld (ws.getD 5 0) 20 12) + fld (ws.getD 5 0) 13 7)) (fld (ws.getD 5 0) 6 7)

/-! ### Limits (R286, R288) -/

/-- Words of the frame of domain d under an input map and a Stile table, both ways of Stile words counted. -/
def frameWords (s : State) (map : Tab InEntry) (tab : Tab StileCfg) (d : Nat) : Nat :=
  let st := (stilesInto tab d).length
  7 + packedLen (mirrorTx s map d).length + st + packedLen st
/-- Channels x rate in 0.01 Hz over the domains. -/
def rateSum (s : State) (n : Nat → Nat) : Nat :=
  ((List.range 4).map (fun d => if (dom s d).enable then n d * nominalRate (dom s d).rate else 0)).sum
/-- A mirror and Stile configuration keeps the limits: 544 channels each way, 24,576,000 samples a second,
half the link payload of 4 Gb/s. -/
def linkFits (s : State) (map : Tab InEntry) (tab : Tab StileCfg) : Bool :=
  let tx := fun d => (mirrorTx s map d).length
  let rx := fun d => (mirrorRx s map d).length
  ((List.range 4).map tx).sum ≤ 544 && ((List.range 4).map rx).sum ≤ 544 && rateSum s tx ≤ 2457600000 &&
    rateSum s rx ≤ 2457600000 && rateSum s (fun d => 32 * frameWords s map tab d) ≤ 200000000000

/-! ### Registers (R308, R309) -/

/-- The code of LINK. -/
def Link.code : Link → Nat
  | .down => 0 | .train => 1 | .up => 2
/-- The code of ARM_STATE. -/
def ArmState.code : ArmState → Nat
  | .idle => 0 | .check => 1 | .copy => 2 | .join => 3 | .catchup => 4 | .verify => 5
/-- TWIN_STATUS. -/
def Twin.statusWord (t : Twin) : Word :=
  pack [(t.role.code, 30), (t.arm.code, 27), flag t.inStep 26, flag t.dutyOut 25, flag t.dutyIn 24, flag t.pos 23,
    flag (t.dutyOut && !t.dutyIn) 22, (t.link.code, 20), (t.peerProto, 8), (t.proto, 0)]
/-- TWIN_MISMATCH. -/
def Twin.mismatchWord (t : Twin) : Word :=
  pack ((t.lastDomain, 16) :: (List.range 4).map (fun d => ((Tab.get {} t.peers d : Peer).mismatch, 4 * d)))
/-- TWIN_LINK. -/
def Twin.linkWord (t : Twin) : Word := pack [(t.latency, 16), (t.crcErr, 8), (t.missing, 0)]
/-- Word i of TWIN_CFG. -/
def Twin.cfgWord (t : Twin) (i : Nat) : Word :=
  match i with
  | 0 => pack [flag t.linkEn 31, (t.lateHo, 28)]
  | 1 => t.sieveTx
  | 2 => t.sieveRx
  | _ => wrd t.ownSrc.toNat

end Sys2Proof.Machine
end

