-- ==== Sys2Proof/Machine/CmdRoute.lean ====
section
/-! DEFINITION. DOMAIN_CONFIG (R60, R449) and the routing commands (R188, R190, R192 to R194, R198 to
R202, R207, R208, R515), ROUTE_COPY_DONE (R193). -/

namespace Sys2Proof.Machine

/-! ### DOMAIN_CONFIG -/

/-- The checks of DOMAIN_CONFIG (R60, R212, R221, R224, R235, R449). A code of SRC outside R44 is refused with ENABLE = 0 too
(DESIGN CHOICE, log 155: R449 refuses it, R60 has ENABLE = 0 disable a domain whatever SRC holds). -/
def domainConfigChecks (m : Nat) (s : State) : Option Refuse :=
  let w := arg s m 1
  let d := fld w 28 2
  let x := dom s d
  let on := bit w 31
  let rate := fld w 8 3
  let src := fld w 0 4
  let keep := on == x.enable && rate == x.rate
  firstRefusal [(src ≤ 5 && (!on || src != 0), badParam 0x5E d),
    ((boundPrograms s d).all (fun p => p.mayRun rate), badParam 0x5E d),
    (!on || (groupUnfit s d rate).isNone, badParam 0x58 (groupUnfit s d rate)),
    (!on || (clockUnfit s d rate).isNone, badParam 0x5A (clockUnfit s d rate)),
    (keep || s.aon.mode == .maintenance, stateRefused 0x5F d)]

/-- Every pending commit of domain d is dropped and reported, every pending swap answered (R60, R176). -/
def dropPending (d : Nat) (s : State) : State :=
  let s1 := (setsWhere s (fun h => (h.live || h.state == .deferred || h.state == .resync) && h.hasDomain && h.domain == d)).foldl (fun t n => discardSet n 2 t) s
  let s2 := (s1.jex.swaps.filter (fun w => w.domain == d)).foldl (fun t w =>
    dropSwap w (if w.mb = 0 then t else refuse (w.mb - 1) (stateRefused 0x3E d) t)) s1
  modJex s2 (fun j =>
    { j with
      heldChanges := j.heldChanges.filter (fun h => h.domain != d) })

/-- SYNC_OUT intervals of a domain that generates no more Bells (R66). -/
def dropSync (d : Nat) (s : State) : State :=
  modAudio s (fun a =>
    { a with
      syncOut := a.syncOut && !a.syncResv.contains (d, (dom s d).bell + 1)
      syncResv := a.syncResv.filter (fun e => e.1 != d) })

/-- Domain d disabled (R50, R60, R138): OFF, its count 0, its pages empty, its lines freed, its detectors IDLE (R257). A route
swap slot keeps what R192 clears by other events only, a copy under way goes on (R193), and an aligned group stays ARMED or
RUNNING as it is (DESIGN CHOICE, log 160: R227 does not say). -/
def disableDomain (d : Nat) (s : State) : State :=
  let s1 := dropPending d s
  let s2 := (s1.lines.filter (fun e => e.2.valid && e.2.domain == d)).foldl
    (fun t e => modLine t e.1 (fun l => { l with valid := false, put := none })) s1
  modDom (dropSync d (unclockGroups d (stopStiles d (stopDetectors d s2)))) d (fun x =>
    { x with enable := false, state := .off, bell := 0, bellRate := 0, refRate := 0, acqOk := false, edgeSeen := false,
             runEdges := none, glitchBells := [], lockRun := 0, heldRate := 0, slewRem := 0, returnedFrom := none, target := none, step := .none, commanded := false, toSynth := false,
             switchIn := none, timedOut := false, front := [], back := [], slots := [],
             route := { x.route with armed := false },
             digests := [], lateRun := 0,
             lostRefs := [] })

/-- Domain d enabled: ACQUIRE (R49). The codes its slave groups have measured are judged against its rate (R219). -/
def enableDomain (d rate src grp : Nat) (s : State) : State :=
  judgeCodes d (modDom s d (fun x =>
    { x with enable := true, rate := rate, src := src, srcGroup := grp, state := .acquire, bell := 0, acqOk := false }))

/-- A new rate code of a domain still in ACQUIRE: it replaces the old one, without R59, and the measured rate is judged
against it (R49; DESIGN CHOICE, log 99: R60 does not speak of a domain without Bells). -/
def Domain.acquireRate (x : Domain) (rate : Nat) : Domain :=
  { x with rate := rate, acqOk := x.refRate != 0 && inBand x.refRate (nominalRate rate) }

/-- DOM_CFG of domain d written with ENABLE, POLICY, RATE, SRC_GROUP and SRC of a word: the domain is enabled,
disabled, given another source, or reconfigured (R49, R60). -/
def setDomCfg (d : Nat) (w : Word) (s : State) : State :=
  let on := bit w 31
  let rate := fld w 8 3
  let src := fld w 0 4
  let grp := fld w 4 3
  let x := dom s d
  let s1 :=
    if on && x.enable then
      let t := changeSource d src grp s
      if rate = x.rate then t
      else if x.runs then startReconfig d rate true t else judgeCodes d (modDom t d (fun y => y.acquireRate rate))
    else if on then enableDomain d rate src grp s
    else judgeCodes d (modDom (if x.enable then disableDomain d s else s) d (fun y => { y with rate := rate, src := src, srcGroup := grp }))
  refreshRates (modDom s1 d (fun y => { y with policy := bit w 11, rateMask := if on then y.rateMask else 0 }))

/-- DOMAIN_CONFIG accepted. -/
def domainConfigRun (m : Nat) (s : State) : State :=
  let w := arg s m 1
  let s1 := setDomCfg (fld w 28 2) w s
  reply m [(dom s1 (fld w 28 2)).cfgWord] s1

/-- DOMAIN_CONFIG (0x40). -/
def execDomainConfig (m : Fin 8) (s : State) : Out := .next (serve 0x40 m (domainConfigChecks m) (domainConfigRun m) s)

/-! ### Writes of staged entries -/

/-- The domain of a channel's port. -/
def chanDomain (s : State) (c : Nat) : Option Nat := portDomain s (c / 16)

/-- The domains whose route copy is in progress. -/
def busyRoutes (s : State) : List Nat := (List.range 4).filter (fun d => (dom s d).routeBusy)

/-- Channels FIRST to FIRST + COUNT - 1 meet a domain whose copy is in progress (R193). -/
def chansHeld (s : State) (first count : Nat) : Bool :=
  (List.range count).any (fun i => (busyRoutes s).any (fun d =>
    chanDomain s (first + i) == some d || (dom s d).copyChans.contains (first + i)))

/-- A slot in the reserved region (0x57). -/
def slotReserved (n : Nat) : Bool := 0x1DE0 ≤ n && n ≤ 0x1DFF

/-- Count and first channel of ROUTE_INPUT_WRITE and ROUTE_OUTPUT_WRITE. -/
def mapArgs (s : State) (m : Nat) : Nat × Nat := (fld (arg s m 1) 0 9, fld (arg s m 1) 26 6)

/-- The staged input map as ROUTE_INPUT_WRITE leaves it. -/
def inputMap (s : State) (m : Nat) : Tab InEntry :=
  Tab.setRun {} s.audio.inS (mapArgs s m).1 ((args s m 2 (mapArgs s m).2).map inEntryOf)
/-- The checks of ROUTE_INPUT_WRITE; the link limits of R286 come last. -/
def routeInputChecks (m : Nat) (s : State) : Option Refuse :=
  let a := mapArgs s m
  let ws := args s m 2 a.2
  let odd := ws.findIdx? (fun w => fld w 0 27 != 0)
  let bad := ws.findIdx? (fun w => fld w 30 2 == 3 || (fld w 30 2 == 2 && bit w 29))
  firstRefusal [(odd.isNone, badParam 0xF4 (a.1 + odd.getD 0)), (a.1 + a.2 ≤ 512, badParam 0x50 a.1),
    (bad.isNone, badParam 0x52 (a.1 + bad.getD 0)), (linkFits s (inputMap s m) s.audio.stileS, badParam 0x83 a.1)]
/-- ROUTE_INPUT_WRITE carried out. -/
def routeInputNow (m : Nat) (s : State) : State :=
  reply m [0] (modAudio s (fun x => { x with inS := inputMap s m }))

/-- The checks of ROUTE_OUTPUT_WRITE. -/
def routeOutputChecks (m : Nat) (s : State) : Option Refuse :=
  let a := mapArgs s m
  let ws := args s m 2 a.2
  let odd := ws.findIdx? (fun w => fld w 13 18 != 0)
  let bad := ws.findIdx? (fun w => slotReserved (fld w 0 13))
  firstRefusal [(odd.isNone, badParam 0xF4 (a.1 + odd.getD 0)), (a.1 + a.2 ≤ 512, badParam 0x50 a.1),
    (bad.isNone, badParam 0x57 (a.1 + bad.getD 0))]
/-- ROUTE_OUTPUT_WRITE carried out. -/
def routeOutputNow (m : Nat) (s : State) : State :=
  let a := mapArgs s m
  reply m [0] (modAudio s (fun x => { x with outS := Tab.setRun {} x.outS a.1 ((args s m 2 a.2).map outEntryOf) }))

/-- A Stile's ratio lies within 0.25 to 4 at the present rates (0x53). -/
def stileFits (s : State) (c : StileCfg) : Bool :=
  let a := (dom s c.srcDom).rateNow
  let b := (dom s c.dstDom).rateNow
  a ≤ 4 * b && b ≤ 4 * a

/-- The checks of STILE_WRITE. The ratio is that of a Stile that runs: with ENABLE = 0 it is not checked (DESIGN CHOICE, log 127:
R208 names no exemption). -/
def stileWriteChecks (m : Nat) (s : State) : Option Refuse :=
  let i := fld (arg s m 1) 0 6
  let c := stileOf (arg s m 2)
  firstRefusal [(fld (arg s m 2) 13 14 == 0, badParam 0xF4 i), (!c.enable || stileFits s c, badParam 0x53 i),
    (!slotReserved c.srcSlot, badParam 0x57 i),
    (linkFits s s.audio.inS (Tab.set {} s.audio.stileS i c), badParam 0x83 i)]
/-- STILE_WRITE carried out. -/
def stileWriteNow (m : Nat) (s : State) : State :=
  reply m [0] (modAudio s (fun x => { x with stileS := Tab.set {} x.stileS (fld (arg s m 1) 0 6) (stileOf (arg s m 2)) }))

/-- Count and first channel of DETOUR_WRITE. -/
def detourArgs (s : State) (m : Nat) : Nat × Nat := (fld (arg s m 1) 0 9, fld (arg s m 1) 21 5)
/-- The entries of DETOUR_WRITE. -/
def detourEntries (s : State) (m : Nat) : List Detour :=
  (List.range (detourArgs s m).2).map (fun i => detourOf (arg s m (2 + 2 * i)) (arg s m (3 + 2 * i)))

/-- The checks of DETOUR_WRITE (R199, R208). -/
def detourWriteChecks (m : Nat) (s : State) : Option Refuse :=
  let a := detourArgs s m
  let es := detourEntries s m
  let odd := (List.range a.2).find? (fun i => fld (arg s m (2 + 2 * i)) 22 5 != 0 ||
    (arg s m (3 + 2 * i)).toNat &&& 0x0E0FFE00 != 0)
  let hold := es.findIdx? (fun x => (x.returnAuto && x.returnHold == 0) || 19 < x.ampBit)
  let far := es.zipIdx.find? (fun e => e.1.enable && !detourFits s (a.1 + e.2) e.1)
  firstRefusal [(odd.isNone, badParam 0xF4 (a.1 + odd.getD 0)), (a.1 + a.2 ≤ 512, badParam 0x50 a.1), (hold.isNone, badParam 0x50 (a.1 + hold.getD 0)),
    (far.isNone, badParam 0x51 (a.1 + (far.map (·.2)).getD 0))]
/-- DETOUR_WRITE carried out. -/
def detourWriteNow (m : Nat) (s : State) : State :=
  reply m [0] (modAudio s (fun x => { x with detS := Tab.setRun {} x.detS (detourArgs s m).1 (detourEntries s m) }))

/-! ### ROUTE_SWAP -/

/-- Domain of a ROUTE_SWAP. -/
def swapDomain (s : State) (m : Nat) : Nat := fld (arg s m 1) 28 2

/-- What ROUTE_SWAP asks for, accepted `since` ps after the domain's latest Bell: whether its Bell meets the lead, and the Bell
(R171, R181, R193). -/
def swapAsked (s : State) (m since : Nat) : HeldSwap :=
  let d := swapDomain s m
  let next := bit (arg s m 1) 31
  let b := bellOf (fld (arg s m 1) 0 16) (arg s m 2).toNat
  let nb := statedBell s d since next b
  { ok := if next then (dom s d).runs else bellAllowed s d b (leadPs s) since, next := nb.1, bell := nb.2 }
/-- The checks of ROUTE_SWAP. -/
def routeSwapChecks (m : Nat) (h : HeldSwap) (s : State) : Option Refuse :=
  firstRefusal [(h.ok, badParam 0x54), (!(dom s (swapDomain s m)).route.armed, busyRefused 0x55)]
/-- ROUTE_SWAP carried out (R192, R193). -/
def routeSwapNow (m : Nat) (h : HeldSwap) (s : State) : State :=
  let d := swapDomain s m
  let b := if h.next then (dom s d).bell + 1 else h.bell
  reply m [wrd (d * 268435456), wrd (bellHi b), bellLo b]
    (sendRecord d 2 [wrd (bellHi b), bellLo b] (modDom s d (fun x => { x with route := x.route.arm h.next b x.bell })))

/-! ### DETOUR_CONTROL -/

/-- Channel and action of DETOUR_CONTROL. -/
def controlArgs (s : State) (m : Nat) : Nat × Nat := (fld (arg s m 1) 0 9, fld (arg s m 1) 30 2)
/-- The checks of DETOUR_CONTROL (R202, R208). -/
def detourControlChecks (m : Nat) (s : State) : Option Refuse :=
  let a := controlArgs s m
  firstRefusal [(a.2 < 2, badParam 0x50 a.1), (a.2 == 1 || !detourWatched s a.1 || detourTrigs s a.1 == 0, badParam 0x50 a.1)]
/-- DETOUR_CONTROL carried out: action 7 of the next Bell of the channel's domain makes it and gives the
reply; of two before that Bell the later counts; a channel whose port has no domain has no Bell, and its command waits for one (DEDUCED, log 94). -/
def detourControlNow (m : Nat) (s : State) : State :=
  let a := controlArgs s m
  modDetour s a.1 (fun y => if a.2 = 1 then { y with forced := true, returning := false } else { y with returning := true })
/-- The replies of DETOUR_CONTROL commands on channels of domain d, after its action 7. -/
def detourReplies (d : Nat) (s : State) : State :=
  (acceptedMbs s).foldl (fun t m =>
    let o := (controlArgs t m).1
    if cmdOp t m = 0x46 ∧ ¬ t.jex.held.contains m ∧ chanDomain t o = some d then
      reply m [(Tab.get {} t.audio.detStat o).word] t
    else t) s

/-! ### ROUTE_STATUS -/

/-- Bits of a list of indices that satisfy c, the first at bit 0. -/
def bitsOf (l : List Nat) (c : Nat → Bool) : Nat := ofBits (l.map c)
/-- The 32 indices from n. -/
def from32 (n : Nat) : List Nat := (List.range 32).map (n + ·)

/-- The words of ROUTE_STATUS for port p. -/
def routeWords (s : State) (p : Nat) : List Word :=
  let cs := (List.range 16).map (16 * p + ·)
  let det := fun o => Tab.get {} s.audio.detStat o
  let r := match portDomain s p with | some d => (dom s d).route | none => {}
  [r.ctl, bellLo r.bell, wrd (bitsOf cs (fun c => (inChan s c).concealed) + 65536 * bitsOf cs (fun o => (det o).detoured))] ++
    (List.range 4).map (fun i => pack ((List.range 4).map (fun j => (fld (det (16 * p + 4 * i + j)).word 24 8, 8 * j)))) ++
    [wrd (bitsOf (from32 0) (fun i => (stileStat s i).tracking)), wrd (bitsOf (from32 32) (fun i => (stileStat s i).tracking)),
     wrd (bitsOf (from32 0) (fun i => (stileStat s i).slip)), wrd (bitsOf (from32 32) (fun i => (stileStat s i).slip)), 0, 0, 0, 0]

/-! ### Holding during a copy (R193) -/

/-- A route command that meets a domain whose copy is in progress. -/
def routeHeld (s : State) (m : Nat) : Bool :=
  match cmdOp s m with
  | 0x41 => chansHeld s (mapArgs s m).1 (mapArgs s m).2
  | 0x42 => chansHeld s (mapArgs s m).1 (mapArgs s m).2
  | 0x43 => (busyRoutes s).any (fun d => (stileOf (arg s m 2)).dstDom == d || (stileOf (arg s m 2)).srcDom == d ||
      (domStiles s d).contains (fld (arg s m 1) 0 6))
  | 0x44 => chansHeld s (detourArgs s m).1 (detourArgs s m).2
  | 0x45 => (busyRoutes s).contains (swapDomain s m)
  | 0x46 => chansHeld s (controlArgs s m).1 1
  | 0x47 => chansHeld s (16 * fld (arg s m 1) 0 5) 16
  | _ => false

/-- A route command checked and carried out, a ROUTE_SWAP as h has it. -/
def routeNow (m : Nat) (h : HeldSwap) (s : State) : State :=
  let go : Option Refuse → (State → State) → State := fun r f => match r with | some x => refuse m x s | none => f s
  match cmdOp s m with
  | 0x41 => go (routeInputChecks m s) (routeInputNow m)
  | 0x42 => go (routeOutputChecks m s) (routeOutputNow m)
  | 0x43 => go (stileWriteChecks m s) (stileWriteNow m)
  | 0x44 => go (detourWriteChecks m s) (detourWriteNow m)
  | 0x45 => go (routeSwapChecks m h s) (routeSwapNow m h)
  | 0x47 => reply m (routeWords s (fld (arg s m 1) 0 5)) s
  | _ => go (detourControlChecks m s) (detourControlNow m)

/-- A route command accepted: held while a copy in its domain is in progress; a ROUTE_SWAP keeps the Bell it asked for at its
acceptance, from which the lead counts (R171, R193). -/
def routeRun (m since : Nat) (s : State) : State :=
  if routeHeld s m then modJex s (fun j =>
    { j with held := j.held ++ [m], heldSwaps := Tab.set {} j.heldSwaps m (if cmdOp s m = 0x45 then swapAsked s m since else {}) })
  else routeNow m (swapAsked s m since) s

/-- ROUTE_INPUT_WRITE (0x41). -/
def execRouteInputWrite (m : Fin 8) (s : State) : Out := .next (serve 0x41 m noChecks (routeRun m 0) s)
/-- ROUTE_OUTPUT_WRITE (0x42). -/
def execRouteOutputWrite (m : Fin 8) (s : State) : Out := .next (serve 0x42 m noChecks (routeRun m 0) s)
/-- STILE_WRITE (0x43). -/
def execStileWrite (m : Fin 8) (s : State) : Out := .next (serve 0x43 m noChecks (routeRun m 0) s)
/-- DETOUR_WRITE (0x44). -/
def execDetourWrite (m : Fin 8) (s : State) : Out := .next (serve 0x44 m noChecks (routeRun m 0) s)
/-- ROUTE_SWAP (0x45). -/
def execRouteSwap (m : Fin 8) (since : Nat) (s : State) : Out := .next (serve 0x45 m noChecks (routeRun m since) s)
/-- DETOUR_CONTROL (0x46). -/
def execDetourControl (m : Fin 8) (s : State) : Out := .next (serve 0x46 m noChecks (routeRun m 0) s)

/-- The staged copies that a swap of domain d has exchanged equal the active ones (R193). -/
def routeCopy (d : Nat) (s : State) : State :=
  let cs := (dom s d).copyChans
  let st := (dom s d).copyStiles
  modAudio s (fun a =>
    { a with
      inS := cs.foldl (fun t c => Tab.set {} t c (Tab.get {} a.inA c)) a.inS
      outS := cs.foldl (fun t c => Tab.set {} t c (Tab.get {} a.outA c)) a.outS
      detS := cs.foldl (fun t c => Tab.set {} t c (Tab.get {} a.detA c)) a.detS
      stileS := st.foldl (fun t i => Tab.set {} t i (Tab.get {} a.stileA i)) a.stileS })

/-- ROUTE_COPY_DONE (R193): held route commands are then carried out. -/
def execRouteCopyDone (d : Fin 4) (s : State) : Out :=
  if jexOn s ∧ (dom s d).routeBusy then
    let s1 := modDom (routeCopy d s) d (fun x => { x with routeBusy := false, copyChans := [], copyStiles := [] })
    let isRoute := fun m => 0x41 ≤ cmdOp s1 m && cmdOp s1 m ≤ 0x47
    let go := s1.jex.held.filter (fun m => isRoute m && !routeHeld s1 m)
    .next (go.foldl (fun t m => routeNow m (Tab.get {} s1.jex.heldSwaps m) t)
      (modJex s1 (fun j => { j with held := j.held.filter (fun m => !go.contains m) })))
  else .next s

/-- ROUTE_STATUS (0x47). -/
def execRouteStatus (m : Fin 8) (s : State) : Out := .next (serve 0x47 m noChecks (routeRun m 0) s)

end Sys2Proof.Machine
end

