-- ==== Sys2Proof/Machine/CmdVigil.lean ====
section
/-! DEFINITION. The Vigil commands VIGIL_PLAN_WRITE to VIGIL_BASELINE_ACCEPT (R246 to R254, R261, R262,
R450). -/

namespace Sys2Proof.Machine

/-- A campaign runs, is armed or is ending. -/
def vigilBusy (s : State) : Bool := s.vigil.state != .idle || s.vigil.step != 0

/-- The plan after a segment (R450). -/
def planAfter (m : Nat) (s : State) : State :=
  let w := arg s m 1
  let off := fld w 0 12
  let n := cmdLen s m - 2
  modVigil s (fun v =>
    let p := if bit w 31 then [] else v.plan
    { v with
      plan := Tab.setRun 0 p off (args s m 2 n)
      planLen := Nat.max (if bit w 31 then 0 else v.planLen) (off + n)
      planLast := bit w 30 || (!bit w 31 && v.planLast) })

/-- The bits of plan word i that have a field (R450). -/
def planMask (i : Nat) : Nat :=
  if i < 16 then [0xFFFFFFFF, 0x300FFFFF, 0xFFFFFFFF, 0xFFFFFFFF, 0xFFFFFFFF, 0xFFFF, 0x1FF, 0xFFFFFFFF].getD i 0
  else if i < 80 then 0x3F3F3F3F
  else if i < 112 then 0xFFF8FFFF
  else [0x3FFF, 0xFFFFFFFF, 0xFFFFFFFF, 0xFFFFFFFF, 0x3FFFFFF, 0xFFFFFFFF, 0xFFFFF, 0xFFFF].getD ((i - 112) % 8) 0
/-- The reserved bits of the plan words of a segment are 0. -/
def planBitsOk (m : Nat) (s : State) : Bool :=
  (args s m 2 (cmdLen s m - 2)).zipIdx.all (fun e => e.1.toNat &&& (0xFFFFFFFF - planMask (fld (arg s m 1) 0 12 + e.2)) == 0)
/-- The checks of VIGIL_PLAN_WRITE: a plan that LAST completes lies within R246. -/
def planWriteChecks (m : Nat) (s : State) : Option Refuse :=
  let t := planAfter m s
  firstRefusal [(planBitsOk m s, badParam 0xF4), (!vigilBusy s, busyRefused 0x74), (fld (arg s m 1) 0 12 + (cmdLen s m - 2) ≤ 2160, badParam 0x70),
    (!bit (arg s m 1) 30 || planOk t, badParam 0x70 (failingZone t (entryOk t)))]
/-- VIGIL_PLAN_WRITE accepted. -/
def planWriteRun (m : Nat) (s : State) : State :=
  let t := planAfter m s
  reply m [wrd t.vigil.planLen] t
/-- VIGIL_PLAN_WRITE (0x70). -/
def execVigilPlanWrite (m : Fin 8) (s : State) : Out := .next (serve 0x70 m (planWriteChecks m) (planWriteRun m) s)

/-- The check of VIGIL_PLAN_READ. -/
def planReadChecks (m : Nat) (s : State) : Option Refuse :=
  let n := fld (arg s m 1) 16 8
  if 1 ≤ n ∧ n ≤ 60 ∧ fld (arg s m 1) 0 12 + n ≤ 2160 then none else some (badParam 0x70)
/-- VIGIL_PLAN_READ accepted. -/
def planReadRun (m : Nat) (s : State) : State :=
  let w := arg s m 1
  reply m (w :: (List.range (fld w 16 8)).map (fun i => planWord s (fld w 0 12 + i))) s
/-- VIGIL_PLAN_READ (0x71). -/
def execVigilPlanRead (m : Fin 8) (s : State) : Out := .next (serve 0x71 m (planReadChecks m) (planReadRun m) s)

/-- VIGIL_START accepted: armed for START_TIME (R248), or the Tally leave is asked for (R247). -/
def vigilStartRun (m : Nat) (s : State) : State :=
  if planStart s = 0 then
    vigilSettle (requestLeave 7 0 (modVigil s (fun v => { v with step := 1, mb := m + 1 })))
  else
    let t := newCampaign .armed 0 s
    reply m (startWords t) t
/-- VIGIL_START (0x72). -/
def execVigilStart (m : Fin 8) (s : State) : Out :=
  .next (serve 0x72 m (fun t => startRefusal t false (!vigilBusy t)) (vigilStartRun m) s)

/-- VIGIL_ABORT accepted: an armed campaign is cancelled, a running one ends (R248, R251), and a start that waits for its leave
is discarded (R36). -/
def vigilAbortRun (m since : Nat) (s : State) : State :=
  let t := reply m [0] s
  match s.vigil.state, s.vigil.step with
  | .armed, 0 => modVigil t (fun v => { v with state := .idle, zones := [] })
  | .armed, _ => releaseLeave 7 0 (modVigil t (fun v => { v with state := .idle, step := 0, zones := [] }))
  | _, 1 => dropStart t 0xF6
  | .running, _ => vigilSettle (abortCampaign (firstBell t (planDomain t) since) t)
  | _, _ => t
/-- VIGIL_ABORT (0x73). -/
def execVigilAbort (m : Fin 8) (since : Nat) (s : State) : Out := .next (serve 0x73 m noChecks (vigilAbortRun m since) s)

/-- State code of VIGIL_STATUS. -/
def VState.code : VState → Nat
  | .idle => 0 | .running => 1 | .restoring => 2 | .armed => 3
/-- The words of VIGIL_STATUS. -/
def vigilWords (s : State) : List Word :=
  let v := s.vigil
  let left := (v.zones.filter (fun z => z.verdict == 7)).map (fun z => entrySecs s z.entry)
  [pack [(v.campaign, 0), (v.round, 8), (v.state.code, 14)],
   wrd ((v.zones.filter (fun z => z.verdict != 7)).length + 65536 * v.zones.length),
   wrd v.pass, wrd v.fail, wrd v.inconc, wrd v.abort, wrd v.notRun, wrd (v.zones.filter (·.retry)).length,
   wrd left.sum, wrd v.failDetail, 0, 0, 0, 0, 0]
/-- VIGIL_STATUS accepted. -/
def vigilStatusRun (m : Nat) (s : State) : State := reply m (vigilWords s) s
/-- VIGIL_STATUS (0x74). -/
def execVigilStatus (m : Fin 8) (s : State) : Out := .next (serve 0x74 m noChecks (vigilStatusRun m) s)

/-- The record that w1 names among the latest 4096, 0 the latest. -/
def namedRecord (s : State) (m : Nat) : Option VRecord := s.vigil.results[fld (arg s m 1) 0 12]?
/-- The check of VIGIL_RESULT_READ. -/
def resultReadChecks (m : Nat) (s : State) : Option Refuse :=
  if (namedRecord s m).isSome then none else some (badParam 0x76)
/-- VIGIL_RESULT_READ accepted: the 19 words of the record. -/
def resultReadRun (m : Nat) (s : State) : State :=
  match namedRecord s m with
  | some r => reply m (pack [(fld (arg s m 1) 0 12, 0), (Nat.min 4095 s.vigil.results.length, 16)] :: padWords 19 r.words) s
  | none => s
/-- VIGIL_RESULT_READ (0x75). -/
def execVigilResultRead (m : Fin 8) (s : State) : Out := .next (serve 0x75 m (resultReadChecks m) (resultReadRun m) s)

/-- Zone and microphone of a baseline command. -/
def baseArgs (s : State) (m : Nat) : Nat × Nat := (fld (arg s m 1) 0 8, fld (arg s m 1) 8 8)
/-- The check of VIGIL_BASELINE_READ. -/
def baselineReadChecks (m : Nat) (s : State) : Option Refuse :=
  let a := baseArgs s m
  if a.2 < 8 ∧ (baselineOf s a.1 a.2).isSome then none else some (badParam 0x76 a.1)
/-- VIGIL_BASELINE_READ accepted: the 19 words of the baseline. -/
def baselineReadRun (m : Nat) (s : State) : State :=
  let a := baseArgs s m
  reply m (pack [(8 * a.1 + a.2, 0), (s.vigil.baselines.length, 16)] :: padWords 19 ((baselineOf s a.1 a.2).getD [])) s
/-- VIGIL_BASELINE_READ (0x76). -/
def execVigilBaselineRead (m : Fin 8) (s : State) : Out := .next (serve 0x76 m (baselineReadChecks m) (baselineReadRun m) s)

/-- A record acceptable as a baseline (R254): IS_BASELINE, a measured verdict, DECAY_LOW clear. -/
def acceptable (ws : List Word) : Bool :=
  bit (ws.headD 0) 8 && fld (ws.headD 0) 28 4 < 3 && !bit (ws.getD 1 0) 4

/-- The baseline write of a command: its place and record. -/
def baselineWork (s : State) (m : Nat) : Nat × VRecord :=
  if cmdOp s m = 0x77 then (8 * (baseArgs s m).1 + (baseArgs s m).2, { words := args s m 2 19 })
  else
    let r := (namedRecord s m).getD {}
    (8 * fld (r.words.headD 0) 16 8 + fld (r.words.headD 0) 24 4, r)
/-- The check of VIGIL_BASELINE_WRITE. -/
def baselineWriteChecks (m : Nat) (s : State) : Option Refuse :=
  firstRefusal [(decide ((baseArgs s m).2 < 8) && acceptable (args s m 2 19), badParam 0x76 (baseArgs s m).1),
    (baselineRoom s, flashRefusal 0x77)]
/-- The check of VIGIL_BASELINE_ACCEPT. -/
def baselineAcceptChecks (m : Nat) (s : State) : Option Refuse :=
  match namedRecord s m with
  | some r => firstRefusal [(acceptable r.words, badParam 0x76 (fld (r.words.headD 0) 16 8)), (baselineRoom s, flashRefusal 0x78)]
  | none => some (badParam 0x76)
/-- A baseline command accepted: the record it names is taken now, and its flash write asks for leave (R254, R484). -/
def baselineRun (m : Nat) (s : State) : State :=
  startFlash { sel := 0, mb := m + 1, cls := 3, steps := baselineSteps s (baselineWork s m).1, work := .cmd m }
    (modVigil s (fun v => { v with accepting := Tab.set (0, {}) v.accepting m (baselineWork s m) }))
/-- VIGIL_BASELINE_WRITE (0x77). -/
def execVigilBaselineWrite (m : Fin 8) (s : State) : Out := .next (serve 0x77 m (baselineWriteChecks m) (baselineRun m) s)
/-- VIGIL_BASELINE_ACCEPT (0x78). -/
def execVigilBaselineAccept (m : Fin 8) (s : State) : Out := .next (serve 0x78 m (baselineAcceptChecks m) (baselineRun m) s)

/-- The write of a baseline ended (R484). -/
def baselineDone (m : Nat) (s : State) : State :=
  let w := Tab.get (0, {}) s.vigil.accepting m
  modVigil s (fun v => { v with baselines := Tab.set {} v.baselines w.1 w.2, accepting := Tab.del v.accepting m, journal := none })
/-- The rewrite completed at a start (R484). -/
def journalDone (s : State) : State :=
  modVigil s (fun v => match v.journal with
    | some j => { v with baselines := Tab.set {} v.baselines j.1 j.2, journal := none }
    | none => v)

end Sys2Proof.Machine
end

