-- ==== Sys2Proof/Machine/Steward.lean ====
section
/-! DEFINITION. The Steward (R380 to R393): task slots, event flags and waits, the choice of a task,
pre-emption and quantum, the delay list, the message queues, the port operations and the trace. A
pre-emption is completed at once (log 25). -/

namespace Sys2Proof.Machine

/-! ### Slots, queues, ports -/

/-- Task slot t. -/
def tslot (s : State) (t : Nat) : TaskSlot := Tab.get {} s.stew.slots t
/-- Task slot t passed through f. -/
def modTslot (s : State) (t : Nat) (f : TaskSlot → TaskSlot) : State :=
  modStew s (fun w => { w with slots := Tab.mod {} w.slots t f })
/-- Queue n. -/
def squeue (s : State) (n : Nat) : SQueue := Tab.get {} s.stew.queues n
/-- Queue n passed through f. -/
def modSqueue (s : State) (n : Nat) (f : SQueue → SQueue) : State :=
  modStew s (fun w => { w with queues := Tab.mod {} w.queues n f })
/-- Steward port of Reeve r. -/
def sport (s : State) (r : Nat) : StPort := Tab.get {} s.stew.ports r
/-- Steward port of Reeve r passed through f. -/
def modSport (s : State) (r : Nat) (f : StPort → StPort) : State :=
  modStew s (fun w => { w with ports := Tab.mod {} w.ports r f })
/-- GROUP_WEIGHT of group g (R384). -/
def groupWeight (s : State) (g : Nat) : Nat := Tab.get 0 s.stew.weights g + 1
/-- The group a slot counts in: a write of GROUP takes effect at the next dispatch (R381). -/
def TaskSlot.groupNow (k : TaskSlot) : Nat := if k.state = .running then k.runGroup else k.group
/-- Its priority, likewise (R381). -/
def TaskSlot.prioNow (k : TaskSlot) : Nat := if k.state = .running then k.runPrio else k.prio
/-- Entries of a queue. -/
def SQueue.fill (x : SQueue) : Nat := x.entries.length

/-- STATE of TASK_CFG (R381). -/
def TState.code : TState → Nat
  | .free => 0 | .ready => 1 | .running => 2 | .waiting => 3 | .delayed => 4 | .suspended => 5

/-- The installed task that holds Steward slot t. -/
def taskAt (s : State) (t : Nat) : Option Task :=
  if t < 192 then none else (s.jex.tasks.find? (fun e => e.2.slot == t && e.2.state == 1)).map (·.2)

/-- Queue n is lent to the task in slot t (R376). -/
def lentQueue (s : State) (t n : Nat) : Bool := (taskAt s t).any (fun k => k.queues.getLsbD n)

/-! ### Trace (R392, R393) -/

/-- A trace record (R392). -/
def traceWord (kind : Nat) (byDma : Bool) (r task other cause group : Nat) (time : Word) : BitVec 64 :=
  BitVec.ofNat 64 (kind * 2 ^ 61 + b2n byDma * 2 ^ 60 + r * 2 ^ 58 + task * 2 ^ 50 + other * 2 ^ 42
    + cause * 2 ^ 37 + group * 2 ^ 34 + time.toNat)

/-- A decision recorded in the trace ring. -/
def traceRec (kind : Nat) (byDma : Bool) (r task other cause : Nat) (s : State) : State :=
  let w := s.stew
  if w.trEnable && !w.trFreeze && w.trKinds.getLsbD kind then
    s.setStew { w with
      trace := Tab.set 0 w.trace w.trNext (traceWord kind byDma r task other cause (tslot s task).groupNow (timeStamp s))
      trSince := Nat.min 4096 (w.trSince + 1)
      trWrapped := w.trWrapped || 4095 ≤ w.trSince
      trNext := (w.trNext + 1) % 4096 }
  else s

/-! ### Choosing a task (R383 to R385) -/

/-- Reeve r takes tasks from the Steward. -/
def stReeve (s : State) (r : Nat) : Bool := (reeve s r).run == .running
/-- The task in slot t may run on Reeve r. -/
def eligible (s : State) (r t : Nat) : Bool := (tslot s t).affinity.getLsbD r
/-- Rank of slot t: its priority in group 0, below all of them in groups 1 to 7 (R383, R385). -/
def taskRank (s : State) (t : Nat) : Nat := if (tslot s t).groupNow = 0 then (tslot s t).prioNow else 32

/-- The READY slots eligible for Reeve r that satisfy p, in order. -/
def readyFor (s : State) (r : Nat) (p : TaskSlot → Bool) : List Nat :=
  s.stew.ready.filter (fun t => eligible s r t && p (tslot s t))

/-- The first slot of a list with the lowest rank. -/
def bestOf (s : State) : List Nat → Option Nat
  | [] => none
  | t :: l => match bestOf s l with
    | some u => if taskRank s u < taskRank s t then some u else some t
    | none => some t

/-- Groups 1 to 7 starting after last_charged, wrapping (R384). -/
def groupOrder (last : Nat) : List Nat := (List.range 7).map (fun i => (last + i) % 7 + 1)

/-- One pass of select_lower: the first group with credit and a READY task eligible for r. -/
def lowerPass (s : State) (r : Nat) : Option (Nat × Nat) :=
  (groupOrder s.stew.lastCharged).findSome? (fun g =>
    if Tab.get 0 s.stew.credits g = 0 then none
    else ((readyFor s r (fun k => k.group == g)).head?).map (fun t => (g, t)))

/-- Every credit reloaded: a new round. -/
def newRound (s : State) : State :=
  modStew s (fun w => { w with credits := (List.range 7).foldl (fun c i => Tab.set 0 c (i + 1) (groupWeight s (i + 1))) w.credits })

/-- The group is charged, unless the task was pre-empted and is redispatched (R385). -/
def chargeGroup (g t : Nat) (s : State) : State :=
  if (tslot s t).noCharge then s
  else modStew s (fun w => { w with credits := Tab.mod 0 w.credits g (· - 1), lastCharged := g })

/-- The choice for Reeve r (R383, R384), with the credits charged; none: the Reeve idles. -/
def selectTask (r : Nat) (s : State) : State × Option Nat :=
  match bestOf s (readyFor s r (fun k => k.group == 0)) with
  | some t => (s, some t)
  | none =>
    match lowerPass s r with
    | some (g, t) => (chargeGroup g t s, some t)
    | none =>
      let n := newRound s
      match lowerPass n r with
      | some (g, t) => (chargeGroup g t n, some t)
      | none => (n, none)

/-- The protection regions the task kernel loads for the task in slot t (R376): a Reeve has eight (R371), so that of
more Noticeboard pages only the first fit (DESIGN CHOICE, log 149); only the local partition below the stack may be
executed. -/
def taskRegions (s : State) (t : Nat) : List Region :=
  match taskAt s t with
  | none => []
  | some k =>
    ([{ base := k.localBase, len := k.localLen, rd := true, wr := true, exec := k.localLen - k.stackLen },
     { base := 0x10300000 + k.arenaBase, len := k.arenaLen, rd := true, wr := true },
     { base := 0x24000000, len := 0x1C, rd := true, wr := true }] ++
    k.chans.map (fun c => { base := 0x25000000 + 0x20 * c, len := 0x20, rd := true, wr := true }) ++
    ((List.range 128).filter (fun q => k.nbQuerns.getLsbD q)).map
      (fun q => { base := 0x21000000 + 0x400 * q, len := 0x300, rd := true, wr := false }) : List Region).take 8

/-- What the dispatched task finds in its port (R391). -/
def StPort.woken (p : StPort) (t : Nat) (wake : Option (Nat × Word)) : StPort :=
  match wake with
  | some (st, fl) => { p with current := t, status := st, fill := 0, data0 := fl, data1 := 0 }
  | none => { p with current := t }

/-- Task t dispatched to Reeve r, which ran slot old before. -/
def dispatchTo (r t old : Nat) (s : State) : State :=
  let k := tslot s t
  let s1 := modStew s (fun w =>
    { w with
      ready := w.ready.filter (· != t)
      slots := Tab.mod {} w.slots t (fun x =>
        { x with state := .running, runOn := r, runGroup := x.group, runPrio := x.prio, wake := none, ran := 0, noCharge := false })
      ports := Tab.mod {} w.ports r (fun p => p.woken t k.wake) })
  traceRec 0 false r t old 0
    (modReeve s1 r (fun x => { x with user := decide (192 ≤ t), regions := taskRegions s t }))

/-- Reeve r, which ran slot old, takes its next task or idles. -/
def dispatch (r old : Nat) (s : State) : State :=
  let s0 := modReeve (modSport s r (fun p => { p with current := 0 })) r (fun x => { x with user := false, regions := [] })
  if stReeve s r then
    match selectTask r s0 with
    | (s1, some t) => dispatchTo r t old s1
    | (s1, none) => s1
  else s0

/-- The Reeves that can take the task in slot t. -/
def reevesFor (s : State) (t : Nat) : List Nat := (List.range 4).filter (fun r => stReeve s r && eligible s r t)

/-- The lowest-ranked running task that slot t outranks: its Reeve, the lowest number on a tie (R385). -/
def victimFor (s : State) (t : Nat) : Option Nat :=
  (reevesFor s t).foldl (fun best r =>
    if taskRank s t < taskRank s (sport s r).current then
      match best with
      | some b => if taskRank s (sport s b).current < taskRank s (sport s r).current then some r else some b
      | none => some r
    else best) none

/-- The task on Reeve r is pre-empted by slot t: it goes to the head of its ready queue (R385). -/
def preempt (r t : Nat) (s : State) : State :=
  let v := (sport s r).current
  let s1 := traceRec 1 false r t v 0 s
  dispatch r v (modStew s1 (fun w =>
    { w with
      ready := v :: w.ready
      slots := Tab.mod {} w.slots v (fun x => { x with state := .ready, noCharge := true }) }))

/-- A slot that has become READY finds an idle eligible Reeve, or pre-empts one; so does the task it pre-empted, in at most n
steps (R385). -/
def placeIn : Nat → Nat → State → State
  | 0, _, s => s
  | n + 1, t, s =>
    match (reevesFor s t).find? (fun r => (sport s r).current == 0) with
    | some r => dispatch r 0 s
    | none => match victimFor s t with
      | some r => placeIn n (sport s r).current (preempt r t s)
      | none => s
/-- A READY slot is placed: every task pre-empted outranks the next, so that each Reeve is taken once at most. -/
def place (t : Nat) (s : State) : State := if (tslot s t).state = .ready then placeIn 5 t s else s

/-- Slot t becomes READY at the tail of its queue, with what it wakes with and the cause of the WAKE
record. -/
def makeReady (t cause : Nat) (wake : Option (Nat × Word)) (s : State) : State :=
  place t (traceRec 3 false 0 t 0 cause (modStew s (fun w =>
    { w with
      ready := w.ready.filter (· != t) ++ [t]
      delays := w.delays.filter (· != t)
      slots := Tab.mod {} w.slots t (fun x => { x with state := .ready, wake := wake, noCharge := false }) })))

/-! ### Flags and waits (R382) -/

/-- The condition of a wait. -/
def waitMet (all : Bool) (mask flags : Word) : Bool := if all then flags &&& mask == mask else flags &&& mask != 0

/-- The flags of slot t become fl; a WAITING task whose condition then holds wakes (R382). -/
def putFlags (t : Nat) (fl : Word) (s : State) : State :=
  let k := tslot s t
  if k.state = .waiting ∧ waitMet k.modeAll k.mask fl = true then
    makeReady t 0 (some (6, fl &&& k.mask)) (modTslot s t (fun x => { x with flags := fl &&& ~~~ k.mask }))
  else modTslot s t (fun x => { x with flags := fl })
/-- Flags set in slot t, which is not FREE (R382). -/
def setFlags (t : Nat) (f : Word) (s : State) : State :=
  if (tslot s t).state = .free then s else putFlags t ((tslot s t).flags ||| f) s

/-- Ticks until a slot's EXPIRY, counted from the tick at which its delay or timeout began; 0 once it has come. -/
def ticksLeft (s : State) (t : Nat) : Nat :=
  let k := tslot s t
  (k.expiry + 4294967296 - k.begun) % 4294967296 - (s.aon.tick + 4294967296 - k.begun) % 4294967296
/-- EXPIRY has been reached. -/
def expired (s : State) (t : Nat) : Bool := ticksLeft s t == 0
/-- A slot put on the delay list by EXPIRY, behind its equals (R386). -/
def insertDelay (s : State) (t : Nat) : List Nat → List Nat
  | [] => [t]
  | u :: l => if ticksLeft s t < ticksLeft s u then t :: u :: l else u :: insertDelay s t l

/-- Slot t goes on the delay list for n ticks. -/
def putDelay (t n : Nat) (s : State) : State :=
  let s1 := modTslot s t (fun x => { x with expiry := (s.aon.tick + n) % 4294967296, begun := s.aon.tick })
  modStew s1 (fun w => { w with delays := insertDelay s1 t w.delays })

/-! ### Port operations (R387, R390, R391) -/

/-- The slot dispatched to Reeve r. -/
def current (s : State) (r : Nat) : Nat := (sport s r).current
/-- Result of an operation on Reeve r's port. -/
def stResult (r st fill : Nat) (s : State) : State := modSport s r (fun p => { p with status := st, fill := fill })
/-- The operands written before ST_OP. -/
def stArgs (r : Nat) (a b : Word) (s : State) : State := modSport s r (fun p => { p with arg0 := a, arg1 := b })

/-- SET_FLAGS. -/
def opSetFlags (r t : Nat) (f : Word) (s : State) : State :=
  if (reeve s r).user && t < 192 then stResult r 4 0 s
  else if t = 0 ∨ 255 < t ∨ (tslot s t).state = .free then stResult r 3 0 s
  else setFlags t f (stResult r 0 0 s)

/-- The task on Reeve r blocks: BLOCK with its cause, and the Reeve takes its next task. -/
def blockOn (r cause : Nat) (f : TaskSlot → TaskSlot) (s : State) : State :=
  let t := current s r
  dispatch r t (traceRec 2 false r t 0 cause (modTslot s t f))

/-- WAIT. -/
def opWait (r : Nat) (mask : Word) (all : Bool) (timeout : Nat) (s : State) : State :=
  let t := current s r
  let k := tslot s t
  if t = 0 then stResult r 3 0 s
  else if mask = 0 then stResult r 5 0 s
  else if waitMet all mask k.flags = true then
    modSport (modTslot s t (fun x => { x with flags := k.flags &&& ~~~ mask })) r
      (fun p => { p with status := 6, fill := 0, data0 := k.flags &&& mask })
  else
    blockOn r 0 (fun x => { x with state := .waiting, mask := mask, modeAll := all })
      (if timeout = 0 then s else putDelay t timeout s)

/-- DELAY; n outside 1 to 16,777,215 is BAD_OP (DESIGN CHOICE, log 25). -/
def opDelay (r n : Nat) (s : State) : State :=
  let t := current s r
  if t = 0 then stResult r 3 0 s
  else if n = 0 ∨ 16777215 < n then stResult r 5 0 s
  else blockOn r 1 (fun x => { x with state := .delayed }) (putDelay t n s)

/-- The task on Reeve r goes to the tail of its ready queue (YIELD, quantum); READY again, it may find another Reeve (R385). -/
def requeue (r cause : Nat) (wake : Option (Nat × Word)) (s : State) : State :=
  let t := current s r
  place t (blockOn r cause (fun x => { x with state := .ready, wake := wake, noCharge := false })
    (modStew s (fun w => { w with ready := w.ready ++ [t] })))

/-- YIELD. -/
def opYield (r : Nat) (s : State) : State :=
  if current s r = 0 then stResult r 3 0 s else requeue r 2 (some (0, 0)) s

/-- An accepted or refused post to an enabled queue (R387, R392). -/
def queuePost (n : Nat) (entry : BitVec 64) (byDma : Bool) (r who cause : Nat) (s : State) : State :=
  let x := squeue s n
  if 16 ≤ x.fill then
    traceRec 4 byDma r who n cause (modSqueue s n (fun q => { q with refused := satAdd q.refused 1 16 }))
  else
    let s1 := modSqueue s n (fun q => { q with entries := q.entries ++ [entry], posted := (q.posted + 1) % 65536 })
    if x.consumer = 0 then s1 else setFlags x.consumer (BitVec.ofNat 32 (2 ^ x.cFlag)) s1

/-- POST; a task's request to queue 47 names its own slot (R387, R463). -/
def opPost (r n : Nat) (entry : BitVec 64) (s : State) : State :=
  let t := current s r
  let x := squeue s n
  let foreign := n == 47 && (entry >>> 48).toNat % 256 != t
  if !x.enable || ((reeve s r).user && (foreign || (n != 47 && !lentQueue s t n))) then stResult r 4 0 s
  else if 16 ≤ x.fill then queuePost n entry false r t 0 (stResult r 1 x.fill s)
  else queuePost n entry false r t 0 (stResult r 0 (x.fill + 1) s)

/-- Replies to extension requests that wait for room in queue n are posted (R463). -/
def flushReplies (n : Nat) (s : State) : State :=
  match s.jex.extWait.find? (fun e => e.1 == n) with
  | some e =>
    if (squeue s n).enable && (squeue s n).fill < 16 then
      queuePost n e.2 false 0 0 0 (modJex s (fun j => { j with extWait := j.extWait.erase e }))
    else s
  | none => s

/-- The oldest entry of queue n taken; PRODUCER is notified when FILL comes down to LOW_MARK (R388). -/
def queueTake (n : Nat) (s : State) : State :=
  let x := squeue s n
  let s1 := modSqueue s n (fun q => { q with entries := x.entries.tail, taken := (q.taken + 1) % 65536 })
  if x.producer ≠ 0 ∧ x.entries.tail.length = x.lowMark then setFlags x.producer (BitVec.ofNat 32 (2 ^ x.pFlag)) s1 else s1

/-- TAKE. -/
def opTake (r n : Nat) (s : State) : State :=
  let t := current s r
  let x := squeue s n
  if !x.enable || ((reeve s r).user && !lentQueue s t n) then stResult r 4 0 s
  else match x.entries with
    | [] => stResult r 2 0 s
    | e :: rest =>
      flushReplies n (queueTake n (modSport s r (fun p =>
        { p with status := 0, fill := rest.length, data0 := e.setWidth 32, data1 := (e >>> 32).setWidth 32 })))

/-- Slot t leaves every list. -/
def unlist (t : Nat) (s : State) : State :=
  modStew s (fun w => { w with ready := w.ready.filter (· != t), delays := w.delays.filter (· != t) })

/-- Slot t takes a state in which it does not run; a Reeve that ran it takes its next task. -/
def takeOff (t : Nat) (st : TState) (s : State) : State :=
  let k := tslot s t
  let s1 := unlist t (modTslot s t (fun x => { x with state := st, wake := none, noCharge := false }))
  if k.state = .running then dispatch k.runOn t s1 else s1

/-- EXIT. -/
def opExit (r : Nat) (s : State) : State :=
  let t := current s r
  if t = 0 then stResult r 3 0 s
  else takeOff t .free (traceRec 2 false r t 0 3 s)

/-- READY; a slot in another state is BAD_OP (DESIGN CHOICE, log 25). -/
def opReady (r t : Nat) (s : State) : State :=
  let k := tslot s t
  if (reeve s r).user then stResult r 4 0 s
  else if t = 0 ∨ 255 < t then stResult r 3 0 s
  else if k.state = .free ∨ k.state = .suspended then makeReady t 3 (some (0, 0)) (stResult r 0 0 s)
  else stResult r 5 0 s

/-- SUSPEND and RELEASE. -/
def opTakeOff (r t : Nat) (st : TState) (s : State) : State :=
  if (reeve s r).user then stResult r 4 0 s
  else if t = 0 ∨ 255 < t ∨ (tslot s t).state = .free then stResult r 3 0 s
  else takeOff t st (stResult r 0 0 s)

/-- A port operation of Reeve r, which must execute. -/
def portOp (r : Nat) (op : State → State) (s : State) : State := if reeveRuns s r then op s else s

/-! ### The rows -/

/-- SET_FLAGS (R382, R390). -/
def execSetFlags (r : Fin 4) (t : BitVec 8) (flags : Word) (s : State) : Out :=
  .next (portOp r (fun u => opSetFlags r t.toNat flags (modSport u r (fun p => { p with arg0 := flags }))) s)
/-- WAIT (R382, R390). -/
def execWait (r : Fin 4) (mask : Word) (all : Bool) (timeout : Word) (s : State) : Out :=
  .next (portOp r (fun u => opWait r mask all timeout.toNat (stArgs r mask timeout u)) s)
/-- DELAY (R386, R390). -/
def execDelay (r : Fin 4) (ticks : Word) (s : State) : Out :=
  .next (portOp r (fun u => opDelay r ticks.toNat (modSport u r (fun p => { p with arg1 := ticks }))) s)
/-- YIELD (R390). -/
def execYieldOp (r : Fin 4) (s : State) : Out := .next (portOp r (opYield r) s)
/-- POST (R387, R390). -/
def execPost (r : Fin 4) (qn : Fin 64) (entry : BitVec 64) (s : State) : Out :=
  .next (portOp r (fun u => opPost r qn entry (stArgs r (entry.setWidth 32) ((entry >>> 32).setWidth 32) u)) s)
/-- TAKE (R387, R390). -/
def execTake (r : Fin 4) (qn : Fin 64) (s : State) : Out := .next (portOp r (opTake r qn) s)
/-- EXIT (R390). -/
def execExitOp (r : Fin 4) (s : State) : Out := .next (portOp r (opExit r) s)
/-- READY (R390). -/
def execReadyOp (r : Fin 4) (t : BitVec 8) (s : State) : Out := .next (portOp r (opReady r t.toNat) s)
/-- SUSPEND (R390). -/
def execSuspend (r : Fin 4) (t : BitVec 8) (s : State) : Out := .next (portOp r (opTakeOff r t.toNat .suspended) s)
/-- RELEASE (R390). -/
def execRelease (r : Fin 4) (t : BitVec 8) (s : State) : Out := .next (portOp r (opTakeOff r t.toNat .free) s)

/-- The EXPIRY of slot t has come: a wait ends TIMEOUT, a delay ends (R382, R386). -/
def expire (t : Nat) (s : State) : State :=
  if (tslot s t).state = .waiting then makeReady t 1 (some (7, 0)) s else makeReady t 2 (some (0, 0)) s
/-- The slots of a list whose EXPIRY has come become READY in its order (R386). -/
def expireList (l : List Nat) (s : State) : State := (l.filter (expired s)).foldl (fun u t => expire t u) s
/-- STEWARD_DELAY_EXPIRY (R386): every task on the list whose EXPIRY has come, in list order. -/
def execStewardDelayExpiry (s : State) : Out := .next (expireList s.stew.delays s)

/-- WAIT_TIMEOUT (R382, R386): those before it on the list whose EXPIRY has come are READY before it. -/
def execWaitTimeout (t : BitVec 8) (s : State) : Out :=
  let n := t.toNat
  .next (if (tslot s n).state = .waiting ∧ n ∈ s.stew.delays ∧ expired s n then
      expireList (s.stew.delays.takeWhile (· != n) ++ [n]) s
    else s)

/-- QUANTUM_EXPIRY (R385). -/
def execQuantumExpiry (r : Fin 4) (s : State) : Out :=
  let t := current s r
  let k := tslot s t
  .next (if t ≠ 0 ∧ k.groupNow ≠ 0 ∧ s.stew.quantum ≤ k.ran ∧ readyFor s r (fun x => x.group != 0) ≠ [] then
    requeue r 4 none s else s)

/-! ### Registers (R381, R384, R385, R388, R390, R393) -/

/-- QUEUE_CFG read back. -/
def SQueue.cfgWord (x : SQueue) : Word :=
  wrd (b2n x.enable * 2 ^ 31 + x.consumer * 2 ^ 23 + x.cFlag * 2 ^ 18 + x.producer * 2 ^ 10 + x.pFlag * 2 ^ 5 + x.lowMark)
/-- A write of QUEUE_CFG: ENABLE 0 discards entries and counters (R388). -/
def SQueue.write (x : SQueue) (v : Word) : SQueue :=
  let y := { x with
    enable := bit v 31, consumer := fld v 23 8, cFlag := fld v 18 5, producer := fld v 10 8, pFlag := fld v 5 5,
    lowMark := fld v 0 4 }
  if bit v 31 then y else { y with entries := [], posted := 0, taken := 0, refused := 0 }


/-- Word i of TASK_CFG (R381). -/
def TaskSlot.word (k : TaskSlot) (i : Nat) : Word :=
  match i with
  | 0 => wrd (k.state.code * 2 ^ 29 + k.group * 2 ^ 26 + k.prio * 2 ^ 21 + k.affinity.toNat * 2 ^ 17 + b2n k.modeAll * 2 ^ 16
      + k.runOn * 256)
  | 1 => k.flags
  | 2 => k.mask
  | _ => wrd k.expiry
/-- A write of word i of TASK_CFG of slot t: a FLAGS value that meets the slot's wait wakes it (R382). -/
def taskCfgWrite (t i : Nat) (v : Word) (s : State) : State :=
  match i with
  | 0 => modTslot s t (fun k => { k with group := fld v 26 3, prio := fld v 21 5, affinity := BitVec.ofNat 4 (fld v 17 4) })
  | 1 => putFlags t v s
  | _ => s
/-- TRACE_CTL (R393). -/
def Steward.traceCtl (w : Steward) : Word := wrd (b2n w.trEnable * 2 ^ 31 + b2n w.trFreeze * 2 ^ 30 + w.trKinds.toNat)
/-- TRACE_HEAD (R393). -/
def Steward.traceHead (w : Steward) : Word := wrd (b2n w.trWrapped * 2 ^ 31 + w.trNext)
/-- TRACE_CTL written: setting ENABLE starts WRAPPED again (R393). -/
def Steward.setTrace (w : Steward) (v : Word) : Steward :=
  { w with
    trEnable := bit v 31
    trFreeze := bit v 30
    trKinds := BitVec.ofNat 5 (fld v 0 5)
    trWrapped := w.trWrapped && (!bit v 31 || w.trEnable)
    trSince := if bit v 31 && !w.trEnable then 0 else w.trSince }
/-- ST_RESULT (R391). -/
def StPort.result (p : StPort) : Word := wrd (p.status * 2 ^ 28 + p.fill * 2 ^ 23)

/-- A supervisor write at a Steward address (byte offset from 0x2400_0000) that no row names. A GROUP_WEIGHT outside 1 to 64 and
an ST_QUANTUM outside 1 to 255 are not written (DESIGN CHOICE, log 152: R384 and R385 give the ranges alone). -/
def stewWrite (r off : Nat) (v : Word) (s : State) : State :=
  if off = 4 then modSport s r (fun p => { p with arg0 := v })
  else if off = 8 then modSport s r (fun p => { p with arg1 := v })
  else if (reeve s r).user then s
  else if 0x1010 ≤ off ∧ off < 0x2000 then taskCfgWrite ((off - 0x1000) / 16) (off % 16 / 4) v s
  else if 0x2004 ≤ off ∧ off ≤ 0x201C then
    if 1 ≤ v.toNat ∧ v.toNat ≤ 64 then modStew s (fun w => { w with weights := Tab.set 0 w.weights ((off - 0x2000) / 4) (v.toNat - 1) })
    else s
  else if off = 0x2020 then
    if 1 ≤ v.toNat ∧ v.toNat ≤ 255 then modStew s (fun w => { w with quantum := v.toNat }) else s
  else if off = 0x4000 then modStew s (fun w => w.setTrace v)
  else s

end Sys2Proof.Machine
end

