-- ==== Sys2Proof/Machine/Dma.lean ====
section
/-! DEFINITION. The DMA engine (R394 to R401): addresses, the movement of words, pacing, completion rings
and the rows CH_START to CQ_RD_WRITE. The words of a channel that no queue paces move when its end
comes (log 26). -/

namespace Sys2Proof.Machine

/-! ### Memory seen by the DMA engine and the Gatehouse (R372, R394) -/

/-- Word index of a control RAM byte address. -/
def ctrlIdx (a : Nat) : Nat := (a - 0x10000000) / 4
/-- a lies in shared control RAM. -/
def inCtrl (a : Nat) : Bool := 0x10000000 ≤ a && a < 0x10400000
/-- The Reeve whose local RAM holds a. -/
def localOf (a : Nat) : Option Nat :=
  if 0x08000000 ≤ a ∧ a < 0x08400000 ∧ a % 0x100000 < 0x40000 then some ((a - 0x08000000) / 0x100000) else none
/-- Hamlet and position of a granary window address. -/
def granOf (a : Nat) : Option (Nat × Nat) :=
  let k := (a - 0x40000000) / 4
  if 0x40000000 ≤ a ∧ k / 4194304 < 8 ∧ k % 4194304 < hamletWords then some (k / 4194304, k % 4194304) else none

/-- A range of n words from byte address a lies wholly within one region (R394). -/
def rangeIn (a n : Nat) : Bool :=
  let z := a + 4 * n - 1
  (inCtrl a && inCtrl z) || ((localOf a).isSome && localOf a == localOf z) ||
    ((granOf a).isSome && (granOf z).isSome && (granOf a).map (·.1) == (granOf z).map (·.1))

/-- The 32-bit word at a control RAM address. -/
def ctrlWord (s : State) (a : Nat) : Word := if inCtrl a then Tab.get 0 s.ctrlRam (ctrlIdx a) else 0
/-- A word written to control RAM. -/
def ctrlPut (a : Nat) (v : Word) (s : State) : State :=
  if inCtrl a then s.setCtrlRam (Tab.set 0 s.ctrlRam (ctrlIdx a) v) else s
/-- The word of local RAM of Reeve r at byte address a of that RAM. -/
def localWord (s : State) (r a : Nat) : Word := Tab.get 0 (reeve s r).ram (a / 4)
/-- A word written to local RAM of Reeve r. -/
def localPut (r a : Nat) (v : Word) (s : State) : State :=
  modReeve s r (fun x => { x with ram := Tab.set 0 x.ram (a / 4) v })

/-- Channel c. -/
def chan (s : State) (c : Nat) : Chan := Tab.get {} s.dma.chans c
/-- Channel c passed through f. -/
def modChan (s : State) (c : Nat) (f : Chan → Chan) : State := modDma s (fun d => { d with chans := Tab.mod {} d.chans c f })
/-- Ring n. -/
def ring (s : State) (n : Nat) : Ring := Tab.get {} s.dma.rings n
/-- Ring n passed through f. -/
def modRing (s : State) (n : Nat) (f : Ring → Ring) : State := modDma s (fun d => { d with rings := Tab.mod {} d.rings n f })

/-- Channel c may access bank b (R150, R152). -/
def dmaMay (s : State) (c b : Nat) : Bool := (bank s b).owner == 0 || ((bank s b).owner == 1 && (bank s b).channel == c)

/-- A word read by channel c; none: a bus error (R152). -/
def dmaRead (s : State) (c a : Nat) : Option Word :=
  match granOf a, localOf a with
  | some (h, p), _ => if dmaMay s c (posBank h p) then some (sampleWord (granGet s h p)) else none
  | none, some r => some (localWord s r (a % 0x100000))
  | none, none => some (ctrlWord s a)

/-- A word written by channel c; none: a bus error. -/
def dmaWrite (c a : Nat) (v : Word) (s : State) : Option State :=
  match granOf a, localOf a with
  | some (h, p), _ => if dmaMay s c (posBank h p) then some (granPut s h p (wordSample v)) else none
  | none, some r => some (localPut r (a % 0x100000) v s)
  | none, none => some (ctrlPut a v s)

/-- BUS_ERR of the bank an access met (R150). -/
def dmaBusErr (a : Nat) (s : State) : State :=
  match granOf a with | some (h, p) => bankErr s (posBank h p) 2 | none => s

/-! ### Completion rings (R399 to R401) -/

/-- UNREAD of a ring. -/
def Ring.unread (x : Ring) : Nat := if x.size = 0 then 0 else (x.wr + 2 * x.size - x.rd) % (2 * x.size)
/-- A value of RD is accepted (R399): it leaves UNREAD at most SIZE and reads no more than the records unread, RD counting
forward modulo 2 × SIZE (DEDUCED, log 150). -/
def Ring.rdOk (x : Ring) (rd : Nat) : Bool :=
  decide (rd < 2 * x.size) && decide ({ x with rd := rd }.unread ≤ x.size) &&
    decide ((rd + 2 * x.size - x.rd) % (2 * x.size) ≤ x.unread)
/-- A ring has a free slot. -/
def Ring.hasRoom (x : Ring) : Bool := x.unread < x.size

/-- The four words of a record (R400). -/
def recWords (c : Nat) (x : Ring) (k : DmaRec) : List Word :=
  [wrd (c * 2 ^ 27 + k.status * 2 ^ 24 + k.count), k.offset, k.time, wrd (x.wr / x.size * 2 ^ 31 + k.tag)]

/-- A record appended to the channel's ring: DONE_EV, IDLE (R400, R401). -/
def appendRecord (c : Nat) (k : DmaRec) (s : State) : State :=
  let n := (chan s c).ring
  let x := ring s n
  let a := x.base + 16 * (x.wr % x.size)
  let s1 := (recWords c x k).zipIdx.foldl (fun t e => ctrlPut (a + 4 * e.2) e.1 t) s
  modChan (modRing s1 n (fun y => { y with wr := (y.wr + 1) % (2 * y.size) })) c
    (fun ch => { ch with state := .idle, doneEv := true, lastStatus := k.status, held := none, postDue := false })

/-- A record is produced: the leave grant returns, and the record is appended or held (R397, R401). -/
def endChannel (c status count : Nat) (offset : Word) (s : State) : State :=
  let ch := chan s c
  let k : DmaRec := { status := status, count := count, offset := offset, time := timeStamp s, tag := ch.tag }
  let s1 := releaseLeave 6 c s
  if (ring s1 ch.ring).hasRoom then appendRecord c k s1
  else modDma (modChan s1 c (fun x => { x with state := .cqWait, cqFull := true, held := some k }))
    (fun d => { d with heldOrder := d.heldOrder ++ [c] })

/-- Held records of ring n appended while there is room, oldest first (R401). -/
def drainRing (n : Nat) (s : State) : State :=
  s.dma.heldOrder.foldl (fun t c =>
    let ch := chan t c
    match ch.held with
    | some k =>
      if ch.ring = n ∧ (ring t n).hasRoom = true then
        appendRecord c k (modDma t (fun d => { d with heldOrder := d.heldOrder.erase c }))
      else t
    | none => t) s

/-! ### Movement of words (R396, R398) -/

/-- Words done. -/
def Chan.done (x : Chan) : Nat := x.count - x.remain

/-- Word i moved: the state, or how the channel ends (1 MISMATCH, 2 BUS_ERR with the address). -/
def moveWord (c i : Nat) (s : State) : State × Nat :=
  let ch := chan s c
  let src := ch.src + 4 * i
  let dst := ch.dst + 4 * i
  let gran := (granOf src).isSome || (granOf dst).isSome
  match ch.mode with
  | 2 =>
    match dmaRead s c src, dmaRead s c dst with
    | some a, some b => (s, if (if gran then wordSample a == wordSample b else a == b) then 0 else 1)
    | none, _ => (dmaBusErr src s, 2)
    | _, none => (dmaBusErr dst s, 2)
  | 1 => match dmaWrite c dst (wrd ch.src) s with
    | some t => (t, 0)
    | none => (dmaBusErr dst s, 2)
  | _ => match dmaRead s c src with
    | none => (dmaBusErr src s, 2)
    | some v => match dmaWrite c dst v s with
      | some t => (t, 0)
      | none => (dmaBusErr dst s, 2)

/-- A block entry posted to the pacing queue (R398); a refused post leaves the channel PACED. -/
def postBlock (c : Nat) (s : State) : State :=
  let ch := chan s c
  let full := (squeue s ch.queue).enable && 16 ≤ (squeue s ch.queue).fill
  let s1 := if (squeue s ch.queue).enable then
      queuePost ch.queue (BitVec.ofNat 64 (c * 2 ^ 27 + ch.done + ch.tag * 2 ^ 32)) true 0 0 c s
    else s
  if full then modChan s1 c (fun x => { x with state := .paced, postDue := true }) else s1

/-- The channel holds before its next word (R398). -/
def mustPace (s : State) (ch : Chan) : Bool :=
  ch.pace && (!ch.post || ch.done % 2 ^ ch.blockLog2 == 0) && ch.high ≤ (squeue s ch.queue).fill

/-- Up to n words moved while the channel stays in RUN. -/
def pump (c : Nat) : Nat → State → State
  | 0, s => s
  | n + 1, s =>
    let ch := chan s c
    if ch.state ≠ .run ∨ ch.remain = 0 then s
    else if mustPace s ch then modChan s c (fun x => { x with state := .paced })
    else
      let r := moveWord c ch.done s
      if r.2 ≠ 0 then endChannel c r.2 ch.done (wrd ch.done) r.1
      else
        let s1 := modChan r.1 c (fun x => { x with remain := x.remain - 1 })
        let s2 := if ch.pace && ch.post && ((ch.done + 1) % 2 ^ ch.blockLog2 == 0 || ch.remain == 1) then postBlock c s1 else s1
        pump c n s2

/-- The words of a channel's run. -/
def runWords (c : Nat) (s : State) : State := pump c (chan s c).remain s

/-! ### START and STOP (R397) -/

/-- Both ranges are admitted (R394, R395). -/
def rangesOk (c : Nat) (ch : Chan) : Bool :=
  let inWin : Nat → Bool := fun a => c < 24 || (ch.winBase ≤ a && a + 4 * ch.count - 1 ≤ ch.winLimit)
  rangeIn ch.dst ch.count && inWin ch.dst && (ch.mode == 1 || (rangeIn ch.src ch.count && inWin ch.src))

/-- The fields of CH_CTL written. -/
def Chan.setCtl (x : Chan) (v : Word) : Chan :=
  { x with
    mode := fld v 28 2
    heavy := bit v 27
    pace := bit v 26
    post := bit v 25
    ring := fld v 23 2
    tag := fld v 0 16 }

/-- START of channel c (R394, R395, R397). -/
def startChannel (c : Nat) (s : State) : State :=
  let ch := chan s c
  if ch.state ≠ .idle ∨ ch.count = 0 ∨ ch.mode = 3 then modChan s c (fun x => { x with startRefused := true })
  else
    let s1 := modChan s c (fun x => { x with remain := x.count, postDue := false, state := .run })
    if rangesOk c ch = false then endChannel c 4 0 0xFFFFFFFF s1
    else
      let s2 := if ch.heavy then requestLeave 6 c (modChan s1 c (fun x => { x with state := .waitLeave })) else s1
      if ch.pace then runWords c s2 else s2

/-- What a channel in RUN has done by the time a STOP takes effect: how many of its words is a free value (R397). -/
def stopPoint (c : Nat) (s : State) : State :=
  let f := takeFresh s
  pump c (Config.dmaProgress f.1 % ((chan s c).remain + 1)) f.2
/-- STOP of channel c (R397). -/
def stopChannel (c : Nat) (s : State) : State :=
  let ch := chan s c
  match ch.state with
  | .waitLeave => endChannel c 3 0 0xFFFFFFFF s
  | .paced => endChannel c 3 ch.done 0xFFFFFFFF s
  | .run =>
    let s1 := stopPoint c s
    if (chan s1 c).state = .run ∨ (chan s1 c).state = .paced then endChannel c 3 (chan s1 c).done 0xFFFFFFFF s1 else s1
  | _ => s

/-- A write of CH_CTL (R395, R397). -/
def writeCtl (c : Nat) (v : Word) (s : State) : State :=
  let s1 := modChan s c (fun x => x.setCtl v)
  if bit v 31 && bit v 30 then stopChannel c (modChan s1 c (fun x => { x with startRefused := true }))
  else if bit v 31 then startChannel c s1
  else if bit v 30 then stopChannel c s1
  else s1

/-- Reeve r may write the registers of channel c (R373, R376, R395). -/
def chanWriter (s : State) (r c : Nat) : Bool :=
  reeveRuns s r && (!(reeve s r).user || (taskAt s (current s r)).any (fun k => k.chans.contains c))

/-- Every channel not in IDLE or CQ_WAIT stopped (R397, R329). -/
def stopAllDma (s : State) : State := forEach (List.range 32) (fun t c => stopChannel c t) s

/-! ### The rows -/



/-- DMA_CHANNEL_END (R396, R398, R400): the remaining words move; the record follows the last. -/
def execDmaChannelEnd (c : Fin 32) (s : State) : Out :=
  .next (if (chan s c).state = .run then
      let t := runWords c s
      if (chan t c).state = .run then endChannel c 0 (chan t c).done 0xFFFFFFFF t else t
    else s)

/-- A refused post goes through, or FILL has come down to LOW (R398). -/
def mayResume (s : State) (ch : Chan) : Bool :=
  let fill := (squeue s ch.queue).fill
  if ch.postDue then fill < 16 else fill ≤ ch.low

/-- DMA_PACE_RESUME (R398). -/
def execDmaPaceResume (c : Fin 32) (s : State) : Out :=
  let ch := chan s c
  .next (if ch.state = .paced ∧ mayResume s ch = true then
      let s1 := modChan s c (fun x => { x with state := .run, postDue := false })
      runWords c (if ch.postDue then postBlock c s1 else s1)
    else s)

/-- RD of ring n written (R399, R401). -/
def rdWrite (n rd : Nat) (s : State) : State :=
  if (ring s n).rdOk rd then drainRing n (modRing s n (fun y => { y with rd := rd })) else s

/-! ### Registers (R395, R399) -/

/-- STATE of CH_STATUS. -/
def ChState.code : ChState → Nat
  | .idle => 0 | .waitLeave => 1 | .run => 2 | .paced => 3 | .cqWait => 4

/-- Word i of channel c's registers. -/
def Chan.word (x : Chan) (i : Nat) : Word :=
  match i with
  | 0 => wrd x.src
  | 1 => wrd x.dst
  | 2 => wrd x.count
  | 3 => wrd (x.mode * 2 ^ 28 + b2n x.heavy * 2 ^ 27 + b2n x.pace * 2 ^ 26 + b2n x.post * 2 ^ 25 + x.ring * 2 ^ 23 + x.tag)
  | 4 => wrd (x.queue * 2 ^ 26 + x.high * 2 ^ 21 + x.low * 2 ^ 16 + x.blockLog2)
  | 5 => wrd (x.state.code * 2 ^ 29 + b2n x.cqFull * 2 ^ 28 + b2n x.doneEv * 2 ^ 27 + b2n x.startRefused * 2 ^ 26
      + x.lastStatus * 2 ^ 23 + x.remain)
  | 6 => wrd x.winBase
  | _ => wrd x.winLimit

/-- A write of word i of channel c's registers, CH_CTL excepted. -/
def Chan.write (x : Chan) (i : Nat) (user : Bool) (v : Word) : Chan :=
  match i with
  | 0 => { x with src := v.toNat }
  | 1 => { x with dst := v.toNat }
  | 2 => { x with count := fld v 0 23 }
  | 4 => { x with queue := fld v 26 6, high := fld v 21 5, low := fld v 16 5, blockLog2 := fld v 0 4 }
  | 5 => { x with cqFull := x.cqFull && !bit v 28, doneEv := x.doneEv && !bit v 27, startRefused := x.startRefused && !bit v 26 }
  | 6 => if user then x else { x with winBase := v.toNat }
  | 7 => if user then x else { x with winLimit := v.toNat }
  | _ => x

/-- SIZE may take a value (R399). -/
def sizeLegal (n : Nat) : Bool := [0, 16, 32, 64, 128, 256, 512, 1024, 2048, 4096].contains n

/-- A write of BASE (i = 0) or SIZE (i = 1) of ring n (R399). A SIZE that is not legal is not written, the low four bits of BASE
are 0, and a new SIZE reduces WR modulo 2 x SIZE and sets RD equal to it (DESIGN CHOICE, log 153: R399 states none of these). -/
def ringWrite (n i : Nat) (v : Word) (s : State) : State :=
  let x := ring s n
  let busy := (List.range 32).any (fun c => (chan s c).ring == n && (chan s c).state != .idle)
  if x.unread ≠ 0 ∨ busy = true then s
  else if i = 0 then modRing s n (fun y => { y with base := v.toNat / 16 * 16 })
  else if i = 1 ∧ sizeLegal (fld v 0 13) = true then
    let z := fld v 0 13
    modRing s n (fun y => { y with size := z, wr := if z = 0 then y.wr else y.wr % (2 * z), rd := if z = 0 then y.rd else y.wr % (2 * z) })
  else s

/-- A write at a DMA address (byte offset from 0x2500_0000). -/
def dmaRegWrite (r off : Nat) (v : Word) (s : State) : State :=
  if off < 0x400 then
    let c := off / 0x20
    let i := off % 0x20 / 4
    if chanWriter s r c then
      if i = 3 then writeCtl c v s else modChan s c (fun x => x.write i (reeve s r).user v)
    else s
  else if 0x800 ≤ off ∧ off < 0x840 ∧ (reeve s r).user = false then ringWrite ((off - 0x800) / 16) (off % 16 / 4) v s
  else s

end Sys2Proof.Machine
end

