-- ==== Sys2Proof/Machine/Seal.lean ====
section
/-! DEFINITION. Keys and sealed objects (R351 to R353), the Gatehouse request registers and the wake
seal (R361, R379). -/

namespace Sys2Proof.Machine

/-! ### Bytes of control RAM -/

/-- Byte a of control RAM. -/
def ctrlByte (s : State) (a : Nat) : BitVec 8 := ((ctrlWord s (a / 4 * 4)) >>> (8 * (a % 4))).setWidth 8
/-- n bytes of control RAM from a. -/
def ctrlBytes (s : State) (a n : Nat) : List (BitVec 8) := (List.range n).map (fun i => ctrlByte s (a + i))
/-- Byte a of control RAM written. -/
def ctrlPutByte (a : Nat) (v : BitVec 8) (s : State) : State :=
  let sh := 8 * (a % 4)
  ctrlPut (a / 4 * 4) ((ctrlWord s (a / 4 * 4) &&& ~~~ (0xFF#32 <<< sh)) ||| (v.setWidth 32 <<< sh)) s
/-- Bytes written to control RAM from a. -/
def ctrlPutBytes (a : Nat) (bs : List (BitVec 8)) (s : State) : State :=
  bs.zipIdx.foldl (fun t e => ctrlPutByte (a + e.2) e.1 t) s
/-- n bytes from a lie in shared control RAM. -/
def ctrlRange (a n : Nat) : Bool := inCtrl a && a + n ≤ 0x10400000

/-! ### Keys (R351, R352) -/

/-- lc_class; the states of which R351 gives none have 0. -/
def lcClass (s : State) : Nat := match s.gate.lc with | 1 => 1 | 2 => 2 | 3 => 2 | 4 => 4 | _ => 0

/-- The sealed configuration can be opened: its SVN is not above the running one and its key has the present
life-cycle class (R351, R353). -/
def cfgOpens (s : State) (c : SavedCfg) : Bool := c.svn ≤ s.gate.svn && c.lcClass == lcClass s
/-- The configuration with the higher save counter, where it can be opened; one that cannot counts as absent, and the copy before
it is not taken in its place (R353, R484; DEDUCED, log 166). -/
def openedCfg (s : State) : Option SavedCfg := s.jex.saved.filter (cfgOpens s)
/-- The tasks marked AUTOSTART in the sealed configuration (R377). -/
def markedTasks (s : State) : List Nat := (openedCfg s).elim [] (·.tasks)
/-- The root of the derivation: zero in RMA. -/
def keyRoot (s : State) : BitVec 256 := if s.gate.lc = 4 then 0 else rootKey s
/-- n bytes of a number, the highest first. -/
def beBytes (v n : Nat) : List (BitVec 8) := (leBytes v n).reverse
/-- The ASCII bytes "WL7720 KDF". -/
def kdfLabel : List (BitVec 8) := [0x57, 0x4C, 0x37, 0x37, 0x32, 0x30, 0x20, 0x4B, 0x44, 0x46]
/-- The input of the derivation: counter, label, 0x00, context, length in bits (R351). -/
def kdfInput (purpose svn lc : Nat) : List (BitVec 8) :=
  beBytes 1 4 ++ kdfLabel ++ [0] ++ (beBytes purpose 4 ++ beBytes svn 2 ++ beBytes lc 1 ++ [0]) ++ beBytes 0x100 4
/-- The key of a purpose and SVN: the first 256 bits of the PRF (R351). -/
def sealKey (s : State) (purpose svn : Nat) : BitVec 256 :=
  (Config.hmac384 (keyRoot s) (kdfInput purpose svn (lcClass s)) >>> 128).setWidth 256

/-- Exactly n bytes of a list, filled up with zeros. -/
def fixBytes (n : Nat) (l : List (BitVec 8)) : List (BitVec 8) := (l ++ List.replicate n 0).take n

/-- The 32-byte header of a sealed object (R353). -/
def sealHeader (purpose svn len : Nat) (nonce : BitVec 256) : List (BitVec 8) :=
  leBytes 0x4C414553 4 ++ leBytes purpose 4 ++ leBytes svn 2 ++ [0, 0] ++ leBytes len 4 ++ leBytes nonce.toNat 12 ++ leBytes 0 4

/-- A sealed object: header, ciphertext, tag (R353); its nonce is a free value. -/
def sealObject (purpose svn : Nat) (plain : List (BitVec 8)) (s : State) : List (BitVec 8) × State :=
  let f := takeFresh s
  let h := sealHeader purpose svn plain.length (Config.entropy f.1)
  (h ++ fixBytes (plain.length + 16) (Config.gcmSeal (sealKey s purpose svn) h plain), f.2)

/-- A sealed object opened: 0 and the plaintext, or 1 SVN above the running SVN, 2 tag mismatch, 3 not an
object of the purpose (R352, R353). -/
def openObject (s : State) (purpose svn : Nat) (o : List (BitVec 8)) : Nat × List (BitVec 8) :=
  let h := o.take 32
  let n := leNat ((o.drop 12).take 4)
  if leNat (o.take 4) ≠ 0x4C414553 ∨ leNat ((o.drop 4).take 4) ≠ purpose ∨ n = 0 ∨ 65536 < n ∨ o.length ≠ n + 48 then (3, [])
  else if s.gate.svn < leNat ((o.drop 8).take 2) then (1, [])
  else match Config.gcmOpen (sealKey s purpose svn) h (o.drop 32) with
    | some p => (0, fixBytes n p)
    | none => (2, [])

/-! ### The wake seal (R361) -/

/-- A fuse is being programmed: a recovery operation that programs one runs (R359, R364). -/
def fuseBusy (s : State) : Bool := s.gate.busy && (s.gate.rcvJob.head? == some 7 || s.gate.rcvJob.head? == some 8)

/-- The tag over image region and resume range (R361). -/
def wakeTag (s : State) : BitVec 384 :=
  let g := s.gate
  let img := Config.sha384 (ctrlBytes s g.imgAddr g.imgLen)
  let res := Config.sha384 (ctrlBytes s g.resBase g.resLen)
  Config.hmac384 g.kBoot
    ((leBytes img.toNat 48).reverse ++ (leBytes res.toNat 48).reverse ++ leBytes g.svn 4 ++ leBytes g.bootSrc 4 ++ leBytes g.wakeCount 4)

/-- The seal made over a resume range (R361). -/
def makeWakeSeal (base len : Nat) (s : State) : State :=
  let s1 := modGate s (fun g => { g with wakeCount := (g.wakeCount + 1) % 4294967296, resBase := base, resLen := len })
  modGate s1 (fun g => { g with sealTag := wakeTag s1, sealHeld := true })

/-- The range lies in the resume region. -/
def resumeRange (base len : Nat) : Bool := 0x10100000 ≤ base && base + len ≤ 0x10200000

/-! ### Requests (R379) -/

/-- GO: the operands are taken; a GO while BUSY is ignored. -/
def greqGo (op purpose svn src dst len : Nat) (s : State) : State :=
  if s.greq.busy then s
  else modGreq s (fun g =>
    { g with
      op := op, purpose := purpose, svn := svn, src := src, dst := dst, len := len
      job := [op, purpose, svn, src, dst, len]
      busy := true })

/-- The operation's result and effect. -/
def greqWork (job : List Nat) (s : State) : State × Nat :=
  match job with
  | [0, p, v, src, dst, len] =>
    if p = 0 ∨ 3 < p ∨ len = 0 ∨ 65536 < len ∨ ctrlRange src len = false ∨ ctrlRange dst (len + 48) = false then (s, 3)
    else if s.gate.svn < v then (s, 1)
    else
      let r := sealObject p v (ctrlBytes s src len) s
      (ctrlPutBytes dst r.1 r.2, 0)
  | [1, p, v, src, dst, len] =>
    if p = 0 ∨ 3 < p ∨ len < 49 ∨ 65584 < len ∨ ctrlRange src len = false ∨ ctrlRange dst (len - 48) = false then (s, 3)
    else if s.gate.svn < v then (s, 1)
    else
      let r := openObject s p v (ctrlBytes s src len)
      if r.1 = 0 then (ctrlPutBytes dst r.2 s, 0) else (s, r.1)
  | [2, _, _, src, _, len] =>
    if fuseBusy s then (s, 4)
    else if resumeRange src len = false then (s, 3)
    else (makeWakeSeal src len s, 0)
  | _ => (s, 3)

/-- The request ends: DONE and RESULT. -/
def greqEnd (s : State) : State :=
  let r := greqWork s.greq.job s
  modGreq r.1 (fun g => { g with busy := false, done := true, result := r.2, job := [] })

/-- GH_REQUEST_DONE (R379). -/
def execGhRequestDone (s : State) : Out := .next (if s.greq.busy then greqEnd s else s)

/-! ### Registers -/

/-- Word i of the request registers (R379). -/
def Greq.word (g : Greq) (i : Nat) : Word :=
  match i with
  | 0 => wrd (g.op * 2 ^ 29 + g.purpose * 2 ^ 27 + g.svn * 2 ^ 21)
  | 1 => wrd g.src
  | 2 => wrd g.dst
  | 3 => wrd g.len
  | _ => wrd (b2n g.busy * 2 ^ 31 + b2n g.done * 2 ^ 30 + g.result * 2 ^ 27)
/-- A write of word i of the request registers. -/
def greqWrite (i : Nat) (v : Word) (s : State) : State :=
  match i with
  | 0 =>
    let s1 := modGreq s (fun g => { g with op := fld v 29 2, purpose := fld v 27 2, svn := fld v 21 6 })
    if bit v 31 then greqGo (fld v 29 2) (fld v 27 2) (fld v 21 6) s.greq.src s.greq.dst s.greq.len s1 else s1
  | 1 => modGreq s (fun g => { g with src := v.toNat })
  | 2 => modGreq s (fun g => { g with dst := v.toNat })
  | 3 => modGreq s (fun g => { g with len := v.toNat })
  | 4 => modGreq s (fun g => { g with done := g.done && !bit v 30 })
  | _ => s

end Sys2Proof.Machine
end

