-- ==== Sys2Proof/Machine/Task.lean ====
section
/-! DEFINITION. Extension tasks (R371, R375 to R377, R403 to R405) and the trace and debug reads (R393,
R403, R452). -/

namespace Sys2Proof.Machine

/-- Index of the task that runs in Steward slot t. -/
def slotTask (s : State) (t : Nat) : Option Nat :=
  if t < 192 then none else (s.jex.tasks.find? (fun e => e.2.slot == t && e.2.state == 1)).map (·.1)
/-- Indices of the running tasks. -/
def runningTasks (s : State) : List Nat := (s.jex.tasks.filter (fun e => e.2.state == 1)).map (·.1)

/-! ### The image (R375) -/

/-- The task image of index i. -/
def taskFile (s : State) (i : Nat) : Rd := flashFile s 0 (taskPlace i)

/-- MAGIC, FORMAT, HEADER_LEN, TOTAL_LEN and trailer of a task image. -/
def taskHeadOk (r : Rd) (room : Nat) : Bool :=
  let total := rdNat r 8 4
  rdNat r 0 4 == 0x4B534154 && rdNat r 4 2 == 1 && rdNat r 6 2 == 64 && 272 ≤ total && total ≤ 0x30110 && total ≤ room &&
    trailerOk r total
/-- Every field of the header within its range. -/
def taskFieldsOk (r : Rd) : Bool :=
  let total := rdNat r 8 4
  rdNat r 12 4 != 0 && rdNat r 16 2 ≤ 63 && (rdNat r 18 1 == 2 || rdNat r 18 1 == 3) &&
    1 ≤ rdNat r 19 1 && rdNat r 19 1 ≤ 7 &&
    rdNat r 20 4 % 4096 == 0 && 4096 ≤ rdNat r 20 4 && rdNat r 20 4 ≤ 196608 &&
    rdNat r 24 4 % 4096 == 0 && rdNat r 24 4 ≤ 1048576 && rdNat r 28 4 < total - 272 &&
    rdNat r 32 4 ≤ rdNat r 20 4 && rdNat r 36 8 % 2 ^ 48 == 0 && rdNat r 44 1 ≤ 2 && rdZero r 45 3
/-- The header's fields. -/
def taskHeader (r : Rd) : Task :=
  { id := rdNat r 12 4
    svn := rdNat r 16 2
    reeve := rdNat r 18 1
    group := rdNat r 19 1
    localLen := rdNat r 20 4
    arenaLen := rdNat r 24 4
    entry := rdNat r 28 4
    stackLen := rdNat r 32 4
    queues := BitVec.ofNat 64 (rdNat r 36 8)
    dmaCount := rdNat r 44 1
    nbQuerns := BitVec.ofNat 128 (rdNat r 48 16) }
/-- Key slot 1 is not revoked and signed the image (R114, R341). -/
def taskAuth (s : State) (r : Rd) : Bool :=
  let total := rdNat r 8 4
  keyMatches s r total 1 && !revoked s 1 && signatureOk r total

/-! ### Installing -/

/-- Checks of TASK_INSTALL: the index's task does not run (R404). -/
def taskInstallChecks (m : Nat) (s : State) : Option Refuse :=
  let i := segTarget s m
  if (taskOf s i).state = 1 then some (stateRefused 0xC4 i) else soleChecks 0xC0 m s
/-- TASK_INSTALL (0xC0). -/
def execTaskInstall (m : Fin 8) (s : State) : Out := .next (serve 0xC0 m (taskInstallChecks m) (segRun 0xC0 m) s)

/-- A whole image has been written: the task is installed, in the place of one of the same TASK_ID
(R375, R404). -/
def installTask (m i : Nat) (s : State) : State :=
  let r := taskFile s i
  let other := (s.jex.tasks.find? (fun e => e.1 != i && e.2.id == rdNat r 12 4)).map (·.1)
  if taskHeadOk r (regionSize s 0 (taskPlace i) 0x40000) = false then refuse m ⟨7, 0xC0, 0x7F, i⟩ s
  else if taskFieldsOk r = false then refuse m (badParam 0xC1 i) s
  else match other with
    | some o =>
      if (taskOf s o).state = 1 then refuse m (stateRefused 0xC4 i) s
      else segReply 0xC0 m (modTask (modTask s o Task.stored0) i (fun x => { taskHeader r with halfSel := x.halfSel, stored := x.stored }))
    | none => segReply 0xC0 m (modTask s i (fun x => { taskHeader r with halfSel := x.halfSel, stored := x.stored }))

/-- A segment of a task image has been programmed: a whole image is installed. -/
def taskInstallDone (m : Nat) (s : State) : State :=
  let i := segTarget s m
  let f := fileSt s (fileKey 0xC0 i)
  if f.last ∧ f.length ≤ f.written then installTask m i s else segReply 0xC0 m s

/-! ### Resources (R376) -/

/-- The partitions [base, base + len) that running tasks hold. -/
def localHeld (s : State) (r : Nat) : List (Nat × Nat) :=
  (runningTasks s).filterMap (fun i => let k := taskOf s i; if k.reeve = r then some (k.localBase, k.localLen) else none)
/-- Arena partitions held. -/
def arenaHeld (s : State) : List (Nat × Nat) := (runningTasks s).map (fun i => ((taskOf s i).arenaBase, (taskOf s i).arenaLen))
/-- The first multiple of 4096 in [lo, hi) from which n bytes are free (log 29). -/
def firstFit (held : List (Nat × Nat)) (lo hi n : Nat) : Option Nat :=
  ((List.range ((hi - lo) / 4096 + 1)).map (fun i => lo + 4096 * i)).find?
    (fun a => a + n ≤ hi && held.all (fun p => a + n ≤ p.1 || p.1 + p.2 ≤ a))
/-- The first n lent channels that no running task holds. -/
def freeChans (s : State) (n : Nat) : List Nat :=
  (((List.range 8).map (24 + ·)).filter (fun c => (runningTasks s).all (fun i => !(taskOf s i).chans.contains c))).take n
/-- The lowest free Steward slot of 192 to 255. -/
def freeSlot (s : State) : Option Nat :=
  ((List.range 64).map (192 + ·)).find? (fun t => (tslot s t).state == .free && (slotTask s t).isNone)

/-- Task k placed: partitions, channels and slot; none: not free (0xC2). -/
def placeTask (s : State) (k : Task) : Option Task :=
  let cs := freeChans s k.dmaCount
  let clash := (runningTasks s).any (fun i => (taskOf s i).queues &&& k.queues != 0)
  match firstFit (localHeld s k.reeve) 0x10000 0x40000 k.localLen, firstFit (arenaHeld s) 0 0x100000 k.arenaLen, freeSlot s with
  | some l, some a, some t =>
    if cs.length = k.dmaCount ∧ clash = false then some { k with localBase := l, arenaBase := a, slot := t, chans := cs, state := 1 }
    else none
  | _, _, _ => none

/-- The channels' windows cover the task's arena partition (log 29). -/
def lendChannels (k : Task) (s : State) : State :=
  forEach k.chans (fun t c => modChan t c (fun x =>
    { x with winBase := if k.arenaLen = 0 then 1 else 0x10300000 + k.arenaBase
             winLimit := if k.arenaLen = 0 then 0 else 0x10300000 + k.arenaBase + k.arenaLen - 1 })) s
/-- The lent queues are set in use, empty, or taken out of use. -/
def lendQueues (k : Task) (on : Bool) (s : State) : State :=
  forEach ((List.range 64).filter (fun q => k.queues.getLsbD q)) (fun t q => modSqueue t q (fun _ => { enable := on })) s
/-- The load segment copied to the local partition. -/
def loadTask (i : Nat) (k : Task) (s : State) : State :=
  let r := taskFile s i
  let n := rdNat r 8 4 - 272
  forEach (List.range ((n + 3) / 4)) (fun t w => localPut k.reeve (k.localBase + 4 * w) (wrd (rdNat r (64 + 4 * w) 4)) t) s

/-- Reeves 2 and 3 are released once a task is to run (R370), and take the tasks that are READY (R383). -/
def releaseTaskReeves (s : State) : State :=
  forEach [2, 3] (fun t r =>
    if (reeve t r).run = .inReset then dispatch r 0 (modReeve t r (fun x => { x with run := .running })) else t) s
/-- A task starts in its place: its slot becomes READY (R370, R376). -/
def runTask (i : Nat) (k : Task) (s : State) : State :=
  let s1 := lendQueues k true (lendChannels k (loadTask i k (modTask s i (fun _ => k))))
  makeReady k.slot 3 (some (0, 0)) (modTslot (releaseTaskReeves s1) k.slot (fun _ =>
    { group := k.group, affinity := BitVec.ofNat 4 (2 ^ k.reeve) }))

/-- The checks of R377 for the start of the task of index i, or the task placed. -/
def startTask (s : State) (i : Nat) : Refuse ⊕ Task :=
  let k := taskOf s i
  let r := taskFile s i
  if k.state = 1 then .inl (stateRefused 0xC4 i)
  else if taskHeadOk r (regionSize s 0 (taskPlace i) 0x40000) = false ∨ taskFieldsOk r = false ∨ taskAuth s r = false then
    .inl ⟨7, 0xC0, 0x7F, i⟩
  else if s.gate.svn < k.svn then .inl (stateRefused 0xC3 i)
  else match placeTask s k with
    | some p => .inr p
    | none => .inl (busyRefused 0xC2 i)

/-! ### Stopping (R403) -/

/-- A lent channel is stopped as by STOP and its record discarded (R397, R403). -/
def dropChannel (c : Nat) (s : State) : State :=
  let s1 := if (chan s c).state = .run then stopPoint c s else s
  modDma (modChan (releaseLeave 6 c s1) c (fun x => { x with state := .idle, held := none, postDue := false }))
    (fun d => { d with heldOrder := d.heldOrder.filter (· != c) })
/-- A task ends in a state: its channels are stopped first, then slot, queues and partitions are free again (R403). -/
def stopTask (i st : Nat) (s : State) : State :=
  let k := taskOf s i
  let s1 := lendQueues k false (takeOff k.slot .free (forEach k.chans (fun t c => dropChannel c t) s))
  modTask s1 i (fun x => { x with state := st, slot := 0, chans := [], localBase := 0, arenaBase := 0 })
/-- Every running task is stopped (R277, R329, R377). -/
def stopTasks (s : State) : State := forEach (runningTasks s) (fun t i => stopTask i 2 t) s
/-- The tasks marked AUTOSTART are started when MAINTENANCE is entered (R377). -/
def startAuto (s : State) : State :=
  s.jex.tasks.foldl (fun t e =>
    if (markedTasks s).contains e.2.id then (match startTask t e.1 with | .inr k => runTask e.1 k t | .inl _ => t) else t) s

/-! ### Commands -/

/-- The index of the task a command names. -/
def namedTask (s : State) (m : Nat) : Option Nat := taskIndex s (arg s m 1).toNat

/-- Checks of TASK_START. -/
def taskStartChecks (m : Nat) (s : State) : Option Refuse :=
  match namedTask s m with
  | none => some (badParam 0xC5)
  | some i =>
    if changing s m (fileKey 0xC0 i) then some (busyRefused 0xFA)
    else match startTask s i with | .inl r => some r | .inr _ => none
/-- TASK_START: the task runs. -/
def taskStartRun (m : Nat) (s : State) : State :=
  match namedTask s m with
  | some i => match startTask s i with
    | .inr k => reply m [wrd k.slot] (runTask i k s)
    | .inl _ => s
  | none => s
/-- TASK_START (0xC1). -/
def execTaskStart (m : Fin 8) (s : State) : Out := .next (serve 0xC1 m (taskStartChecks m) (taskStartRun m) s)

/-- Checks of TASK_STOP: the task runs. -/
def taskStopChecks (m : Nat) (s : State) : Option Refuse :=
  match namedTask s m with
  | none => some (badParam 0xC5)
  | some i => if (taskOf s i).state = 1 then none else some (stateRefused 0xC4 i)
/-- TASK_STOP: the task ends. -/
def taskStopRun (m : Nat) (s : State) : State :=
  match namedTask s m with | some i => reply m [0] (stopTask i 2 s) | none => s
/-- TASK_STOP (0xC2). -/
def execTaskStop (m : Fin 8) (s : State) : Out := .next (serve 0xC2 m (taskStopChecks m) (taskStopRun m) s)

/-- Checks of TASK_REMOVE: the task does not run (R404), and no earlier command is changing its image (R438). -/
def taskRemoveChecks (m : Nat) (s : State) : Option Refuse :=
  match namedTask s m with
  | none => some (badParam 0xC5)
  | some i =>
    firstRefusal [(decide ((taskOf s i).state ≠ 1), stateRefused 0xC4 i), (!changing s m (fileKey 0xC0 i), busyRefused 0xFA)]
/-- TASK_REMOVE: the erase of the image. -/
def taskRemoveRun (m : Nat) (s : State) : State :=
  match namedTask s m with | some i => flashCmd m 0 (eraseUnits (taskPlace i) (regionSize s 0 (taskPlace i) 0x40000)) (.cmd m) s | none => s
/-- TASK_REMOVE (0xC3). -/
def execTaskRemove (m : Fin 8) (s : State) : Out := .next (serve 0xC3 m (taskRemoveChecks m) (taskRemoveRun m) s)
/-- TASK_REMOVE: the last erase has ended. -/
def taskRemoveDone (m : Nat) (s : State) : State :=
  match namedTask s m with
  | some i => modFile (modTask s i Task.stored0) (fileKey 0xC0 i) (fun _ => {})
  | none => s

/-- TASK_STATUS: its reply. -/
def taskStatusRun (m : Nat) (s : State) : State :=
  let k := taskOf s (fld (arg s m 1) 0 6)
  reply m [wrd k.id, wrd (k.state * 2 ^ 30 + (if k.id = 0 then 0 else k.reeve * 256) + k.slot), wrd k.faults, wrd k.faultAddr,
    wrd k.svn, 0, 0] s
/-- TASK_STATUS (0xC4). -/
def execTaskStatus (m : Fin 8) (s : State) : Out := .next (serve 0xC4 m noChecks (taskStatusRun m) s)

/-! ### Protection faults (R371) -/

/-- A region permits an access. -/
def Region.permits (g : Region) (a : Nat) (wr : Bool) : Bool := g.base ≤ a && a < g.base + g.len && (if wr then g.wr else g.rd)

/-- The task in Reeve r's slot has made an access outside its regions: it is stopped and marked FAULTED. -/
def taskFault (r addr : Nat) (s : State) : State :=
  match slotTask s (current s r) with
  | some i =>
    let s1 := modTask (stopTask i 3 s) i (fun x => { x with faults := (x.faults + 1) % 4294967296, faultAddr := addr })
    postEvent 0x0080 [wrd (taskOf s i).id, wrd addr] s1
  | none => s

/-- USER_ACCESS_FAULT (R371): the access is not performed. -/
def execUserAccessFault (r : Fin 4) (addr : Word) (wr : Bool) (s : State) : Out :=
  .next (if (reeve s r).user ∧ (reeve s r).regions.all (fun g => !g.permits addr.toNat wr) then taskFault r addr.toNat s else s)

/-! ### Trace and debug reads (R393, R403, R405, R452) -/

/-- TRACE_CONFIG: TRACE_CTL takes ENABLE, FREEZE and KINDS. -/
def traceConfigRun (m : Nat) (s : State) : State := reply m [0] (modStew s (fun w => w.setTrace (arg s m 1)))
/-- TRACE_CONFIG (0xE0). -/
def execTraceConfig (m : Fin 8) (s : State) : Out := .next (serve 0xE0 m noChecks (traceConfigRun m) s)

/-- n and the records skipped back. -/
def traceArgs (s : State) (m : Nat) : Nat × Nat := (fld (arg s m 1) 0 5, fld (arg s m 1) 16 12)
/-- TRACE_READ: a record count of 1 to 31 (0xE0). -/
def traceReadChecks (m : Nat) (s : State) : Option Refuse :=
  if (traceArgs s m).1 = 0 then some (badParam 0xE0 (traceArgs s m).1) else none
/-- TRACE_READ: records counted back from NEXT; places without a record read 0. -/
def traceReadRun (m : Nat) (s : State) : State :=
  let w := s.stew
  let a := traceArgs s m
  let recs := (List.range a.1).flatMap (fun i =>
    let x := Tab.get 0 w.trace ((w.trNext + 8192 - a.2 - i - 1) % 4096)
    [x.setWidth 32, (x >>> 32).setWidth 32])
  reply m (w.traceHead :: recs) s
/-- TRACE_READ (0xE1). -/
def execTraceRead (m : Fin 8) (s : State) : Out := .next (serve 0xE1 m (traceReadChecks m) (traceReadRun m) s)

end Sys2Proof.Machine
end

