-- ==== Sys2Proof/Machine/Per.lean ====
section
/-! DEFINITION. The peripheral port (R468 to R474) with PER_CONFIG to PER_CANCEL, and the extension requests
of tasks (R463). -/

namespace Sys2Proof.Machine

/-! ### Entries (R468, R469) -/

/-- Configuration word of a select. -/
def selCfg (s : State) (k : Nat) : Word := (Tab.get {} s.per.sels k : PerSel).cfg
/-- ENABLE of a select. -/
def selOn (s : State) (k : Nat) : Bool := bit (selCfg s k) 31
/-- SHARED of a select. -/
def selShared (s : State) (k : Nat) : Bool := bit (selCfg s k) 27
/-- Bits of a data word. -/
def wordLen (hdr : Word) : Nat := 8 * (fld hdr 28 2 + 1)
/-- COUNT of an entry. -/
def entryCount (hdr : Word) : Nat := fld hdr 0 6
/-- READ words of an entry. -/
def readCount (e : PerEntry) : Nat := if bit e.hdr 26 then entryCount e.hdr else 0
/-- Data words that follow a header. -/
def dataCount (hdr : Word) : Nat := if bit hdr 25 then 1 else entryCount hdr
/-- A header word and its data words are well formed (R469). -/
def entryFits (hdr : Word) (data : List Word) : Bool :=
  fld hdr 24 1 == 0 && fld hdr 6 10 == 0 && 1 ≤ entryCount hdr && entryCount hdr ≤ 61 && data.length == dataCount hdr &&
    data.all (fun w => decide (w.toNat < 2 ^ wordLen hdr))

/-- The entries that a list of words holds exactly; none: malformed (R469). -/
def parseEntries : Nat → List Word → Option (List PerEntry)
  | _, [] => some []
  | 0, _ :: _ => none
  | n + 1, hdr :: rest =>
    if entryFits hdr (rest.take (dataCount hdr)) then
      (parseEntries n (rest.drop (dataCount hdr))).map (fun l => { hdr := hdr, data := rest.take (dataCount hdr) } :: l)
    else none

/-- The entries of a ticket: at least one, READ words at most 62 in total. -/
def ticketEntries (ws : List Word) : Option (List PerEntry) :=
  match parseEntries ws.length ws with
  | some (e :: l) => if ((e :: l).map readCount).sum ≤ 62 then some (e :: l) else none
  | _ => none

/-- The refusal of a ticket (R469, R472): 0xB0, 0xB1, 0xB3. -/
def ticketRefusal (s : State) (ws : List Word) : Option Refuse :=
  match ticketEntries ws with
  | none => some (badParam 0xB0)
  | some es =>
    firstRefusal [(s.per.tickets.length < 32, busyRefused 0xB1),
      (s.twin.role != .standby || es.all (fun e => !selShared s (fld e.hdr 30 2)), stateRefused 0xB3)]

/-- A ticket taken into the queue (R470, R471). -/
def addTicket (t : Ticket) (s : State) : State :=
  modPer s (fun p =>
    { p with
      tickets := p.tickets ++ [{ t with num := p.next, status := 1 }]
      next := if p.next = 65535 then 1 else p.next + 1 })

/-! ### The bus in an entry (R467 to R470) -/

/-- The words an entry sends: under FILL its one word COUNT times (R469). -/
def PerEntry.sent (e : PerEntry) : List Word :=
  if bit e.hdr 25 then List.replicate (entryCount e.hdr) (e.data.headD 0) else e.data
/-- The bits of a word in the order in which they are sent and received: LSB_FIRST turns it (R468). -/
def sentBits (cfg hdr w : Word) : List Bool :=
  let l := (List.range (wordLen hdr)).map w.getLsbD
  if bit cfg 28 then l else l.reverse
/-- What the port does on its select, one thing after another: the select falls so many half periods before the first edge, a
word is clocked, the select rises for so many periods. -/
inductive PerStep | fall (halves : Nat) | word (bits : List Bool) | rise (periods : Nat)
  deriving DecidableEq, Repr
/-- An entry on its select: under CONT one fall and one rise around all its words, else around each (R470). -/
def perSteps (cfg : Word) (e : PerEntry) : List PerStep :=
  let down := PerStep.fall (fld cfg 8 8)
  let up := PerStep.rise (fld cfg 0 8)
  let words := e.sent.map (fun w => PerStep.word (sentBits cfg e.hdr w))
  if bit e.hdr 27 then down :: words ++ [up] else words.flatMap (fun w => [down, w, up])
/-- PER_SCLK of a select in 0.01 Hz (R468). -/
def perClock (cfg : Word) : Nat := 4915200000 / (fld cfg 16 8 + 2)
/-- PER_SCLK while no bit is clocked: CPOL. -/
def perIdleLevel (cfg : Word) : Bool := bit cfg 30
/-- Bits are sampled on the rising edge of PER_SCLK, and launched on the other: SPI modes 0 and 3. -/
def perSamplesRising (cfg : Word) : Bool := bit cfg 30 == bit cfg 29
/-- The entry being clocked, and its select. -/
def perNow (s : State) : Option (PerEntry × Nat) :=
  if s.per.active then (s.per.tickets.head?.bind (fun t => t.entries.head?)).map (fun e => (e, fld e.hdr 30 2)) else none

/-! ### Replies to tasks (R463) -/

/-- A reply to an extension request, held while its queue is full. -/
def replyTask (kind status replyQ seq : Nat) (res : Word) (s : State) : State :=
  let e : BitVec 64 := BitVec.ofNat 64 (kind * 2 ^ 56 + status * 2 ^ 48 + seq * 2 ^ 32 + res.toNat)
  if (squeue s replyQ).enable = false then s
  else if 16 ≤ (squeue s replyQ).fill ∨ s.jex.extWait.any (fun x => x.1 == replyQ) = true then
    modJex s (fun j => { j with extWait := j.extWait ++ [(replyQ, e)] })
  else queuePost replyQ e false 0 0 0 s

/-! ### Running tickets (R470 to R474) -/

/-- STATUS of a task's ticket reply: OK when DONE, else STATE_REFUSED (DESIGN CHOICE, log 29). -/
def ticketStatus (st : Nat) : Nat := if st = 0 then 0 else 5

/-- An entry boundary: what PER_CONFIG has written meanwhile takes effect (R468). -/
def boundary (t : Tab PerSel) : Tab PerSel := t.map (fun e => (e.1, { cfg := e.2.next.getD e.2.cfg }))
/-- The head ticket ends with a status (R471). -/
def endTicket (st : Nat) (s : State) : State :=
  match s.per.tickets with
  | [] => s
  | t :: rest =>
    let x := { t with status := st, entries := [] }
    let s1 := modPer s (fun p =>
      { p with tickets := rest, done := (x :: p.done).take 64, active := false, cancel := false, ending := false, sels := boundary p.sels })
    if t.task = 0 then postEvent 0x0090 [wrd (st * 65536 + t.num)] s1
    else replyTask 1 (ticketStatus st) t.replyQ t.seq (wrd t.num) s1

/-- The head ticket passed through f. -/
def modHead (f : Ticket → Ticket) (s : State) : State :=
  modPer s (fun p => { p with tickets := match p.tickets with | t :: l => f t :: l | [] => [] })

/-- An entry may start on its select after idleUs of idle bus; after a foreign select the idle time holds for every select
(R469, R472, R473). -/
def entryMayStart (s : State) (hdr : Word) (idleUs : Nat) : Bool :=
  let shared := selShared s (fld hdr 30 2)
  fld hdr 16 8 ≤ idleUs && (!shared || s.twin.role != .standby) &&
    (!(shared || s.per.mustIdle) || (if s.twin.pos then 3 else 2) ≤ idleUs)

/-- PER_ENTRY_START: the entry is clocked, or its ticket ends SELECT_OFF (R468, R472). -/
def entryStart (idleUs : Nat) (s : State) : State :=
  match s.per.tickets with
  | [] => s
  | t :: _ => match t.entries with
    | [] => s
    | e :: _ =>
      if s.per.active then s
      else if selOn s (fld e.hdr 30 2) = false then endTicket 5 s
      else if entryMayStart s e.hdr idleUs then modPer (modHead (fun x => { x with status := 2 }) s) (fun p => { p with active := true, mustIdle := false })
      else s
/-- PER_ENTRY_START (R470, R472). -/
def execPerEntryStart (idleUs : Nat) (s : State) : Out := .next (entryStart idleUs s)

/-- The READ words received of an entry, cut to its word length. -/
def received (e : PerEntry) (miso : List Word) : List Word :=
  (miso.take (readCount e)).map (fun w => wrd (w.toNat % 2 ^ wordLen e.hdr))

/-- The entry in progress ends at a word boundary with the words received whole; its ticket ends. -/
def breakEntry (st : Nat) (miso : List Word) (s : State) : State :=
  match s.per.tickets with
  | t :: _ => match t.entries with
    | e :: _ => endTicket st (modHead (fun x => { x with data := x.data ++ received e miso }) s)
    | [] => endTicket st s
  | [] => s
/-- PER_ENTRY_DONE: its READ words are kept, and the ticket goes on or ends; of an entry that was to end at its next word
boundary only the words received whole (R470, R471, R474). -/
def entryDone (miso : List Word) (s : State) : State :=
  match s.per.tickets with
  | [] => s
  | t :: _ => match t.entries with
    | [] => s
    | e :: rest =>
      if !s.per.active then s
      else if s.per.ending then breakEntry 4 miso s
      else
        let ws := received e (miso ++ List.replicate (readCount e - miso.length) 0)
        let s1 := modHead (fun x => { x with entries := rest, data := x.data ++ ws })
          (modPer s (fun p => { p with active := false, sels := boundary p.sels }))
        if s.per.cancel then endTicket 4 s1 else if rest = [] then endTicket 0 s1 else s1
/-- PER_ENTRY_DONE (R470, R471). -/
def execPerEntryDone (miso : List Word) (s : State) : Out := .next (entryDone miso s)

/-- PER_FOREIGN_SELECT (R473): a SHARED select, enabled or not, that this port does not drive goes low. -/
def execPerForeignSelect (miso : List Word) (s : State) : Out :=
  .next (match perNow s with
    | some (_, d) =>
      if (List.range 4).any (fun k => k != d && selShared s k) then modPer (breakEntry 3 miso s) (fun p => { p with mustIdle := true })
      else s
    | none => s)

/-- Every ticket ends CANCELLED (R474). -/
def cancelTickets (s : State) : State := forEach (List.range s.per.tickets.length) (fun t _ => endTicket 4 t) s
/-- A ticket that waits behind the head ends CANCELLED. -/
def cancelQueued (x : Ticket) (s : State) : State :=
  let y := { x with status := 4, entries := [] }
  let s1 := modPer s (fun p => { p with tickets := p.tickets.filter (fun z => z.num != x.num), done := (y :: p.done).take 64 })
  if x.task = 0 then postEvent 0x0090 [wrd (4 * 65536 + x.num)] s1
  else replyTask 1 (ticketStatus 4) x.replyQ x.seq (wrd x.num) s1
/-- The port comes to rest: the entry in progress ends at its next word boundary, and every ticket CANCELLED (R474). -/
def quietPort (s : State) : State :=
  if s.per.active then modPer (s.per.tickets.tail.foldl (fun t x => cancelQueued x t) s) (fun p => { p with ending := true })
  else cancelTickets s

/-! ### Commands (R451) -/

/-- Checks of PER_CONFIG: the reserved bits; CS_SETUP and CS_GAP of at least 1. -/
def perConfigChecks (m : Nat) (s : State) : Option Refuse :=
  let w := arg s m 2
  firstRefusal [(fld w 24 3 == 0, badParam 0xF4), (fld w 8 8 != 0 && fld w 0 8 != 0, badParam 0xB0)]
/-- PER_CONFIG: the select's word, in force at once while no entry is clocked, else at its end (R468). -/
def perConfigRun (m : Nat) (s : State) : State :=
  reply m [0] (modPer s (fun p =>
    { p with sels := Tab.mod {} p.sels (fld (arg s m 1) 0 2) (fun x =>
        if p.active then { x with next := some (arg s m 2) } else { cfg := arg s m 2 }) }))
/-- PER_CONFIG (0xB0). -/
def execPerConfig (m : Fin 8) (s : State) : Out := .next (serve 0xB0 m (perConfigChecks m) (perConfigRun m) s)

/-- The words of the entries of a PER_SUBMIT. -/
def submitWords (s : State) (m : Nat) : List Word := args s m 2 (cmdLen s m - 2)
/-- Checks of PER_SUBMIT. -/
def perSubmitChecks (m : Nat) (s : State) : Option Refuse := ticketRefusal s (submitWords s m)
/-- PER_SUBMIT: a host ticket. -/
def perSubmitRun (m : Nat) (s : State) : State :=
  reply m [wrd s.per.next] (addTicket { tag := fld (arg s m 1) 0 8, entries := (ticketEntries (submitWords s m)).getD [] } s)
/-- PER_SUBMIT (0xB1). -/
def execPerSubmit (m : Fin 8) (s : State) : Out := .next (serve 0xB1 m (perSubmitChecks m) (perSubmitRun m) s)

/-- The ticket a command names: waiting or finished. -/
def namedTicket (s : State) (m : Nat) : Option Ticket :=
  (s.per.tickets ++ s.per.done).find? (fun t => t.num == fld (arg s m 1) 0 16)
/-- The ticket is known (0xB2). -/
def ticketKnown (m : Nat) (s : State) : Option Refuse := if (namedTicket s m).isSome then none else some (badParam 0xB2)
/-- PER_RESULT: status and data, at most 62 words; a ticket that has not ended shows no data. -/
def perResultRun (m : Nat) (s : State) : State :=
  match namedTicket s m with
  | some t => reply m (wrd t.status :: (if t.status = 1 ∨ t.status = 2 then [] else t.data.take 62)) s
  | none => s
/-- PER_RESULT (0xB2). -/
def execPerResult (m : Fin 8) (s : State) : Out := .next (serve 0xB2 m (ticketKnown m) (perResultRun m) s)

/-- PER_CANCEL: entries not started are removed; without an entry in progress the ticket ends (R471). -/
def perCancelRun (m : Nat) (s : State) : State :=
  let num := fld (arg s m 1) 0 16
  match s.per.tickets with
  | [] => reply m [0] s
  | t :: rest =>
    if t.num = num then
      if s.per.active then
        reply m [wrd (t.entries.length - 1)] (modHead (fun x => { x with entries := x.entries.take 1 })
          (modPer s (fun p => { p with cancel := true })))
      else endTicket 4 (reply m [wrd t.entries.length] s)
    else match rest.find? (fun x => x.num == num) with
      | some x => cancelQueued x (reply m [wrd x.entries.length] s)
      | none => reply m [0] s
/-- PER_CANCEL (0xB3). -/
def execPerCancel (m : Fin 8) (s : State) : Out := .next (serve 0xB3 m (ticketKnown m) (perCancelRun m) s)

/-! ### Extension requests (R463) -/

/-- The entry of a request (R463). -/
def requestEntry (kind t replyQ seq : Nat) (addr : Word) : BitVec 64 :=
  BitVec.ofNat 64 (kind * 2 ^ 56 + t * 2 ^ 48 + replyQ * 2 ^ 40 + seq * 2 ^ 32 + addr.toNat)

/-- The request leaves queue 47 where it stands at its head. -/
def takeRequest (e : BitVec 64) (s : State) : State :=
  match (squeue s 47).entries with
  | x :: _ => if x = e then queueTake 47 s else s
  | [] => s

/-- The bytes [a, a + n) lie in the task's arena partition. -/
def inArena (k : Task) (a n : Nat) : Bool := 0x10300000 + k.arenaBase ≤ a && a + n ≤ 0x10300000 + k.arenaBase + k.arenaLen
/-- Words i of the argument block at a. -/
def blockWord (s : State) (a i : Nat) : Nat := (ctrlWord s (a / 4 * 4 + 4 * i)).toNat

/-- A request of the task in slot t, carried out by f, which answers the state, STATUS and result; a reply
queue not lent to the task is BAD_PARAM. -/
def extRequest (kind : Nat) (t replyQ seq : Nat) (addr : Word) (need : Nat)
    (f : Nat → Task → State → State × Nat × Word) (s : State) : State :=
  match slotTask s t with
  | none => s
  | some i =>
    if jexOn s = false then s
    else
      let k := taskOf s i
      let s1 := takeRequest (requestEntry kind t replyQ seq addr) s
      if k.queues.getLsbD replyQ = false ∨ inArena k addr.toNat need = false then replyTask kind 4 replyQ seq 0 s1
      else
        let r := f i k s1
        if r.2.1 = 1 then r.1 else replyTask kind r.2.1 replyQ seq r.2.2 r.1

/-- The words of a row of at most n entries in the arena from address a: a header word 0 ends it. -/
def blockFrom (s : State) (k : Task) : Nat → Nat → List Word
  | 0, _ => []
  | n + 1, a =>
    if inArena k a 4 && ctrlWord s a != 0 then
      let c := dataCount (ctrlWord s a)
      ctrlWord s a :: (((List.range c).map (fun i => a + 4 + 4 * i)).takeWhile (fun x => inArena k x 4)).map (ctrlWord s) ++
        blockFrom s k n (a + 4 + 4 * c)
    else []
/-- Words of a PER_SUBMIT block: entry after entry up to a header word 0, at most 64 words (DESIGN CHOICE, log 29). -/
def blockEntries (s : State) (k : Task) (a : Nat) : List Word := (blockFrom s k 64 (a / 4 * 4)).take 64

/-- PER_SUBMIT of a task: answered when its ticket ends (PENDING, 1, meanwhile). -/
def extPer (t replyQ seq a : Nat) (_ : Nat) (k : Task) (s : State) : State × Nat × Word :=
  let ws := blockEntries s k a
  match ticketRefusal s ws with
  | some r => (s, r.status, 0)
  | none => (addTicket { task := t, replyQ := replyQ, seq := seq, entries := (ticketEntries ws).getD [] } s, 1, 0)
/-- EXT_PER_SUBMIT (R463). -/
def execExtPerSubmit (t : BitVec 8) (replyQ : Fin 64) (seq : BitVec 8) (addr : Word) (s : State) : Out :=
  .next (extRequest 1 t.toNat replyQ seq.toNat addr 4 (extPer t.toNat replyQ seq.toNat addr.toNat) s)

/-- HOST_EVENT: TASK_EVENT with the first four words (R464). -/
def extEvent (a : Nat) (_ : Nat) (k : Task) (s : State) : State × Nat × Word :=
  (postEvent 0x0081 (wrd k.id :: (List.range 4).map (fun i => wrd (blockWord s a i))) s, 0, 0)
/-- HOST_EVENT (R463). -/
def execHostEvent (t : BitVec 8) (replyQ : Fin 64) (seq : BitVec 8) (addr : Word) (s : State) : Out :=
  .next (extRequest 2 t.toNat replyQ seq.toNat addr 20 (extEvent addr.toNat) s)

/-- SEAL of task data: TASK_ID stands before the plaintext (R377). -/
def extSealWork (a : Nat) (_ : Nat) (k : Task) (s : State) : State × Nat × Word :=
  let len := blockWord s a 0
  let src := blockWord s a 1
  let dst := blockWord s a 2
  if len = 0 ∨ 65532 < len ∨ inArena k src len = false ∨ inArena k dst (len + 52) = false then (s, 4, 0)
  else
    let r := sealObject 3 k.svn (leBytes k.id 4 ++ ctrlBytes s src len) s
    (ctrlPutBytes dst r.1 r.2, 0, wrd (len + 52))
/-- EXT_SEAL (R463). -/
def execExtSeal (t : BitVec 8) (replyQ : Fin 64) (seq : BitVec 8) (addr : Word) (s : State) : Out :=
  .next (extRequest 3 t.toNat replyQ seq.toNat addr 12 (extSealWork addr.toNat) s)

/-- OPEN of task data: only an object that carries the task's TASK_ID is returned (R377). -/
def extOpenWork (a : Nat) (_ : Nat) (k : Task) (s : State) : State × Nat × Word :=
  let len := blockWord s a 0
  let src := blockWord s a 1
  let dst := blockWord s a 2
  if len < 53 ∨ 65584 < len ∨ inArena k src len = false ∨ inArena k dst (len - 52) = false then (s, 4, 0)
  else
    let o := ctrlBytes s src len
    let v := leNat ((o.drop 8).take 2)
    if k.svn < v then (s, 7, 0)
    else
      let r := openObject s 3 v o
      if r.1 = 0 ∧ leNat (r.2.take 4) = k.id then (ctrlPutBytes dst (r.2.drop 4) s, 0, wrd (len - 52)) else (s, 7, 0)
/-- EXT_OPEN (R463). -/
def execExtOpen (t : BitVec 8) (replyQ : Fin 64) (seq : BitVec 8) (addr : Word) (s : State) : Out :=
  .next (extRequest 4 t.toNat replyQ seq.toNat addr 12 (extOpenWork addr.toNat) s)

/-- Byte address of a half of a task's storage (R483, R484). -/
def storePlace (i h : Nat) : Nat := 0x02200000 + 0x20000 * i + 0x10000 * h
/-- The half of a task's storage that the next object goes to: of the half that holds the latest, or the one before it in line,
the other (R484). -/
def nextHalf (s : State) (i : Nat) (k : Task) : Nat :=
  let before := (s.flash.ops.map (·.2) ++ s.flash.waiting).filterMap (fun o => match o.work with
    | .store t _ _ _ h => if slotTask s t = some i then some h else none
    | _ => none)
  1 - before.getLastD k.halfSel
/-- STORE: flash operations on the half not holding the latest object. -/
def storeWork (t replyQ seq a : Nat) (i : Nat) (k : Task) (s : State) : State × Nat × Word :=
  let len := blockWord s a 0
  if len = 0 ∨ 65536 < len ∨ inArena k (blockWord s a 1) len = false ∨ regionSize s 0 (storePlace i 0) 0x20000 ≠ 0x20000 then (s, 4, 0)
  else
    let h := nextHalf s i k
    let p := storePlace i h
    (startFlash { sel := 0, cls := 3, work := .store t replyQ seq len h
                  steps := eraseUnits p 0x10000 ++ pageSteps s 0 p (ctrlBytes s (blockWord s a 1) len) } s, 1, 0)
/-- STORE (R463, R484). -/
def execStore (t : BitVec 8) (replyQ : Fin 64) (seq : BitVec 8) (addr : Word) (s : State) : Out :=
  .next (extRequest 5 t.toNat replyQ seq.toNat addr 12 (storeWork t.toNat replyQ seq.toNat addr.toNat) s)

/-- The last flash operation of a STORE ended, or one failed. -/
def storeDone (t replyQ seq len half : Nat) (ok : Bool) (s : State) : State :=
  match slotTask s t with
  | none => s
  | some i =>
    if ok then
      replyTask 5 0 replyQ seq (wrd len) (modTask s i (fun x => { x with halfSel := half, stored := len }))
    else replyTask 5 5 replyQ seq 0 s

/-- LOAD: the latest stored object, copied to the destination of the block. -/
def loadWork (a : Nat) (i : Nat) (k : Task) (s : State) : State × Nat × Word :=
  let dst := blockWord s a 2
  if k.stored = 0 ∨ inArena k dst k.stored = false then (s, 4, 0)
  else (ctrlPutBytes dst (flashBytes s 0 (storePlace i k.halfSel) k.stored)
      (modFlash s (Flash.wantRead 4 0 (storePlace i k.halfSel) k.stored)), 0, wrd k.stored)
/-- LOAD (R463, R484). -/
def execLoad (t : BitVec 8) (replyQ : Fin 64) (seq : BitVec 8) (addr : Word) (s : State) : Out :=
  .next (extRequest 6 t.toNat replyQ seq.toNat addr 12 (loadWork addr.toNat) s)

end Sys2Proof.Machine
end

