-- ==== Sys2Proof/Machine/Duty.lean ====
section
/-! DEFINITION. What Crier, roles and FALLBACK do to one another: Crier activation and its end (R32, R263,
R264, R275, R299), self-fault, handover and takeover (R293 to R301), entry to FALLBACK (R36, R277, R278),
and the start of a wake (R331). -/

namespace Sys2Proof.Machine

/-- A wake begins (R331): SLEEP_OK is deasserted, and the fast wake path waits for the rails. -/
def beginWake (s : State) : State :=
  if s.aon.mode = .sleep ∧ s.gate.phase = .asleep then
    modAon (modGate s (fun g => { g with phase := .waking, sleepOk := false }))
      (fun a => { a with timer := none })
  else s

/-- An entry to SLEEP is given up: the outputs are as before. -/
def stopSleep (s : State) : State :=
  modAon (s.setDomains (s.domains.map (fun e => (e.1, { e.2 with sleepK := 0 })))) (fun a =>
    { a with sleeping := false, sleepTick := none, timer := none })
/-- An alarm trigger before step 3 of an entry to SLEEP ends it (R329): 0xF6, the transition is discarded. -/
def alarmSleep (s : State) : State :=
  match acceptedOf s 0x93 with
  | some m => refuse m (stateRefused 0xF6) (stopSleep s)
  | none => s

/-! ### The Crier and the rest of the device -/

/-- What a Crier activation does elsewhere (R32, R251, R275): injection stops at the next Bell; DUTY_IN is watched from here. -/
def crierActivated (s : State) : State :=
  let s1 := if s.aon.mode = .service ∨ s.aon.mode = .vigil ∨ s.twin.dutyOut then s
    else modTwin s (fun t => { t with settled := false, released := false })
  abortZones 9 ((dom s1 (planDomain s1)).bell + 1) 0 (fun z => zoneForced s1 z) s1
/-- An alarm trigger has come, whatever the Crier plays: it ends an entry to SLEEP, or begins a wake (R329, R331). -/
def alarmCame (s : State) : State := beginWake (alarmSleep s)

/-- A change of the Crier's triggers or playback: its state follows (R263), and with it the interlock. -/
def crierStep (f : Crier → Crier) (s : State) : State :=
  let s1 := modCrier s (fun c => (f c).settle)
  let s2 := if s.crier.state ≠ .active ∧ s1.crier.state = .active then crierActivated s1 else s1
  updateDuty (if !s.crier.alarm && s1.crier.alarm then alarmCame s2 else s2)

/-- The internal triggers of a watchdog expiry, an overrun and `FALLBACK_ENTER` (R264). -/
inductive Internal | wdog | overrun | fbCmd
  deriving DecidableEq, Repr

/-- The internal trigger begins to hold. -/
def Crier.trigger (k : Internal) (c : Crier) : Crier :=
  match k with
  | .wdog => { c with wdog := true }
  | .overrun => { c with overrun := true }
  | .fbCmd => { c with fbCmd := true }
/-- The activation waits for the outcome of the handover (R299). -/
def Crier.hold (k : Internal) (c : Crier) : Crier :=
  match k with
  | .wdog => { c with heldWdog := true }
  | .overrun => { c with heldOverrun := true }
  | .fbCmd => { c with heldFb := true }
/-- What waited takes effect. -/
def Crier.unhold (c : Crier) : Crier :=
  { c with
    wdog := c.wdog || c.heldWdog
    overrun := c.overrun || c.heldOverrun
    fbCmd := c.fbCmd || c.heldFb
    heldWdog := false
    heldOverrun := false
    heldFb := false }

/-- An internal trigger: on a device in DUTY its activation is held (R299). -/
def internalTrigger (k : Internal) (s : State) : State :=
  if s.twin.role = .duty then modCrier s (Crier.hold k) else crierStep (Crier.trigger k) s

/-! ### Roles -/

/-- The device is SINGLE; what concerned the pair is dropped (R37, R300), DUTY_OUT as it was. -/
def dropPair (s : State) : State :=
  modTwin s (fun t => { t with role := .single, inStep := false, selfFault := false, handover := none, waitDuty := false })
/-- The device is SINGLE, and DUTY_OUT follows; a STANDBY device's domains take their own sources (R309). -/
def becomeSingle (s : State) : State :=
  updateDuty (dropPair (if s.twin.role = .standby then ownSources s else s))

/-- No handover takes place: SINGLE, and what the Crier held takes effect with DUTY_OUT still asserted, which the device
keeps as R293 and R275 have it (R297, R299). -/
def handoverLost (s : State) : State := crierStep Crier.unhold (dropPair s)

/-- The handover edge ends the frame of the handover domain's groups; every other group that drove a frame drives it to its
end (R295, R297). -/
def tailFrames (d : Nat) (s : State) : State :=
  forEach (List.range 8) (fun t g => modGroup t g (fun x =>
    { x with drives := false, tail := x.drives && driving s && framed s g && !(coreClocks s g && x.domain == d) })) s
/-- No group drives the frame in progress (R298). -/
def dropFrames (s : State) : State :=
  forEach (List.range 8) (fun t g => modGroup t g (fun x => { x with drives := false, tail := false })) s

/-- The handover edge of domain d on the outgoing device (R295, R297, R299): the partner has the outputs, so DUTY_IN is
seen asserted; its campaign ends (R251). -/
def handOver (d : Nat) (s : State) : State :=
  let s1 := modTwin (tailFrames d s) (fun t => { t with dutyIn := true, settled := false, dutyOut := false })
  crierStep Crier.unhold (twinEvent 2 (becomeSingle (partCampaign s1)))

/-- A DUTY device raises self-fault during the present Bell of domain d (R296, R297): the packet goes out
naming the second Bell from here. With no domain running no handover Bell can come. -/
def startHandover (d : Option Nat) (s : State) : State :=
  if s.twin.role = .duty ∧ s.twin.handover = none then
    match d with
    | some k => modTwin s (fun t =>
        { t with selfFault := true, handover := some { domain := k, bell := (dom s k).bell + 2 } })
    | none => handoverLost s
  else s

/-- The lowest domain that generates Bells: it sets the handover Bell of a self-fault that no Bell raises, of a watchdog, or of a
commanded handover (R297; DEDUCED, log 161, from R301). -/
def faultDomain (s : State) : Option Nat := (List.range 4).find? (fun d => (dom s d).runs)

/-- The new DUTY device continues the plan (R251): it takes the Tally leave that the campaign holds; variants that were not
yet stated it stages itself, and the rounds go on once it has the leave. -/
def takePlan (s : State) : State :=
  if s.vigil.state = .running then
    let s1 := requestLeave 7 0 s
    match s1.vigil.step with
    | 2 => enterVigil s1
    | 6 => if !s1.vigil.zones.any (·.active) ∧ s1.vigil.writing = [] then runRounds s1 else s1
    | _ => s1
  else s

/-- Takeover (R298, R300): DUTY, DUTY_OUT asserted, each group driven from its next frame, zones in progress aborted and the
plan continued. -/
def takeover (d : Nat) (byHandover : Bool) (s : State) : State :=
  let s1 := twinEvent 3 (modTwin (dropFrames s) (fun t =>
    { t with role := .duty, dutyOut := true, dutyIn := false, inStep := false, selfFault := false, waitDuty := false,
             handover := none, tookDom := d, tookBy := byHandover }))
  let s2 := postEvent 0x0060 [wrd (d + 256 * b2n byHandover), bellLo (dom s1 d).bell] s1
  let s3 := abortZones 10 (firstBell s2 (planDomain s2) 0) 15 (fun _ => true) s2
  takePlan (ownSources s3)

/-- A STANDBY device may take over (R298). -/
def mayTakeOver (s : State) : Bool := s.twin.role == .standby && s.twin.inStep && !s.twin.selfFault

/-- Out of step (R291): SINGLE, with the flag and TWIN_OUT_OF_STEP. -/
def outOfStep (d : Nat) (b : BitVec 48) (s : State) : State :=
  postEvent 0x0061 [wrd d, wrd (bellHi b), bellLo b]
    (becomeSingle (twinEvent 4 (modTwin s (fun t => { t with firstMis := some (d, b), lastDomain := d }))))

/-! ### Arming -/

/-- A detail code of R311 with the domain it concerns, 0xFFF where none. -/
def armRefuse (code : Nat) (d : Nat := 0xFFF) : Refuse :=
  ⟨match code with
    | 0x80 => 4 | 0x83 => 4 | 0x81 => 10 | 0x82 => 10 | 0x85 => 6 | 0x88 => 6 | 0x86 => 8 | 0x87 => 9 | _ => 5,
   code, 0x7F, some d⟩
/-- The failure of an arming in progress; on the joiner `TWIN_ARM` is answered with it (R302, R307, R311). -/
def armFailed (code : Nat) (s : State) (d : Nat := 0xFFF) : State :=
  match s.twin.armMb with
  | some m => refuse m (armRefuse code d) (failArming code s)
  | none => failArming code s

/-- No UNTESTED image waits for its acceptance: without it the device stays in MAINTENANCE (R3, R33; log 105). -/
def mayServe (s : State) : Bool := !s.gate.untested || s.jex.accepted

/-! ### FALLBACK -/

/-- The Querns stop (R36): at the next Bell of their domains, at once where no Bell comes. -/
def haltQuerns (s : State) : State :=
  (s.querns.filter (fun e => e.2.active.isSome)).foldl (fun t e =>
    if ((quernDom e.2).map (fun d => (dom t d).runs)).getD false then modQuern t e.1 (fun u => { u with stopNext := true, stopKeep := false })
    else stopQuern e.1 t) s

/-- What is staged for later Bells is lost with the Reeves' state (R36, R176), an armed route swap with it, for whichever Bell it
was (DESIGN CHOICE, log 158: R36 speaks of the swaps for that Bell). A command that a route copy holds and that the mode allows
stays ACCEPTED (R419, R439). -/
def dropArmed (s : State) : State :=
  let s1 := forEach (List.range 4) (fun t d => modDom t d (fun x =>
    { x with slots := x.slots.map (fun e => (e.1, { e.2 with armed := false, set := none, own := [], images := [] }))
             route := { x.route with armed := false } })) s
  let s2 := s1.jex.swaps.foldl (fun t w => dropSwap w t) (if s1.jex.load.isSome then releaseLeave 4 0 s1 else s1)
  modJex s2 (fun j =>
    { j with swaps := [], peerHeld := [], sets := [], heldChanges := [], load := none, loads := [], anns := [], extWait := []
             bundles := j.bundles.map (fun b => { b with unload := 0 }) })

/-- The Reeves as R277 has them: halted after a watchdog expiry, else Reeve 0 in the restricted loop. -/
def haltReeves (halt : Bool) (s : State) : State :=
  if halt then
    clearServed (modJex ([0, 1, 2, 3].foldl (fun t r => modReeve t r (fun v => { v with run := .halted, user := false })) s)
      (fun j => { j with started := false, restricted := false }))
  else
    let s1 := modReeve s 0 (fun v => { v with run := .restricted, user := false, wdog := 0 })
    let s2 := modReeve s1 1 (fun v => { v with run := .halted, user := false })
    let s3 := [2, 3].foldl (fun t r => modReeve t r (fun v => { v with run := .inReset, user := false })) s2
    modJex s3 (fun j => { j with restricted := true })

/-- Entry to FALLBACK from MAINTENANCE, SERVICE or VIGIL (R36, R277): after a watchdog expiry the Reeves are
halted at once and Jexolaryn does nothing more; an entry to SLEEP ends. -/
def enterFallback (halt : Bool) (s : State) : State :=
  if s.aon.mode = .service ∨ s.aon.mode = .vigil ∨ s.aon.mode = .maintenance then
    let s0 := if halt then haltFlash (haltReeves true s) else s
    let s1 := stopSleep (quietPort s0)
    let s2 := setMode .fallback 0 s1
    let s3 := stopAllDma (stopTasks (loseCampaign (dropArmed (haltQuerns (failArming 0x84 s2)))))
    let s4 := if s3.twin.role = .standby then dropPair s3 else s3
    updateDuty (if halt then s4 else haltReeves false s4)
  else s

end Sys2Proof.Machine
end

