-- ==== Sys2Proof/Machine/Twin.lean ====
section
/-! DEFINITION. The Twin link and the pair (R283 to R311): link events, Bell frames received and missing,
DUTY_IN, handover and takeover, arming up to the copy, and the commands TWIN_STATUS to TWIN_CONFIG. -/

namespace Sys2Proof.Machine

/-- What the partner's frames say of domain d. -/
def peer (s : State) (d : Nat) : Peer := Tab.get {} s.twin.peers d
/-- The record of domain d passed through f. -/
def modPeer (s : State) (d : Nat) (f : Peer → Peer) : State :=
  modTwin s (fun t => { t with peers := Tab.mod {} t.peers d f })
/-- This device is to become STANDBY (R302). -/
def joiner (s : State) : Bool := s.twin.armMb.isSome
/-- The device follows a DUTY device: STANDBY, or a joiner. -/
def follows (s : State) : Bool := s.twin.role == .standby || joiner s
/-- The enabled domains. -/
def enabledDoms (s : State) : List Nat := (List.range 4).filter (fun d => (dom s d).enable)

/-! ### DUTY_IN (R293, R298) -/

/-- DUTY_IN_DEASSERT: a STANDBY device takes over at once, a SINGLE one claims the outputs as R293 has it. -/
def execDutyInDeassert (s : State) : Out :=
  let s1 := modTwin s (fun t => { t with dutyIn := false, settled := false })
  .next (if mayTakeOver s1 ∧ s1.twin.handover = none then takeover ((faultDomain s1).getD 0) false s1 else updateDuty s1)
/-- DUTY_IN_ASSERT: a device at position B that is not in DUTY releases DUTY_OUT; the partner has the outputs. -/
def execDutyInAssert (s : State) : Out := .next (updateDuty (modTwin s (fun t => { t with dutyIn := true, settled := false, released := false })))
/-- DUTY_IN_SETTLE: DUTY_IN has stayed deasserted for 4 ms. -/
def execDutyInSettle (s : State) : Out :=
  .next (if s.twin.dutyIn then s else updateDuty (modTwin s (fun t => { t with settled := true, released := false })))

/-! ### The link (R284, R285) -/

/-- LINK_TRAINING_DONE: with the partner at the same position the link stays in TRAIN, else it is UP. -/
def execLinkTrainingDone (peerPos : Bool) (peerProto : BitVec 8) (peerRelease : Word) (s : State) : Out :=
  if s.twin.linkEn ∧ s.twin.link ≠ .up then
    if peerPos = s.twin.pos then .next (twinEvent 6 (modTwin s (fun t => { t with link := .train })))
    else
      let s1 := modTwin s (fun t =>
        { t with
          link := .up
          peerProto := peerProto.toNat
          peerRelease := peerRelease.toNat
          peers := t.peers.map (fun e => (e.1, { e.2 with seen := false })) })
      .next (if peerProto.toNat = s.twin.proto then s1
        else postEvent 0x0064 [pack [(peerProto.toNat, 8), (s.twin.proto, 0)]] (twinEvent 7 s1))
  else .next s

/-- LINK_ALIGN_LOSS: DOWN; an arming in progress fails, and domains that follow the link lose their reference (R61). -/
def execLinkAlignLoss (s : State) : Out :=
  if s.twin.link = .down then .next s
  else .next (forEach (List.range 4) (fun t d => loseMarker d t) (armFailed 0x8A (modTwin s (fun t => { t with link := .down }))))
/-- LINK_RTT_MEASURE: half the round trip of ns. -/
def execLinkRttMeasure (ns : Nat) (s : State) : Out :=
  if s.twin.link = .down then .next s else .next (modTwin s (fun t => { t with latency := Nat.min (ns / 2) 65535 }))

/-- A packet between Bell frames, which f does; one whose CRC-32C is wrong is counted and dropped (R289, R308). -/
def packetIn (crcOk : Bool) (f : State → State) (s : State) : State :=
  if s.twin.link = .up then
    if crcOk then f s else modTwin s (fun t => { t with crcErr := satAdd t.crcErr 1 8 })
  else s

/-! ### Missing frames (R286, R298) -/

/-- The partner's frames are lost: a STANDBY device takes over once DUTY_IN is deasserted, or waits for it;
a DUTY device becomes SINGLE and keeps DUTY_OUT. -/
def framesLost (d : Nat) (s : State) : State :=
  match s.twin.role with
  | .single => s
  | .duty => twinEvent 5 (handoverLost s)
  | .standby =>
    if mayTakeOver s = false then twinEvent 5 (becomeSingle s)
    else if s.twin.dutyIn then modTwin s (fun t => { t with waitDuty := true })
    else takeover d false s

/-- n frames of domain d are missing in a row, which breaks a run of late Bells (R296) and one of matching digests (R307); with `marker` their Bell markers have come all the same (R61, R286). -/
def countMissing (d n : Nat) (marker : Bool) (s : State) : State :=
  let s0 := modDom s d (fun x => { x with lateRun := 0 })
  let s1 := modPeer (modTwin s0 (fun t => { t with missing := satAdd t.missing n 8 })) d
    (fun p => { p with missRun := p.missRun + n, heartbeat := (p.heartbeat + n) % 256, mirrorOk := false, good := 0 })
  let s2 := if marker then s1 else loseMarker d s1
  if 2 ≤ (peer s1 d).missRun ∧ (dom s d).enable then framesLost d s2 else s2

/-- TWIN_FRAME_MISSING: the frame was not complete by action 1 of the next Bell, or its CRC was bad; one with a bad CRC has
come with its marker. -/
def execTwinFrameMissing (d : Fin 4) (badCrc : Bool) (s : State) : Out :=
  if (dom s d).enable ∧ s.twin.linkEn then
    .next (countMissing d 1 badCrc (modTwin s (fun t => { t with crcErr := satAdd t.crcErr (b2n badCrc) 8 })))
  else .next s

/-- LINK_LOST_TIMEOUT: DUTY_IN has stayed asserted for 4 ms after the frames were lost. -/
def execLinkLostTimeout (s : State) : Out :=
  .next (if s.twin.role = .standby ∧ s.twin.waitDuty then
      if s.twin.dutyIn then twinEvent 5 (becomeSingle s) else takeover ((faultDomain s).getD 0) false s
    else s)

/-! ### Handover (R295 to R299, R301) -/

/-- HANDOVER_PACKET_RECEIVED: a STANDBY device that is IN_STEP acknowledges; during arming the arming fails. -/
def execHandoverPacketReceived (d : Fin 4) (bell : BitVec 48) (crcOk : Bool) (s : State) : Out :=
  .next (packetIn crcOk (fun t =>
    let t1 := armFailed 0x8A t
    if mayTakeOver t then modTwin t1 (fun w =>
        { w with handover := some { domain := d, bell := bell, acked := true, incoming := true } })
      else t1) s)

/-- The handover takes place on this device. -/
def handoverEdge (h : Handover) (s : State) : State :=
  if h.incoming then takeover h.domain true (modTwin s (fun t => { t with dutyIn := false })) else handOver h.domain s

/-- The handover Bell begins with the handover undecided: without an acknowledgement none takes place; an
acknowledged one has had its edge. -/
def handoverBell (d : Nat) (s : State) : State :=
  match s.twin.handover with
  | some h =>
    if h.domain = d ∧ h.bell = (dom s d).bell then
      if h.acked then handoverEdge h s else handoverLost s
    else s
  | none => s

/-! ### Records (R128, R181, R193, R227, R289) -/

/-- A record for Bell b arrives `since` ps after the domain's last Bell, at least 1 ms before Bell b (R181). -/
def inTime (s : State) (d : Nat) (b : BitVec 48) (since : Nat) : Bool := bellAllowed s d b 1000000000 since
/-- A record that a STANDBY device cannot match puts it out of step (R181). -/
def unmatched (d : Nat) (b : BitVec 48) (s : State) : State := if s.twin.role = .standby then outOfStep d b s else s

/-- A commit record: the partner arms for the same Bell, or is out of step (R181). -/
def partnerCommit (d since : Nat) (ws : List Word) (s : State) : State :=
  let n := fld (ws.getD 0 0) 0 3
  let b := bellOf (fld (ws.getD 1 0) 0 16) (ws.getD 2 0).toNat
  let h := hostSet s n
  match hostSlot s d with
  | some k =>
    if h.domain = d ∧ h.staged ≠ [] ∧ inTime s d b since ∧ setDigest h = ws.getD 3 0 then armSet n k false b s
    else unmatched d b s
  | none => unmatched d b s

/-- A route swap record: taken 1 ms ahead, as a commit (R193). -/
def partnerRoute (d since : Nat) (ws : List Word) (s : State) : State :=
  let b := bellOf (fld (ws.getD 0 0) 0 16) (ws.getD 1 0).toNat
  if inTime s d b since then modDom s d (fun x => { x with route := x.route.arm false b x.bell }) else unmatched d b s

/-- An aligned-group start record: a start on SYNC_IN arms the groups here too, and its Bell s is taken as the DUTY device has
fixed it; a start by command is armed for its Bell, and one that has begun is taken up, frames counted from it (R65, R66). -/
def partnerStart (d : Nat) (ws : List Word) (s : State) : State :=
  let b := bellOf (fld (ws.getD 1 0) 0 16) (ws.getD 2 0).toNat
  let gs := (List.range 8).filter (fun a => bit (ws.getD 0 0) a)
  let onSync := bit (ws.getD 0 0) 8
  if onSync && b == 0 then gs.foldl (fun t a => modAlign t a (fun x => { x with state := 1, onSync := true, start := 0 })) s
  else if onSync || decide (b.toNat ≤ (dom s d).bell.toNat) then
    gs.foldl (fun t a => modAlign t a (fun x => { x with state := 2, onSync := onSync, start := b })) s
  else
    modAudio (gs.foldl (fun t a => modAlign t a (fun x => { x with state := 1, onSync := false, start := b })) s)
      (fun a => { a with syncResv := a.syncResv ++ [(d, b)] })

/-- A program swap record: taken when the bundle is STAGED (REPLACED for a REVERT) with the same digest. -/
def partnerSwap (d : Nat) (ws : List Word) (s : State) : State :=
  let w1 := ws.getD 1 0
  match bundleOf s (ws.getD 0 0).toNat with
  | none => s
  | some b =>
    if b.state = (if bit w1 30 then BState.replaced else BState.staged) ∧ digestWords b.digest = ws.drop 3 then
      let s1 := askSwapLeave b d s
      modJex s1 (fun j =>
        { j with swaps := j.swaps ++ [{ domain := d, bundle := b.id, revert := bit w1 30,
                                        bell := bellOf (fld w1 0 16) (ws.getD 2 0).toNat, partner := true }] })
    else s

/-- One record of a Bell frame of domain d. -/
def applyRecord (d since kind : Nat) (ws : List Word) (s : State) : State :=
  match kind, follows s with
  | 1, true => partnerCommit d since ws s
  | 2, true => partnerRoute d since ws s
  | 3, true => partnerStart d ws s
  | 4, _ => partnerSwap d ws s
  | _, _ => s

/-- The records of a frame, at most n of them. Commits, route swaps and starts are given to the DUTY device and
followed; a program swap may be given to either device and both make it (R128). -/
def applyRecords (d since : Nat) : Nat → List Word → State → State
  | 0, _, s => s
  | _, [], s => s
  | n + 1, h :: t, s =>
    applyRecords d since n (t.drop (fld h 16 8)) (applyRecord d since (fld h 24 8) (t.take (fld h 16 8)) s)

/-! ### Bell frames (R287, R288, R291, R296) -/

/-- The flags of a frame and its Bell number. -/
def noteFrame (d : Nat) (ws : List Word) (s : State) : State :=
  let w := ws.getD 0 0
  modPeer s d (fun p =>
    { p with
      heartbeat := fld w 8 8
      seen := true
      late := bit w 6
      inStep := bit w 5
      selfFault := bit w 7
      arming := bit w 4
      crier := bit w 3
      role := fld w 24 2
      missRun := 0
      frameNow := true
      bell := frameBell ws
      phases := (framePhases ws).foldl (fun t e => Tab.ins t e.1 e.2) []
      stileOut := slotTab (stilesInto s.audio.stileA d) (frameOuts ws) })

/-- The mirror of a frame against the receive set (R288). -/
def noteMirror (d : Nat) (ws : List Word) (s : State) : State :=
  let set := mirrorRx s s.audio.inA d
  if ws.getD 4 0 = Config.mirrorCrc set ∧ set.length = fld (ws.getD 5 0) 20 12 then
    modPeer s d (fun p => { p with mirror := slotTab set (frameMirror ws), mirrorOk := true })
  else twinEvent 8 (modPeer s d (fun p => { p with mirrorOk := false }))

/-- The digest of the Bell before the frame's is compared (R291): by a STANDBY device, and by a joiner that
verifies (R307). The eighth mismatch in a row leaves the pair, unless a takeover is at hand (R301). -/
def compareDigest (d : Nat) (ws : List Word) (s : State) : State :=
  let b := frameBell ws - 1
  match digestAt s d b with
  | none => s
  | some own =>
    if own = ws.getD 3 0 then modPeer s d (fun p => { p with mismatch := 0, good := Nat.min (p.good + 1) 256 })
    else if s.twin.role = .standby then
      let p := peer s d
      let first := if p.mismatch = 0 then b else p.misBell
      let s1 := modTwin (modPeer s d (fun x => { x with mismatch := Nat.min (x.mismatch + 1) 8, misBell := first, good := 0 }))
        (fun t => { t with lastDomain := d })
      if 8 ≤ p.mismatch + 1 ∧ s.twin.handover = none ∧ !s.twin.waitDuty then outOfStep d first s1 else s1
    else modPeer s d (fun p => { p with good := 0 })

/-- LATE_HO (R296): a DUTY device late at consecutive Bells at which its partner is not. -/
def lateHandover (d : Nat) (ws : List Word) (s : State) : State :=
  if s.twin.role = .duty ∧ frameBell ws = (dom s d).bell then
    let w := ws.getD 0 0
    let own := bit ((peer s d).lastSent.getD 0 0) 6
    let n := if own && !bit w 6 && bit w 5 then (dom s d).lateRun + 1 else 0
    let s1 := modDom s d (fun x => { x with lateRun := n })
    if s.twin.lateHo ≠ 0 ∧ s.twin.lateHo ≤ n then startHandover (some d) s1 else s1
  else s

/-! ### Arming (R302, R303, R307) -/

/-- Arming is complete on the joiner: STANDBY in SERVICE. -/
def joined (m : Nat) (s : State) : State :=
  let j := Tab.get 0 s.twin.joinBell 0
  let s1 := reply m [0, wrd (bellHi j), bellLo j] (modTwin s (fun t =>
    { t with role := .standby, inStep := true, arm := .idle, armMb := none, armLeave := false, attempts := 0 }))
  postEvent 0x0062 [0, bellLo j] (twinEvent 1 (updateDuty (setMode .service 0 (releaseLeave 5 0 s1))))

/-- Arming is complete on the partner: DUTY. -/
def armedDuty (s : State) : State :=
  let j := Tab.get 0 s.twin.joinBell 0
  let s1 := modTwin (dropCaptures s) (fun t =>
    { t with role := .duty, inStep := true, arm := .idle, armLeave := false, joinBell := [], joinIdx := [] })
  postEvent 0x0062 [0, bellLo j] (twinEvent 1 (updateDuty (releaseLeave 5 0 s1)))

/-- A joiner that has 256 matching digests in every enabled domain joins; its partner, which is to be in SERVICE or VIGIL
(R37), sees it STANDBY and IN_STEP. -/
def armEnd (d : Nat) (s : State) : State :=
  match s.twin.arm, s.twin.armMb with
  | .verify, some m => if (enabledDoms s).all (fun k => (peer s k).good == 256) then joined m s else s
  | .idle, _ => s
  | _, none => if (peer s d).role = 2 ∧ (peer s d).inStep ∧ (s.aon.mode = .service ∨ s.aon.mode = .vigil) then armedDuty s else s
  | _, _ => s

/-- A whole Bell frame of domain d, complete `since` ps after the domain's last Bell. -/
def takeFrame (d since : Nat) (ws : List Word) (s : State) : State :=
  let p := peer s d
  let skipped := if p.seen then (fld (ws.getD 0 0) 8 8 + 255 - p.heartbeat) % 256 else 0
  let s1 := if skipped = 0 then s else countMissing d skipped false s
  let s2 := noteMirror d ws (noteFrame d ws s1)
  let s3 := if s2.twin.role = .standby ∨ (joiner s2 ∧ s2.twin.arm = .verify) then compareDigest d ws s2 else s2
  let s4 := if s3.twin.role ≠ .single ∨ joiner s3 then
      applyRecords d since (frameRecs ws).length (frameRecs ws) s3 else s3
  armEnd d (lateHandover d ws s4)

/-- BELL_FRAME_RECEIVED: a frame that is not whole is a missing one with a bad CRC; its marker has come. -/
def execBellFrameReceived (d : Fin 4) (frame : List Word) (since : Nat) (s : State) : Out :=
  if s.twin.link = .up then
    .next (if frameWhole d frame then takeFrame d since frame s
      else if (dom s d).enable then countMissing d 1 true (modTwin s (fun t => { t with crcErr := satAdd t.crcErr 1 8 })) else s)
  else .next s

/-- Banks that hold lines are TWIN_COPY (R303). -/
def takeCopyBanks (s : State) : State :=
  ((List.range 128).filter (fun b => bankLines s b != 0)).foldl (fun t b => writeOwner b 4 0 t) s

/-- The Querns stop, their programs kept (R303). -/
def pauseQuerns (s : State) : State :=
  s.setQuerns (s.querns.map (fun e => (e.1, { e.2 with running := false, outs := [], posted := false, lateNow := false, lateBells := 0,
                                                        counted := false, hold := false })))

/-- The joiner begins or begins again to take the copy (R303 step 2, R307). -/
def beginCopy (s : State) : State :=
  takeCopyBanks (pauseQuerns (modTwin s (fun t =>
    { t with arm := .copy, joinBell := [], replay := [],
             peers := t.peers.map (fun e => (e.1, { e.2 with good := 0, since := 0 })) })))

/-- Step 2 on the joiner: every domain follows the partner's Bells and takes its count (R50, R303). -/
def startCopy (s : State) : State :=
  beginCopy (forEach (enabledDoms s) (fun t d =>
    let p := peer t d
    modDom (changeSource d 5 0 t) d (fun x => { x with bell := if p.seen then p.bell else x.bell })) s)

/-- The next step of an arming once leave is granted and both devices have passed their checks. -/
def armSettle (s : State) : State :=
  if s.twin.arm = .check ∧ s.twin.armLeave ∧ s.twin.armOk then
    if joiner s then (if 2 ≤ s.twin.peerArm then startCopy s else s)
    else modTwin s (fun t => { t with arm := .copy })
  else s

/-- A join attempt fails (R307): the third ends the arming. -/
def attemptFailed (s : State) : State :=
  if s.twin.attempts + 1 < 3 then beginCopy (modTwin s (fun t => { t with attempts := t.attempts + 1 })) else armFailed 0x88 s

/-- JOIN_TIMEOUT: no 256 matching digests within 1 s of J. -/
def execJoinTimeout (s : State) : Out :=
  .next (if joiner s ∧ (s.twin.arm = .join ∨ s.twin.arm = .catchup ∨ s.twin.arm = .verify) then attemptFailed s else s)

/-! ### The commands (R309 to R311) -/

/-- TWIN_STATUS accepted. -/
def twinStatusRun (m : Nat) (s : State) : State :=
  let t := s.twin
  let mis := (t.firstMis.map (·.2)).getD 0
  reply m [t.statusWord, wrd t.events.toNat, t.mismatchWord, t.linkWord, wrd (bellHi mis), bellLo mis, wrd t.peerRelease] s
/-- TWIN_STATUS (0x80). -/
def execTwinStatus (m : Fin 8) (s : State) : Out := .next (serve 0x80 m noChecks (twinStatusRun m) s)

/-- What the joiner checks at once at `TWIN_ARM`: its own part of order 1 of R302, and that no arming is in progress (0x86).
The other conditions concern the partner too and are checked in their order with it (`partnerRefusal`, `joinerRefusal`). -/
def twinArmChecks (s : State) : Option Refuse :=
  let t := s.twin
  firstRefusal
    [(t.link == .up && t.role == .single && !t.dutyOut && (t.dutyIn || t.pos) && mayServe s, armRefuse 0x84),
     (t.arm == .idle, armRefuse 0x86)]
/-- TWIN_ARM accepted: CHECK; the reply waits for the end of the arming. -/
def twinArmRun (m : Nat) (s : State) : State :=
  modTwin s (fun t => { t with arm := .check, armMb := some m, armOk := false, peerArm := 0, attempts := 0 })
/-- TWIN_ARM (0x81). -/
def execTwinArm (m : Fin 8) (s : State) : Out := .next (serve 0x81 m twinArmChecks (twinArmRun m) s)

/-- TWIN_DISARM accepted (R36, R37): SINGLE; an arming in progress ends. -/
def twinDisarmRun (m : Nat) (s : State) : State :=
  let s1 := armFailed 0x84 s
  reply m [0] (if s1.twin.role = .duty then handoverLost s1 else becomeSingle s1)
/-- TWIN_DISARM (0x82). -/
def execTwinDisarm (m : Fin 8) (s : State) : Out := .next (serve 0x82 m noChecks (twinDisarmRun m) s)

/-- TWIN_HANDOVER only on the DUTY device, while the partner's frames show IN_STEP (0x89). -/
def twinHandoverChecks (s : State) : Option Refuse :=
  if s.twin.role = .duty ∧ (enabledDoms s).any (fun d => (peer s d).inStep) then none else some (armRefuse 0x89)
/-- TWIN_HANDOVER accepted: self-fault; the reply gives the handover Bell. -/
def twinHandoverRun (m : Nat) (s : State) : State :=
  let s1 := startHandover (faultDomain s) s
  reply m [match s1.twin.handover with | some h => bellLo h.bell | none => 0] s1
/-- TWIN_HANDOVER (0x83). -/
def execTwinHandover (m : Fin 8) (s : State) : Out := .next (serve 0x83 m twinHandoverChecks (twinHandoverRun m) s)

/-- TWIN_CFG of the command's words. -/
def twinConfigOf (s : State) (m : Nat) (t : Twin) : Twin :=
  let on := bit (arg s m 1) 31
  { t with
    linkEn := on
    lateHo := fld (arg s m 1) 28 3
    sieveTx := arg s m 2
    sieveRx := arg s m 3
    ownSrc := (arg s m 4).setWidth 28
    proto := if on then 6 else t.proto
    link := if on then (if t.link = .down then .train else t.link) else .down }
/-- The checks of TWIN_CONFIG: fields in range, no Sieve both ways (0x80), the link's limits (0x83). -/
def twinConfigChecks (m : Nat) (s : State) : Option Refuse :=
  let w := arg s m 4
  let bad := (List.range 4).find? (fun d => !decide (fld w (7 * d + 3) 4 ≤ 5))
  firstRefusal
    [(bad.isNone, armRefuse 0x80 (bad.getD 0xFFF)), (arg s m 2 &&& arg s m 3 == 0, armRefuse 0x80),
     (linkFits (modTwin s (twinConfigOf s m)) s.audio.inS s.audio.stileS, armRefuse 0x83)]
/-- TWIN_CONFIG accepted: a link that is disabled goes DOWN, which ends an arming. -/
def twinConfigRun (m : Nat) (s : State) : State :=
  let s1 := modTwin s (twinConfigOf s m)
  reply m [0] (if s1.twin.link = .down then forEach (List.range 4) (fun t d => loseMarker d t) (armFailed 0x8A s1) else s1)
/-- TWIN_CONFIG (0x84). -/
def execTwinConfig (m : Fin 8) (s : State) : Out := .next (serve 0x84 m (twinConfigChecks m) (twinConfigRun m) s)

end Sys2Proof.Machine
end

