-- ==== Sys2Proof/Machine/Bell.lean ====
section
/-! DEFINITION. The end of a pass (R62, R88, R103, R129 to R132, R144, R514) and the Bell: its eight actions
in order (R27), lateness (R62, R129 to R133), the Bell generator's own steps (R46 to R50, R59, R60), and what
the Warden, Tally, the Sexton, Vigil, players and the Twin link do at a Bell. Rows PASS_END and BELL. -/

namespace Sys2Proof.Machine

/-! ### The end of a pass -/

/-- What a pass that finished in time posts in an owned slot (R88). -/
def Quern.outSlot (u : Quern) (n : Nat) : Slot :=
  match u.outs.find? (fun e => e.1 == n) with
  | some e => { word := e.2, valid := true }
  | none => {}
/-- The owned slots of the active program. -/
def Quern.ownedSlots (u : Quern) : List Nat := (u.active.map (·.owned)).getD []

/-- The end of a pass in the Quern's own record: the sticky flags go to QSTAT (R103); a pass in time has
posted and resets the count of R131, a late one has its Square writes discarded (R129). -/
def Quern.endPass (u : Quern) (dur : Nat) : Quern :=
  let v := { u with running := false, dur := dur, qOva := u.qOva || u.ova, qSat := u.qSat || u.sat, qPf := u.qPf || u.pf, outs := [] }
  if u.lateBells = 0 then { v with posted := true, overruns := 0 } else v

/-- What the capture epilogue writes at the end of the pass of Bell J - 1 (R305). -/
def Quern.captured (u : Quern) : Capture :=
  { scratch := Tab.run 0 u.scratch 0 1024
    nb := Tab.run 0 u.nb 0 256
    work := Tab.run 0 u.ledgerA u.workBase (4096 - u.workBase)
    slots := u.ownedSlots.map (fun n => (u.outSlot n).word)
    glides := (Tab.run {} u.glides 0 64).map (fun g => (g.start, g.target, 65536 * g.len + g.k)) }

/-- The pass of Quern q runs out: its remaining slots execute, and its Square writes stand in the back page
of its domain when it is in time; the pass of Bell J - 1 ends with the capture epilogue. -/
def endPass (q dur : Nat) (s : State) : State :=
  let s1 := runRest q s
  let u := quern s1 q
  let s2 := match quernDom u with
    | some d => if u.lateBells = 0 then
        modDom s1 d (fun x => { x with back := u.ownedSlots.foldl (fun t n => Tab.set {} t n (u.outSlot n)) x.back })
      else s1
    | none => s1
  let s3 := modQuern s2 q (fun v => v.endPass dur)
  if u.lateBells = 0 ∧ (quernDom u).any (captures s) then modQuern s3 q (fun v => { v with capture := some u.captured }) else s3

/-- PASS_END: the pass ends dur ps after the latest Bell of its domain (R514: before or after a Bell as the
order of the commands has it). -/
def execPassEnd (q : Fin 128) (dur : Nat) (s : State) : Out :=
  .next (if (quern s q).running then endPass q dur s else s)

/-! ### Action 1: the generator (R46 to R50, R59, R60) -/

/-- A change to the synthesiser is taken: LOCKED within 1 ppm of the nominal rate, else SLEW (R60). -/
def takeSynth (d : Nat) (s : State) : State :=
  let x := dom s d
  let r := x.rateNow
  let n := nominalRate x.rate
  let s1 := modDom s d (fun y => { y with toSynth := false })
  if x.switched then
    modDom s1 d (fun y => { y with slewRem := 0, bellRate := if (r - n + (n - r)) * 1000000 ≤ n then n else y.bellRate })
  else if x.state = .switching then
    modDom s1 d (fun y => { y with switchIn := if y.step = .muted ∧ y.target.isSome ∧ y.switchIn.isNone then some 1 else y.switchIn })
  else if (r - n + (n - r)) * 1000000 ≤ n then enterLocked d (modDom s1 d (fun y => { y with bellRate := n }))
  else modDom s1 d Domain.beginSlew

/-- The switching Bell (R59 step 3, R60): the new rate as the last run measured it, the nominal one where that run lies outside
the new band. -/
def switchingBell (d code : Nat) (s : State) : State :=
  let s1 := modDom s d (fun x =>
    { x with
      rate := code
      target := none
      switchIn := none
      bellRate := if x.timedOut ∨ x.src = 4 ∨ x.refRate = 0 ∨ !inBand x.refRate (nominalRate code) then nominalRate code else x.refRate
      state := if x.timedOut then .holdover else x.state
      rateChange := x.rateChange || x.timedOut })
  refreshFloor (vigilRate d code (recentreStiles d (judgeCodes d s1)))

/-- The place of a reconfiguration and of the ramp of an entry to SLEEP at this Bell. -/
def reconfigBell (d : Nat) (s : State) : State :=
  let x := dom s d
  let s1 := modDom s d (fun y =>
    { y with rampK := if y.step = .rampDown ∨ y.step = .rampUp then y.rampK + 1 else y.rampK
             sleepK := if s.aon.sleepTick.isSome then y.sleepK + 1 else y.sleepK })
  match x.step, x.target, x.switchIn with
  | .muted, some c, some 0 => switchingBell d c s1
  | .muted, some _, some (k + 1) => modDom s1 d (fun y => { y with switchIn := some k })
  | _, _, _ => s1

/-- Action 1: the count increments after an interval in ps; the generator slews; the first Bell locks the domain (R49,
R50, R56). -/
def countBell (d interval : Nat) (s : State) : State :=
  let s1 := modDom s d (fun x => { x.slewStep interval with bell := x.bell + 1, returnedFrom := none })
  let s2 := if (dom s d).state = .acquire then
      enterLocked d (modDom s1 d (fun x =>
        { x with bellRate := if x.src = 4 ∨ x.refRate = 0 then nominalRate x.rate else x.refRate }))
    else s1
  reconfigBell d (if (dom s2 d).toSynth then takeSynth d s2 else s2)

/-- Aligned groups whose commanded start is at this Bell, and SYNC_OUT from Bell s - 1 to Bell s (R66, R227). -/
def alignBell (d : Nat) (s : State) : State :=
  let b := (dom s d).bell
  let due := (List.range 8).filter (fun a =>
    let x := align s a
    x.domain == d && x.state == 1 && !x.onSync && x.start == b)
  let s1 := due.foldl (fun t a => modAlign t a (fun y => { y with state := 2 })) s
  modAudio s1 (fun a =>
    { a with
      syncOut := if a.syncResv.contains (d, b + 1) then true else if a.syncResv.contains (d, b) then false else a.syncOut
      syncResv := a.syncResv.filter (fun e => e.1 != d || decide (b.toNat < e.2.toNat)) })

/-! ### Action 2: lateness (R62, R131 to R133) -/

/-- A Quern marked late: slots held, the count of R131, and the late-mute at 3. -/
def Quern.markLate (u : Quern) (tick : Nat) : Quern :=
  let n := if u.rampUp ≠ 0 then 1 else if u.counted then u.overruns else Nat.min (u.overruns + 1) 3
  let v := { u with lateNow := true, lateBells := u.lateBells + 1, outs := [], posted := false, hold := true, timely := 0,
                    slack := 0, counted := true, overruns := n, rampUp := 0 }
  if n = 3 ∧ !u.muted ∧ !u.counted then { v with muted := true, rampDown := 1, muteTicks := (tick :: u.muteTicks).take 4 } else v

/-- A Quern that is not late: its slack in whole units of 5.09 ns, rounded down (DESIGN CHOICE, log 154: R62 states no rounding),
and its row of passes in time (R62, R132). -/
def Quern.onTime (u : Quern) (interval : Nat) : Quern :=
  let fin := u.posted || u.lateBells != 0
  { u with
    lateNow := false
    slack := if fin then (interval - u.dur) * 196608000 / 1000000000000 else u.slack
    timely := if u.posted then u.timely + 1 else u.timely }

/-- The mute ramp goes on (R131). -/
def Quern.rampOn (u : Quern) (n : Nat) : Quern := if u.muted then { u with rampDown := Nat.min (u.rampDown + 1) n } else u

/-- One Quern of domain d at action 2; each late marking counts, and the rail steps up (R62, R325). -/
def judgeQuern (d interval q : Nat) (s : State) : State :=
  let n := rampBells (dom s d).rate
  if (quern s q).running then
    let s1 := modQuern s q (fun u => { (u.rampOn n).markLate s.aon.tick with lateTime := u.lateTime + interval })
    let s2 := modDom s1 d (fun x => { x with late := true, lateCount := satAdd x.lateCount 1 32 })
    vigilLate d q (lateStepUp s2)
  else modQuern s q (fun u => (u.rampOn n).onTime interval)

/-- The Querns that silicon finds late-muted. -/
def mutedQuerns (s : State) : List Nat := (s.querns.filter (fun e => e.2.muted)).map (·.1)
/-- Repeated overrun at this Bell (R133): a fourth late-mute of one Quern within 60 s, or 16 at once. -/
def repeatedOverrun (old s : State) : Bool :=
  let new := (mutedQuerns s).filter (fun q => !(quern old q).muted)
  new != [] && (decide (16 ≤ (mutedQuerns s).length) || new.any (fun q =>
    match (quern s q).muteTicks[3]? with | some t => decide (since s t ≤ 60000) | none => false))

/-- Repeated overrun declared: FAULT_HW, self-fault, the Crier's trigger and FALLBACK (R33, R133, R486). -/
def declareOverrun (d : Nat) (s : State) : State :=
  let ms := mutedQuerns s
  let s1 := modFaults s (fun f =>
    if f.hwOverrun then f else { f with hwOverrun := true, ovrCount := ms.length % 256, ovrQuern := ms.headD 0 })
  enterFallback false (internalTrigger .overrun (startHandover (some d) s1))

/-! ### Action 3: the page swap with held and muted slots (R129 to R132, R186) -/

/-- The slots a Quern's postings give at this Bell: the mute ramp, the posting with its restore ramp, or the
held values with LATE; N is the ramp's length. -/
def Quern.postings (u : Quern) (n : Nat) : List (Nat × Slot) :=
  let held := fun (k : Nat) => (Tab.get {} u.lastPosted k : Slot)
  if u.muted then
    u.ownedSlots.map (fun k => (k, if u.rampDown < n then
      { held k with word := scale (held k).word (n - u.rampDown) n, late := true } else {}))
  else if u.posted then []
  else if u.hold then u.ownedSlots.map (fun k => (k, { held k with late := true }))
  else []

/-- A timely posting as the page shows it: scaled by the restore ramp (R132). -/
def Quern.timelySlots (u : Quern) (n : Nat) (page : Tab Slot) : List (Nat × Slot) :=
  if u.posted && !u.muted then
    u.ownedSlots.map (fun k =>
      let v : Slot := Tab.get {} page k
      (k, if u.rampUp = 0 then v else { v with word := scale v.word u.rampUp n }))
  else []

/-- The Quern's record after its slots have been posted. -/
def Quern.afterPosting (u : Quern) (n : Nat) (ps : List (Nat × Slot)) : Quern :=
  if u.posted then
    if u.muted then { u with hold := false }
    else { u with hold := false, lastPosted := ps.foldl (fun t e => Tab.set {} t e.1 e.2) [],
                  rampUp := if u.rampUp = 0 ∨ n ≤ u.rampUp then 0 else u.rampUp + 1 }
  else u

/-- Quern q's slots in the new front page of domain d. -/
def postQuern (d q : Nat) (s : State) : State :=
  let n := rampBells (dom s d).rate
  let u := quern s q
  let ts := u.timelySlots n (dom s d).front
  let s1 := modDom s d (fun x =>
    { x with front := (ts ++ u.postings n).foldl (fun t e => Tab.set {} t e.1 e.2) x.front })
  modQuern s1 q (fun v => v.afterPosting n ts)

/-- The pages swap, and every Quern's slots are posted. -/
def swapPages (d : Nat) (s : State) : State :=
  forEach (domQuerns s d) (fun t q => postQuern d q t) (modDom s d (fun x => { x with front := x.back, back := [] }))

/-! ### Action 4: write indices (R140, R144) -/

/-- The write index is frozen: FREEZE, while the owner is not active (R137). -/
def lineFrozen (s : State) (l : Line) : Bool := l.freeze && (quern s l.owner).active.isNone

/-- A word of a line written by its put buffer or as a late zero. -/
def lineWrite (e j : Nat) (v : Sample) (s : State) : State := putWord (line s e).owner e j v s

/-- One line at action 4: the put buffer of a pass that has ended, the advance, and 0 at the new position
while the owner is late; a STORED line keeps its words. -/
def lineBell (e : Nat) (s : State) : State :=
  let l := line s e
  let late := (quern s l.owner).lateNow
  let s1 := match l.put with
    | some p => if late then s
        else modLine (if l.stored then s else lineWrite e p.1 p.2 s) e (fun k => { k with put := none })
    | none => s
  if lineFrozen s l ∨ l.length = 0 then s1
  else
    let s2 := modLine s1 e (fun k => { k with widx := (k.widx + 1) % k.length })
    if late ∧ !l.stored then lineWrite e ((l.widx + 1) % l.length) 0 s2 else s2

/-- Action 4 for every line of domain d. -/
def linesBell (d : Nat) (s : State) : State :=
  forEach ((s.lines.filter (fun e => e.2.valid && e.2.domain == d)).map (·.1)) (fun t e => lineBell e t) s

/-! ### Action 6: commits and glides (R173, R174, R177 to R179) -/

/-- The in region as the pass of this Bell reads it (R74). -/
def Quern.snapshot (u : Quern) : Quern :=
  if u.lateNow then u else { u with nbIn := (Tab.keep (192 ≤ ·) u.nb).map (fun e => (e.1 - 192, e.2)) }

/-- PARAM_COMMITs of a pair whose Bell has come without the partner's answer (R181). -/
def answerCommits (d : Nat) (s : State) : State :=
  let b := (dom s d).bell
  (setsWhere s (fun h => h.mb != 0 && h.domain == d && decide (h.bell.toNat ≤ b.toNat))).foldl (fun t n => commitAnswered n false t) s

/-- Action 6, and what Jexolaryn's own commits bring about. -/
def commitAction (d : Nat) (s : State) : State :=
  let gs := (List.range 8).flatMap (fun k => firedOwn d k s)
  let fires := (List.range 8).any (fun k => (slotOf s d k).due (dom s d).bell)
  let s1 := forEach (domQuerns s d) (fun t q => swapInLedger q t) (fireSlots d s)
  let s2 := forEach (domQuerns s1 d) (fun t q => modQuern t q (fun u => u.stepGlides.snapshot)) s1
  let s3 := answerCommits d (serviceFired d gs (gainFired d gs s2))
  let s4 := if fires then takeHeld d s3 else s3
  if imageSlots s d ≠ [] ∧ imageSlots s1 d = [] then releaseMute d s4 else s4

/-! ### Action 8: passes start (R72, R129) -/

/-- The glide values in force. -/
def Quern.glideValues (u : Quern) : Tab Sample :=
  (List.range 64).foldl (fun t n => Tab.set 0 t n (Tab.get {} u.glides n).value) []

/-- A pass starts: registers zero, the write indices, the page and the glide values of this Bell (R26, R72, R129). -/
def Quern.startPass (u : Quern) (idx : Tab Nat) (page : Tab Slot) : Quern :=
  { u with pageIn := page, glideIn := u.glideValues, acc := [], d := [], p := [], cN := false, cZ := false, cV := false, cL := false, ova := false, sat := false, pf := false,
           running := true, pc := 0, rep := 0, outs := [], winIdx := idx, posted := false, lateBells := 0, lateTime := 0, counted := false }

/-- WIDX of the lines behind the windows of Quern u. -/
def windowIdx (s : State) (u : Quern) : Tab Nat :=
  (((u.active.map (·.windows)).getD []).zipIdx).foldl (fun t e => Tab.set 0 t e.2 (line s e.1.entry).widx) []

/-- Every Quern of domain d that is not late starts its pass, unless they are paused for a joiner (R303). -/
def startPasses (d : Nat) (s : State) : State :=
  if quernsPaused s then s
  else forEach (domQuerns s d) (fun t q =>
    if (quern t q).lateNow then t else modQuern t q (fun u => u.startPass (windowIdx t u) (dom t d).front)) s

/-! ### The Warden at a Bell (R321, R324, R325) -/

/-- A pass of the Quern ended in the interval before this Bell. -/
def Quern.finished (u : Quern) : Bool := !u.running && (u.posted || u.lateBells != 0)

/-- The pace check of a Quern: its pass ended later than 1.05 x E x t_pace after its Bell. -/
def paceFails (s : State) (q : Nat) : Bool :=
  let u := quern s q
  u.finished && paceGood s (q / 16) && u.active.any (fun p =>
    decide (105 * effSlots p * Tab.get 0 s.warden.pace (q / 16) < 100 * (u.lateTime + u.dur)))

/-- The pace checks of a Bell of domain d: the third Bell in a row puts a monitor out of service. -/
def paceBell (d : Nat) (bad : List Nat) (s : State) : State :=
  forEach (List.range 8) (fun t h =>
    let n := if bad.contains h then Tab.get 0 t.warden.paceBad (8 * d + h) + 1 else 0
    let t1 := modWarden t (fun w => { w with paceBad := Tab.set 0 w.paceBad (8 * d + h) (if n < 3 then n else 0) })
    if n < 3 then t1
    else refreshFloor (wardenEvent 1 (modWarden t1 (fun w => { w with paceOk := w.paceOk &&& ~~~ (BitVec.ofNat 8 (2 ^ h)) })))) s

/-- Slacks and the prediction at a Bell: fin are the Querns whose pass ended in the interval. -/
def slackBell (d : Nat) (fin : List Nat) (s : State) : State :=
  let rate := nominalRate (dom s d).rate
  let low := fun (den : Nat) => fin.any (fun q => !slackOk (quern s q).slack rate s.warden.slackMin den)
  let s1 := if low 100 then modWarden s (fun w => { w with slackTick := some s.aon.tick }) else s
  if low 200 ∨ allFit s s.warden.setpoint = false then stepUp 5 s1 else s1

/-! ### The join Bell (R303, R305) -/

/-- Join Bells stated at least 4 ms ahead in every enabled domain; what an earlier J had captured is given up. -/
def stateJoin (s : State) : State :=
  modTwin (dropCaptures s) (fun t =>
    { t with arm := .join, joinIdx := [],
             joinBell := (enabledDoms s).foldl (fun j d =>
               Tab.set 0 j d ((dom s d).bell + BitVec.ofNat 48 (leadBells (dom s d) 4000000000 0 + 1))) [] })
/-- WIDX of the lines of domain d at its join Bell. -/
def takeJoinIdx (d : Nat) (s : State) : State :=
  modTwin s (fun t => { t with joinIdx :=
    (s.lines.filter (fun e => e.2.valid && e.2.domain == d)).foldl (fun k e => Tab.set 0 k e.1 e.2.widx) t.joinIdx })
/-- A Bell of domain d on a device that lends its state: the join Bell is stated once the tracking rounds converge, which the
model takes as a free value (log 137); from 2 ms before it VDD_CORE is held; a late Quern at J - 1 or J moves the join. -/
def lenderBell (d : Nat) (s : State) : State :=
  let b := (dom s d).bell
  let j := Tab.get 0 s.twin.joinBell d
  if !lends s then s
  else if s.twin.arm = .copy then
    if (enabledDoms s).head? = some d then
      let f := takeFresh s
      if Config.copyReady f.1 then stateJoin f.2 else f.2
    else s
  else if s.twin.arm ≠ .join then s
  else if (j = b ∨ j = b + 1) ∧ domLate s d then stateJoin s
  else if j = b then takeJoinIdx d s
  else if joinNear s d ∧ s.warden.frame.getD s.warden.setpoint < holdMv s then raiseTo (holdMv s) s
  else s

/-! ### The Bell -/

/-- What else happens at a Bell of domain d: player leads, FREE at a Bell of domain 0 (R318), the join Bell (R305). -/
def sundryBell (d : Nat) (s : State) : State :=
  let s1 := playersBell d s
  armSettle (lenderBell d (if d = 0 then freeUpdate s1 else s1))

/-- A joiner that verifies counts its Bells since the catch-up (R306). -/
def verifyBell (d : Nat) (s : State) : State :=
  if joiner s ∧ s.twin.arm = .verify then modPeer s d (fun p => { p with since := p.since + 1 }) else s

/-- Actions 2 to 8 of the present Bell of domain d, and what follows them. -/
def bellBody (d : Nat) (env : BellEnv) (s : State) : State :=
  let qs := domQuerns s d
  let fin := qs.filter (fun q => (quern s q).finished)
  let bad := ((qs.filter (paceFails s)).map (· / 16)).eraseDups
  let s2 := forEach qs (fun t q => judgeQuern d env.interval q t) s
  let s2w := slackBell d fin (paceBell d bad s2)
  let s3 := postInputs env d (swapPages d s2w)
  let s5 := vigilSwap d (swapAction d (linesBell d s3))
  let s7 := detourReplies d (fillOutputs d (commitAction d s5))
  let s8 := verifyBell d (startPasses d s7)
  let s9 := vigilBell d (sendFrame d (sextonBell d (tallyBell d s8)))
  let s10 := sundryBell d (handoverBell d s9)
  if repeatedOverrun s s2 then declareOverrun d s10 else s10

/-- A Bell of domain d can come (R49): the domain runs, or is in ACQUIRE with its reference in the band. -/
def bellComes (s : State) (d : Nat) : Bool :=
  let x := dom s d
  x.enable && (x.runs || (x.state == .acquire && (x.src == 4 || x.acqOk)))

/-- A joiner keeps the Bells from J on for its catch-up (R306). -/
def buffersBell (s : State) (d : Nat) : Bool :=
  let j := Tab.get 0 s.twin.joinBell d
  joiner s && (s.twin.arm == .copy || s.twin.arm == .join) && j != 0 && decide (j.toNat ≤ (dom s d).bell.toNat + 1)

/-- The Bell frame of a Bell that a joiner buffers: its own mirrored inputs are those of the Bell; its page has no digest
yet, so DIGEST is 0 (R286; log 106). -/
def sendBuffered (d : Nat) (env : BellEnv) (s : State) : State :=
  if s.twin.link = .up then putFrame d (bellFrame (postInputs env d s) d) s else s
/-- The present Bell of domain d kept for the catch-up. -/
def bufferBell (d : Nat) (env : BellEnv) (s : State) : State :=
  let p := peer s d
  modTwin s (fun t =>
    { t with replay := t.replay ++ [{ domain := d, env := env, mirror := p.mirror, mirrorOk := p.mirrorOk, stileOut := p.stileOut }] })

end Sys2Proof.Machine
end

