-- ==== Sys2Proof/Machine/Image.lean ====
section
/-! DEFINITION. Control images (R341 to R350): header, verification, candidates, the steps of an update, and the
fuse fields a command or recovery operation programs (R339, R355). -/

namespace Sys2Proof.Machine

/-! ### The image file (R344, R346) -/

/-- The image file of slot n and the bytes it may use. -/
def slotFile (s : State) (n : Nat) : Rd × Nat := (flashFile s n 4096, regionSize s n 0 0x110000 - 4096)
/-- Header bytes no field covers. -/
def headerZero (r : Rd) : Bool :=
  rdZero r 15 1 && rdZero r 49 3 && rdZero r 84 172 && (List.range 8).all (fun i => rdZero r (54 + 4 * i) 2)
/-- Check 1 of R346. -/
def imageHeaderOk (r : Rd) (room : Nat) : Bool :=
  let total := rdNat r 8 4
  let off := rdNat r 20 4
  let len := rdNat r 24 4
  let addr := rdNat r 28 4
  let count := rdNat r 48 1
  rdNat r 0 4 == 0x3149584A && rdNat r 4 2 == 1 && rdNat r 6 2 == 256 && 464 ≤ total && total ≤ 0x100000 && total ≤ room &&
    headerZero r && trailerOk r total && rdNat r 12 2 ≤ 63 && 1 ≤ count && count ≤ 8 &&
    256 ≤ off && off % 4 == 0 && off + len ≤ total - 208 && addr % 4 == 0 && 0x10000000 ≤ addr && addr + len ≤ 0x10100000 &&
    [32, 36, 40, 44].all (fun i => addr ≤ rdNat r i 4 && rdNat r i 4 < addr + len)
/-- KEY_SLOT is allowed by R341, its digest is the key's and its KEY_LOCK is set. -/
def imageKeyOk (s : State) (r : Rd) : Bool :=
  let k := rdNat r 14 1
  (k == 0 || (k == 2 && revoked s 0)) && keyMatches s r (rdNat r 8 4) k && keyLock s k
/-- The result of R346: 1 passes, 2 HEADER, 3 KEY, 4 REVOKED, 5 SIGNATURE, 6 FLOOR. -/
def imageResult (s : State) (r : Rd) (room : Nat) : Nat :=
  if imageHeaderOk r room = false then 2
  else if imageKeyOk s r = false then 3
  else if revoked s (rdNat r 14 1) then 4
  else if signatureOk r (rdNat r 8 4) = false then 5
  else if rdNat r 12 2 < fuseFloor s.gate.fuses then 6
  else 1
/-- The result of slot n. -/
def slotResult (s : State) (n : Nat) : Nat := imageResult s (slotFile s n).1 (slotFile s n).2
/-- Header SVN; 0 when the header cannot be read (R347). -/
def headerSvn (s : State) (n : Nat) : Nat :=
  let f := slotFile s n
  if imageHeaderOk f.1 f.2 then rdNat f.1 12 2 else 0
/-- RELEASE of a slot's header; 0 when the header cannot be read. -/
def headerRelease (s : State) (n : Nat) : Nat :=
  let f := slotFile s n
  if imageHeaderOk f.1 f.2 then rdNat f.1 16 4 else 0
/-- No TESTED entry names stepping 0xB0 with ROM code 0x03 (R345). -/
def imageUntested (r : Rd) : Bool :=
  !(List.range (rdNat r 48 1)).any (fun i => rdNat r (52 + 4 * i) 1 == 0xB0 && rdNat r (53 + 4 * i) 1 == 0x03)

/-- GH_SLOT_A and GH_SLOT_B as step 6 reads them (R365), with nothing checked yet. -/
def readSlots (s : State) : State :=
  forEach [0, 1] (fun t n =>
    let v : GhSlot := { state := slotState s n, seqErr := slotSeqErr s n, svn := headerSvn s n, seq := slotSeq s n }
    modGate t (fun g => { g with slots := Tab.set {} g.slots n v })) s
/-- The result of slot n recorded. -/
def recordResult (n res : Nat) (s : State) : State :=
  modGate s (fun g => { g with slots := Tab.mod {} g.slots n (fun x => { x with result := res }) })

/-- The candidates in the order of R347. -/
def candidates (s : State) : List Nat :=
  let ok := fun n => slotState s n == 2
  if ok 0 && ok 1 then
    if slotSeq s 0 < slotSeq s 1 then [1, 0]
    else if slotSeq s 0 = slotSeq s 1 ∧ headerSvn s 0 < headerSvn s 1 then [1, 0]
    else [0, 1]
  else [0, 1].filter ok
/-- Equal SEQ and SVN on two VALID slots (R347). -/
def dupSeq (s : State) : Bool :=
  slotState s 0 == 2 && slotState s 1 == 2 && slotSeq s 0 == slotSeq s 1 && headerSvn s 0 == headerSvn s 1

/-! ### The steps of an update (R348) -/

/-- U4 and U5 on slot n: the sequence record, one above the higher of the two, and WRITTEN. -/
def sealSteps (s : State) (n : Nat) : List FlashStep :=
  let bs := leBytes (Nat.max (slotSeq s 0) (slotSeq s 1) + 1) 8
  [.program 8 (bs ++ wordBytes (crc32c bs)), .program 0 [0]]
/-- U7: VALID. -/
def validStep : FlashStep := .program 1 [0]
/-- U1 and U8: RETIRED. -/
def retireStep : FlashStep := .program 2 [0]
/-- U6: the image of slot n is verified; what GH_SLOT shows of it follows. -/
def imageVerified (n : Nat) (s : State) : State :=
  modGate s (fun g => { g with slots := Tab.mod {} g.slots n (fun x =>
    { x with seq := slotSeq s n, seqErr := slotSeqErr s n, svn := headerSvn s n, result := slotResult s n }) })
/-- Flash operations carried out one after another, each on its select. -/
def doSteps (l : List (Nat × FlashStep)) (s : State) : State := l.foldl (fun t e => doStep e.1 e.2 t) s
/-- U4 to U8 on slot n: the operations; a slot that fails U6 stays WRITTEN. -/
def commitSteps (s : State) (n : Nat) : List (Nat × FlashStep) :=
  let l := (sealSteps s n).map (fun st => (n, st))
  if slotResult (doSteps l s) n = 1 then l ++ [(n, validStep), (1 - n, retireStep)] else l

/-! ### The flash operations of the Gatehouse (R359) -/

/-- Word i of the transfer buffer. -/
def bufWord (s : State) (i : Nat) : Word := Tab.get 0 s.host.buf i
/-- The first n words of the transfer buffer, in file order. -/
def bufBytes (s : State) (n : Nat) : List (BitVec 8) := ((List.range n).map (bufWord s)).flatMap wordBytes
/-- LENGTH and OFFSET of a transfer within the image of 1 MiB. -/
def rcvArgs (len off : Nat) : Bool := 1 ≤ len && len ≤ 512 && off % 4 == 0 && off + 4 * len ≤ 0x100000
/-- The erases and programs of recovery operation op, each on its select. -/
def rcvSteps (s : State) (op slot len off : Nat) : List (Nat × FlashStep) :=
  match op with
  | 1 => (slotErase s slot).map (fun st => (slot, st))
  | 2 => if rcvArgs len off then (pageSteps s slot (4096 + off) (bufBytes s len)).map (fun st => (slot, st)) else []
  | 3 => commitSteps s slot
  | _ => []
/-- Flash operations of the Gatehouse cut short, by a reset or a failure: a free number of them is done, the next is cut
(R349, R364). -/
def cutRun (l : List (Nat × FlashStep)) (s : State) : State :=
  let f := takeFresh s
  let n := Config.cutSteps f.1 % (l.length + 1)
  let t := doSteps (l.take n) f.2
  match l.drop n with
  | (k, st) :: _ => cutStep k st t
  | [] => t
/-- An erase or program in progress runs out in its flash, which keeps its power in SLEEP. -/
def runOutFlash (s : State) : State :=
  (s.flash.ops.filter (fun e => Tab.get false s.flash.busy e.1)).foldl (fun t e =>
    match e.2.steps with | st :: _ => doStep e.1 st t | [] => t) s
/-- What runs in the flashes when the device is reset or loses its power is cut short (R349, R364). -/
def cutFlash (s : State) : State :=
  let s1 := (s.flash.ops.filter (fun e => Tab.get false s.flash.busy e.1)).foldl (fun t e =>
    match e.2.steps with | st :: _ => cutStep e.1 st t | [] => t) s
  match s.gate.busy, s.gate.rcvJob with
  | true, [op, slot, len, off] => cutRun (rcvSteps s op slot len off) s1
  | _, _ => s1

/-! ### Fuse fields (R339, R354, R355) -/

/-- Full debug is open in a life-cycle state (R354). -/
def debugState (lc : Nat) : Bool := lc == 0 || lc == 1 || lc == 4
/-- The fuse bits of life-cycle state lc, 1 to 5. -/
def lcFuses (lc : Nat) : BitVec 2048 := fuseField (1542 + 3 * lc) 7
/-- KEY_DIGESTn, given as 12 words, most significant first, with its KEY_LOCK. -/
def keyFuses (n : Nat) (ws : List Word) : BitVec 2048 :=
  fuseField (384 + 384 * n) (ws.foldl (fun a w => a * 4294967296 + w.toNat) 0) ||| fuseField (1626 + n) 1
/-- ROOT_KEY is drawn and programmed with ROOT_SET (R339, R355). -/
def burnRoot (s : State) : State :=
  let f := takeFresh s
  burn (fuseField 128 (Config.entropy f.1).toNat ||| fuseField 1623 7) f.2

end Sys2Proof.Machine
end

