-- ==== Sys2Proof/Machine/CmdPorts.lean ====
section
/-! DEFINITION. The audio-port commands (R210 to R212, R221, R224, R226, R227, R230 to R235). -/

namespace Sys2Proof.Machine

/-- Ports whose clock group is g. -/
def groupPorts (s : State) (g : Nat) : List Nat := (List.range 32).filter (fun p => (port s p).group == g)
/-- Member ports of aligned group a. -/
def alignPorts (s : State) (a : Nat) : List Nat := (List.range 32).filter (fun p => (port s p).aligned && (port s p).align == a)

/-- A port's configuration takes effect anew (R226): it has not started, its channels post 0. -/
def restartPort (p : Nat) (s : State) : State :=
  modAudio (modPort s p (fun x => { x with started := false, startAt := none, concealed := false })) (fun a =>
    { a with
      inChan := (List.range 16).foldl (fun t i => Tab.set {} t (16 * p + i) {}) a.inChan
      tx := (List.range 16).foldl (fun t i => Tab.set none t (16 * p + i) none) a.tx })

/-! ### CLOCK_GROUP_CONFIG -/

/-- The checks of CLOCK_GROUP_CONFIG. -/
def clockGroupChecks (m : Nat) (s : State) : Option Refuse :=
  let w := arg s m 1
  let g := fld w 0 3
  let x := groupOf w {}
  let members := (groupPorts s g).filter (fun p => (port s p).aligned)
  firstRefusal
    [(x.format != 3 && (x.format < 2 || (2 ≤ x.slots && x.slots ≤ 16)), badParam 0x58 g),
     (!x.enable || bclkOk x.tdm (dom s x.domain).rate, badParam 0x58 g),
     (members.all (fun p => (align s (port s p).align).domain == x.domain), badParam 0x59 g),
     (members.all (fun p => (align s (port s p).align).state == 0), busyRefused 0x5B g)]
/-- GROUP_CFG of a group written: its configuration is new, its W1C flags and what its monitor has measured stay (R218,
R231); PHASE reads 0xFF without a phase window (R215). -/
def Group.configure (x : Group) (w : Word) (runs : Bool) : Group :=
  let y := groupOf w x
  { y with
    state := b2n (bit w 31)
    phase := if runs then y.phase else 255
    good := 0
    lostSeen := false
    lostWas := false
    seen := false
    startOk := false
    begun := false
    drives := false
    tail := false
    passed := y.passed && x.enable && bit w 31 }
/-- An enabled slave group whose monitor has another code than its domain is LOST (R219). -/
def judgeCode (g : Nat) (s : State) : State :=
  if codeWrong s (group s g) then loseGroup g (fun x => { x with rateEv := true, good := 0 }) s else s
/-- GROUP_CFG of group g written: the group starts anew, with its ports, and its code is judged (R219). -/
def setGroupCfg (g : Nat) (w : Word) (s : State) : State :=
  let s1 := judgeCode g (modGroup s g (fun x => x.configure w (dom s (fld w 28 2)).runs))
  refreshRates ((groupPorts s1 g).foldl (fun t p => restartPort p t) s1)
/-- CLOCK_GROUP_CONFIG accepted. -/
def clockGroupRun (m : Nat) (s : State) : State :=
  let s2 := setGroupCfg (fld (arg s m 1) 0 3) (arg s m 1) s
  reply m [(group s2 (fld (arg s m 1) 0 3)).statusWord] s2
/-- CLOCK_GROUP_CONFIG (0x48). -/
def execClockGroupConfig (m : Fin 8) (s : State) : Out := .next (serve 0x48 m (clockGroupChecks m) (clockGroupRun m) s)

/-! ### PORT_CONFIG -/

/-- The fields of PORT_CFG that a command gives (R232). -/
def portOf (w : Word) (p : Port) : Port :=
  { p with inEn := bit w 31, outEn := bit w 30, group := fld w 27 3, inWl := fld w 25 2, outWl := fld w 23 2, align := fld w 20 3,
           aligned := bit w 19 }

/-- A port with group g may be a member of aligned group a: domains agree (0x59). -/
def alignFits (s : State) (g a : Nat) (others : List Nat) : Bool :=
  let d := if (group s g).enable then some (group s g).domain else none
  others.all (fun p => portDomain s p == d) && (others == [] || d == some (align s a).domain)

/-- The checks of PORT_CONFIG (R234, R235). -/
def portConfigChecks (m : Nat) (s : State) : Option Refuse :=
  let w := arg s m 1
  let p := fld w 0 5
  let old := port s p
  let new := portOf w {}
  let others := (alignPorts s new.align).filter (· != p)
  let leaves := old.aligned && (!new.aligned || new.align != old.align || new.group != old.group)
  let joins := new.aligned && (!old.aligned || new.align != old.align)
  firstRefusal [(!new.aligned || alignFits s new.group new.align others, badParam 0x59 p),
    (!leaves || (align s old.align).state == 0, busyRefused 0x5B p),
    (!joins || (align s new.align).state != 1, busyRefused 0x5B p),
    (s.aon.mode == .maintenance || (group s new.group).enable, stateRefused 0x5F p)]
/-- The aligned group of port p has the domain of the port (R224). -/
def noteAlign (p : Nat) (s : State) : State :=
  match portDomain s p with
  | some d => if (port s p).aligned then modAlign s (port s p).align (fun a => { a with domain := d }) else s
  | none => s
/-- PORT_CFG of port p written: the port starts anew. -/
def setPortCfg (p : Nat) (w : Word) (s : State) : State := noteAlign p (restartPort p (modPort s p (portOf w)))
/-- PORT_CONFIG accepted. -/
def portConfigRun (m : Nat) (s : State) : State :=
  let p := fld (arg s m 1) 0 5
  let s2 := setPortCfg p (arg s m 1) s
  reply m [(port s2 p).word] s2
/-- PORT_CONFIG (0x49). -/
def execPortConfig (m : Fin 8) (s : State) : Out := .next (serve 0x49 m (portConfigChecks m) (portConfigRun m) s)

/-! ### PDM_CONFIG and MCLK_CONFIG -/

/-- The checks of PDM_CONFIG (R221). -/
def pdmConfigChecks (m : Nat) (s : State) : Option Refuse :=
  let i := fld (arg s m 1) 0 5
  let w := arg s m 2
  if bit (arg s m 1) 28 then if fld w 0 28 = 0 then none else some (badParam 0xF4)
  else
    let c := pdmClkOf w
    firstRefusal [(fld w 0 20 == 0, badParam 0xF4 i), (i < 4, badParam 0x5A i), (!c.enable || pdmOk c.ratio (dom s c.domain).rate, badParam 0x5A i)]
/-- PDM_CONFIG accepted. -/
def pdmConfigRun (m : Nat) (s : State) : State :=
  let i := fld (arg s m 1) 0 5
  let w := arg s m 2
  reply m [0] (if bit (arg s m 1) 28 then modAudio s (fun a => { a with sieves := Tab.set {} a.sieves i (sieveOf w) })
    else refreshRates (modAudio s (fun a => { a with pdmClks := Tab.set {} a.pdmClks i (pdmClkOf w) })))
/-- PDM_CONFIG (0x4A). -/
def execPdmConfig (m : Fin 8) (s : State) : Out := .next (serve 0x4A m (pdmConfigChecks m) (pdmConfigRun m) s)

/-- The checks of MCLK_CONFIG (R224). -/
def mclkConfigChecks (m : Nat) (s : State) : Option Refuse :=
  let c := mclkOf (arg s m 2)
  let i := fld (arg s m 1) 0 2
  firstRefusal [(fld (arg s m 2) 0 27 == 0, badParam 0xF4 i), (!c.enable || mclkOk c.mode (dom s c.domain).rate, badParam 0x5A i)]
/-- MCLK_CONFIG accepted. -/
def mclkConfigRun (m : Nat) (s : State) : State :=
  reply m [0] (refreshRates (modAudio s (fun a => { a with mclks := Tab.set {} a.mclks (fld (arg s m 1) 0 2) (mclkOf (arg s m 2)) })))
/-- MCLK_CONFIG (0x4B). -/
def execMclkConfig (m : Fin 8) (s : State) : Out := .next (serve 0x4B m (mclkConfigChecks m) (mclkConfigRun m) s)

/-! ### Aligned groups -/

/-- The checks of ALIGN_GROUP_CONFIG (R226, R227, R235). -/
def alignConfigChecks (m : Nat) (s : State) : Option Refuse :=
  let a := fld (arg s m 1) 0 3
  let mask := arg s m 2
  let ports := (List.range 32).filter (fun p => bit mask p)
  let old := alignPorts s a
  let st := (align s a).state
  let taken := ports.any (fun p => (port s p).aligned && (port s p).align != a && (align s (port s p).align).state != 0)
  let ds := ports.map (portDomain s)
  firstRefusal [(ds.all (fun d => d == ds.headD none) && (ports == [] || (ds.headD none).isSome), badParam 0x59 a),
    (st == 0 || ports == [] || ds.headD none == some (align s a).domain, badParam 0x59 a),
    (st == 0 || (st == 2 && old.all (fun p => bit mask p)), busyRefused 0x5B a), (!taken, busyRefused 0x5B a)]
/-- ALIGN_GROUP_CONFIG accepted: membership becomes the mask; added ports start anew. -/
def alignConfigRun (m : Nat) (s : State) : State :=
  let a := fld (arg s m 1) 0 3
  let mask := arg s m 2
  let ports := (List.range 32).filter (fun p => bit mask p)
  let s1 := (alignPorts s a).foldl (fun t p => if bit mask p then t else modPort t p (fun x => { x with aligned := false })) s
  let s2 := ports.foldl (fun t p =>
    if (port t p).aligned && (port t p).align == a then t
    else restartPort p (modPort t p (fun x => { x with aligned := true, align := a }))) s1
  let s3 := match ports.head?.bind (portDomain s2) with | some d => modAlign s2 a (fun x => { x with domain := d }) | none => s2
  reply m [mask] s3
/-- ALIGN_GROUP_CONFIG (0x4C). -/
def execAlignGroupConfig (m : Fin 8) (s : State) : Out := .next (serve 0x4C m (alignConfigChecks m) (alignConfigRun m) s)

/-- The groups that ALIGN_GROUP_START names. -/
def startGroups (s : State) (m : Nat) : List Nat := (List.range 8).filter (fun a => bit (arg s m 1) a)
/-- Their domain: that of the lowest. -/
def startDomain (s : State) (m : Nat) : Nat := ((startGroups s m).head?.map (fun a => (align s a).domain)).getD 0
/-- The start Bell s of a start by command: stated, the second Bell from now (R66), or in a pair the first Bell that meets the
lead (R181, R227). -/
def startBell (s : State) (m since : Nat) : BitVec 48 :=
  let d := startDomain s m
  if fld (arg s m 1) 30 2 = 1 then bellOf (fld (arg s m 2) 0 16) (arg s m 3).toNat
  else if paired s then firstBell s d since else (dom s d).bell + 2

/-- Bell b of domain d from now, in ps times its rate: `since` is the time since the latest Bell of each domain. -/
def bellTime (s : State) (since : List Nat) (d : Nat) (b : BitVec 48) : Int :=
  ((b.toNat : Int) - (dom s d).bell.toNat) * 100000000000000 - since.getD d 0 * (dom s d).rateNow
/-- The SYNC_OUT interval of Bell b of domain d, from Bell b - 1 to Bell b, overlaps one already committed (R227). -/
def syncOverlaps (s : State) (since : List Nat) (d : Nat) (b : BitVec 48) : Bool :=
  s.audio.syncResv.any (fun e =>
    let r := (dom s d).rateNow
    let q := (dom s e.1).rateNow
    decide (bellTime s since d b * q - 100000000000000 * q < bellTime s since e.1 e.2 * r ∧
      bellTime s since e.1 e.2 * r - 100000000000000 * r < bellTime s since d b * q))

/-- The checks of ALIGN_GROUP_START (R227, R235, R515). -/
def alignStartChecks (m : Nat) (times : List Nat) (s : State) : Option Refuse :=
  let since := times.getD (startDomain s m) 0
  let kind := fld (arg s m 1) 30 2
  let gs := startGroups s m
  let d := startDomain s m
  let b := startBell s m since
  let bellOk := kind == 0 || (if kind = 1 then bellAllowed s d b (leadPs s) since else (dom s d).runs)
  firstRefusal [(kind != 3, badParam 0xF4), (gs != [] && gs.all (fun a => (align s a).domain == d), badParam 0x59 gs.head?),
    (gs.all (fun a => (align s a).state == 0), busyRefused 0x5B (gs.find? (fun a => (align s a).state != 0))), (kind == 0 || !syncOverlaps s times d b, busyRefused 0x5B gs.head?),
    (bellOk, badParam 0x5C gs.head?)]
/-- An aligned-group start record (R227, R289): bits 7 to 0 the groups, bit 8 a start on SYNC_IN, then the start Bell, 0 for
groups that are armed (DESIGN CHOICE, log 22: the layout of records is not stated). -/
def startRecord (gs : List Nat) (onSync : Bool) (b : BitVec 48) : List Word :=
  [wrd (bitsOf (List.range 8) gs.contains + 256 * b2n onSync), wrd (bellHi b), bellLo b]

/-- ALIGN_GROUP_START accepted; in a pair the partner's groups are armed, or given the start Bell, with it (R66). -/
def alignStartRun (m : Nat) (times : List Nat) (s : State) : State :=
  let since := times.getD (startDomain s m) 0
  let gs := startGroups s m
  let d := startDomain s m
  let mask := bitsOf (List.range 8) (fun a => gs.contains a)
  if fld (arg s m 1) 30 2 = 0 then
    reply m [wrd mask, 0, 0] (sendRecord d 3 (startRecord gs true 0)
      (gs.foldl (fun t a => modAlign t a (fun x => { x with state := 1, onSync := true, start := 0 })) s))
  else
    let b := startBell s m since
    let s1 := gs.foldl (fun t a => modAlign t a (fun x => { x with state := 1, onSync := false, start := b })) s
    let s2 := modAudio s1 (fun a => { a with syncResv := a.syncResv ++ [(d, b)] })
    reply m [wrd mask, wrd (bellHi b), bellLo b] (sendRecord d 3 (startRecord gs false b) s2)
/-- ALIGN_GROUP_START (0x4D), `since` being the time in ps since the latest Bell of each domain. -/
def execAlignGroupStart (m : Fin 8) (since : List Nat) (s : State) : Out :=
  .next (serve 0x4D m (alignStartChecks m since) (alignStartRun m since) s)

/-- The groups of domain d that wait armed for SYNC_IN. -/
def syncWaits (s : State) (d : Nat) : List Nat :=
  (List.range 8).filter (fun a => (align s a).domain == d && (align s a).state == 1 && (align s a).onSync)
/-- A rising edge of SYNC_IN in domain d, `since` ps after its latest Bell: the groups armed on SYNC_IN become RUNNING with s,
the first Bell that begins at least 1 us after the edge, and s goes to the partner (R66, R227). Where that Bell begins is
reckoned at the domain's present rate (DEDUCED, log 56). -/
def syncStart (d since : Nat) (s : State) : State :=
  let b := (dom s d).bell + BitVec.ofNat 48 (leadBells (dom s d) 1000000 since)
  match syncWaits s d with
  | [] => s
  | gs => sendRecord d 3 (startRecord gs true b) (gs.foldl (fun t a => modAlign t a (fun x => { x with state := 2, start := b })) s)
/-- SYNC_IN_EDGE (R66, R227): only the first edge after arming finds groups that wait. -/
def execSyncInEdge (since : List Nat) (s : State) : Out :=
  .next (forEach (List.range 4) (fun t d => syncStart d (since.getD d 0) t) s)

/-! ### PORT_STATUS -/

/-- The words of PORT_STATUS for clock group g. -/
def portWords (s : State) (g : Nat) : List Word :=
  let x := group s g
  let wc := fun i => (Tab.get {} s.audio.wclk i).word
  let hidden := fun p => (List.range 16).any (fun t => (inChan s (16 * p + t)).concealed)
  let member := fun p => (groupPorts s g).contains p && ((port s p).inEn || (port s p).outEn)
  [x.statusWord, wrd x.rate, wrd (bitsOf (List.range 32) member), wrd (bitsOf (List.range 32) (fun p => member p && hidden p)), s.audio.sieveStuck,
   wc 0, wc 1,
   (align s g).word 0, (align s g).word 1, 0, 0, 0, 0, 0, 0]
/-- PORT_STATUS accepted. -/
def portStatusRun (m : Nat) (s : State) : State := reply m (portWords s (fld (arg s m 1) 0 3)) s
/-- PORT_STATUS (0x4E). -/
def execPortStatus (m : Fin 8) (s : State) : Out := .next (serve 0x4E m noChecks (portStatusRun m) s)

end Sys2Proof.Machine
end

