-- ==== Sys2Proof/Machine/CmdService.lean ====
section
/-! DEFINITION. The service commands ZONE_CONFIG to BACKGROUND_SET (R453 to R462). -/

namespace Sys2Proof.Machine

/-- A source number that names a configured source, or none (0xFF). -/
def sourceOrNone (s : State) (i : Nat) : Bool := i == 255 || (source s i).kind != 0

/-! ### ZONE_CONFIG, ZONE_STATUS -/

/-- The zone that ZONE_CONFIG gives; what the zone carries and its ambient settings stay. -/
def zoneConfigOf (s : State) (m : Nat) (x : Zone) : Zone :=
  { x with
    enable := bit (arg s m 1) 31
    bundle := (arg s m 2).toNat
    select := (arg s m 3).toNat
    gain := (arg s m 4).toNat
    ambient := (arg s m 5).toNat
    bg := fld (arg s m 6) 0 8
    bgGain := wordSample (arg s m 7)
    annGain := wordSample (arg s m 8) }
/-- The checks of ZONE_CONFIG: the pattern of R519, the background source, the handles, their domain. -/
def zoneConfigChecks (m : Nat) (s : State) : Option Refuse :=
  let z := fld (arg s m 1) 0 8
  let x := zoneConfigOf s m (svcZone s z)
  firstRefusal
    [(signedOk (arg s m 7) 20 && signedOk (arg s m 8) 20, badParam 0xF4), (sourceOrNone s x.bg, badParam 0x60 z),
     (!x.enable || zoneBound s x, badParam 0x61 z),
     (!x.enable || (zoneOneDomain s x && (x.bg == 255 || zoneDomain s x == some (source s x.bg).domain)), badParam 0x62 z)]
/-- ZONE_CONFIG accepted: an enabled zone takes its background through R457. -/
def zoneConfigRun (m : Nat) (s : State) : State :=
  let z := fld (arg s m 1) 0 8
  let s1 := modSvcZone (dropSwitch z false s) z (fun x =>
    { zoneConfigOf s m x with due := false, next := none, switching := false, carries := none, prio := 15 })
  reply m [0] (if (svcZone s1 z).enable then startSwitch z none (firstBell s1 ((zoneDomain s1 (svcZone s1 z)).getD 0) 0) s1 else s1)
/-- ZONE_CONFIG (0x50). -/
def execZoneConfig (m : Fin 8) (s : State) : Out := .next (serve 0x50 m (zoneConfigChecks m) (zoneConfigRun m) s)

/-- State code of ZONE_STATUS. -/
def zoneState (x : Zone) : Nat :=
  if !x.enable then 0 else if x.switching then 4 else if x.carries.isSome then 3 else if x.bg = 255 then 1 else 2
/-- The AMBIENT value in force in a zone; 0 with no AMBIENT handle. -/
def ambientValue (s : State) (x : Zone) : Word :=
  match (zoneHandles s x x.ambient).head? with
  | some h => if x.ambient = 0 then 0 else sampleWord ((quern s h.quern).glide h.first)
  | none => 0
/-- A signed number as a word (R519). -/
def intWord (v : Int) : Word := BitVec.ofInt 32 v
/-- ZONE_STATUS accepted. -/
def zoneStatusRun (m : Nat) (s : State) : State :=
  let x := svcZone s (fld (arg s m 1) 0 8)
  let src := match x.carries.bind (ann s) with | some a => a.source | none => x.bg
  reply m [pack [(zoneState x, 28), (x.prio, 24), (x.carries.getD 0, 0)], wrd src, ambientValue s x, intWord x.lastA,
    bellLo x.lastSwitch, 0, 0] s
/-- ZONE_STATUS (0x51). -/
def execZoneStatus (m : Fin 8) (s : State) : Out := .next (serve 0x51 m noChecks (zoneStatusRun m) s)

/-! ### SOURCE_CONFIG, PRIORITY_CONFIG -/

/-- A player line is a STORED line of an ACTIVE bundle with at least 0.5 s (0x6A). -/
def playerLineOk (s : State) (d e : Nat) : Bool :=
  s.jex.bundles.any (fun b => b.state == .active && b.lineRecs.any (fun l =>
    l.entry == e && l.stored && l.domain == d && decide (nominalRate (dom s d).rate ≤ 200 * l.length)))
/-- The checks of SOURCE_CONFIG. -/
def sourceConfigChecks (m : Nat) (s : State) : Option Refuse :=
  let w := arg s m 1
  let i := fld w 0 8
  let k := fld w 30 2
  firstRefusal
    [(i < 255 && k < 3, badParam 0x60 i), (k == 0 || slotIn s (fld w 28 2) (fld (arg s m 2) 0 13), badParam 0x62 i),
     (k != 2 || playerLineOk s (fld w 28 2) (fld (arg s m 3) 0 12), badParam 0x6A i)]
/-- SOURCE_CONFIG accepted. -/
def sourceConfigRun (m : Nat) (s : State) : State :=
  let w := arg s m 1
  reply m [0] (modSource s (fld w 0 8) (fun _ =>
    { kind := fld w 30 2, domain := fld w 28 2, slot := fld (arg s m 2) 0 13, line := fld (arg s m 3) 0 12 }))
/-- SOURCE_CONFIG (0x52). -/
def execSourceConfig (m : Fin 8) (s : State) : Out := .next (serve 0x52 m (sourceConfigChecks m) (sourceConfigRun m) s)

/-- The checks of PRIORITY_CONFIG: fades of 1 to 65,535 Bells, a chime on a configured player (0x60). -/
def priorityConfigChecks (m : Nat) (s : State) : Option Refuse :=
  let w := arg s m 1
  let ok := fld (arg s m 2) 16 16 != 0 && fld (arg s m 2) 0 16 != 0 &&
    (fld w 8 8 == 255 || (fld w 16 8 < 255 && (source s (fld w 16 8)).kind == 2))
  if ok then none else some (badParam 0x60 (fld w 0 4))
/-- PRIORITY_CONFIG accepted. -/
def priorityConfigRun (m : Nat) (s : State) : State :=
  let w := arg s m 1
  let p : Prio := { fadeOut := fld (arg s m 2) 16 16, fadeIn := fld (arg s m 2) 0 16, chime := fld w 8 8, chimeSrc := fld w 16 8 }
  reply m [0] (modJex s (fun j => { j with prios := Tab.set {} j.prios (fld w 0 4) p }))
/-- PRIORITY_CONFIG (0x53). -/
def execPriorityConfig (m : Fin 8) (s : State) : Out := .next (serve 0x53 m (priorityConfigChecks m) (priorityConfigRun m) s)

/-! ### Announcements -/

/-- The messages an announcement plays. -/
def annMessages (a : Ann) : List Nat := a.seq ++ (if a.chime = 255 then [] else [a.chime])
/-- The checks of ANNOUNCE_START (R455, R462). -/
def announceStartChecks (m : Nat) (s : State) : Option Refuse :=
  let ws := args s m 1 12
  let a := announcement s ws 0
  let x := source s a.source
  let on := a.zones.filter (fun z => (svcZone s z).enable)
  firstRefusal
    [(a.source < 255 && x.kind != 0 && (x.kind != 2 || a.seq != []), badParam 0x60 a.source),
     (on.all (fun z => zoneBound s (svcZone s z)), badParam 0x61),
     (on.all (fun z => zoneDomain s (svcZone s z) == some x.domain), badParam 0x62),
     (a.prio != 0 || bit (ws.getD 0 0) 31, stateRefused 0x63),
     (a.zones != [] && on.length == a.zones.length, badParam 0x64),
     ((x.kind != 2 || x.user.isNone) && decide ((s.jex.anns.filter (fun y => y.ended.isNone)).length < 64), busyRefused 0x65),
     ((annMessages a).all (msgGood s (dom s x.domain).rate), badParam 0x66)]
/-- ANNOUNCE_START accepted: the zones won, and the Bell of c2. -/
def announceStartRun (m since : Nat) (s : State) : State :=
  let ws := args s m 1 12
  let d := (source s (fld (ws.getD 0 0) 0 8)).domain
  let a := announcement s ws (firstBell s d since)
  let s1 := announce ws (firstBell s d since) s
  let b := ((ann s1 a.id).getD a).start
  reply m [wrd (65536 * (wonZones s1 a.id).length + a.id), wrd (bellHi b), bellLo b] s1
/-- ANNOUNCE_START (0x54). -/
def execAnnounceStart (m : Fin 8) (since : Nat) (s : State) : Out :=
  .next (serve 0x54 m (announceStartChecks m) (announceStartRun m since) s)

/-- The checks of ANNOUNCE_STOP. -/
def announceStopChecks (m : Nat) (s : State) : Option Refuse :=
  match ann s (fld (arg s m 1) 0 16) with
  | none => some (badParam 0x68)
  | some a => firstRefusal [(a.prio != 0 || bit (arg s m 1) 31, stateRefused 0x63), (a.ended.isNone, badParam 0x68)]
/-- ANNOUNCE_STOP accepted. -/
def announceStopRun (m since : Nat) (s : State) : State :=
  reply m [0] (endAnn (fun d => firstBell s d since) (fld (arg s m 1) 0 16) 0 s)
/-- ANNOUNCE_STOP (0x55). -/
def execAnnounceStop (m : Fin 8) (since : Nat) (s : State) : Out :=
  .next (serve 0x55 m (announceStopChecks m) (announceStopRun m since) s)

/-- The check of ANNOUNCE_STATUS. -/
def announceStatusChecks (m : Nat) (s : State) : Option Refuse :=
  if (ann s (fld (arg s m 1) 0 16)).isSome then none else some (badParam 0x68)
/-- The words of ANNOUNCE_STATUS; message 0xFF while none plays. -/
def annWords (s : State) (a : Ann) : List Word :=
  let now := (dom s (source s a.source).domain).bell.toNat
  let begun := decide (a.start.toNat ≤ now)
  let k := now - a.start.toNat
  let playing := if begun then ((streamAt s a k).map (·.1)).getD 255 else 255
  let left := if a.repeats = 0 then 0 else a.repeats - 1 - (if begun then annRound s a k else 0)
  let won := wonZones s a.id
  let st := if a.ended.isSome then 2 else if begun then 1 else 0
  [pack [(st, 28), (a.prio, 24), (a.source, 0)], wrd (bellHi a.start), bellLo a.start] ++
    (List.range 8).map (fun k => wrd (((won.filter (fun z => z / 32 == k)).map (fun z => 2 ^ (z % 32))).sum)) ++
    [pack [(playing, 0), (left, 8)], 0, 0, 0]
/-- ANNOUNCE_STATUS accepted. -/
def announceStatusRun (m : Nat) (s : State) : State :=
  match ann s (fld (arg s m 1) 0 16) with
  | some a => reply m (annWords s a) s
  | none => s
/-- ANNOUNCE_STATUS (0x56). -/
def execAnnounceStatus (m : Fin 8) (s : State) : Out := .next (serve 0x56 m (announceStatusChecks m) (announceStatusRun m) s)

/-! ### Ambient gain and background -/

/-- The checks of AMBIENT_CONFIG. -/
def ambientConfigChecks (m : Nat) (s : State) : Option Refuse :=
  let z := fld (arg s m 1) 0 8
  let x := svcZone s z
  let up := fld (arg s m 5) 16 8
  firstRefusal
    [(signedOk (arg s m 3) 16, badParam 0xF4), (x.ambient != 0 && handleGood s x x.ambient, badParam 0x61 z), (x.enable, badParam 0x64 z),
     (fld (arg s m 2) 8 8 ≤ 191 && fld (arg s m 4) 0 16 ≤ 1000 && 1 ≤ up && up ≤ 60, badParam 0x67 z)]
/-- AMBIENT_CONFIG accepted; readings of an UPDATE in progress are dropped. -/
def ambientConfigRun (m : Nat) (s : State) : State :=
  reply m [0] (modSvcZone s (fld (arg s m 1) 0 8) (fun x =>
    { x with
      ambEn := bit (arg s m 1) 31
      mWord := fld (arg s m 2) 8 8
      mQuern := fld (arg s m 2) 0 7
      ref := ((arg s m 3).setWidth 16 : BitVec 16).toInt
      maxBoost := fld (arg s m 4) 16 16
      slope := fld (arg s m 4) 0 16
      update := fld (arg s m 5) 16 8
      maxCut := fld (arg s m 5) 0 16
      readings := [] }))
/-- AMBIENT_CONFIG (0x5A). -/
def execAmbientConfig (m : Fin 8) (s : State) : Out := .next (serve 0x5A m (ambientConfigChecks m) (ambientConfigRun m) s)

/-- AMBIENT_STATUS accepted. -/
def ambientStatusRun (m : Nat) (s : State) : State :=
  let x := svcZone s (fld (arg s m 1) 0 8)
  reply m [intWord x.lastA, intWord x.lastG, ambientValue s x, wrd x.lastN, 0, 0, 0] s
/-- AMBIENT_STATUS (0x5B). -/
def execAmbientStatus (m : Fin 8) (s : State) : Out := .next (serve 0x5B m noChecks (ambientStatusRun m) s)

/-- The checks of BACKGROUND_SET. -/
def backgroundSetChecks (m : Nat) (s : State) : Option Refuse :=
  let w := arg s m 1
  let z := fld w 0 8
  let i := fld w 8 8
  let x := svcZone s z
  firstRefusal
    [(signedOk (arg s m 2) 20, badParam 0xF4), (sourceOrNone s i, badParam 0x60 i), (zoneBound s x || !x.enable, badParam 0x61 z),
     (i == 255 || !x.enable || zoneDomain s x == some (source s i).domain, badParam 0x62 z), (x.enable, badParam 0x64 z)]
/-- A new background of zone z takes effect through R457 while the zone carries its background: at a c2 on the way to it that can
still be altered, else once what is stated has been made (R461). -/
def takeBackground (z : Nat) (b : BitVec 48) (s : State) : State :=
  let x := svcZone s z
  if x.heading.isSome then (if x.carries.isNone then modSvcZone s z (fun y => { y with bgDue := true }) else s)
  else if !x.due then startSwitch z none b s
  else if x.c2 = 0 then s
  else if b.toNat ≤ x.c2.toNat then stateSecond z x.c2 (dropSwitch z true s)
  else modSvcZone s z (fun y => { y with bgDue := true })
/-- BACKGROUND_SET accepted. -/
def backgroundSetRun (m since : Nat) (s : State) : State :=
  let z := fld (arg s m 1) 0 8
  let s1 := modSvcZone s z (fun x => { x with bg := fld (arg s m 1) 8 8, bgGain := wordSample (arg s m 2) })
  reply m [0] (takeBackground z (firstBell s1 ((zoneDomain s1 (svcZone s1 z)).getD 0) since) s1)
/-- BACKGROUND_SET (0x5C). -/
def execBackgroundSet (m : Fin 8) (since : Nat) (s : State) : Out :=
  .next (serve 0x5C m (backgroundSetChecks m) (backgroundSetRun m since) s)

end Sys2Proof.Machine
end

