-- ==== Sys2Proof/Machine/SysCfg.lean ====
section
/-! DEFINITION. The sealed configuration of R445: taking it from the state, putting it back at a boot, and
loading the bundles it records (R335, R362). -/

namespace Sys2Proof.Machine

/-! ### Taking and restoring -/

/-- Flash slots of the ACTIVE bundles. -/
def activeSlots (s : State) : List Nat := (s.jex.bundles.filter (fun b => b.state == .active)).map (·.slot)

/-- A zone's settings without what it carries. -/
def Zone.cfg (z : Zone) : Zone :=
  { enable := z.enable, bundle := z.bundle, select := z.select, gain := z.gain, ambient := z.ambient, bg := z.bg, bgGain := z.bgGain,
    annGain := z.annGain, ambEn := z.ambEn, mQuern := z.mQuern, mWord := z.mWord, ref := z.ref, slope := z.slope,
    maxBoost := z.maxBoost, maxCut := z.maxCut, update := z.update }

/-- The identifiers of the running tasks. -/
def runningIds (s : State) : List Nat := (s.jex.tasks.filter (fun e => e.2.state == 1)).map (·.2.id)
/-- What CONFIG_SAVE seals, with AUTOSTART and the tasks marked AUTOSTART (R445, R484). -/
def captureCfg (auto : Bool) (tasks : List Nat) (s : State) : SavedCfg :=
  { autostart := auto
    svn := s.gate.svn
    lcClass := lcClass s
    doms := (List.range 4).foldl (fun t d => Tab.set 0 t d (dom s d).cfgWord) []
    groups := s.audio.groups
    ports := s.audio.ports
    pdmClks := s.audio.pdmClks
    sieves := s.audio.sieves
    mclks := s.audio.mclks
    inA := s.audio.inA
    outA := s.audio.outA
    detA := s.audio.detA
    stileA := s.audio.stileA
    zones := s.jex.zones.map (fun e => (e.1, e.2.cfg))
    sources := s.jex.sources.map (fun e => (e.1, { e.2 with user := none, lead := 0 }))
    prios := s.jex.prios
    lateHo := s.twin.lateHo
    linkEn := s.twin.linkEn
    sieveTx := s.twin.sieveTx
    sieveRx := s.twin.sieveRx
    ownSrc := s.twin.ownSrc
    pool := s.warden.cfgPool
    reserve := s.warden.reserve
    costs := s.warden.costs
    bslots := activeSlots s
    tasks := tasks
    accepts := s.jex.accepts
    pairCreds := s.jex.pairCreds }

/-- What SLEEP leaves in the resume region: with the configuration the digests of the ACTIVE bundles (R329, R362). -/
def captureResume (s : State) : SavedCfg :=
  { captureCfg s.jex.autostart (markedTasks s) s with
    digests := (s.jex.bundles.filter (fun b => b.state == .active)).foldl (fun t b => Tab.set 0 t b.slot b.digest) [] }

/-- DOM_CFG word w given to domain d at a boot: an enabled domain starts in ACQUIRE (R49). -/
def restoreDomain (s : State) (e : Nat × Word) : State :=
  let w := e.2
  let s1 := if bit w 31 then enableDomain e.1 (fld w 8 3) (fld w 0 4) (fld w 4 3) s
    else modDom s e.1 (fun x => { x with rate := fld w 8 3, src := fld w 0 4, srcGroup := fld w 4 3 })
  modDom s1 e.1 (fun x => { x with policy := bit w 11 })

/-- The ports and maps as the configuration has them; groups start anew. -/
def restoreAudio (c : SavedCfg) (a : Audio) : Audio :=
  { a with
    groups := c.groups.map (fun e => (e.1, { groupOf e.2.cfgWord {} with state := b2n e.2.enable }))
    ports := c.ports.map (fun e => (e.1, portOf e.2.word {}))
    pdmClks := c.pdmClks
    sieves := c.sieves
    mclks := c.mclks
    inA := c.inA
    inS := c.inA
    outA := c.outA
    outS := c.outA
    detA := c.detA
    detS := c.detA
    stileA := c.stileA
    stileS := c.stileA }

/-- The pair's configuration words. -/
def restoreTwin (c : SavedCfg) (t : Twin) : Twin :=
  { t with
    lateHo := c.lateHo
    linkEn := c.linkEn
    sieveTx := c.sieveTx
    sieveRx := c.sieveRx
    ownSrc := c.ownSrc
    proto := if c.linkEn then 6 else 0
    link := if c.linkEn then .train else .down }

/-- A configuration put in force (R445), the codes of its slave groups judged (R219): BASE is booked at its pool and cost (R331), the bundles it records are loaded next. -/
def restoreCfg (c : SavedCfg) (s : State) : State :=
  let s1 := forEach (List.range 32) (fun t p => noteAlign p t)
    (modTwin (modAudio (c.doms.foldl restoreDomain s) (restoreAudio c)) (restoreTwin c))
  let s2 := bookBase (modWarden (forEach (List.range 8) (fun t g => judgeCode g t) s1) (fun w => { w with cfgPool := c.pool, reserve := c.reserve, costs := c.costs }))
  refreshRates (modJex s2 (fun j =>
    { j with
      autostart := c.autostart
      restored := true
      zones := c.zones
      sources := c.sources
      prios := c.prios
      accepts := c.accepts
      bootSlots := c.bslots
      bootDigests := c.digests
      pairCreds := c.pairCreds }))

/-- The configuration opened; one under a lower SVN is sealed again and replaces the stored copy, through flash operations under
leave (R353, R481). None: no configuration. -/
def openCfg (s : State) : State :=
  match openedCfg s with
  | some c =>
    let t := restoreCfg c (readFile 4 0 (configAddr + 0x40000 * s.jex.savedHalf) 0x40000 s)
    if c.svn = s.gate.svn then t else startFlash { sel := 0, cls := 3, steps := configSteps t, work := .reseal } t
  | none => s
/-- The configuration has been sealed again under the running SVN. -/
def resealed (s : State) : State :=
  match s.jex.saved with
  | some c => storeCopy { c with svn := s.gate.svn } s
  | none => s

/-! ### The recorded bundles (R445, R362) -/

/-- A bundle read for a fast wake has the digest held in the resume region (R362). -/
def digestHolds (s : State) (b : Bundle) : Bool := s.jex.bootDigests.all (fun e => e.1 != b.slot || e.2 == b.digest)
/-- A recorded bundle loaded: its checks as for BUNDLE_LOAD, its programs staged and swapped at the next Bell
of their domains; a bundle that fails, or has not the digest held, is left out. -/
def bootTake (slot : Nat) (s : State) : State :=
  let f := bundleRd s slot
  let b := bundleFile f.1 slot
  if (loadRefusal s f.1 f.2 slot).isSome ∨ digestHolds s b = false ∨ (programsFail s b).isSome then s
  else
    let s1 := stageBundle b s
    let ds := (List.range 4).filter (fun d => b.progsIn d != [])
    let s2 := ds.foldl (fun t d => askSwapLeave b d t) s1
    modJex s2 (fun j =>
      { j with
        swaps := j.swaps ++ ds.map (fun d => { domain := d, bundle := b.id, next := true })
        bootIds := j.bootIds ++ [b.id] })

/-- A recorded bundle is read and loaded. -/
def bootLoad (slot : Nat) (s : State) : State := bootTake slot (readBundle slot s)

/-- The bundles loaded at start have all become ACTIVE. -/
def bootReady (s : State) : Bool :=
  s.jex.bootSlots.isEmpty && s.jex.bootIds.all (fun i => (bundleOf s i).any (fun b => b.state == .active))

/-- The zones restored take their background (R457). -/
def startZones (s : State) : State :=
  (s.jex.zones.filter (fun e => e.2.enable)).foldl (fun t e =>
    startSwitch e.1 none (firstBell t ((zoneDomain t e.2).getD 0) 0) t) s

/-- The recorded bundles are in force: zones, then the mode that is to be entered (R335, R362). -/
def bootEnd (s : State) : State :=
  let s1 := startZones (modJex s (fun j => { j with bootMode := none, bootIds := [] }))
  match s.jex.bootMode with
  | some m => updateDuty (setMode m (if s.gate.fastWake then 3 else 1) s1)
  | none => s1

/-- The start of the device goes on (R335, R362): the recorded bundles one by one under LOADER leave, after the
full test of the banks; then, with at least one ACTIVE (R443), its end. -/
def bootSettle (s : State) : State :=
  if jexOn s = false ∨ s.aon.mode ≠ .maintenance ∨ s.jex.fullLeft ≠ 0 then s
  else match s.jex.bootSlots with
    | n :: rest =>
      if s.jex.load.isSome then s
      else if hasGrant s 4 2 then returnLeave 4 2 (bootLoad n (modJex s (fun j => { j with bootSlots := rest })))
      else requestLeave 4 2 s
    | [] => if s.jex.bootIds ≠ [] ∧ bootReady s then bootEnd s else s

end Sys2Proof.Machine
end

