-- ==== Sys2Proof/Machine/Boot.lean ====
section
/-! DEFINITION. What a reset leaves (R23, R33, R263), the boot sequence (R334 to R347), boot failures (R356,
R357), the start of Jexolaryn (R335, R350, R362), and the fast wake (R361 to R363). The choices of this file are
those of log 30. -/

namespace Sys2Proof.Machine

/-! ### What a reset leaves -/

/-- Words of retained control RAM (R23). -/
def retainedWords : Nat := 524288

/-- Registers of the Gatehouse while a reset holds: what runs ends, the registers keep their values (R365). -/
def Gate.inReset (g : Gate) : Gate :=
  { g with
    phase := .inReset, busy := false, rcvJob := [], halt := false, dueHeld := false, backEnd := none, backoff := 0
    tries := 0, failCode := 0, firstTried := 0, fuseBad := false, sealHeld := false, sleepOk := false
    nonceOk := false, debugOpen := false, bootSrc := 0, untested := false, svn := 0, fastWake := false }

/-- The fault registers and the log stay; active instances are Jexolaryn's and go (R485, R487). Records that were held are lost:
the next one written carries SKIPPED (R492; log 167). -/
def Faults.restart (f : Faults) : Faults :=
  { f with active := [], waiting := [], skipNext := f.skipNext || f.waiting != [], stale := none, found := 0 }

/-- What Jexolaryn keeps in flash, and in SLEEP in retained control RAM (R329, R445, R446, R484). -/
def Jex.kept (j : Jex) (sleep : Bool) : Jex :=
  let base : Jex :=
    { saved := j.saved
      saveCount := j.saveCount
      savedHalf := j.savedHalf
      savedOther := j.savedOther
      msgDir := j.msgDir
      msgs := j.msgs.filter (fun e => e.2.present)
      tasks := j.tasks.map (fun e => (e.1, { e.2 with
        state := 0, slot := 0, chans := [], localBase := 0, arenaBase := 0, faults := 0, faultAddr := 0 }))
      repairs := j.repairs }
  if sleep then
    { base with clock := j.clock, clockSet := j.clockSet, upSecs := j.upSecs, msAcc := j.msAcc, clockMs := j.clockMs, accepted := j.accepted, resume := j.resume }
  else base

/-- The flashes and what the Gatehouse recorded of them; no frame is left on the port. -/
def Flash.kept (f : Flash) : Flash :=
  { bytes := f.bytes, size := f.size, sfdp := f.sfdp, params := f.params, quad := f.quad, quadNv := f.quadNv }
/-- The core domain at its reset values: the always-on domain, the flashes and what lies in them stay; with
`sleep` the state that SLEEP retains too. -/
def isolate (sleep : Bool) (s : State) : State :=
  let v := (loseCampaign s).vigil
  let base : State :=
    { aon := { s.aon with timer := none, sleeping := false, sleepTick := none }
      crier := s.crier
      ctrlRam := Tab.keep (fun k => k < retainedWords) s.ctrlRam
      flash := s.flash.kept
      faults := s.faults.restart
      gate := s.gate
      jex := s.jex.kept sleep
      vigil := { results := v.results, resultPlace := v.resultPlace, baselines := v.baselines, journal := v.journal, lost := v.lost }
      warden := if sleep then { paceOk := s.warden.paceOk } else {}
      twin := { pos := s.twin.pos, dutyIn := s.twin.dutyIn, dutyOut := s.twin.dutyOut && s.twin.role != .duty
                released := s.twin.released || s.twin.role == .duty }
      fresh := s.fresh
      pending := s.pending }
  base

/-- The reset of RESET_N, the reset command or a lost rail begins: MODE = BOOT, which ends the internal triggers
that R264 names. -/
def enterReset (s : State) : State :=
  let s1 := modGate (isolate false (cutFlash s)) Gate.inReset
  let s2 := modAon s1 (fun a => { a with mode := .boot, lastMode := 15 })
  crierStep (fun c => { c with wdog := false, overrun := false, fbCmd := false, heldWdog := false, heldOverrun := false, heldFb := false }) s2

/-- The reset of the core domain before a further attempt in FIELD; the Gatehouse, the Crier and the Warden's AVSBus master
run on (R334, R357). -/
def resetCore (s : State) : State :=
  { isolate false s with
    warden := s.warden
    twin := { pos := s.twin.pos, dutyIn := s.twin.dutyIn, dutyOut := s.twin.dutyOut, settled := s.twin.settled,
              released := s.twin.released } }

/-- Loss of VDD_AON: flashes, fuses and what lies in flash stay (R263, R506). -/
def powerOff (s0 : State) : State :=
  let s := cutFlash s0
  { flash := { s.flash.kept with params := [], quad := [] }
    gate := { fuses := s.gate.fuses }
    faults := { log := s.faults.log, logSeq := s.faults.logSeq, logPlace := s.faults.logPlace, skipNext := s.faults.restart.skipNext }
    jex := s.jex.kept false
    vigil := (isolate false s).vigil
    fresh := s.fresh
    pending := s.pending }

/-! ### The start of Jexolaryn -/

/-- GH_STATUS (R365). -/
def Gate.statusWord (g : Gate) : Word :=
  pack [(g.lc, 29), (g.bootSrc, 27), flag g.untested 26, flag g.dupSeq 25, flag g.fastWake 24, flag g.wakeSlow 23, flag g.sealHeld 22,
    (g.bootsel, 20), flag g.debugOpen 19, (g.svn, 6), (g.svnFloor, 0)]
/-- GH_BOOT. -/
def Gate.bootWord (g : Gate) : Word := pack [(g.bootcode, 28), (g.lastCode, 24), (g.backoff, 16), (g.attempts, 0)]

/-- BOOT_COMPLETE and, for a campaign that a reset ended, CAMPAIGN_LOST (R464, R248). -/
def postBoot (s : State) : State :=
  let g := s.gate
  let s1 := postEvent 0x0001
    [pack [(s.aon.mode.code, 0), (g.bootSrc, 4), flag g.untested 6, flag g.dupSeq 7, flag g.fastWake 8, flag s.jex.restored 9],
     wrd g.release, wrd g.attempts] s
  match s1.vigil.lost with
  | some c => postEvent 0x0053 [wrd c] (modVigil s1 (fun v => { v with lost := none }))
  | none => s1

/-- Two VALID slots: the one the device does not run from is retired (R350). -/
def retireOther (s : State) : State :=
  if slotState s 0 = 2 ∧ slotState s 1 = 2 then startFlash { sel := idleSlot s, cls := 3, steps := [retireStep], work := .retire } s else s

/-- The rewrite of a baseline sector that was cut off is completed from its journal (R484). -/
def completeJournal (s : State) : State :=
  match s.vigil.journal with
  | some j => startFlash { sel := 0, cls := 3, steps := sectorSteps s j.1, work := .journal } s
  | none => s
/-- What Jexolaryn finds when it starts: the conditions of 0x0001 to 0x0003 (R489). -/
def foundAtStart (s : State) : BitVec 3 :=
  BitVec.ofNat 3 (b2n s.faults.hwWdog + 2 * b2n s.faults.hwOverrun + 4 * b2n (decide (1 < s.gate.attempts)))

/-- The acceptance of an UNTESTED image on this stepping and ROM is persisted (R345). -/
def persisted (s : State) : Bool :=
  s.jex.accepts.any (fun a => a.digest == s.gate.imgDigest && a.stepping == 0xB0 && a.rom == 0x03)

/-- Jexolaryn starts in MAINTENANCE: the mailboxes are served, the Warden takes the rail, BASE is booked, the
granaries are tested after a cold boot or their repairs put back, and the configuration is opened (R162, R323,
R335, R350, R362, R363, R420). -/
def jexStart (s : State) : State :=
  let cold := s.gate.coldBoot
  let s1 := crierStep (fun c => { c with bootFail := c.bootFail && s.aon.mode != .fallback })
    (modAon s (fun a => { a with mode := .maintenance, lastMode := a.mode.code }))
  let s2 := modFaults (modHost (modJex s1 (fun j => { j with started := true })) (fun h => { h with served := true }))
    (fun f => { f with stale := some s.aon.tick, found := foundAtStart s })
  let s3 := refreshFloor (bookBase (modWarden s2 (fun w => { w with inControl := true })))
  let s4 := completeJournal (retireOther s3)
  let banks := if cold then coldBanks s4
    else startHamlet (warmBanks s4)
  if s.gate.fastWake then
    let s5 := match s.jex.resume with | some c => restoreCfg c banks | none => banks
    startAuto (postBoot (modJex s5 (fun j =>
      { j with resume := none, bootMode := if s.aon.modeLeft = Mode.service.code then some .service else none })))
  else
    let s5 := openCfg banks
    let ok := !s.gate.untested || persisted s5
    let auto := cold && s5.jex.restored && s5.jex.autostart && ok
    let s6 := modJex s5 (fun j => { j with resume := none, accepted := ok, bootMode := if auto then some .service else none })
    if cold then startAuto (postBoot s6)
    else startAuto (postEvent 0x0003 [] (postBoot (s6.setCtrlRam (Tab.keep (fun k => k < 262144) s6.ctrlRam))))

/-! ### Steps 7 and 8 -/

/-- Reeves 0 and 1 are released at their entries: BOOTCODE 0, BOOT_FAIL clears, the watchdog starts (R334, R486). -/
def release (s : State) : State :=
  let w := if s.gate.fastWake then 2 else 0
  let run : Nat → State → State := fun r t => modReeve t r (fun x =>
    { x with run := .running, user := false, entry := s.gate.entries.getD (w + r) 0, wdog := 0 })
  let s1 := modGate (run 1 (run 0 s)) (fun g =>
    { g with phase := .running, bootcode := 0, halt := false, backEnd := none, backoff := 0, dueHeld := false, tries := 0, failCode := 0 })
  jexStart (modFaults s1 (fun f => { f with hwBoot := false }))

/-- Every rail is good (R505). -/
def Aon.allRails (a : Aon) : Bool := a.rails && a.vddioH && a.vddioA && a.vddOsc
/-- Step 8 waits for every rail and for the set-point of 800 mV (R323, R505). -/
def releaseWhenReady (s : State) : State :=
  if s.gate.phase = .waitSetpoint ∧ s.aon.allRails ∧ s.warden.bootWrite then release s else s

/-- The load segment of a file put into control RAM. -/
def loadSegment (r : Rd) (s : State) : State := ctrlPutBytes (rdNat r 28 4) (rdBytes r (rdNat r 20 4) (rdNat r 24 4)) s

/-- Step 7 with the image that passed: source 1 slot A, 2 slot B, 3 host-loaded (R334, R344, R345, R354). -/
def bootImage (src : Nat) (r : Rd) (s : State) : State :=
  let k := takeFresh s
  let s1 := if src = 3 then k.2 else loadSegment r k.2
  releaseWhenReady (modGate s1 (fun g =>
    { g with
      bootSrc := src
      untested := imageUntested r
      svn := rdNat r 12 2
      release := rdNat r 16 4
      imgKey := rdNat r 14 1
      imgAddr := rdNat r 28 4
      imgLen := rdNat r 24 4
      entries := [rdNat r 32 4, rdNat r 36 4, rdNat r 40 4, rdNat r 44 4]
      imgDigest := Config.sha384 (rdBytes r 0 (rdNat r 8 4))
      kBoot := Config.entropy k.1
      debugOpen := debugState g.lc
      bootcode := 5
      phase := .waitSetpoint }))

/-! ### Failures -/

/-- The Crier is released with playback disabled, unless it has been released (R336). -/
def releaseCrier (s : State) : State :=
  crierStep (fun c => if c.state = .off then { c with state := .armed } else c) (modGate s (fun g => { g with crierReleased := true }))

/-- A failed attempt in FIELD (R357): FALLBACK, the boot-failure trigger, and the back-off. -/
def failAttempt (code : Nat) (s : State) : State :=
  let secs := Nat.min (2 ^ s.gate.tries) 60
  let s1 := modGate s (fun g =>
    { g with bootcode := 7, lastCode := code, failCode := code, tries := g.tries + 1, phase := .backoff, backoff := secs
             backEnd := some ((s.aon.tick + 1000 * secs) % 4294967296) })
  let s2 := modAon s1 (fun a => if a.mode = .fallback then a else { a with mode := .fallback, lastMode := a.mode.code })
  crierStep (fun c => { c with bootFail := true }) (modFaults s2 (fun f => { f with hwBoot := true }))
/-- The Gatehouse halts (R356). -/
def haltBoot (code : Nat) (s : State) : State :=
  modFaults (modGate s (fun g =>
    { g with halt := true, phase := .halted, bootcode := code, lastCode := code, failCode := code, debugOpen := debugState (lcNow s) }))
    (fun f => { f with hwBoot := true })
/-- A failed boot. -/
def failBoot (code : Nat) (s : State) : State := if s.gate.lc = 3 then failAttempt code s else haltBoot code s

/-! ### Step 6 -/

/-- The candidates in the order of this attempt: one that follows a failure tries first the one that the
attempt before did not (R347, R357). -/
def attemptOrder (s : State) : List Nat :=
  let c := candidates s
  if s.gate.tries ≠ 0 ∧ c.length = 2 ∧ c.head?.map (· + 1) = some s.gate.firstTried then c.reverse else c

/-- The candidates tried one by one; `res` holds the results of those that failed (R346, R347, R358). -/
def tryEach : List Nat → List Nat → State → State
  | [], res, s => failBoot (if res.isEmpty then 12 else if res.all (fun r => r == 3 || r == 4 || r == 6) then 11 else 10) s
  | n :: rest, res, s =>
    let r := slotResult s n
    let s1 := recordResult n r (readFile 2 n 4096 (slotFile s n).2 s)
    if r = 1 then bootImage (n + 1) (slotFile s n).1 s1 else tryEach rest (r :: res) s1

/-- Step 6. -/
def tryImages (s : State) : State :=
  let s1 := readSlots (modGate s (fun g => { g with bootcode := 4 }))
  let order := attemptOrder s1
  tryEach order [] (modGate s1 (fun g =>
    { g with dupSeq := g.dupSeq || dupSeq s1, firstTried := (order.head?.map (· + 1)).getD 0 }))

/-! ### Steps 1 to 5 -/

/-- After step 5: the host-load window of an attempt that has sampled BOOTSEL, or step 6 (R337). -/
def afterCrier (s : State) : State :=
  if s.gate.bootsel = 1 ∧ s.gate.sampled then modGate s (fun g => { g with bootcode := 6, phase := .hostLoad }) else tryImages s

/-- This attempt verifies the Crier stores: the first of a cold boot, and one that follows a fuse-read failure while no store
is installed (R334, R357, R363). -/
def verifiesCrier (s : State) : Bool :=
  if s.gate.tries = 0 then s.gate.coldBoot else s.gate.failCode == 8 && s.crier.copy.isNone

/-- What the flashes declare is read and recorded (R476, R477). -/
def readFlashes (s : State) : State :=
  modFlash (modGate s (fun g => { g with bootcode := 2 })) (fun f => (f.discover 0).discover 1)
/-- The Crier stores are read over the flash port (R268, R478). -/
def readStores (s : State) : State :=
  forEach [0, 1] (fun t n => readFile 2 n crierBase (regionSize t n crierBase 0x600000) t) s
/-- Step 3 once the crystal runs and VDDIO_H is good (R334, R505). -/
def discoverFlash (s : State) : State :=
  if Tab.get 0 s.flash.size 0 = 0 ∧ Tab.get 0 s.flash.size 1 = 0 then failBoot 9 (readFlashes s)
  else if verifiesCrier s then modGate (readStores (readFlashes s)) (fun g => { g with bootcode := 3, phase := .waitCrier })
  else afterCrier (readFlashes s)

/-- What step 3 waits for: VDDIO_H, VDD_OSC and a running crystal (R505). -/
def crystalReady (s : State) : Bool := s.aon.exact && s.aon.vddioH && s.aon.vddOsc
/-- Step 3 waits. -/
def bootFlash (s : State) : State :=
  if crystalReady s then discoverFlash s else modGate s (fun g => { g with phase := .waitCrystal })

/-- Step 2: the fuse reads compared, the life cycle decoded, the pins sampled (R334, R337, R340, R354). A fuse read that
fails releases the Crier at once, but not in SCRAPPED. -/
def bootFuses (e : BootEnv) (s : State) : State :=
  let agreed := s.gate.fuses &&& ~~~ e.fuseDiff
  let bad := e.fuseDiff != 0
  let s1 := updateDuty (modTwin (modGate s (fun g =>
    { g with lc := lcOf agreed, lcKnown := true, bootsel := e.bootsel.toNat, sampled := true, svnFloor := fuseFloor agreed
             fuseBad := bad })) (fun t => { t with pos := e.pos }))
  let lc := s1.gate.lc
  let stops := bad || (2 ≤ s1.gate.bootsel && lc != 3)
  let freed := if (bad && lc != 5) || lc == 0 then releaseCrier s1 else s1
  if lc = 3 ∧ bad then failAttempt 8 freed
  else if stops then haltBoot 8 freed
  else if lc = 0 then haltBoot 13 freed
  else if lc = 5 then haltBoot 14 freed
  else bootFlash freed

/-- What the board shows at a start. -/
def senseBoard (e : BootEnv) (s : State) : State :=
  let s1 := modAon s (fun a => { a with bootselPins := e.bootsel.toNat, posPin := e.pos, exact := e.crystal && a.vddOsc })
  modFlash s1 (fun f =>
    { f with
      size := Tab.set 0 (Tab.set 0 f.size 0 (usableBytes e.sfdp0 e.size0)) 1 (usableBytes e.sfdp1 e.size1)
      sfdp := Tab.set {} (Tab.set {} f.sfdp 0 e.sfdp0) 1 e.sfdp1 })

/-- One boot attempt counted. -/
def countAttempt (s : State) : State := modGate s (fun g => { g with attempts := satAdd g.attempts 1 16 })

/-- Step 1 of a cold boot. -/
def startBoot (e : BootEnv) (s : State) : State :=
  let s1 := senseBoard e (countAttempt (modGate s (fun g =>
    { g with bootcode := 1, coldBoot := true, phase := .inReset, crierWritten := 0, sampled := false })))
  if e.selfTest then bootFuses e s1 else haltBoot 15 s1

/-- A further attempt (R357), which begins with the reset of the core domain, or that of RETRY out of a halt: from step 3, after a failed fuse read from step 2,
after a failed self-test from step 1. -/
def retryBoot (e : BootEnv) (s : State) : State :=
  let s0 := if s.gate.phase = .backoff then resetCore s else s
  let s1 := senseBoard e (countAttempt (modGate s0 (fun g =>
    { g with halt := false, dueHeld := false, backEnd := none, backoff := 0, sampled := false })))
  if s.gate.failCode = 15 then (if e.selfTest then bootFuses e s1 else haltBoot 15 s1)
  else if s.gate.failCode = 8 then bootFuses e s1
  else if s.gate.lc = 0 then haltBoot 13 s1
  else bootFlash s1

/-- A boot environment as the board last showed it, for a start that brings none of its own. -/
def boardEnv (s : State) : BootEnv :=
  { selfTest := true, fuseDiff := 0, bootsel := BitVec.ofNat 2 s.aon.bootselPins, pos := s.aon.posPin,
    size0 := Tab.get 0 s.flash.size 0, size1 := Tab.get 0 s.flash.size 1, crystal := s.aon.exact,
    sfdp0 := Tab.get {} s.flash.sfdp 0, sfdp1 := Tab.get {} s.flash.sfdp 1 }

/-- A boot that waits goes on once what it waits for is there. -/
def bootGoesOn (s : State) : State :=
  if s.gate.phase = .waitCrystal ∧ crystalReady s then discoverFlash s else releaseWhenReady s

/-! ### The Crier's release (R336, R269) -/

/-- The copy of a store slot that passes is installed: at once, but while ACTIVE with a copy at the next return
to ARMED; the alarm sequence then starts at its first message. -/
def Crier.install (n : Nat) (c : CrierStore) (x : Crier) : Crier :=
  let x1 := { x with slotAOk := x.slotAOk || n == 0, slotBOk := x.slotBOk || n == 1 }
  if x1.state = .active ∧ x1.copy.isSome then { x1 with newCopy := some c }
  else
    { x1 with
      state := if x1.state = .off then .armed else x1.state
      copy := some c
      store := n + 1
      playOk := true
      begun := 0 }

/-- The Gatehouse verifies Crier stores: at step 4, and later while no copy is installed (R336). -/
def verifying (s : State) : Bool :=
  let g := s.gate
  g.phase == .waitCrier ||
    (g.coldBoot && g.crierReleased && s.crier.copy.isNone && g.lcKnown && g.lc != 0 && g.lc != 5 && !g.fuseBad && g.phase != .off &&
      g.phase != .inReset && g.phase != .asleep && g.phase != .waking)

/-- CRIER_STORE_VERIFIED (R268, R269, R336). -/
def execCrierStoreVerified (s : State) : Out :=
  match crierChoice s with
  | some n =>
    if verifying s then
      let s1 := crierStep (Crier.install n (crierStoreOf n (flashFile s n crierBase))) (modGate s (fun g => { g with crierReleased := true }))
      .next (if s.gate.phase = .waitCrier then afterCrier s1 else s1)
    else .next s
  | none => .next s

/-- CRIER_RELEASE_TIMEOUT (R336): 300 ms after step 1. -/
def execCrierReleaseTimeout (s : State) : Out :=
  let p := s.gate.phase
  if p = .off ∨ p = .inReset ∨ p = .asleep ∨ p = .waking ∨ lcNow s = 5 then .next s
  else
    let s1 := if s.gate.crierReleased then s else releaseCrier s
    .next (if p = .waitCrier then afterCrier s1 else s1)

/-! ### Power and reset rows -/

/-- Some rail. -/
def anyRail (r : Rails) : Bool := r.core || r.osc || r.audio || r.host
/-- The rails of both. -/
def railsOr (r x : Rails) : Rails := { core := r.core || x.core, osc := r.osc || x.osc, audio := r.audio || x.audio, host := r.host || x.host }
/-- The rails of r but those of x. -/
def railsLeft (r x : Rails) : Rails :=
  { core := r.core && !x.core, osc := r.osc && !x.osc, audio := r.audio && !x.audio, host := r.host && !x.host }

/-- VDD_AON_POWER_GOOD (R33, R334, R505). -/
def execVddAonPowerGood (e : PowerEnv) (s : State) : Out :=
  if s.aon.vddAon then .next s
  else
    let s1 := modTwin (modAon s (fun a => { a with vddAon := true, rails := e.rails, vddioH := e.vddioH, vddioA := e.vddioA, vddOsc := e.vddOsc, resetN := e.resetN }))
      (fun t => { t with dutyIn := e.dutyIn })
    let s2 := modWarden s1 (fun w => { w with bootWrite := true })
    .next (if e.resetN then startBoot e.boot s2 else modGate s2 (fun g => { g with phase := .inReset }))

/-- VDD_AON_LOSS (R263, R506). -/
def execVddAonLoss (s : State) : Out := .next (powerOff s)

/-- RESET_N_LOW (R33, R364). -/
def execResetNLow (s : State) : Out :=
  let s1 := modAon s (fun a => { a with resetN := false })
  .next (if s.aon.vddAon ∧ s.aon.resetN then enterReset s1 else s1)

/-- A boot that follows a reset with VDD_CORE powered: the AVSBus master writes 800 mV first (R323). -/
def bootAfterReset (e : BootEnv) (s : State) : State := startBoot e (avsWrite 800 s)

/-- RESET_N_RELEASE (R334). -/
def execResetNRelease (e : BootEnv) (s : State) : Out :=
  let s1 := modAon s (fun a => { a with resetN := true })
  .next (if s.aon.vddAon ∧ !s.aon.resetN ∧ !anyRail s.aon.railLost then
    (if s.gate.attempts = 0 then startBoot e s1 else bootAfterReset e s1) else s1)

/-- The rails of r are no longer good; without VDD_OSC the crystal stops (R503). -/
def Aon.lose (r : Rails) (a : Aon) : Aon :=
  { a with
    rails := a.rails && !r.core
    vddOsc := a.vddOsc && !r.osc
    vddioA := a.vddioA && !r.audio
    vddioH := a.vddioH && !r.host
    exact := a.exact && !r.osc }
/-- The rails of r are good. -/
def Aon.gain (r : Rails) (a : Aon) : Aon :=
  { a with rails := a.rails || r.core, vddOsc := a.vddOsc || r.osc, vddioA := a.vddioA || r.audio, vddioH := a.vddioH || r.host }
/-- The rails of r that are good: a rail that has not come up cannot be lost. -/
def Aon.good (r : Rails) (a : Aon) : Rails :=
  { core := r.core && a.rails, osc := r.osc && a.vddOsc, audio := r.audio && a.vddioA, host := r.host && a.vddioH }

/-- RAIL_POWER_LOSS of the rails of r (R506): outside SLEEP the reset of a lost rail; in SLEEP nothing beyond the rails'
own pins. -/
def execRailPowerLoss (r : Rails) (s : State) : Out :=
  let gone := s.aon.good r
  let s1 := modFlash (modAon s (Aon.lose r)) (fun f => if r.host then { f with quad := [] } else f)
  .next (if s.gate.phase = .off ∨ s.gate.phase = .asleep ∨ s.gate.phase = .waking ∨ !anyRail gone then s1
    else enterReset (modAon s1 (fun a => { a with railLost := railsOr a.railLost gone })))

/-- RAIL_POWER_RETURN of the rails of r: once no lost rail is left the reset of R506 ends, and a rail of the power-up
that becomes good lets the boot go on (R505). -/
def execRailPowerReturn (r : Rails) (e : BootEnv) (s : State) : Out :=
  let s1 := modAon s (fun a => { a.gain r with railLost := railsLeft a.railLost r })
  .next (if anyRail s.aon.railLost then (if s1.aon.resetN && !anyRail s1.aon.railLost then bootAfterReset e s1 else s1)
    else if s.gate.phase = .waitCrystal then bootGoesOn (senseBoard e s1) else bootGoesOn s1)

/-- AON_TICK_SOURCE_CHANGE (R503, R505). -/
def execAonTickSourceChange (running : Bool) (e : BootEnv) (s : State) : Out :=
  let s1 := if s.gate.phase = .waitCrystal then senseBoard e s else s
  .next (bootGoesOn (modAon s1 (fun a => { a with exact := running && a.vddOsc })))

/-- HOST_LOAD_WINDOW_END (R337). -/
def execHostLoadWindowEnd (s : State) : Out := .next (if s.gate.phase = .hostLoad then tryImages s else s)

/-! ### Wake (R331, R362, R363) -/

/-- WAKE_N_LOW. -/
def execWakeNLow (s : State) : Out := .next (beginWake (modAon s (fun a => { a with wakeN := false })))
/-- The AON timer that has expired begins a wake (R331). -/
def timerDue (s : State) : State := if s.aon.timer = some 0 then beginWake s else s
/-- AON_TIMER_EXPIRY: the ticks of the timer have passed (log 7). -/
def execAonTimerExpiry (s : State) : Out := .next (timerDue s)

/-- The fast path: a seal is held, BOOTSEL reads 0b00 and the tag agrees. -/
def fastPath (e : BootEnv) (s : State) : Bool := s.gate.sealHeld && e.bootsel == 0 && wakeTag s == s.gate.sealTag

/-- The fast path taken: Reeves 0 and 1 at their wake entries. -/
def wakeFast (s : State) : State :=
  releaseWhenReady (modGate s (fun g => { g with sealHeld := false, fastWake := true, phase := .waitSetpoint }))
/-- The fast path refused: the boot goes on from step 2. -/
def wakeSlow (e : BootEnv) (s : State) : State :=
  bootFuses e (modGate s (fun g => { g with sealHeld := false, wakeSlow := true, tries := 0, failCode := 0 }))

/-- FAST_WAKE: the rails are good and WAKE_N is high. -/
def execFastWake (e : BootEnv) (s : State) : Out :=
  if s.gate.phase = .waking then
    let s1 := modAon s (fun a => { a with rails := true, wakeN := true, mode := .boot, lastMode := a.mode.code })
    let s2 := senseBoard e (countAttempt (modGate s1 (fun g =>
      { g with bootcode := 4, coldBoot := false, fastWake := false, bootsel := e.bootsel.toNat, sampled := false
               phase := .inReset })))
    let s3 := modWarden s2 (fun w => { w with bootWrite := true })
    .next (if e.fuseDiff = 0 ∧ fastPath e s3 then wakeFast s3 else wakeSlow e s3)
  else .next s

end Sys2Proof.Machine
end

