-- ==== Sys2Proof/Machine/CrierRows.lean ====
section
/-! DEFINITION. The Crier's rows: alarm inputs, block reads, message and gap ends, sample periods (R264 to
R271), the firmware watchdog (R265, R378), and the commands CRIER_STATUS, CRIER_PLAY, CRIER_STOP,
CRIER_STORE_VERIFY and FALLBACK_ENTER (R281, R282). -/

namespace Sys2Proof.Machine

/-! ### Triggers and playback -/

/-- ALARM_TRIGGER: the inputs that are low now, one of them held for 5 ms where `held` says so; in OFF the trigger waits for
the Crier's release (R264, R276). A shorter low shows in REQ_A and REQ_B alone (R280). -/
def execAlarmTrigger (a b held : Bool) (s : State) : Out :=
  .next (if held && (a || b) then crierStep (fun c => { c with reqA := a, reqB := b, alarm := true }) s
    else modCrier s (fun c => { c with reqA := a, reqB := b }))
/-- ALARM_END: both inputs high for 5 ms (R264). -/
def execAlarmEnd (s : State) : Out :=
  .next (crierStep (fun c => { c with reqA := false, reqB := false, alarm := false }) s)

/-- The block the Crier needs next agrees with its block table (R270). -/
def crierBlockGood (s : State) : Bool :=
  match s.crier.play, s.crier.copy with
  | some p, some k => blockOk (flashFile s k.slot crierBase) k (s.crier.msgBlock p + p.block)
  | _, _ => false
/-- The Crier reads a block now. -/
def crierReads (s : State) : Bool :=
  match s.crier.play with
  | some p => !(p.gap || p.blockOk || p.frozen || decide (s.crier.msgLen p ≤ p.sample))
  | none => false
/-- CRIER_BLOCK_READ (R270, R274): the frame it stops is repeated and the erase it suspends goes on. -/
def execCrierBlockRead (s : State) : Out :=
  let s1 := match s.crier.copy with
    | some k => if crierReads s then crierPort k.slot s else s
    | none => s
  .next (modCrier s1 (fun c => c.blockRead (crierBlockGood s)))
/-- CRIER_MESSAGE_END: the last sample of the message has been played. -/
def execCrierMessageEnd (s : State) : Out := .next (crierStep Crier.messageEnd s)
/-- CRIER_GAP_END. -/
def execCrierGapEnd (s : State) : Out := .next (crierStep Crier.gapEnd s)
/-- The frames of the groups that the Crier clocks begin: driven if the interlock permits now (R297, R298). -/
def startCrierFrames (s : State) : State :=
  forEach (List.range 8) (fun t g =>
    if (crierClocks t g).isSome then modGroup t g (fun x => { x with drives := driving t, tail := false }) else t) s

/-- CRIER_SAMPLE: the microphone's sample of the period, whether it is valid, and bit g of `clk` for each
slave group whose external clock is within 0.5 % of 48 kHz (R271, R273). -/
def execCrierSample (mic : Sample) (valid : Bool) (clk : BitVec 8) (s : State) : Out :=
  .next (startCrierFrames (updateDuty (crierSample mic valid clk s)))

/-! ### The firmware watchdog (R265, R378, R486) -/

/-- The watchdog watches Reeve r; in DEVELOP not one that the debug port holds halted. -/
def watched (s : State) (r : Nat) : Bool :=
  r < 2 && !((reeve s r).held && s.gate.lc == 1) && ((reeve s r).run == .running || (r == 0 && (reeve s r).run == .restricted))

/-- Reeve r, watched, has not serviced the watchdog for 1.0 s. -/
def wdogDue (s : State) (r : Nat) : Bool := watched s r && decide (1000 ≤ (reeve s r).wdog)
/-- FAULT_HW.WDOG set; the Reeve it names stays until the flag is cleared. -/
def setWdog (r : Nat) (s : State) : State :=
  modFaults s (fun f => if f.hwWdog then f else { f with hwWdog := true, wdogReeve := r })

/-- An expiry of Reeve r's count, the lower number being named where both expired together (R486): in the restricted loop Reeve 0 is halted and SERVED clears; else the device enters FALLBACK with
its Reeves halted, a DUTY device after raising self-fault. -/
def expireWdog (r : Nat) (s : State) : State :=
  let s1 := setWdog (if wdogDue s 0 then 0 else r) s
  if (reeve s r).run = .restricted then internalTrigger .wdog (haltFlash (haltReeves true s1))
  else enterFallback true (internalTrigger .wdog (startHandover (faultDomain s1) s1))

/-- The expiry of Reeve r, if its count has come to 1.0 s. -/
def wdogEnds (r : Nat) (s : State) : State := if wdogDue s r then expireWdog r s else s
/-- WATCHDOG_EXPIRY: the ticks of the count have passed (log 7). -/
def execWatchdogExpiry (r : Fin 2) (s : State) : Out := .next (wdogEnds r s)

/-- WDOG_SVC: 0xA5A5 written by the Reeve whose number matches. -/
def execWdogSvc (who : Fin 4) (n : Fin 2) (v : Word) (s : State) : Out :=
  .next (if who.val = n.val ∧ reeveRuns s who ∧ v = 0xA5A5#32 then modReeve s n (fun x => { x with wdog := 0 }) else s)

/-! ### Registers (R280) -/

/-- CRIER_STATUS. -/
def Crier.statusWord (c : Crier) : Word :=
  pack [(match c.state with | .off => 0 | .armed => 1 | .active => 2, 30), (c.store, 28), flag c.playOk 27,
    flag (match c.play with | some p => !p.gap | none => false) 26, (c.msg, 23), flag c.reqA 22, flag c.reqB 21,
    flag c.fbCmd 20, flag c.bootFail 19, flag c.overrun 18, flag c.wdog 17, flag c.host 16, flag c.alarm 15, (c.badMsg.toNat, 0)]
/-- CRIER_EVENTS. -/
def Crier.eventsWord (c : Crier) : Word := pack [flag c.blockErr 3, flag c.groupErr 2, flag c.endEv 1, flag c.actEv 0]
/-- The W1C flags of CRIER_EVENTS cleared. -/
def Crier.clear (c : Crier) (v : Word) : Crier :=
  { c with
    blockErr := c.blockErr && !bit v 3
    groupErr := c.groupErr && !bit v 2
    endEv := c.endEv && !bit v 1
    actEv := c.actEv && !bit v 0 }

/-! ### Commands (R281, R282) -/

/-- Samples of message i of the store. -/
def Crier.lenOf (c : Crier) (i : Nat) : Nat := ((c.copy.bind (fun k => k.msgs[i]?)).map (·.2)).getD 0
/-- Whole seconds left of the sequence that plays (log 41). -/
def Crier.remaining (c : Crier) : Nat :=
  match c.play with
  | none => 0
  | some p =>
    let later := ((p.seq.drop (p.pos + 1)).filter (fun i => !c.badMsg.getLsbD i)).map c.lenOf
    (c.msgLen p - p.sample + later.sum) / 16000

/-- CRIER_STATUS accepted. -/
def crierStatusRun (m : Nat) (s : State) : State :=
  let c := s.crier
  reply m [c.statusWord, c.eventsWord, wrd (crierSeq s 0), wrd (crierSeq s 1),
    wrd (Config.crierResults c.slotAOk c.slotBOk).toNat, wrd ((c.copy.map (·.msgs.length)).getD 0), wrd c.remaining] s
/-- CRIER_STATUS (0xD0). -/
def execCrierStatus (m : Fin 8) (s : State) : Out := .next (serve 0xD0 m noChecks (crierStatusRun m) s)

/-- The sequence that CRIER_PLAY names. -/
def namedSeq (s : State) (m : Nat) : List Nat :=
  let w := arg s m 1
  match fld w 30 2 with
  | 0 => [fld w 0 3]
  | 1 => (s.crier.copy.map (·.alarmSeq)).getD []
  | _ => (s.crier.copy.map (·.faultSeq)).getD []
/-- CRIER_PLAY: material 3 is reserved; playback enabled; the sequence is not empty and its message is in the
store (R282). -/
def crierPlayChecks (m : Nat) (s : State) : Option Refuse :=
  let w := arg s m 1
  let count := (s.crier.copy.map (·.msgs.length)).getD 0
  firstRefusal
    [(fld w 30 2 != 3, badParam 0xF4), (s.crier.playOk, ⟨6, 0xD1, 0x7F, fld w 0 3⟩),
     (!(namedSeq s m).isEmpty && (fld w 30 2 != 0 || fld w 0 3 < count), badParam 0xD0 (fld w 0 3))]
/-- The host trigger begins, or begins anew: what the host plays already ramps out first. -/
def Crier.playHost (seq : List Nat) (rep : Option Nat) (c : Crier) : Crier :=
  let c1 := { c with host := true, hostSeq := seq, hostRepeat := rep, begun := c.begun &&& 5#3 }
  match c.play with
  | some p => if p.rank = 1 then (if p.gap then { c1 with play := none } else c1.rampOut 160 2) else c1
  | none => c1
/-- Repetitions after the first of a REPEAT field; none: until stopped. -/
def repeatsOf (n : Nat) : Option Nat := if n = 0 then none else some (n - 1)
/-- CRIER_PLAY accepted. -/
def crierPlayRun (m : Nat) (s : State) : State :=
  crierStep (Crier.playHost (namedSeq s m) (repeatsOf (fld (arg s m 1) 8 8))) (reply m [0] s)
/-- CRIER_PLAY (0xD1). -/
def execCrierPlay (m : Fin 8) (s : State) : Out := .next (serve 0xD1 m (crierPlayChecks m) (crierPlayRun m) s)

/-- CRIER_STOP is refused while an alarm or internal trigger holds (R282). -/
def crierStopChecks (s : State) : Option Refuse :=
  if s.crier.alarm ∨ s.crier.internal then some (stateRefused 0xD2) else none
/-- CRIER_STOP accepted. -/
def crierStopRun (m : Nat) (s : State) : State := crierStep (fun c => { c with host := false }) (reply m [0] s)
/-- CRIER_STOP (0xD2). -/
def execCrierStop (m : Fin 8) (s : State) : Out := .next (serve 0xD2 m crierStopChecks (crierStopRun m) s)

/-- CRIER_STORE_VERIFY: the written slot passes R268, else AUTH_FAILED (R282). -/
def crierVerifyChecks (s : State) : Option Refuse :=
  if crierFail s (idleStore s) = 0 then none else some ⟨7, 0xD4, 0x7F, idleStore s⟩
/-- CRIER_STORE_VERIFY accepted. -/
def crierVerifyRun (m : Nat) (s : State) : State :=
  reply m [wrd (idleStore s), wrd (crierSeq s (idleStore s)), 0] s
/-- CRIER_STORE_VERIFY (0xD4). -/
def execCrierStoreVerify (m : Fin 8) (s : State) : Out := .next (serve 0xD4 m crierVerifyChecks (crierVerifyRun m) s)

/-- FALLBACK_ENTER accepted (R33, R296, R299): a DUTY device raises self-fault first. -/
def fallbackEnterRun (m : Nat) (s : State) : State :=
  let s1 := reply m [0] s
  enterFallback false (internalTrigger .fbCmd (startHandover (faultDomain s1) s1))
/-- FALLBACK_ENTER (0xD5). -/
def execFallbackEnter (m : Fin 8) (s : State) : Out := .next (serve 0xD5 m noChecks (fallbackEnterRun m) s)

end Sys2Proof.Machine
end

