-- ==== Sys2Proof/Machine/Debug.lean ====
section
/-! DEFINITION. The debug reads LINE_READ, QSTAT_READ and BANK_READ (R452). -/

namespace Sys2Proof.Machine

/-- n lies in 1 to most and first + n within the count (detail 0xE1). -/
def debugRange (first n most count : Nat) : Option Refuse :=
  if 1 ≤ n ∧ n ≤ most ∧ first + n ≤ count then none else some (badParam 0xE1)

/-- First entry and count of LINE_READ. -/
def lineArgs (s : State) (m : Nat) : Nat × Nat := (fld (arg s m 1) 0 12, fld (arg s m 1) 12 4)
/-- Checks of LINE_READ. -/
def lineReadChecks (m : Nat) (s : State) : Option Refuse := debugRange (lineArgs s m).1 (lineArgs s m).2 15 4096
/-- LINE_READ: the request word, then four words an entry. -/
def lineReadRun (m : Nat) (s : State) : State :=
  let a := lineArgs s m
  reply m (arg s m 1 :: (List.range a.2).flatMap (fun i => (List.range 4).map (fun w => (line s (a.1 + i)).word w))) s
/-- LINE_READ (0xE2). -/
def execLineRead (m : Fin 8) (s : State) : Out := .next (serve 0xE2 m (lineReadChecks m) (lineReadRun m) s)

/-- First index and count of QSTAT_READ and BANK_READ. -/
def readArgs (s : State) (m : Nat) : Nat × Nat := (fld (arg s m 1) 0 7, fld (arg s m 1) 8 6)
/-- Checks of QSTAT_READ. -/
def qstatReadChecks (m : Nat) (s : State) : Option Refuse := debugRange (readArgs s m).1 (readArgs s m).2 62 128
/-- QSTAT_READ: the words. -/
def qstatReadRun (m : Nat) (s : State) : State :=
  let a := readArgs s m
  reply m ((List.range a.2).map (fun i => (quern s (a.1 + i)).statWord (quernsPaused s))) s
/-- QSTAT_READ (0xE3). -/
def execQstatRead (m : Fin 8) (s : State) : Out := .next (serve 0xE3 m (qstatReadChecks m) (qstatReadRun m) s)

/-- Checks of BANK_READ. -/
def bankReadChecks (m : Nat) (s : State) : Option Refuse := debugRange (readArgs s m).1 (readArgs s m).2 31 128
/-- BANK_READ: BANK_OWNER and BANK_SPARE of each bank. -/
def bankReadRun (m : Nat) (s : State) : State :=
  let a := readArgs s m
  reply m ((List.range a.2).flatMap (fun i => [ownerWord s (a.1 + i), (bank s (a.1 + i)).spareWord])) s
/-- BANK_READ (0xE4). -/
def execBankRead (m : Fin 8) (s : State) : Out := .next (serve 0xE4 m (bankReadChecks m) (bankReadRun m) s)

end Sys2Proof.Machine
end

