-- ==== Sys2Proof/Machine/System.lean ====
section
/-! DEFINITION. The system commands (R442 to R446), the image, fuse and life-cycle commands (R345, R348, R355,
R368, R369), and what ends their flash operations. -/

namespace Sys2Proof.Machine

/-! ### Status, mode, reset, clock, counters -/

/-- SYSTEM_STATUS accepted: w1 to w5; the rest is reserved. -/
def systemStatusRun (m : Nat) (s : State) : State :=
  let count := fun (st : BState) => (s.jex.bundles.filter (fun b => b.state == st && !b.loading)).length
  let w1 := pack [(s.aon.mode.code, 0), (s.aon.lastMode, 4), (s.twin.role.code, 8), flag s.gate.untested 10, flag s.jex.autostart 11,
    flag s.jex.restored 12, flag s.jex.clockSet 13]
  let w4 := pack [(count .active, 0), (count .staged, 8), ((s.jex.anns.filter (fun a => a.ended.isNone)).length, 16)]
  let w5 := pack [((setsWhere s (fun h => h.state == .opened)).length, 0), ((runningTasks s).length, 8)]
  reply m (padWords 15 [w1, wrd s.jex.clock, wrd s.jex.upSecs, w4, w5]) s
/-- SYSTEM_STATUS (0x00). -/
def execSystemStatus (m : Fin 8) (s : State) : Out := .next (serve 0x00 m noChecks (systemStatusRun m) s)

/-- SERVICE_START: an ACTIVE bundle and no outstanding UNTESTED acceptance (R443). -/
def serviceStartChecks (s : State) : Option Refuse :=
  firstRefusal [(s.jex.bundles.any (fun b => b.state == .active), stateRefused 0xF8),
    (mayServe s, stateRefused 0xF5)]
/-- SERVICE_START accepted. -/
def serviceStartRun (m : Nat) (s : State) : State :=
  updateDuty (setMode .service 0 (reply m [wrd Mode.service.code] s))
/-- SERVICE_START (0x01). -/
def execServiceStart (m : Fin 8) (s : State) : Out := .next (serve 0x01 m serviceStartChecks (serviceStartRun m) s)

/-- MAINTENANCE is entered: an arming in progress ends, for its partner is to be in SERVICE (R302); a STANDBY device becomes
SINGLE (R37, R443). -/
def stopService (m : Nat) (s : State) : State :=
  let s1 := setMode .maintenance 0 (reply m [wrd Mode.maintenance.code] (armFailed 0x84 s))
  if s1.twin.role = .single then updateDuty s1 else becomeSingle s1
/-- SERVICE_STOP accepted: a DUTY device first hands over (R37, R297). -/
def serviceStopRun (m : Nat) (s : State) : State :=
  let s1 := startHandover (faultDomain s) s
  if s1.twin.role = .duty then s1 else stopService m s1
/-- SERVICE_STOP (0x02). -/
def execServiceStop (m : Fin 8) (s : State) : Out := .next (serve 0x02 m noChecks (serviceStopRun m) s)

/-- DEVICE_RESET accepted: as RESET_N held low for 1 µs, with no reply (R444). -/
def deviceResetRun (s : State) : State :=
  let s1 := enterReset s
  bootAfterReset (boardEnv s1) s1
/-- DEVICE_RESET (0x03). -/
def execDeviceReset (m : Fin 8) (s : State) : Out := .next (serve 0x03 m (fun t => confirmOk t m) deviceResetRun s)

/-- TIME_SET accepted (R446). -/
def timeSetRun (m : Nat) (s : State) : State :=
  modJex (reply m [wrd s.jex.clock] s) (fun j => { j with clock := (arg s m 1).toNat, clockSet := true, clockMs := 0 })
/-- TIME_SET (0x06). -/
def execTimeSet (m : Fin 8) (s : State) : Out := .next (serve 0x06 m noChecks (timeSetRun m) s)

/-- COUNTERS_CLEAR accepted. -/
def countersClearRun (m : Nat) (s : State) : State :=
  let w := arg s m 1
  let s1 := if bit w 0 then forEach (List.range 4) (fun t d =>
    modDom t d (fun x => { x with lossCount := 0, glitchCount := 0, lateCount := 0 })) s else s
  let s2 := if bit w 1 then modAudio s1 (fun a => { a with ports := a.ports.map (fun e => (e.1, { e.2 with inSat := 0 })) }) else s1
  let s3 := if bit w 2 then modTwin s2 (fun t => { t with crcErr := 0, missing := 0 }) else s2
  let s4 := if bit w 3 then s3.setQuerns (s3.querns.map (fun e => (e.1, e.2.clearStat 7))) else s3
  reply m [w] s4
/-- COUNTERS_CLEAR (0x07). -/
def execCountersClear (m : Fin 8) (s : State) : Out := .next (serve 0x07 m noChecks (countersClearRun m) s)

/-! ### The sealed configuration (R445) -/

/-- A configuration command that finds no room for a copy fails as a flash command does (R481, R483). -/
def configChecks (m : Nat) (s : State) : Option Refuse := if configCopies s = 0 then some (flashRefusal (cmdOp s m)) else none
/-- CONFIG_SAVE (0x04): the sealed configuration is written. -/
def execConfigSave (m : Fin 8) (s : State) : Out :=
  .next (serve 0x04 m (configChecks m) (fun t => flashCmd m 0 (configSteps t) (.cmd m) t) s)
/-- The configuration is sealed and written; running tasks are those marked AUTOSTART. -/
def configSaved (m : Nat) (s : State) : State :=
  let auto := bit (arg s m 1) 0
  storeCopy (captureCfg auto (runningIds s) s) (modJex s (fun j => { j with autostart := auto }))
/-- CONFIG_ERASE: the confirmation, and room for a configuration. -/
def configEraseChecks (m : Nat) (s : State) : Option Refuse :=
  firstRefusal [((confirmOk s m).isNone, (confirmOk s m).getD (flashRefusal 0x05)), (configCopies s != 0, flashRefusal 0x05)]
/-- CONFIG_ERASE (0x05). -/
def execConfigErase (m : Fin 8) (s : State) : Out :=
  .next (serve 0x05 m (configEraseChecks m)
    (fun t => flashCmd m 0 (eraseUnits configAddr (65536 * areaSectors t configAddr 0x80000)) (.cmd m) t) s)
/-- The configuration and the persisted acceptances are gone. -/
def configErased (s : State) : State :=
  modJex s (fun j => { j with saved := none, savedOther := none, accepts := [], autostart := false })

/-! ### Images (R345, R348) -/

/-- IMAGE_COMMIT: no image write or commit in progress (0x17). -/
def imageCommitChecks (m : Nat) (s : State) : Option Refuse :=
  if opBusy s m 0x10 ∨ opBusy s m 0x11 then some (busyRefused 0x17 (idleSlot s)) else none
/-- IMAGE_COMMIT (0x11): U4 and U5 begin. -/
def execImageCommit (m : Fin 8) (s : State) : Out :=
  .next (serve 0x11 m (imageCommitChecks m)
    (fun t => flashCmd m (idleSlot t) (sealSteps t (idleSlot t)) (.part m 0) t) s)
/-- After U6 on slot n, U7, or the refusal of U6; after U7, U8 on the other slot. -/
def imageNext (m part n : Nat) (s : State) : State :=
  let res := (Tab.get {} s.gate.slots n : GhSlot).result
  if part ≠ 0 then flashCmd m (1 - n) [retireStep] (.cmd m) s
  else if res = 1 then flashCmd m n [validStep] (.part m 1) s
  else refuse m ⟨7, if res = 4 ∨ res = 6 then 0x12 else 0x11, 0x7F, n⟩ s
/-- The reply after U8: slot n and its new SEQ. -/
def imageCommitted (m n : Nat) (s : State) : State :=
  reply m [wrd n, wrd (slotSeq s n), wrd (slotSeq s n / 2 ^ 32)] s

/-- IMAGE_STATUS accepted. -/
def imageStatusRun (m : Nat) (s : State) : State :=
  let slotW := fun (n : Nat) =>
    let x : GhSlot := Tab.get {} s.gate.slots n
    pack [(x.state, 30), flag x.seqErr 29, (x.result, 25), (x.svn, 19), (x.seq % 65536, 0)]
  let bits3 := fun (f : Nat → Bool) => ofBits ((List.range 3).map f)
  reply m ([s.gate.statusWord, s.gate.bootWord, slotW 0, slotW 1,
    wrd (slotSeq s 0), wrd (slotSeq s 0 / 2 ^ 32), wrd (slotSeq s 1), wrd (slotSeq s 1 / 2 ^ 32),
    wrd (headerRelease s 0), wrd (headerRelease s 1),
    pack [(bits3 (revoked s), 0), (bits3 (keyLock s), 4)]] ++
    (List.range 4).map (fun i => wrd ((deviceId s).toNat / 2 ^ (32 * i)))) s
/-- IMAGE_STATUS (0x12). -/
def execImageStatus (m : Fin 8) (s : State) : Out := .next (serve 0x12 m noChecks (imageStatusRun m) s)

/-- ACCEPT_UNTESTED while UNTESTED is clear (0x13), or with PERSIST and no room for a configuration. -/
def acceptUntestedChecks (m : Nat) (s : State) : Option Refuse :=
  firstRefusal [(s.gate.untested, stateRefused 0x13), (!bit (arg s m 1) 0 || configCopies s != 0, flashRefusal 0x13)]
/-- ACCEPT_UNTESTED accepted: with PERSIST the acceptance is written to the sealed configuration. -/
def acceptUntestedRun (m : Nat) (s : State) : State :=
  if bit (arg s m 1) 0 then flashCmd m 0 (configSteps s) (.cmd m) s else reply m [0] (modJex s (fun j => { j with accepted := true }))
/-- ACCEPT_UNTESTED (0x13). -/
def execAcceptUntested (m : Fin 8) (s : State) : Out := .next (serve 0x13 m (acceptUntestedChecks m) (acceptUntestedRun m) s)
/-- The acceptance is persisted in the sealed configuration, which is sealed under the running SVN and the present life-cycle
class (R345, R353); one that could not be opened counts as absent. -/
def acceptPersisted (s : State) : State :=
  let a : Accept := { digest := s.gate.imgDigest, stepping := 0xB0, rom := 0x03 }
  let l := s.jex.accepts.filter (fun x => x != a) ++ [a]
  let c : SavedCfg := { (openedCfg s).getD {} with accepts := l, svn := s.gate.svn, lcClass := lcClass s }
  storeCopy c (modJex s (fun j => { j with accepted := true, accepts := l }))

/-! ### Fuses and life cycle (R339, R355) -/

/-- The slot the device does not run from holds a VALID image signed under key slot 2. -/
def otherUnderSpare (s : State) : Bool :=
  let n := idleSlot s
  let f := slotFile s n
  let total := rdNat f.1 8 4
  slotState s n == 2 && imageHeaderOk f.1 f.2 && rdNat f.1 14 1 == 2 && keyMatches s f.1 total 2 && signatureOk f.1 total
/-- A slot's key may be revoked (0x14). -/
def mayRevoke (s : State) (k : Nat) : Bool :=
  match k with
  | 0 => keyLock s 2 && otherUnderSpare s
  | 1 => true
  | 2 => s.gate.imgKey != 2
  | _ => false
/-- FUSE_WRITE: FIELD 3 is reserved; KEY_LOCK, revocation and floor (0x14). -/
def fuseWriteChecks (m : Nat) (s : State) : Option Refuse :=
  let w := arg s m 1
  let k := fld w 4 2
  match fld w 0 2 with
  | 0 => if k ≤ 2 ∧ keyLock s k = false then none else some (badParam 0x14 (some 0))
  | 1 => if mayRevoke s k then none else some (badParam 0x14 (some 1))
  | 2 => if fld (arg s m 2) 0 6 ≤ s.gate.svn then none else some (badParam 0x14 (some 2))
  | _ => some (badParam 0xF4)
/-- The fuse bits of FUSE_WRITE. -/
def fuseWriteBits (s : State) (m : Nat) : BitVec 2048 :=
  let w := arg s m 1
  let k := fld w 4 2
  match fld w 0 2 with
  | 0 => keyFuses k (args s m 3 12)
  | 1 => fuseField (1536 + 3 * k) 7
  | _ => fuseField 1560 (2 ^ fld (arg s m 2) 0 6 - 1)
/-- While slot 1 is revoked the Crier runs with playback disabled: what it plays ends, its copy stays for the microphone and
the forced channels (R268, R341). -/
def revokeStores (s : State) : State :=
  if revoked s 1 ∧ s.crier.playOk then
    crierStep (fun c => { c with playOk := false, newCopy := none, play := none, host := false }) s
  else s
/-- FUSE_WRITE (0x14). -/
def execFuseWrite (m : Fin 8) (s : State) : Out :=
  .next (serve 0x14 m (fuseWriteChecks m) (fun t => reply m [0] (revokeStores (burn (fuseWriteBits t m) t))) s)

/-- LIFECYCLE_ADVANCE: PHASE and target. -/
def lcArgs (s : State) (m : Nat) : Bool × Nat := (bit (arg s m 1) 31, fld (arg s m 1) 0 3)
/-- The transition is in R355 and its precondition holds. -/
def lcAllowed (s : State) (target : Nat) : Bool :=
  match target with
  | 2 => s.gate.lc == 1
  | 3 => s.gate.lc == 2 && keyLock s 1
  | 4 => s.gate.lc == 3
  | 5 => s.gate.lc != 5
  | _ => false
/-- The RMA authorisation verifies: the firmware key of R341, not revoked, over DEVICE_ID and the last nonce, used once. -/
def rmaOk (s : State) (m : Nat) : Bool :=
  let k := if revoked s 0 then 2 else 0
  s.gate.nonceOk && !revoked s k && Config.rmaAuth (keyDigest s k) (args s m 2 24) (deviceId s) s.gate.nonce
/-- LIFECYCLE_ADVANCE: 0x15. -/
def lifecycleChecks (m : Nat) (s : State) : Option Refuse :=
  if lcAllowed s (lcArgs s m).2 then none else some (stateRefused 0x15)
/-- The reply of LIFECYCLE_ADVANCE: the nonce is a byte string, its first byte the most significant of the lowest word (R9). -/
def lcReply (m nonce : Nat) (s : State) : State := reply m [wrd (lcOf s.gate.fuses), wrd (nonce / 2 ^ 32), wrd nonce] s
/-- LIFECYCLE_ADVANCE accepted: to RMA in two phases, PHASE 0 giving the nonce; other targets at once. -/
def lifecycleRun (m : Nat) (s : State) : State :=
  let a := lcArgs s m
  if a.2 ≠ 4 then lcReply m 0 (burn (lcFuses a.2) s)
  else if a.1 = false then
    let f := takeFresh s
    let n := (Config.entropy f.1).toNat % 2 ^ 64
    lcReply m n (modGate f.2 (fun g => { g with nonce := n, nonceOk := true }))
  else
    let s1 := modGate s (fun g => { g with nonceOk := false })
    if rmaOk s m then lcReply m 0 (burn (lcFuses 4) s1) else refuse m ⟨7, 0x16, 0x7F, none⟩ s1
/-- LIFECYCLE_ADVANCE (0x15). -/
def execLifecycleAdvance (m : Fin 8) (s : State) : Out := .next (serve 0x15 m (lifecycleChecks m) (lifecycleRun m) s)

end Sys2Proof.Machine
end

