-- ==== Sys2Proof/Machine/Power.lean ====
section
/-! DEFINITION. The Warden's rows (R315 to R327), the leave and power commands (R332, R333), and SLEEP_ENTER with
the entry to SLEEP (R329). -/

namespace Sys2Proof.Machine

/-! ### Leave -/

/-- LEAVE_REQUEST (R315). -/
def execLeaveRequest (cls : Fin 10) (key : Nat) (s : State) : Out := .next (requestLeave cls key s)

/-- FREE_UPDATE_TIMEOUT (R318): the new FREE with domain 0 OFF. -/
def execFreeUpdateTimeout (s : State) : Out :=
  .next (if s.warden.freePending ∧ (dom s 0).state = .off then freeUpdate s else s)

/-! ### The rail -/

/-- WARDEN_STEP_DOWN (R324). -/
def execWardenStepDown (s : State) : Out := .next (if mayStepDown s then avsWrite (s.warden.setpoint - 5) s else s)

/-- AVS_FRAME_END: of a write, or of a read that gives rd; a boot that waits for 800 mV goes on (R323, R326). -/
def execAvsFrameEnd (ok : Bool) (rd : Nat) (s : State) : Out :=
  .next (bootGoesOn (avsFrame ok (rd % 1024) s))

/-- PACE_REPORT (R320): FLOOR_MV follows, and a prediction above the minimum Bell interval steps up (R325). -/
def execPaceReport (h : Fin 8) (ps : Nat) (s : State) : Out :=
  let s1 := refreshFloor (modWarden s (fun w => { w with pace := Tab.set 0 w.pace h ps }))
  .next (if s1.warden.frame.isNone ∧ allFit s1 s1.warden.setpoint = false then stepUp 5 s1 else s1)

/-- THERMAL_READING (R327). -/
def execThermalReading (tj : BitVec 10) (s : State) : Out := .next (thermalReading tj.toInt s)

/-! ### Registers (R319, R328) -/

/-- LEAVE_BOOK0, LEAVE_BOOK1, WARDEN_VCORE, WARDEN_THERM and WARDEN_EVENTS, 0x0C0 + i. -/
def Warden.word (w : Warden) (i : Nat) : Word :=
  match i with
  | 0 => pack [(w.epoch, 24), (w.free, 12), (w.granted, 0)]
  | 1 => pack [(w.epoch, 24), (w.reserveNow, 12), (w.pool, 0)]
  | 2 => pack [(w.floor, 20), (w.setpoint, 10), (w.read, 0)]
  | 3 => pack [((w.tj % 1024).toNat, 16), (w.paceOk.toNat, 8), flag w.thermCrit 2, flag w.thermHot 1, flag w.thermWarn 0]
  | 4 => wrd w.events.toNat
  | _ => 0

/-! ### Commands 0x90 to 0x92, 0x94, 0x95 -/

/-- LEAVE_STATUS accepted. -/
def leaveStatusRun (m : Nat) (s : State) : State :=
  let w := s.warden
  let per := (List.range 10).map (fun c => wrd (((w.grants.filter (fun g => g.cls == c)).map (·.price)).sum))
  reply m ([w.word 0, w.word 1] ++ per ++ [wrd w.queue.length, 0, 0]) s
/-- LEAVE_STATUS (0x90). -/
def execLeaveStatus (m : Fin 8) (s : State) : Out := .next (serve 0x90 m noChecks (leaveStatusRun m) s)

/-- POOL and RESERVE of LEAVE_CONFIG. -/
def leaveArgs (s : State) (m : Nat) : Nat × Nat := (fld (arg s m 1) 0 12, fld (arg s m 1) 12 12)
/-- LEAVE_CONFIG: 0x90. -/
def leaveConfigChecks (m : Nat) (s : State) : Option Refuse :=
  let a := leaveArgs s m
  let others := ((s.warden.grants.filter (fun g => g.cls != 0)).map (·.price)).sum
  let base := priceAt s.warden.setpoint (classCost s 0)
  if 500 ≤ a.1 ∧ a.1 ≤ 4095 ∧ 100 ≤ a.2 ∧ a.2 ≤ 1000 ∧ base + others + a.2 ≤ a.1 then none else some (badParam 0x90)
/-- LEAVE_CONFIG accepted: BASE is returned and booked again at the new pool in one step. -/
def leaveConfigRun (m : Nat) (s : State) : State :=
  let a := leaveArgs s m
  reply m [0] (grantAll (bookBase (modWarden s (fun w => { w with cfgPool := a.1, reserve := a.2 }))))
/-- LEAVE_CONFIG (0x91). -/
def execLeaveConfig (m : Fin 8) (s : State) : Out := .next (serve 0x91 m (leaveConfigChecks m) (leaveConfigRun m) s)

/-- Cost and class of LEAVE_COST_WRITE. -/
def costArgs (s : State) (m : Nat) : Nat × Nat := (fld (arg s m 1) 16 12, fld (arg s m 1) 0 4)
/-- LEAVE_COST_WRITE: 0x91, 0x95. -/
def leaveCostChecks (m : Nat) (s : State) : Option Refuse :=
  let a := costArgs s m
  firstRefusal [(a.2 ≤ 9 && a.1 != 0, badParam 0x91 a.2),
    (a.2 == 0 || !s.warden.grants.any (fun g => g.cls == a.2), stateRefused 0x95 a.2)]
/-- LEAVE_COST_WRITE accepted: the stored cost is one more than the cost, 0 standing for the default. -/
def leaveCostRun (m : Nat) (s : State) : State :=
  let a := costArgs s m
  reply m [wrd (classCost s a.2)] (modWarden s (fun w => { w with costs := Tab.set 0 w.costs a.2 (a.1 + 1) }))
/-- LEAVE_COST_WRITE (0x92). -/
def execLeaveCostWrite (m : Fin 8) (s : State) : Out := .next (serve 0x92 m (leaveCostChecks m) (leaveCostRun m) s)

/-- The lowest slack of the active Querns' latest passes; with none, a free value. -/
def lowSlack (s : State) : Nat × State :=
  match (s.querns.filter (fun e => e.2.active.isSome)).map (·.2.slack) with
  | [] => let f := takeFresh s; (Config.noSlack f.1 % 65536, f.2)
  | x :: l => (l.foldl Nat.min x % 65536, s)
/-- POWER_STATUS accepted. -/
def powerStatusRun (m : Nat) (s : State) : State :=
  let f := lowSlack s
  let w := s.warden
  reply m ([w.word 2, w.word 3, w.word 4] ++ (List.range 8).map (fun h => wrd (Tab.get 0 w.pace h)) ++ [wrd f.1, 0, 0, 0]) f.2
/-- POWER_STATUS (0x94). -/
def execPowerStatus (m : Fin 8) (s : State) : Out := .next (serve 0x94 m noChecks (powerStatusRun m) s)

/-- WARDEN_CONFIG: 0x94. -/
def wardenConfigChecks (m : Nat) (s : State) : Option Refuse :=
  let w1 := arg s m 1
  let w2 := arg s m 2
  let w3 := arg s m 3
  let dwell := fld w2 0 7
  let slack := fld w2 8 5
  let warm := fld w3 0 8
  let hot := fld w3 8 8
  if fld w1 0 4 ≤ 14 ∧ fld w1 4 2 ≤ 2 ∧ 1 ≤ dwell ∧ dwell ≤ 100 ∧ 4 ≤ slack ∧ slack ≤ 25 ∧ 80 ≤ warm ∧ warm ≤ 105 ∧ 90 ≤ hot ∧ hot ≤ 110
  then none else some (badParam 0x94)
/-- WARDEN_CONFIG accepted; CLEAR_AVS lets down-steps resume (R326). -/
def wardenConfigRun (m : Nat) (s : State) : State :=
  let w1 := arg s m 1
  let w2 := arg s m 2
  let w3 := arg s m 3
  reply m [0] (modWarden s (fun w =>
    { w with
      railSel := fld w1 0 4
      avsClk := fld w1 4 2
      dwell := fld w2 0 7
      slackMin := fld w2 8 5
      warm := fld w3 0 8
      hot := fld w3 8 8
      avsBad := w.avsBad && !bit w1 31
      fails := if bit w1 31 then 0 else w.fails }))
/-- WARDEN_CONFIG (0x95). -/
def execWardenConfig (m : Fin 8) (s : State) : Out := .next (serve 0x95 m (wardenConfigChecks m) (wardenConfigRun m) s)

/-! ### SLEEP (R329) -/

/-- A commit slot, route swap, program swap or aligned-group start is armed. -/
def anyArmed (s : State) : Bool :=
  s.domains.any (fun e => e.2.slots.any (fun c => c.2.armed) || e.2.route.armed) || s.jex.swaps != [] ||
    s.audio.aligns.any (fun e => e.2.state == 1)
/-- SLEEP_ENTER: 0x92 with the GPIO number. Every GPIO number of four bits exists and none is in use, so 0x93 does not arise. -/
def sleepChecks (m : Nat) (s : State) : Option Refuse :=
  if anyArmed s ∨ s.vigil.state = .armed ∨ s.jex.load.isSome ∨ s.flash.ops ≠ [] ∨ s.crier.state = .active ∨ fuseBusy s then
    some (busyRefused 0x92 (fld (arg s m 2) 0 4)) else none

/-- Step 2 begins: an arming in progress ends (R302), the peripheral port comes to rest (R474), and the outputs ramp to zero. -/
def sleepRamp (s : State) : State := modAon (quietPort (armFailed 0x84 s)) (fun a => { a with sleepTick := some a.tick })
/-- The end of step 2, 11 ticks after its beginning so that 10 ms have passed, and step 3: Querns, DMA channels and tasks
stopped, the resume state and the seal over the resume region; reply OK (R329, R361, R377, R397, R473; log 139). -/
def sleepSeal (m : Nat) (s : State) : State :=
  let s1 := stopAllDma (stopTasks (cancelTickets (haltQuerns s)))
  let s2 := modJex s1 (fun j => { j with resume := some (captureResume s1) })
  let s3 := makeWakeSeal 0x10100000 0x100000 s2
  let ms := (arg s m 1).toNat
  reply m [0] (modGate (modAon s3 (fun a =>
    { a with sleeping := true, sleepTick := none, timer := if ms = 0 then none else some ms }))
    (fun g => { g with sleepGpio := fld (arg s m 2) 0 4 }))

/-- SLEEP_ENTER accepted: a DUTY device first hands over (R37, R329). -/
def sleepRun (s : State) : State :=
  let s1 := startHandover (faultDomain s) s
  if s1.twin.role = .duty then s1 else sleepRamp s1
/-- SLEEP_ENTER (0x93). -/
def execSleepEnter (m : Fin 8) (s : State) : Out := .next (serve 0x93 m (sleepChecks m) sleepRun s)
/-- SLEEP_ENTER goes on: step 2 once the device is no longer in DUTY, step 3 at its end. -/
def sleepSettle (m : Nat) (s : State) : State :=
  match s.aon.sleepTick with
  | none => sleepRamp s
  | some t => if 11 ≤ since s t then sleepSeal m s else s

/-- Step 4: the write of 800 mV starts, MODE = SLEEP, the mode left recorded (R329); a STANDBY device becomes SINGLE (R37). -/
def sleepMode (s : State) : State :=
  updateDuty (dropPair (modAon (avsWrite 800 s) (fun a => { a with mode := .sleep, lastMode := a.mode.code, modeLeft := a.mode.code })))
/-- Step 5: the core domain isolated, SLEEP_OK asserted; an alarm that holds, WAKE_N low or an AON timer that has expired wakes
at once (R329, R331; log 140). -/
def fallAsleep (s : State) : State :=
  let s2 := modAon (isolate true (runOutFlash s)) (fun a => { a with timer := s.aon.timer })
  let s3 := updateDuty (modGate s2 (fun g => { g with phase := .asleep, sleepOk := true }))
  if s3.crier.alarm ∨ !s3.aon.wakeN ∨ s3.aon.timer = some 0 then beginWake s3 else s3

end Sys2Proof.Machine
end

