-- ==== Sys2Proof/Machine/Fault.lean ====
section
/-! DEFINITION. The fault catalogue's raising conditions (R489), the fault rows, the log (R492) and the commands
0xA0 to 0xA3 (R451, R490). -/

namespace Sys2Proof.Machine

/-! ### Raising conditions (R489) -/

/-- The payload of a granary fault: row and bank, the first line entry that covers the row, and how many do. -/
def rowPayload (s : State) (row b : Nat) : List Word :=
  let lo := bankPos b (16 * row)
  let es := (s.lines.filter (fun e => e.2.valid && e.2.hamlet == b / 16 && e.2.pos 0 < lo + 16 && lo < e.2.pos 0 + e.2.length)).map (·.1)
  [pack [(row, 16), (b, 0)], wrd (es.headD 0), wrd es.length]

/-- The payload of the instance of a code that w4 of a payload names, when its raising condition holds; durations
are taken from the row at its word. FLASH and PLAYER_UNDERRUN are raised where they are met. -/
def faultNow (s : State) (code : Nat) (w4 : Word) : Option (List Word) :=
  let f := s.faults
  let o := fld w4 0 9
  let on := fun (c : Bool) (p : List Word) => if c then some p else none
  let detour := fun (p : DetourStat → Bool) =>
    let x := Tab.get {} s.audio.detStat o
    on (p x) [pack [(x.cause.toNat, 24), (o, 0)]]
  match code with
  | 0x0001 => on (f.found.getLsbD 0) [wrd f.wdogReeve]
  | 0x0002 => on (f.found.getLsbD 1) [pack [(f.ovrCount, 16), (f.ovrQuern, 0)]]
  | 0x0003 => on (f.found.getLsbD 2) [wrd s.gate.lastCode, wrd s.gate.attempts]
  | 0x0004 => on (s.gate.untested && !s.jex.accepted) [0xB003]
  | 0x0005 => let n := idleSlot s; on (slotState s n != 2 || slotResult s n != 1) [wrd n]
  | 0x0006 => on (!s.crier.playOk || s.crier.badMsg != 0) [s.crier.statusWord]
  | 0x0007 => on (s.crier.reqA != s.crier.reqB) [wrd (b2n s.crier.reqA + 2 * b2n s.crier.reqB)]
  | 0x0101 =>
    let q := fld w4 0 7
    let d := (quernDom (quern s q)).getD 0
    on (quern s q).muted [pack [(d, 8), (q, 0)], bellLo (dom s d).bell]
  | 0x0102 =>
    let q := fld w4 0 7
    let u := quern s q
    on (u.flags3 &&& ~~~ u.qSeen != 0) [wrd q, u.statWord (quernsPaused s)]
  | 0x0103 => on ((bank s (fld w4 0 7)).soft && (bank s (fld w4 0 7)).softRows.contains (fld w4 16 14)) (rowPayload s (fld w4 16 14) (fld w4 0 7))
  | 0x0104 => on ((bank s (fld w4 0 7)).repairEv && (bank s (fld w4 0 7)).repairRows.contains (fld w4 16 14)) (rowPayload s (fld w4 16 14) (fld w4 0 7))
  | 0x0105 => on ((bank s (fld w4 0 7)).unrepaired && (bank s (fld w4 0 7)).lostRows.contains (fld w4 16 14)) (rowPayload s (fld w4 16 14) (fld w4 0 7))
  | 0x0106 => on (bank s (fld w4 0 7)).spares.isEmpty [wrd (fld w4 0 7)]
  | 0x0201 => let d := fld w4 0 2; on ((dom s d).enable && (dom s d).state != .locked) [pack [((dom s d).state.code, 4), (d, 0)]]
  | 0x0202 => let g := fld w4 0 3; on (group s g).lost [pack [(fld (group s g).statusWord 8 5, 8), (g, 0)]]
  | 0x0203 => on (s.audio.sieveStuck != 0) [s.audio.sieveStuck]
  | 0x0204 => on (stileStat s (fld w4 0 6)).range [wrd (fld w4 0 6)]
  | 0x0301 => detour (fun x => x.detoured && !x.forced)
  | 0x0302 => detour (fun _ => detourBlockedNow s o)
  | 0x0303 => detour (fun _ => detourWaits s o)
  | 0x0304 => let k := fld w4 0 6; on ((detector s k).state == 3) [wrd k, wrd (detector s k).level]
  | 0x0306 => (s.vigil.results.find? (fun r => r.verdict == 1 && r.words.headD 0 == w4)).map (fun r => [w4, r.words.getD 1 0])
  | 0x0401 => on (s.twin.linkEn && s.twin.role == .single && (s.aon.mode == .service || s.aon.mode == .vigil)) [wrd s.twin.events.toNat]
  | 0x0402 => s.twin.firstMis.bind (fun e => on (s.twin.events.getLsbD 4) [wrd e.1, bellLo e.2])
  | 0x0403 => on (s.twin.events.getLsbD 3) [wrd (s.twin.tookDom + 256 * b2n s.twin.tookBy)]
  | 0x0501 => on (s.warden.paceOk != 0xFF) [wrd s.warden.paceOk.toNat]
  | 0x0502 => on s.warden.avsBad [s.warden.word 2]
  | 0x0503 => on s.warden.thermHot [wrd (s.warden.tj % 1024).toNat]
  | 0x0504 => on s.warden.thermCrit [wrd (s.warden.tj % 1024).toNat]
  | _ => none

/-- What Jexolaryn notes once it has reported an instance: the flags of a Quern that are no longer new (R103), and what it found
at its start. -/
def noteRaised (code : Nat) (w4 : Word) (s : State) : State :=
  if code = 0x0102 then modQuern s (fld w4 0 7) (fun u => { u with qSeen := u.flags3 })
  else if 1 ≤ code ∧ code ≤ 3 then modFaults s (fun f => { f with found := f.found &&& ~~~ BitVec.ofNat 3 (2 ^ (code - 1)) })
  else s

/-- FAULT_RAISE (R489). -/
def execFaultRaise (code : BitVec 16) (payload : List Word) (s : State) : Out :=
  .next (match faultNow s code.toNat (payloadW4 payload) with
    | some p => noteRaised code.toNat (payloadW4 payload) (raiseFault code.toNat p s)
    | none => s)

/-- FAULT_CLEAR_TIMEOUT: the condition has been absent for 5 s (R489). -/
def execFaultClearTimeout (code : BitVec 16) (payload : List Word) (s : State) : Out :=
  .next (if (faultNow s code.toNat (payloadW4 payload)).isNone then absentFault code.toNat payload s else s)

/-! ### The log (R492) -/

/-- The 8 words of a record. -/
def LogRec.words (r : LogRec) : List Word :=
  let ws := [pack [(r.code, 16), (r.kind, 14), flag r.skipped 13, flag r.pin 12, (r.role, 8), (r.mode, 0)], wrd r.seq, wrd r.time] ++
    padWords 4 r.payload
  ws ++ [crc32c (ws.flatMap wordBytes)]

/-- The write of the oldest waiting record is in progress or waits. -/
def logBusy (s : State) : Bool := s.flash.ops.any (fun e => e.2.work == .log) || s.flash.waiting.any (fun o => o.work == .log)
/-- FAULT_LOG_RECORD: the write of the oldest waiting record begins, under FAULT_LOG leave. -/
def execFaultLogRecord (s : State) : Out :=
  .next (if jexOn s ∧ s.faults.waiting ≠ [] ∧ logBusy s = false ∧ 0 < logRoom s then
      startFlash { sel := 0, cls := 2, steps := logSteps s, work := .log } s
    else s)
/-- The record is in flash at its place with the next SEQ (R484, R492). -/
def recordLogged (s : State) : State :=
  modFaults s (fun f => match f.waiting with
    | [] => f
    | r :: rest =>
      { f with
        waiting := rest
        skipNext := false
        logSeq := (f.logSeq + 1) % 4294967296
        logPlace := (f.logPlace + 1) % logRoom s
        log := { r with skipped := f.skipNext, seq := f.logSeq, place := f.logPlace % logRoom s } :: f.log })

/-! ### The registers (R488) -/

/-- FAULT_PIN, FAULT_HW, FAULT_FW and FAULT_NEW, 0x0E0 + i. -/
def faultWord (s : State) (i : Nat) : Word :=
  let f := s.faults
  match i with
  | 0 => wrd (b2n (faultPin s) * 2 ^ 31)
  | 1 => pack [(if f.hwOverrun then f.ovrCount else 0, 16), (if f.hwOverrun then f.ovrQuern else 0, 8), (if f.hwWdog then f.wdogReeve else 0, 4),
      flag f.hwBoot 2, flag f.hwOverrun 1, flag f.hwWdog 0]
  | 2 => pack [flag f.fwAssert 31, (f.fwActive, 16), (f.fwUnacked, 8)]
  | 3 => wrd (b2n f.new)
  | _ => 0
/-- A host write of a fault register: the W1C flags. -/
def faultWrite (i : Nat) (v : Word) (s : State) : State :=
  match i with
  | 1 => modFaults s (fun f => { f with hwOverrun := f.hwOverrun && !bit v 1, hwWdog := f.hwWdog && !bit v 0 })
  | 3 => modFaults s (fun f => { f with new := f.new && !bit v 0 })
  | _ => s

/-! ### Commands (R451) -/

/-- FAULT_STATUS accepted: the active codes, lowest first, two to a word. -/
def faultStatusRun (m : Nat) (s : State) : State :=
  let codes := activeCodes s.faults.active
  let open_ := activeCodes (s.faults.active.filter (fun i => !i.acked))
  reply m (wrd (codes.length + 65536 * open_.length) :: padWords 14 (pairCodes (codes.take 28))) s
/-- FAULT_STATUS (0xA0). -/
def execFaultStatus (m : Fin 8) (s : State) : Out := .next (serve 0xA0 m noChecks (faultStatusRun m) s)

/-- Record and n of FAULT_LOG_READ. -/
def logArgs (s : State) (m : Nat) : Nat × Nat := (fld (arg s m 1) 0 16, fld (arg s m 1) 16 3)
/-- FAULT_LOG_READ: n is 1 to 7 and every record is held (0xA0). -/
def faultLogChecks (m : Nat) (s : State) : Option Refuse :=
  let a := logArgs s m
  if 1 ≤ a.2 ∧ a.1 + a.2 ≤ s.faults.log.length then none else some (badParam 0xA0)
/-- FAULT_LOG_READ accepted. -/
def faultLogRun (m : Nat) (s : State) : State :=
  let a := logArgs s m
  reply m (wrd s.faults.log.length :: ((s.faults.log.drop a.1).take a.2).flatMap LogRec.words) s
/-- FAULT_LOG_READ (0xA1). -/
def execFaultLogRead (m : Fin 8) (s : State) : Out := .next (serve 0xA1 m (faultLogChecks m) (faultLogRun m) s)

/-- The code of FAULT_ACK. -/
def ackCode (s : State) (m : Nat) : Nat := fld (arg s m 1) 0 16
/-- FAULT_ACK of a code that is not in the catalogue (0xA0). -/
def faultAckChecks (m : Nat) (s : State) : Option Refuse := if (faultRow (ackCode s m)).isSome then none else some (badParam 0xA0)
/-- FAULT_ACK accepted: whether the code is still active. -/
def faultAckRun (m : Nat) (s : State) : State :=
  let s1 := ackFault (ackCode s m) s
  reply m [wrd (b2n (s1.faults.active.any (fun i => i.code == ackCode s m)))] s1
/-- FAULT_ACK (0xA2). -/
def execFaultAck (m : Fin 8) (s : State) : Out := .next (serve 0xA2 m (faultAckChecks m) (faultAckRun m) s)

/-- FAULT_LOG_ERASE: the confirmation; without room for a log there is nothing to erase and the command fails as a flash command
does (R481, R483). -/
def logEraseChecks (m : Nat) (s : State) : Option Refuse :=
  firstRefusal [((confirmOk s m).isNone, (confirmOk s m).getD (flashRefusal 0xA3)), (decide (0 < logRoom s), flashRefusal 0xA3)]
/-- FAULT_LOG_ERASE (0xA3). -/
def execFaultLogErase (m : Fin 8) (s : State) : Out := .next (serve 0xA3 m (logEraseChecks m) (fun t => flashCmd m 0 (eraseUnits logAddr (65536 * areaSectors t logAddr 0x100000)) (.cmd m) t) s)
/-- The ring is erased. -/
def logErased (s : State) : State := modFaults s (fun f => { f with log := [] })

/-! ### Event rows (R430, R465) -/

/-- EVENT_POST: Jexolaryn posts an event. -/
def execEventPost (code : BitVec 16) (payload : List Word) (s : State) : Out := .next (postEvent code.toNat (padWords 5 payload) s)
/-- EVENTS_LOST: the summary once the queue has room again. -/
def execEventsLost (s : State) : Out := .next (if jexOn s then postLost s else s)

end Sys2Proof.Machine
end

