-- ==== Sys2Proof/Machine/Recovery.lean ====
section
/-! DEFINITION. The recovery operations of the Gatehouse (R338, R355, R359, R360, R364, R366). -/

namespace Sys2Proof.Machine

/-- The window in which an operation is accepted (R359). -/
def rcvOpen (s : State) (op : Nat) : Bool :=
  (s.gate.phase == .halted && lcNow s != 5) || s.gate.phase == .backoff || (s.gate.phase == .hostLoad && (op == 4 || op == 5))

/-- The operation ends. -/
def rcvEnd (res : Nat) (s : State) : State := modGate s (fun g => { g with busy := false, done := true, rcvResult := res })

/-- An attempt that fell due starts unless it is held or an operation runs (R360, R364). -/
def dueStarts (e : BootEnv) (s : State) : State :=
  if s.gate.dueHeld ∧ !s.gate.hold ∧ !s.gate.busy ∧ s.gate.phase = .backoff then retryBoot e s else s

/-- The frames of a recovery operation that erases or programs wait for the flash port (R478). -/
def rcvFrames (op : Nat) (s : State) : State :=
  match rcvSteps s op s.gate.slot s.gate.length s.gate.offset with
  | (k, st) :: _ => modFlash s (Flash.operate 2 k st)
  | [] => s

/-- GO: outside its window an operation ends with RESULT 2; RETRY starts its attempt at once (R359, R364); an erase or
program asks for the flash port (R478). -/
def rcvGo (e : BootEnv) (s : State) : State :=
  let op := s.gate.op
  if rcvOpen s op = false then modGate s (fun g => { g with busy := true, rcvJob := [] })
  else if op = 6 then retryBoot e (rcvEnd 0 s)
  else modGate (rcvFrames op s) (fun g => { g with busy := true, rcvJob := [op, g.slot, g.length, g.offset] })

/-- GH_RCV_CTL written: while BUSY a write with GO is ignored (R364). -/
def rcvCtl (e : BootEnv) (go hold : Bool) (op slot length : Nat) (s : State) : State :=
  if go ∧ s.gate.busy then modGate s (fun g => { g with goIgn := true })
  else
    let s1 := modGate s (fun g => { g with hold := hold, op := op, slot := slot, length := length })
    if go then rcvGo e s1 else dueStarts e s1

/-- GH_RCV_ADDR written. -/
def rcvAddr (off : Nat) (s : State) : State := modGate s (fun g => { g with offset := off })

/-- The image region as a file. -/
def ramFile (s : State) : Rd := fun i => ctrlByte s (0x10000000 + i)
/-- FUSE_KEY: the slot number is 0 to 2 and its KEY_LOCK is clear (R339). -/
def fuseKeyArgs (s : State) (off : Nat) : Bool := off % 4 != 3 && !keyLock s (off % 4)
/-- LC_SET: the target is DEVELOP or MANUFACTURE, and KEY_LOCK of slot 0 is set (R355). -/
def lcSetArgs (s : State) (off : Nat) : Bool := (off % 8 == 1 || off % 8 == 2) && keyLock s 0

/-- The RESULT and effect of operation op; `ok` is false when an erase or program failed. -/
def rcvWork (ok : Bool) (op slot len off : Nat) (s : State) : Nat × State :=
  let l := rcvSteps s op slot len off
  match op with
  | 1 => if ok then (0, doSteps l s) else (5, cutRun l s)
  | 2 =>
    if rcvArgs len off = false then (3, s)
    else if ok then (0, doSteps l s) else (5, cutRun l s)
  | 3 => if ok then (let t := imageVerified slot (doSteps l s); (if slotResult t slot = 1 then 0 else 4, t)) else (5, cutRun l s)
  | 4 =>
    if rcvArgs len off = false then (3, s)
    else (0, ctrlPutBytes (0x10000000 + off) (bufBytes s len) s)
  | 5 => (if lcNow s ≠ 0 ∧ imageResult s (ramFile s) 0x100000 = 1 then 0 else 4, s)
  | 7 =>
    if lcNow s ≠ 0 then (6, s) else if fuseKeyArgs s off = false then (3, s)
    else (0, burn (keyFuses (off % 4) ((List.range 12).map (bufWord s))) s)
  | 8 =>
    if lcNow s ≠ 0 then (6, s) else if lcSetArgs s off = false then (3, s)
    else (0, burn (lcFuses (off % 8)) (burnRoot s))
  | _ => (3, s)

/-- An operation that ran ends: its RESULT; RAM_BOOT that passes boots the image. -/
def rcvDone (ok : Bool) (s : State) : State :=
  match s.gate.rcvJob with
  | [op, slot, len, off] =>
    if rcvOpen s op then
      let r := rcvWork ok op slot len off s
      let t := match rcvSteps s op slot len off with
        | (k, st) :: _ => modFlash r.2 (Flash.complete 2 k st)
        | [] => r.2
      if op = 5 ∧ r.1 = 0 then bootImage 3 (ramFile s) (rcvEnd 0 t) else rcvEnd r.1 t
    else rcvEnd 2 s
  | _ => rcvEnd 2 s

/-- RECOVERY_OP_DONE (R359, R364): an attempt that fell due meanwhile starts then, unless held. -/
def execRecoveryOpDone (flashOk : Bool) (s : State) : Out :=
  .next (if s.gate.busy then (let t := rcvDone flashOk s; dueStarts (boardEnv t) t) else s)

/-- A recovery row: GH_RCV_ADDR where it has an operand for it, then GH_RCV_CTL with GO. -/
def rcvRow (e : BootEnv) (op : Nat) (slot len : Option Nat) (off : Option Word) (hold : Bool) (s : State) : State :=
  let s1 := match off with | some w => rcvAddr w.toNat s | none => s
  rcvCtl e true hold op (slot.getD s.gate.slot) (len.getD s.gate.length) s1

/-- SLOT_ERASE (OP 1). -/
def execSlotErase (slot : Fin 2) (hold : Bool) (s : State) : Out := .next (rcvRow (boardEnv s) 1 (some slot) none none hold s)
/-- SLOT_PROGRAM (OP 2). -/
def execSlotProgram (slot : Fin 2) (len : BitVec 11) (off : Word) (hold : Bool) (s : State) : Out :=
  .next (rcvRow (boardEnv s) 2 (some slot) (some len.toNat) (some off) hold s)
/-- SLOT_COMMIT (OP 3). -/
def execSlotCommit (slot : Fin 2) (hold : Bool) (s : State) : Out := .next (rcvRow (boardEnv s) 3 (some slot) none none hold s)
/-- RAM_LOAD (OP 4). -/
def execRamLoad (len : BitVec 11) (off : Word) (hold : Bool) (s : State) : Out :=
  .next (rcvRow (boardEnv s) 4 none (some len.toNat) (some off) hold s)
/-- RAM_BOOT (OP 5). -/
def execRamBoot (hold : Bool) (s : State) : Out := .next (rcvRow (boardEnv s) 5 none none none hold s)
/-- RETRY (OP 6). -/
def execRetry (hold : Bool) (e : BootEnv) (s : State) : Out := .next (rcvRow e 6 none none none hold s)
/-- FUSE_KEY (OP 7). -/
def execFuseKey (off : Word) (hold : Bool) (s : State) : Out := .next (rcvRow (boardEnv s) 7 none none (some off) hold s)
/-- LC_SET (OP 8). -/
def execLcSet (off : Word) (hold : Bool) (s : State) : Out := .next (rcvRow (boardEnv s) 8 none none (some off) hold s)

/-- BOOT_BACKOFF_EXPIRY (R357, R360, R364): the attempt starts, or waits for DONE and for HOLD. -/
def execBootBackoffExpiry (e : BootEnv) (s : State) : Out :=
  .next (if s.gate.phase = .backoff ∧ s.gate.backEnd.isSome then
    dueStarts e (modGate s (fun g => { g with dueHeld := true, backEnd := none, backoff := 0 })) else s)
/-- HOLD_TIMEOUT (R360). -/
def execHoldTimeout (e : BootEnv) (s : State) : Out := .next (dueStarts e (modGate s (fun g => { g with hold := false })))

/-! ### Registers (R365, R366) -/

/-- Word i of the Gatehouse registers, 0x0D0 + i. -/
def gateWord (s : State) (i : Nat) : Word :=
  let g := s.gate
  let slotWord := fun (x : GhSlot) =>
    pack [(x.state, 30), flag x.seqErr 29, (x.result, 25), (x.svn, 19), (x.seq % 65536, 0)]
  match i with
  | 0 => g.statusWord
  | 1 => g.bootWord
  | 2 => slotWord (Tab.get {} g.slots 0)
  | 3 => slotWord (Tab.get {} g.slots 1)
  | 4 => pack [flag g.hold 30, (g.op, 26), (g.slot, 25), (g.length, 10)]
  | 5 => wrd g.offset
  | 6 => pack [flag g.busy 31, flag g.done 30, (g.rcvResult, 26), flag g.goIgn 25]
  | 8 => wrd (deviceId s).toNat
  | 9 => wrd ((deviceId s).toNat / 2 ^ 32)
  | 10 => wrd ((deviceId s).toNat / 2 ^ 64)
  | 11 => wrd ((deviceId s).toNat / 2 ^ 96)
  | _ => 0
/-- A host write of word i of the Gatehouse registers. -/
def gateWrite (e : BootEnv) (i : Nat) (v : Word) (s : State) : State :=
  match i with
  | 0 => modGate s (fun g => { g with dupSeq := g.dupSeq && !bit v 25, wakeSlow := g.wakeSlow && !bit v 23 })
  | 4 => rcvCtl e (bit v 31) (bit v 30) (fld v 26 4) (fld v 25 1) (fld v 10 11) s
  | 5 => rcvAddr v.toNat s
  | 6 => modGate s (fun g => { g with done := g.done && !bit v 30, goIgn := g.goIgn && !bit v 25 })
  | _ => s

end Sys2Proof.Machine
end

