-- ==== Sys2Proof/Machine/Settle.lean ====
section
/-! DEFINITION. What goes on once something it waited for is there: a handover that a mode change waits for (R37),
leave, the recorded bundles of a start, an arming, a campaign; the rows that bring such things about (LEAVE_RETURN,
LEAVE_WITHDRAW, FLASH_OP_DONE, HANDOVER, HANDOVER_ACK_RECEIVED, BELL). -/

namespace Sys2Proof.Machine

/-! ### Settling -/

/-- SERVICE_STOP and SLEEP_ENTER go on once the device is no longer in DUTY; one that took over meanwhile hands over first
(R37, R329). -/
def dutySettle (s : State) : State :=
  if s.twin.role = .duty then
    if (acceptedOf s 0x02).isSome ∨ (acceptedOf s 0x93).isSome then startHandover (faultDomain s) s else s
  else
    let s1 := match acceptedOf s 0x02 with | some m => stopService m s | none => s
    match acceptedOf s1 0x93 with | some m => sleepSettle m s1 | none => s1

/-- Everything that waited and can go on. -/
def settle (s : State) : State := dutySettle (bootSettle (armSettle (vigilSettle s)))

/-! ### Leave comes back or is given up (R317) -/

/-- LEAVE_RETURN. -/
def execLeaveReturn (cls : Fin 10) (key : Nat) (s : State) : Out := .next (settle (returnLeave cls key s))

/-- A flash operation that never got its leave. -/
def flashNoLeave (sel : Nat) (s : State) : State :=
  match flashOp s sel with
  | some o => match o.work with
    | .cmd m | .part m _ => refuse m noFlashLeave (endFlash sel s)
    | .store t rq q n h => storeDone t rq q n h false (endFlash sel s)
    | .none => endFlash sel s
    | w => startFlash { o with work := w } (endFlash sel s)
  | none => s

/-- What a withdrawn request ends, by its class (R115, R247, R302, R317, R397). -/
def noLeave (cls key : Nat) (s : State) : State :=
  match cls with
  | 3 => flashNoLeave key s
  | 4 => match key with
    | 0 => match s.jex.load with
      | some l => nextLoad (refuseLoad l.mb l.bundle.id ⟨9, 0x38, 0x7F, none⟩ (modJex s (fun j => { j with load := none })))
      | none => s
    | 1 => endCampaign s
    | 2 => modJex s (fun j => { j with bootSlots := j.bootSlots.drop 1 })
    | _ => s
  | 5 => armFailed 0x87 s
  | 6 => modChan s key (fun x => if x.state = .waitLeave then { x with state := .idle } else x)
  | 7 => vigilNoLeave s
  | _ => s

/-- LEAVE_WITHDRAW: a waiting request ends, the books as they were. -/
def execLeaveWithdraw (cls : Fin 10) (key : Nat) (s : State) : Out :=
  .next (if hasRequest s cls key then settle (noLeave cls key (dropRequest cls key s)) else s)

/-! ### FLASH_OP_DONE (R481) -/

/-- What a command leaves once the last of its operations, on select k, has ended well. -/
def commandWritten (m : Nat) (s : State) : State :=
  match cmdOp s m with
  | 0x04 => configSaved m s
  | 0x05 => configErased s
  | 0x10 | 0x20 | 0x57 | 0xC0 | 0xD3 => segApply (cmdOp s m) m s
  | 0x13 => acceptPersisted s
  | 0x59 => messageEraseDone m s
  | 0x77 | 0x78 => baselineDone m s
  | 0xA3 => logErased s
  | 0xC3 => taskRemoveDone m s
  | _ => s
/-- Its reply. -/
def commandReply (m k : Nat) (s : State) : State :=
  match cmdOp s m with
  | 0x04 => reply m [Config.sealedBytes s.jex.saveCount] s
  | 0x10 | 0x20 | 0x57 | 0xD3 => segReply (cmdOp s m) m s
  | 0x11 => imageCommitted m (1 - k) s
  | 0xC0 => taskInstallDone m s
  | 0x05 | 0x13 | 0x59 | 0x77 | 0x78 | 0xA3 | 0xC3 => reply m [0] s
  | _ => s
/-- What part n of a command leaves once the last of its operations, on select k, has ended well. -/
def partWritten (m n k : Nat) (s : State) : State :=
  match cmdOp s m with
  | 0x11 => if n = 0 then imageVerified k (readFile 4 k 4096 (slotFile s k).2 s) else s
  | op => if n = 0 then segErased op m s else segNoted op m s
/-- The part that follows. -/
def partNext (m n k : Nat) (s : State) : State :=
  match cmdOp s m with
  | 0x11 => imageNext m n k s
  | op => if n = 0 then segProgram op m s else flashCmd m 0 (dirSteps s) (.cmd m) s

/-- The refusal of a command whose operation on select k failed; a slot of images or Crier stores is on the select of its
number (R481). -/
def failedRefusal (s : State) (m k : Nat) : Refuse :=
  let op := cmdOp s m
  { segRefusal s m op with idx := if op = 0x10 ∨ op = 0xD3 then some k else (segRefusal s m op).idx }
/-- What waited for the operations on select k that ended. -/
def flashWork (w : FlashWork) (k : Nat) (ok : Bool) (s : State) : State :=
  match w with
  | .none => s
  | .cmd m => if ok then commandReply m k (commandWritten m s) else refuse m (failedRefusal s m k) s
  | .part m n => if ok then partNext m n k (partWritten m n k s) else refuse m (failedRefusal s m k) s
  | .log => if ok then recordLogged s else s
  | .store t rq q n h => storeDone t rq q n h ok s
  | .results => recordWritten ok s
  | .retire => s
  | .reseal => if ok then resealed s else s
  | .journal => if ok then journalDone s else s
/-- What a command that stops leaves, of its last operation or that of a part: it is not answered yet. -/
def flashLeft (w : FlashWork) (k : Nat) (s : State) : State :=
  match w with
  | .cmd m => commandWritten m s
  | .part m n => partWritten m n k s
  | _ => s

/-- An erase for a segment command has ended, well or not: its target is spoilt. -/
def eraseNoted (o : FlashOp) (s : State) : State :=
  match o.work with
  | .part m 0 => if o.erases then segSpoilt (cmdOp s m) m s else s
  | _ => s
/-- The journal sector has been written whole (R484). -/
def journalNoted (o : FlashOp) (s : State) : State :=
  match o.work, o.steps with
  | .cmd m, .program a _ :: .erase _ _ :: _ =>
    if o.sel = 0 ∧ journalAddr ≤ a ∧ a < journalAddr + 4096 then
      modVigil s (fun v => { v with journal := some (Tab.get (0, {}) v.accepting m) })
    else s
  | _, _ => s
/-- The operation in progress of a row of them carried out in its flash, or failed (R481). -/
def stepEnds (k : Nat) (o : FlashOp) (ok : Bool) (s : State) : State :=
  match o.steps with
  | st :: _ => if ok then journalNoted o (eraseNoted o (doStep k st s)) else eraseNoted o (cutStep k st s)
  | [] => s
/-- A page reads back as it was programmed (R481). -/
def readsBack (k : Nat) (st : FlashStep) (s : State) : Bool := flashBytes s k st.addr st.data.length == st.data
/-- What follows an operation that has ended: the answer of a command that stops (R439), the next operation under a grant of
its own (R441), or what waited for the last. -/
def stepNext (k : Nat) (o : FlashOp) (ok : Bool) (s : State) : State :=
  match o.stop, o.work.mailbox with
  | some code, some m => endFlash k (refuse m (stateRefused code) (if ok ∧ o.steps.length ≤ 1 then flashLeft o.work k s else s))
  | _, _ =>
    if ok ∧ 1 < o.steps.length then followFlash { o with steps := o.steps.drop 1 } s
    else endFlash k (flashWork o.work k ok s)

/-- FLASH_OP_DONE: the operation in progress on a select ends, well where the poll shows it complete in time and a page reads back
as programmed; a failure raises FLASH. -/
def execFlashOpDone (sel : Fin 2) (ok : Bool) (s : State) : Out :=
  match flashOp s sel with
  | some o =>
    if Tab.get false s.flash.busy sel then
      let s1 := stepEnds sel o ok s
      let good := ok && readsBack sel o.now s1
      .next (settle (stepNext sel o good (if good then s1 else raiseFault 0x0008 [wrd sel, wrd o.addr] s1)))
    else .next s
  | none => .next s

/-! ### Handover and Bell -/

/-- HANDOVER_ACK_RECEIVED: at least 5 µs before the handover edge (`early`), or too late. -/
def execHandoverAckReceived (early crcOk : Bool) (s : State) : Out :=
  .next (packetIn crcOk (fun t =>
    match t.twin.role, t.twin.handover with
    | .duty, some h =>
      if h.acked then t
      else if early then modTwin t (fun w => { w with handover := some { h with acked := true } })
      else settle (handoverLost t)
    | _, _ => t) s)

/-- HANDOVER: the BCLK edge that ends the last slot of the frame before the handover Bell. -/
def execHandover (s : State) : Out :=
  match s.twin.handover with
  | some h => .next (if h.acked ∧ (dom s h.domain).bell + 1 = h.bell then settle (handoverEdge h s) else s)
  | none => .next s

/-- BELL (R27). -/
def execBell (d : Fin 4) (env : BellEnv) (s : State) : Out :=
  if bellComes s d then
    if buffersBell s d then .next (bufferBell d env (sendBuffered d env (alignBell d (countBell d env.interval s))))
    else .next (settle (bellBody d env (alignBell d (countBell d env.interval s))))
  else .next s


end Sys2Proof.Machine
end

