-- ==== Sys2Proof/Machine/Tick.lean ====
section
/-! DEFINITION. The AON tick of 1 ms, which passes when no command waits (log 7): the counts it drives, and what
waits for nothing but time to go on. -/

namespace Sys2Proof.Machine

/-- A count of seconds and its ticks after one more tick. -/
def secondsOn (ms secs : Nat) : Nat × Nat := if ms + 1 < 1000 then (ms + 1, secs) else (0, (secs + 1) % 4294967296)
/-- The time since the cold boot, and the device clock once it has been set (R446, R503). -/
def tickClock (s : State) : State :=
  modJex s (fun j =>
    let up := secondsOn j.msAcc j.upSecs
    let clk := if j.clockSet then secondsOn j.clockMs j.clock else (j.clockMs, j.clock)
    { j with msAcc := up.1, upSecs := up.2, clockMs := clk.1, clock := clk.2 })

/-- The watchdog counts of the Reeves it watches (R265, R378). -/
def tickWatchdog (s : State) : State :=
  forEach [0, 1] (fun t r => if watched t r then modReeve t r (fun x => { x with wdog := Nat.min 1000 (x.wdog + 1) }) else t) s

/-- GH_BOOT.BACKOFF (R365). -/
def tickBackoff (s : State) : State :=
  match s.gate.backEnd with
  | some t => modGate s (fun g => { g with backoff := Nat.min 60 (((t + 4294967296 - s.aon.tick) % 4294967296 + 999) / 1000) })
  | none => s

/-- Ticks that the running tasks have run (R385). -/
def tickTasks (s : State) : State :=
  modStew s (fun w => { w with slots := w.slots.map (fun e => if e.2.state = .running then (e.1, { e.2 with ran := e.2.ran + 1 }) else e) })

/-- FAULT_FW is rewritten 10 s after Jexolaryn's start (R487). -/
def tickFaults (s : State) : State :=
  match s.faults.stale with
  | some t => if jexOn s ∧ 10000 ≤ since s t then refreshFw (modFaults s (fun f => { f with stale := none })) else s
  | none => s

/-- The flash port serves the frames that wait, and the intervals after a resume pass (R480; log 107). -/
def tickFlash (s : State) : State := modFlash s (fun f => (f.pass 1000000).run)

/-- What the tick before brought to its end and no row has said since: the expiry of a watchdog count, of the AON timer, of
delays and wait timeouts (R265, R331, R386). -/
def tickEnds (s : State) : State :=
  if s.gate.phase = .running then wdogEnds 1 (wdogEnds 0 (expireList s.stew.delays s)) else timerDue s
/-- The tick count, and with it the AON timer and the clocks (R331, R446, R503). -/
def countTick (s : State) : State :=
  tickClock (modAon s (fun a => { a with tick := (a.tick + 1) % 4294967296, timer := a.timer.map (· - 1) }))
/-- One AON tick; none without VDD_AON. In SLEEP nothing but the tick, the timer and the clocks runs. -/
def aonTick (s : State) : State :=
  if s.aon.vddAon = false then s else
  let s1 := countTick (tickEnds s)
  if s1.aon.sleeping then (if s1.aon.mode = .sleep then fallAsleep s1 else sleepMode s1)
  else if s1.gate.phase = .running then settle (tickFaults (tickTasks (tickWatchdog (tickFlash s1))))
  else if s1.gate.phase = .asleep ∨ s1.gate.phase = .waking then s1
  else tickBackoff (tickFlash s1)

end Sys2Proof.Machine
end

