-- ==== Sys2Proof/Machine/Window.lean ====
section
/-! DEFINITION. The register window of the host port (R338, R415 to R417, R423, R428, R432, R433, R466): what each
word reads as, and what a write of it does. -/

namespace Sys2Proof.Machine

/-! ### Interrupts (R417) -/

/-- In BOOT, and in the FALLBACK entered from a failed boot, only the words of R338 are served. -/
def bootPort (s : State) : Bool := s.aon.mode == .boot || (s.aon.mode == .fallback && s.gate.phase != .running)

/-- A W1C flag of DOM_STATUS is set. -/
def Domain.flagged (x : Domain) : Bool := x.lockedEv || x.late || x.glitch || x.rateChange || x.returnEv || x.loss
/-- A W1C flag of GROUP_STATUS is set. -/
def Group.flagged (g : Group) : Bool := g.rateEv || g.phaseErr || g.frameErr || g.clkLoss || g.underrun
/-- Bit 4: an audio-port flag is set. -/
def audioFlag (a : Audio) : Bool := a.groups.any (fun e => e.2.flagged) || a.wclk.any (fun e => e.2.rateEv) || a.sieveEv != 0
/-- HP_FLAGS (R416). -/
def HostPort.flagsWord (h : HostPort) : Word :=
  pack [flag h.fReleaseIgn 4, flag h.fWrDiscard 3, flag h.fAddrOver 2, flag h.fUnderrun 1, flag h.fRejected 0]
/-- Bit 11: a W1C flag of the Gatehouse is set. -/
def gateFlag (g : Gate) : Bool := g.done || g.dupSeq || g.wakeSlow
/-- Bit 12 (R488). -/
def faultFlag (s : State) : Bool := faultWord s 1 != 0 || s.faults.new
/-- IRQ_STATUS. -/
def irqStatus (s : State) : Word :=
  pack ((List.range 4).map (fun d => flag (dom s d).flagged d) ++
    [flag (audioFlag s.audio) 4, flag (s.crier.eventsWord != 0) 5, flag (s.twin.events != 0) 6, flag (s.warden.events != 0) 7,
     flag (s.host.ackEv != 0 || s.host.readyEv != 0) 8, flag (!s.host.evq.isEmpty || s.host.overflow) 9,
     flag (s.host.flagsWord != 0) 10, flag (gateFlag s.gate) 11, flag (faultFlag s) 12])
/-- HOST_IRQ_N is asserted (R338, R417). -/
def irqPin (s : State) : Bool := if bootPort s then gateFlag s.gate else irqStatus s &&& s.host.irqEnable != 0

/-! ### Words 0x000 to 0x00A (R416) -/

/-- The code of a mailbox state. -/
def MbState.code : MbState → Nat
  | .free => 0 | .ringing => 1 | .queued => 2 | .accepted => 3 | .ready => 4
/-- MB_STATE.CREDITS. -/
def credits (s : State) : Nat :=
  if s.host.served then ((List.range 8).filter (fun m => (mbox s m).state == .free)).length else 0
/-- MB_STATE. -/
def mbStateWord (s : State) : Word :=
  pack (flag s.host.served 28 :: (credits s, 24) :: (List.range 8).map (fun m => ((mbox s m).state.code, 3 * m)))
/-- MODE. -/
def modeWord (a : Aon) : Word := pack [(a.lastMode, 8), (a.mode.code, 0)]
/-- A host interface register. -/
def hostWord (s : State) (a : Nat) : Word :=
  let h := s.host
  match a with
  | 0 => modeWord s.aon
  | 1 => irqStatus s
  | 2 => h.irqEnable
  | 3 => h.flagsWord
  | 4 => pack [(h.rejectCount, 16), (h.wrDiscard, 0)]
  | 6 => mbStateWord s
  | 7 => pack [(h.ackEv.toNat, 8), (h.readyEv.toNat, 0)]
  | 9 => pack [(h.lost, 16), flag h.overflow 7, (h.evq.length, 0)]
  | 10 => pack [((h.evq.head?.map (·.seq)).getD 0, 16), (h.evq.length, 0)]
  | _ => 0

/-! ### Audio ports (chapter 8) -/

/-- Word 0x060 + i. -/
def audioWord (s : State) (i : Nat) : Word :=
  let a := s.audio
  if i < 8 then (Tab.get {} a.groups i : Group).cfgWord
  else if i < 16 then (Tab.get {} a.groups (i - 8) : Group).statusWord
  else if i < 24 then wrd (Tab.get {} a.groups (i - 16) : Group).rate
  else if i < 26 then (Tab.get {} a.wclk (i - 24) : Wclk).word
  else if i = 26 then a.sieveStuck
  else if i = 27 then a.sieveEv
  else if i < 32 then 0
  else if i < 64 then (Tab.get {} a.ports (i - 32) : Port).word
  else (Tab.get {} a.aligns ((i - 64) / 2) : Align).word ((i - 64) % 2)
/-- A host write of word 0x060 + i. -/
def audioClear (i : Nat) (v : Word) (a : Audio) : Audio :=
  if 8 ≤ i ∧ i < 16 then { a with groups := Tab.mod {} a.groups (i - 8) (fun g => g.clear v) }
  else if 24 ≤ i ∧ i < 26 then { a with wclk := Tab.mod {} a.wclk (i - 24) (fun x => { x with rateEv := x.rateEv && !bit v 27 }) }
  else if i = 27 then { a with sieveEv := a.sieveEv &&& ~~~v }
  else a

/-! ### Capabilities (R432, R466) -/

/-- The hardware capability header. -/
def capHardware : List Word :=
  [0x00010101, 0x00040184, 0xB0037720, 0x04000840,
   0x00020101, 0x00030187, 0x40400832,
   0x00030101, 0x000601C0, 0x80088004, 0x10004020, 0x02002010, 0x30004020]
/-- The firmware capability area of Jexolaryn 4.1 (R466). -/
def capFirmware (release : Nat) : List Word :=
  [0x01000100, 0x000501C5, wrd (0x04010000 + release % 65536), 0x00070601, 0x00007FBF,
   0x01010100, 0x000401C9, 0x010010FF, 0x0040FF08,
   0x01020100, 0x000301CC, 0x10000800,
   0x01030100, 0x000301CF, 0x00000688,
   0x01040100, 0x000301D2, 0x0000402F,
   0x01050100, 0x000301D5, 0x00000004,
   0x01060100, 0x00030000, 0x00000840]
/-- Word 0x1C0 + i as Jexolaryn 4.1 writes it. -/
def capFw (s : State) (i : Nat) : Word := (capFirmware s.gate.release).getD i 0
/-- Word 0x180 + i; the firmware area holds what was last written (R373) and reads 0 while SERVED is 0 (R433). -/
def capWord (s : State) (i : Nat) : Word :=
  if i < 64 then capHardware.getD i 0
  else if s.host.served then Tab.get (capFw s (i - 64)) s.host.capFw (i - 64) else 0

/-! ### Event-queue window and mailboxes -/

/-- Word j of an event entry (R427). -/
def Event.word (e : Event) (j : Nat) : Word :=
  match j with
  | 0 => pack [(e.code, 16), (e.seq, 0)]
  | 1 => e.time
  | 2 => wrd e.tick
  | _ => e.payload.getD (j - 3) 0
/-- Word 0x100 + i (R428). -/
def eventWord (s : State) (i : Nat) : Word := ((s.host.evq[i / 8]?).map (fun e => e.word (i % 8))).getD 0
/-- Word i of a mailbox as the host reads it (R423). -/
def Mailbox.hostWord (b : Mailbox) (i : Nat) : Word :=
  let w : Word := Tab.get 0 b.words i
  match b.state with
  | .free | .ready => w
  | _ => if i = 0 then replyHead w 1 1 else 0

/-! ### The window (R338, R415) -/

/-- A window word in the modes that Jexolaryn serves. -/
def fullWord (s : State) (a : Nat) : Word :=
  if a < 0x040 then hostWord s a
  else if a < 0x060 then (dom s ((a - 0x040) / 8)).reg (a % 8)
  else if a < 0x0B0 then audioWord s (a - 0x060)
  else if a = 0x0B0 then s.crier.statusWord
  else if a = 0x0B1 then s.crier.eventsWord
  else if a < 0x0B8 then 0
  else if a = 0x0B8 then s.twin.statusWord
  else if a = 0x0B9 then wrd s.twin.events.toNat
  else if a = 0x0BA then s.twin.mismatchWord
  else if a = 0x0BB then s.twin.linkWord
  else if a < 0x0C0 then 0
  else if a < 0x0D0 then s.warden.word (a - 0x0C0)
  else if a < 0x0E0 then gateWord s (a - 0x0D0)
  else if a < 0x100 then faultWord s (a - 0x0E0)
  else if a < 0x180 then eventWord s (a - 0x100)
  else if a < 0x200 then capWord s (a - 0x180)
  else if a < 0x400 then (mbox s ((a - 0x200) / 64)).hostWord (a % 64)
  else 0
/-- The words that R338 serves besides the transfer buffer. -/
def bootServed (a : Nat) : Bool := a == 0 || a == 0x0B0 || a == 0x0B1 || (0x0D0 ≤ a && a < 0x0E0) || (0x180 ≤ a && a < 0x200)
/-- What the host reads at word address a. -/
def windowWord (s : State) (a : Nat) : Word :=
  if bootPort s then
    if 0x200 ≤ a ∧ a < 0x400 then bufWord s (a - 0x200) else if bootServed a then fullWord s a else 0
  else fullWord s a

/-! ### Writes -/

/-- A write word discarded and counted (R414, R422). -/
def countDiscard (s : State) : State :=
  modHost s (fun h => { h with fWrDiscard := true, wrDiscard := satAdd h.wrDiscard 1 16 })
/-- MB_RELEASE (R424). -/
def releaseMbs (v : Word) (s : State) : State :=
  forEach ((List.range 8).filter (fun m => bit v m)) (fun t m =>
    if (mbox t m).state = .ready then modHost t (fun h => { h with mbs := Tab.set {} h.mbs m {} })
    else modHost t (fun h => { h with fReleaseIgn := true })) s
/-- HP_COUNT_CLR (R416). -/
def clearCounts (v : Word) (s : State) : State :=
  if bit v 0 then modHost s (fun h => { h with rejectCount := 0, wrDiscard := 0, lost := 0 }) else s
/-- A host write of a host interface register; IRQ_ENABLE holds its bits 12 to 0 (R417). -/
def hostWrite (a : Nat) (v : Word) (s : State) : State :=
  match a with
  | 2 => modHost s (fun h => { h with irqEnable := v &&& 0x1FFF#32 })
  | 3 => modHost s (fun h =>
      { h with
        fReleaseIgn := h.fReleaseIgn && !bit v 4
        fWrDiscard := h.fWrDiscard && !bit v 3
        fAddrOver := h.fAddrOver && !bit v 2
        fUnderrun := h.fUnderrun && !bit v 1
        fRejected := h.fRejected && !bit v 0 })
  | 5 => clearCounts v s
  | 7 => modHost s (fun h =>
      { h with ackEv := h.ackEv &&& ~~~(v.extractLsb' 8 8), readyEv := h.readyEv &&& ~~~(v.extractLsb' 0 8) })
  | 8 => releaseMbs v s
  | 9 => modHost s (fun h => { h with overflow := h.overflow && !bit v 7 })
  | _ => s
/-- A host write of a mailbox word (R421, R422). -/
def mailWrite (i : Nat) (v : Word) (s : State) : State :=
  let m := i / 64
  if (mbox s m).state = .free then
    modHost s (fun h => { h with mbs := Tab.mod {} h.mbs m (fun b => { b with words := Tab.set 0 b.words (i % 64) v }) })
  else countDiscard s
/-- A host write in the modes that Jexolaryn serves; RO and reserved words ignore it (R13, R415). -/
def fullWrite (a : Nat) (v : Word) (s : State) : State :=
  if a < 0x040 then hostWrite a v s
  else if a < 0x060 then (if a % 8 = 1 then modDom s ((a - 0x040) / 8) (fun x => x.clearStatus v) else s)
  else if a < 0x0B0 then modAudio s (audioClear (a - 0x060) v)
  else if a = 0x0B1 then modCrier s (fun c => c.clear v)
  else if a = 0x0B9 then modTwin s (fun t => { t with events := t.events &&& ~~~(v.extractLsb' 0 9) })
  else if a = 0x0C4 then modWarden s (fun w => { w with events := w.events &&& ~~~(v.extractLsb' 0 5) })
  else if 0x0D0 ≤ a ∧ a < 0x0E0 then gateWrite (boardEnv s) (a - 0x0D0) v s
  else if 0x0E0 ≤ a ∧ a < 0x100 then faultWrite (a - 0x0E0) v s
  else if 0x200 ≤ a ∧ a < 0x400 then mailWrite (a - 0x200) v s
  else s
/-- A host write of word address a (R338, R414, R415). -/
def windowWrite (a : Nat) (v : Word) (s : State) : State :=
  if 0x3FF < a then countDiscard s
  else if bootPort s then
    if 0x200 ≤ a then modHost s (fun h => { h with buf := Tab.set 0 h.buf (a - 0x200) v })
    else if bootServed a then fullWrite a v s else s
  else fullWrite a v s

end Sys2Proof.Machine
end

