-- ==== Sys2Proof/Machine/HostIf.lean ====
section
/-! DEFINITION. Frames of the host port (R408 to R414, R419 to R424, R429) and the small rows of its registers. -/

namespace Sys2Proof.Machine

/-- The device receives frames (R408, R426): powered, out of reset and not in SLEEP, whether isolated yet or not. -/
def portServes (s : State) : Bool :=
  match s.gate.phase with
  | .off | .inReset | .asleep | .waking => false
  | _ => s.aon.vddioH && s.aon.mode != .sleep

/-- The status word shifted out during a frame's header (R410). -/
def statusWord (s : State) : Word :=
  let h := s.host
  if h.fresh then pack [flag (irqPin s) 25, flag true 24, (credits s, 20)]
  else pack [flag h.rejected 31, (h.reason, 28), flag h.underrun 27, flag h.addrOver 26, flag (irqPin s) 25, (credits s, 20),
    (h.seq, 16), (h.bitCount, 0)]

/-- Whole data words of a frame of nbits edges. -/
def dataWords (nbits : Nat) : Nat := nbits / 32 - 1

/-- The mailbox whose word 0 lies at an address. -/
def mailAt (addr : Nat) : Option Nat :=
  if 0x200 ≤ addr ∧ addr < 0x400 ∧ addr % 64 = 0 then some ((addr - 0x200) / 64) else none

/-- A WRITE_RING frame is refused (R411, REASON 4). -/
def ringRefused (s : State) (addr n : Nat) : Bool :=
  match mailAt addr with
  | some m => n == 0 || !s.host.served || (mbox s m).state != .free
  | none => true

/-- The rejection reason of a frame; 0: accepted (R411). The lowest reason that holds is reported (DEDUCED, log 31). -/
def rejectReason (s : State) (code addr nbits : Nat) : Nat :=
  if nbits = 0 ∨ nbits % 32 ≠ 0 then 1
  else if 32 * 65 < nbits then 2
  else if 3 < code then 3
  else if code = 3 ∧ ringRefused s addr (dataWords nbits) then 4
  else 0

/-- Some data word lies above 0x3FF (R414). -/
def overruns (code addr nbits : Nat) : Bool := 1 ≤ code && code ≤ 3 && nbits / 32 ≥ 2 && decide (0x3FF < addr + dataWords nbits - 1)

/-- What a frame leaves for the next status word, its flags and counts (R410, R411); `miso` is what it shifted out,
of which at most 64 data words are kept. -/
def endFrame (reason nbits : Nat) (under past : Bool) (miso : List Word) (s : State) : State :=
  modHost s (fun h =>
    { h with
      rejected := reason != 0
      reason := reason
      underrun := under
      addrOver := past
      fresh := false
      seq := (h.seq + 1) % 16
      bitCount := Nat.min nbits 65535
      miso := miso
      fRejected := h.fRejected || reason != 0
      fUnderrun := h.fUnderrun || under
      fAddrOver := h.fAddrOver || past
      rejectCount := if reason = 0 then h.rejectCount else satAdd h.rejectCount 1 16 })

/-- A frame: what it shifts out stands before its effects; an accepted frame acts at the rise of HOST_CS_N (R413). -/
def frame (code addr nbits : Nat) (under : Bool) (words : List Word) (act : State → State) (s : State) : State :=
  if portServes s then
    let reason := rejectReason s code addr nbits
    let miso := statusWord s :: words
    endFrame reason nbits under (overruns code addr nbits) miso (if reason = 0 then act s else s)
  else s

/-- Zeros shifted out by a frame that reads nothing. -/
def zeros (nbits : Nat) : List Word := List.replicate (Nat.min 64 (dataWords nbits)) 0

/-! ### READ (R409, R412, R423, R429) -/

/-- Data word 0 repeats the status word: only a word of 0x040 to 0x0FF may take so long (R412). -/
def underruns (addr nbits : Nat) (slow : Bool) : Bool := slow && 1 ≤ dataWords nbits && 0x040 ≤ addr && addr ≤ 0x0FF
/-- The data words of a READ frame. -/
def readWords (s : State) (addr nbits : Nat) (under : Bool) : List Word :=
  (List.range (Nat.min 64 (dataWords nbits))).map (fun i => if i = 0 ∧ under then statusWord s else windowWord s (addr + i))
/-- Mailboxes whose word 0 a frame reads. -/
def readHeads (addr n : Nat) : List Nat :=
  (List.range 8).filter (fun m => addr ≤ 0x200 + 64 * m && 0x200 + 64 * m < addr + n)
/-- A reply marked as read (R423). -/
def markRead (m : Nat) (s : State) : State :=
  if (mbox s m).state = .ready then
    modHost s (fun h => { h with mbs := Tab.mod {} h.mbs m (fun b => { b with words := Tab.set 0 b.words 0 (Tab.get 0 b.words 0 ||| 0x8000#32) }) })
  else s
/-- The head entry leaves the event queue (R429). -/
def popEvent (s : State) : State := modHost s (fun h => { h with evq := h.evq.drop 1 })
/-- What an accepted READ frame does. -/
def readAct (addr n : Nat) (s : State) : State :=
  if bootPort s then s
  else if addr = 0x00A ∧ n = 1 then popEvent s
  else (readHeads addr n).foldl (fun t m => markRead m t) s
/-- A READ frame. -/
def readFrame (addr nbits : Nat) (slow : Bool) (s : State) : State :=
  let under := underruns addr nbits slow
  frame 1 addr nbits under (readWords s addr nbits under) (readAct addr (dataWords nbits)) s

/-! ### WRITE and WRITE_RING (R413, R421) -/

/-- The writes of an accepted frame, in ascending address order. -/
def applyWrites (addr : Nat) (ws : List Word) (s : State) : State :=
  ws.zipIdx.foldl (fun t e => windowWrite (addr + e.2) e.1 t) s
/-- The data words that nbits edges bring. -/
def frameWordsIn (data : List Word) (nbits : Nat) : List Word := data.take (dataWords nbits)
/-- A WRITE frame. -/
def writeFrame (addr : Nat) (data : List Word) (nbits : Nat) (s : State) : State :=
  frame 2 addr nbits false (zeros nbits) (applyWrites addr (frameWordsIn data nbits)) s
/-- The words of a WRITE_RING frame, and RINGING. -/
def ringMail (addr : Nat) (ws : List Word) (s : State) : State :=
  match mailAt addr with
  | some m => modHost s (fun h =>
      { h with mbs := Tab.mod {} h.mbs m (fun b => { state := .ringing, words := Tab.setRun 0 b.words 0 ws }) })
  | none => s
/-- A WRITE_RING frame. -/
def ringFrame (addr : Nat) (data : List Word) (nbits : Nat) (s : State) : State :=
  frame 3 addr nbits false (zeros nbits) (ringMail addr (frameWordsIn data nbits)) s

/-! ### Rows -/

/-- NOP_FRAME (R409): a code that R409 does not list is rejected with REASON 3. -/
def execNopFrame (code : BitVec 8) (nbits : Nat) (s : State) : Out :=
  let c := if 3 < code.toNat then code.toNat else 0
  .next (frame c 0 nbits false (zeros nbits) id s)
/-- READ_FRAME (R409). -/
def execReadFrame (addr : BitVec 16) (nbits : Nat) (slow : Bool) (s : State) : Out := .next (readFrame addr.toNat nbits slow s)
/-- WRITE_FRAME (R413). -/
def execWriteFrame (addr : BitVec 16) (data : List Word) (nbits : Nat) (s : State) : Out := .next (writeFrame addr.toNat data nbits s)
/-- WRITE_RING (R421). -/
def execWriteRing (addr : BitVec 16) (data : List Word) (nbits : Nat) (s : State) : Out := .next (ringFrame addr.toNat data nbits s)
/-- EVENT_POP (R429): the READ frame of one data word at 0x00A. -/
def execEventPop (s : State) : Out := .next (readFrame 0x00A 64 false s)

/-- The doorbell of a mailbox latched (R419). -/
def latchDoorbell (m : Nat) (s : State) : State :=
  if (mbox s m).state = .ringing then
    skipAll (modHost s (fun h =>
      { h with mbs := Tab.mod {} h.mbs m (fun b => { b with state := .queued }), doorbells := h.doorbells ++ [m] }))
  else s
/-- DOORBELL_LATCH (R419). -/
def execDoorbellLatch (m : Fin 8) (s : State) : Out := .next (latchDoorbell m s)

/-- The host's write of a register, as part of an accepted frame: nothing while the port serves no frames. -/
def hostRegWrite (a : Nat) (v : Word) (s : State) : State := if portServes s then windowWrite a v s else s
/-- MB_RELEASE (R424). -/
def execMbRelease (v : Word) (s : State) : Out := .next (hostRegWrite 0x008 v s)
/-- HP_COUNT_CLR (R416). -/
def execHpCountClr (v : Word) (s : State) : Out := .next (hostRegWrite 0x005 v s)

end Sys2Proof.Machine
end

