-- ==== Sys2Proof/Machine/RegRows.lean ====
section
/-! DEFINITION. Writes of the commit slots, route swap slots and delay-line table entries by a Reeve (R137, R138,
R172, R192, R373), and the rows that are register writes of a Reeve, in user state only within its regions (R371). -/

namespace Sys2Proof.Machine

/-! ### Writes of a Reeve (R371, R373) -/

/-- A write of Reeve r at byte address a: in user state outside the regions it is not performed and the task faults. A row that
stands for writes of several words is judged by the first of them (DESIGN CHOICE, log 128). -/
def byReeve (r a : Nat) (f : State → State) (s : State) : State :=
  if reeveRuns s r ∧ (reeve s r).user ∧ (reeve s r).regions.all (fun g => !g.permits a true) then taskFault r a s else f s

/-! ### Commit slots (R172) -/

/-- A write of COMMIT_CTL in a domain whose Bell count is `count`: the W1C flags, NEXT and BELL_HI, then ARMED. A
stated Bell at or below the count sets MISSED instead; a slot armed so serves no set and carries nothing of
Jexolaryn's own. -/
def CommitSlot.writeCtl (c : CommitSlot) (count : BitVec 48) (v : Word) : CommitSlot :=
  let y := { c with
    next := bit v 30
    fired := c.fired && !bit v 29
    missed := c.missed && !bit v 28
    deferred := c.deferred && !bit v 27
    bell := bellOf (fld v 0 16) (bellLo c.bell).toNat }
  if bit v 31 = false then { y with armed := false }
  else if y.next = false ∧ y.bell.toNat ≤ count.toNat then { y with armed := false, missed := true }
  else if c.armed then y
  else { y with armed := true, set := none, own := [], images := [], waits := false }
/-- A write of COMMIT_BELL_LO (word 1) or COMMIT_MASKn (word 2 + n). -/
def CommitSlot.writeWord (c : CommitSlot) (i : Nat) (v : Word) : CommitSlot :=
  match i with
  | 1 => { c with bell := bellOf (bellHi c.bell) v.toNat }
  | 2 => { c with mask := c.mask.extractLsb' 32 96 ++ v }
  | 3 => { c with mask := c.mask.extractLsb' 64 64 ++ v ++ c.mask.extractLsb' 0 32 }
  | 4 => { c with mask := c.mask.extractLsb' 96 32 ++ v ++ c.mask.extractLsb' 0 64 }
  | 5 => { c with mask := v ++ c.mask.extractLsb' 0 96 }
  | _ => c
/-- The slot of set n has missed its Bell: nothing is applied, the staged values are kept, and the set may be committed
again (R183). -/
def missSet (d k n : Nat) (s : State) : State :=
  modSet (modSlot s d k (fun c => { c with set := none })) n (fun h => { h with state := .missed, slot := none })
/-- A write of word i of commit slot k of domain d; a write of COMMIT_CTL that sets MISSED makes the ARMED set of the slot
MISSED (R172, R183). -/
def commitWrite (d k i : Nat) (v : Word) (s : State) : State :=
  let s1 := modSlot s d k (fun c => if i = 0 then c.writeCtl (dom s d).bell v else c.writeWord i v)
  match (slotOf s d k).set with
  | some n => if i = 0 ∧ bit v 31 = true ∧ (slotOf s1 d k).armed = false ∧ (hostSet s n).state = .armed then missSet d k n s1 else s1
  | none => s1
/-- COMMIT_SLOT_ARM: mask and Bell, then COMMIT_CTL with ARMED set. -/
def execCommitSlotArm (r : Fin 4) (d : Fin 4) (k : Fin 8) (ctl : Word) (lo : Word) (mask : BitVec 128) (s : State) : Out :=
  .next (byReeve r (0x23000008 + 0x100 * d + 0x20 * k) (fun t => if reeveCtl t r then
      commitWrite d k 0 (ctl ||| 0x80000000#32) (commitWrite d k 1 lo (modSlot t d k (fun c => { c with mask := mask })))
    else t) s)

/-! ### Route swap slots (R192) -/

/-- A write of ROUTE_SWAP_CTL in a domain whose Bell count is `count`. -/
def RouteSlot.writeCtl (x : RouteSlot) (count : BitVec 48) (v : Word) : RouteSlot :=
  let y := { x with
    next := bit v 30
    fired := x.fired && !bit v 29
    missed := x.missed && !bit v 28
    bell := bellOf (fld v 0 16) (bellLo x.bell).toNat }
  if bit v 31 = false then { y with armed := false }
  else if y.next = false ∧ y.bell.toNat ≤ count.toNat then { y with armed := false, missed := true }
  else { y with armed := true }
/-- A write of ROUTE_SWAP_CTL (word 0) or ROUTE_SWAP_BELL_LO (word 1) of domain d. -/
def routeWrite (d i : Nat) (v : Word) (s : State) : State :=
  modDom s d (fun x => { x with route := match i with
    | 0 => x.route.writeCtl x.bell v
    | 1 => { x.route with bell := bellOf (bellHi x.route.bell) v.toNat }
    | _ => x.route })
/-- ROUTE_SWAP_ARM: the Bell, then ROUTE_SWAP_CTL with ARMED set. -/
def execRouteSwapArm (r : Fin 4) (d : Fin 4) (ctl : Word) (lo : Word) (s : State) : Out :=
  .next (byReeve r (0x23000404 + 0x10 * d) (fun t =>
    if reeveCtl t r then routeWrite d 0 (ctl ||| 0x80000000#32) (routeWrite d 1 lo t) else t) s)

/-! ### Delay-line table entries (R137, R138) -/

/-- A write of word i of an entry: while VALID is 1 the fields of R138 do not change; setting VALID, which it was
not, sets WIDX to 0. -/
def Line.write (l : Line) (i : Nat) (v : Word) : Line :=
  match i with
  | 0 =>
    let y := if l.valid then l else { l with cross := bit v 30, domain := fld v 28 2, base := fld v 0 25 }
    { y with valid := bit v 31, widx := if bit v 31 && !l.valid then 0 else l.widx }
  | 1 => if l.valid then l else { l with owner := fld v 22 7, length := fld v 0 22 }
  | 2 => l
  | _ =>
    let y := { l with freeze := bit v 2, clamped := l.clamped && !bit v 1, busErr := l.busErr && !bit v 0 }
    if l.valid then y else { y with stored := bit v 3 }
/-- LINE_ENTRY_WRITE. -/
def execLineEntryWrite (r : Fin 4) (e : Fin 4096) (w : Fin 4) (v : Word) (s : State) : Out :=
  .next (byReeve r (0x22000000 + 0x10 * e + 4 * w) (fun t => if reeveCtl t r then modLine t e (fun l => l.write w v) else t) s)

/-! ### Banks, queues, channels, rings, Gatehouse requests -/

/-- BANK_OWNER_WRITE: the flags of R150 clear by writing 1, OWNER and CHANNEL are written. -/
def execBankOwnerWrite (r : Fin 4) (bk : Fin 128) (v : Word) (s : State) : Out :=
  .next (byReeve r (0x22100000 + 0x80 * bk) (fun t => if reeveCtl t r then
      writeOwner bk (fld v 5 3) (fld v 0 5) (modBank t bk (fun k =>
        { k with refused := k.refused && !bit v 31, busErr := k.busErr && !bit v 30 }))
    else t) s)
/-- QUEUE_CFG_WRITE (R388). -/
def execQueueCfgWrite (r : Fin 4) (qn : Fin 64) (v : Word) (s : State) : Out :=
  .next (byReeve r (0x24003000 + 0x10 * qn) (fun t =>
    if reeveRuns t r ∧ (reeve t r).user = false then modSqueue t qn (fun x => x.write v) else t) s)
/-- CH_START (R397). -/
def execChStart (r : Fin 4) (c : Fin 32) (v : Word) (s : State) : Out :=
  .next (byReeve r (0x2500000C + 0x20 * c) (fun t => if chanWriter t r c then writeCtl c (v ||| 0x80000000#32) t else t) s)
/-- CH_STOP (R397). -/
def execChStop (r : Fin 4) (c : Fin 32) (s : State) : Out :=
  .next (byReeve r (0x2500000C + 0x20 * c) (fun t => if chanWriter t r c then stopChannel c t else t) s)
/-- CQ_RD_WRITE (R399, R401). -/
def execCqRdWrite (r : Fin 4) (n : Fin 4) (v : Word) (s : State) : Out :=
  .next (byReeve r (0x2500080C + 0x10 * n) (fun t =>
    if reeveRuns t r ∧ (reeve t r).user = false then rdWrite n (fld v 0 13) t else t) s)
/-- SEAL (R353, R379). -/
def execSeal (r : Fin 4) (purpose : BitVec 2) (svn : BitVec 6) (src dst len : Word) (s : State) : Out :=
  .next (byReeve r 0x23500004 (fun t =>
    if reeveCtl t r then greqGo 0 purpose.toNat svn.toNat src.toNat dst.toNat len.toNat t else t) s)
/-- OPEN (R353, R379). -/
def execOpenObj (r : Fin 4) (purpose : BitVec 2) (svn : BitVec 6) (src dst len : Word) (s : State) : Out :=
  .next (byReeve r 0x23500004 (fun t =>
    if reeveCtl t r then greqGo 1 purpose.toNat svn.toNat src.toNat dst.toNat len.toNat t else t) s)
/-- WAKE_SEAL (R361, R379). -/
def execWakeSeal (r : Fin 4) (src len : Word) (s : State) : Out :=
  .next (byReeve r 0x23500004 (fun t =>
    if reeveCtl t r then greqGo 2 t.greq.purpose t.greq.svn src.toNat t.greq.dst len.toNat t else t) s)

end Sys2Proof.Machine
end

