-- ==== Sys2Proof/Machine/RegWrite.lean ====
section
/-! DEFINITION. REGISTER_WRITE (R13 to R15): a register written by the host through the window (R415), or by a Reeve
at its byte address (R372, R373). -/

namespace Sys2Proof.Machine

/-! ### Registers of the sample side -/

/-- Quern q's registers at 0x2000_0000: QSTAT is W1C, descriptor and windows are RO (R103, R104, R106). -/
def quernReg (q off : Nat) (v : Word) (s : State) : State := if off = 0 then modQuern s q (fun u => u.clearStat v) else s
/-- The Noticeboard of Quern q: a Reeve writes the in region only (R154). -/
def boardReg (q w : Nat) (v : Word) (s : State) : State :=
  if 192 ≤ w ∧ w < 256 then modQuern s q (fun u => { u with nb := Tab.set 0 u.nb w (v.setWidth 20) }) else s
/-- Bank b's registers: BANK_OWNER, the W1C flags of BANK_SPARE, and BANK_REMAPn while OWNER is not SHARED (R150, R164). -/
def bankReg (b off : Nat) (v : Word) (s : State) : State :=
  if off = 0 then
    writeOwner b (fld v 5 3) (fld v 0 5) (modBank s b (fun k =>
      { k with refused := k.refused && !bit v 31, busErr := k.busErr && !bit v 30 }))
  else if off = 4 then modBank s b (fun k =>
    { k with
      unrepaired := k.unrepaired && !bit v 30
      lostRows := if bit v 30 then [] else k.lostRows
      soft := k.soft && !bit v 29
      softRows := if bit v 29 then [] else k.softRows
      repairEv := k.repairEv && !bit v 28
      repairRows := if bit v 28 then [] else k.repairRows
      fullDone := k.fullDone && !bit v 22 })
  else if 0x40 ≤ off then modBank s b (fun k =>
    if k.owner = 0 then k
    else { k with remap := Tab.mod {} k.remap ((off - 0x40) / 4) (fun x => { x with valid := bit v 31, row := fld v 0 14 }) })
  else s
/-- SEXTON_CFG and SEXTON_SETn (R163). -/
def sextonReg (i : Nat) (v : Word) (s : State) : State :=
  modSexton s (fun x => match i with
    | 0 => { x with enable := bit v 31, domain := fld v 0 2 }
    | 1 => { x with set := x.set.extractLsb' 32 96 ++ v }
    | 2 => { x with set := x.set.extractLsb' 64 64 ++ v ++ x.set.extractLsb' 0 32 }
    | 3 => { x with set := x.set.extractLsb' 96 32 ++ v ++ x.set.extractLsb' 0 64 }
    | 4 => { x with set := v ++ x.set.extractLsb' 0 96 }
    | _ => x)
/-- Commit and route swap slots, offset from 0x2300_0000. -/
def commitReg (off : Nat) (v : Word) (s : State) : State :=
  if off < 0x400 then commitWrite (off / 0x100) (off % 0x100 / 0x20) (off % 0x20 / 4) v s
  else if off < 0x440 then routeWrite ((off - 0x400) / 0x10) (off % 0x10 / 4) v s
  else s

/-! ### Routing (R188, R190, R194, R198) -/

/-- An input-map entry written; SOURCE 3 is refused (R188). -/
def inReg (w : Word) (c : Nat) (t : Tab InEntry) : Tab InEntry := if fld w 30 2 = 3 then t else Tab.set {} t c (inEntryOf w)
/-- An output-map entry written; the reserved slots are refused (R190). -/
def outReg (w : Word) (o : Nat) (t : Tab OutEntry) : Tab OutEntry := if slotReserved (fld w 0 13) then t else Tab.set {} t o (outEntryOf w)
/-- Word 0 or 1 of a detour entry written. -/
def detourReg (w : Word) (o i : Nat) (t : Tab Detour) : Tab Detour :=
  Tab.mod {} t o (fun x => if i = 0 then detourOf w x.words.2 else detourOf x.words.1 w)
/-- Maps, detours and Stiles, offset from 0x2310_0000. -/
def routeReg (off : Nat) (v : Word) (a : Audio) : Audio :=
  if off < 0x800 then { a with inA := inReg v (off / 4) a.inA }
  else if off < 0x1000 then { a with inS := inReg v ((off - 0x800) / 4) a.inS }
  else if off < 0x1800 then { a with outA := outReg v ((off - 0x1000) / 4) a.outA }
  else if off < 0x2000 then { a with outS := outReg v ((off - 0x1800) / 4) a.outS }
  else if off < 0x4000 then
    let o := (off - 0x2000) / 0x10
    let i := off % 0x10 / 4
    if i < 2 then { a with detA := detourReg v o i a.detA }
    else if i = 2 then { a with detStat := Tab.mod {} a.detStat o (fun x => x.clear v) }
    else a
  else if off < 0x5000 then { a with detS := detourReg v ((off - 0x4000) / 8) (off % 8 / 4) a.detS }
  else if 0x6000 ≤ off ∧ off < 0x6200 then
    let i := (off - 0x6000) / 8
    if off % 8 / 4 = 0 then { a with stileA := Tab.set {} a.stileA i (stileOf v) }
    else { a with stileStat := Tab.mod {} a.stileStat i (fun x => x.clear v) }
  else if 0x6200 ≤ off ∧ off < 0x6300 then { a with stileS := Tab.set {} a.stileS ((off - 0x6200) / 4) (stileOf v) }
  else a
/-- PDM clocks, Sieves and master clocks, offset from 0x2320_0000 (R233). -/
def clockReg (off : Nat) (v : Word) (a : Audio) : Audio :=
  if off < 0x10 then { a with pdmClks := Tab.set {} a.pdmClks (off / 4) (pdmClkOf v) }
  else if 0x20 ≤ off ∧ off < 0xA0 then { a with sieves := Tab.set {} a.sieves ((off - 0x20) / 4) (sieveOf v) }
  else if 0xA0 ≤ off ∧ off < 0xB0 then { a with mclks := Tab.set {} a.mclks ((off - 0xA0) / 4) (mclkOf v) }
  else a

/-! ### Tally, the pair, the Gatehouse requests -/

/-- A write of word i of a detector (R260); a detector that is disabled goes IDLE. -/
def Detector.write (x : Detector) (i : Nat) (v : Word) : Detector :=
  match i with
  | 0 => let y := detectorOf v (x.word 1) x; if y.enable then y else y.idle
  | 1 => detectorOf (x.word 0) v x
  | 2 => { x with lossEv := x.lossEv && !bit v 29, presentEv := x.presentEv && !bit v 28 }
  | _ => x
/-- TALLY_XFORM (R259). -/
def xformReg (v : Word) (s : State) : State :=
  let s1 := modTally s (fun t => { t with xRefused := t.xRefused && !bit v 30, xLane := fld v 0 5 })
  if bit v 29 then startTransform (fld v 0 5) s1 else s1
/-- Tally, offset from 0x2330_0000. -/
def tallyReg (off : Nat) (v : Word) (s : State) : State :=
  if off < 0x200 then modLane s (off / 0x10) (fun x => x.write (off % 0x10 / 4) v)
  else if off = 0x200 then xformReg v s
  else if 0x400 ≤ off ∧ off < 0x800 then modDetector s ((off - 0x400) / 0x10) (fun x => x.write (off % 0x10 / 4) v)
  else s
/-- TWIN_CFG word i (R309): the link trains once it is enabled, and goes DOWN when it is disabled. -/
def twinReg (i : Nat) (v : Word) (s : State) : State :=
  match i with
  | 0 =>
    let on := bit v 31
    let s1 := modTwin s (fun t =>
      { t with
        linkEn := on
        lateHo := fld v 28 3
        proto := if on then 6 else t.proto
        link := if on then (if t.link = .down then .train else t.link) else .down })
    if s1.twin.link = .down then armFailed 0x8A s1 else s1
  | 1 => modTwin s (fun t => { t with sieveTx := v })
  | 2 => modTwin s (fun t => { t with sieveRx := v })
  | 3 => modTwin s (fun t => { t with ownSrc := v.setWidth 28 })
  | _ => s
/-- WDOG_SVC0 and WDOG_SVC1 (R378). -/
def wdogReg (r n : Nat) (v : Word) (s : State) : State :=
  if r = n ∧ v = 0xA5A5#32 then modReeve s n (fun x => { x with wdog := 0 }) else s

/-! ### The host window from a Reeve (R373) -/

/-- FAULT_FW written (R488). -/
def faultFwReg (v : Word) (s : State) : State :=
  modFaults s (fun f => { f with fwAssert := bit v 31, fwActive := fld v 16 8, fwUnacked := fld v 8 8 })
/-- Window word a written by a Reeve (R373): DOM_CFG, GROUP_CFG, PORT_CFG, FAULT_FW, the firmware capability words and
the words of replies take the value; a register the host may write is written as by the host; a status register that
the hardware keeps stays its own (DESIGN CHOICE, log 151). -/
def reeveWindow (a : Nat) (v : Word) (s : State) : State :=
  if 0x040 ≤ a ∧ a < 0x060 ∧ a % 8 = 0 then
    modDom (setDomCfg ((a - 0x040) / 8) v s) ((a - 0x040) / 8) (fun x => { x with rateMask := v.extractLsb' 12 8 })
  else if 0x060 ≤ a ∧ a < 0x068 then setGroupCfg (a - 0x060) v s
  else if 0x080 ≤ a ∧ a < 0x0A0 then
    setPortCfg (a - 0x080) v (modPort s (a - 0x080) (fun p => { p with inSat := fld v 0 16 }))
  else if a = 0x0E2 then faultFwReg v s
  else if 0x1C0 ≤ a ∧ a < 0x200 then modHost s (fun h => { h with capFw := Tab.set (capFw s (a - 0x1C0)) h.capFw (a - 0x1C0) v })
  else if 0x200 ≤ a ∧ a < 0x400 then
    modHost s (fun h => { h with mbs := Tab.mod {} h.mbs ((a - 0x200) / 64) (fun b => { b with words := Tab.set 0 b.words (a % 64) v }) })
  else if (0x0D0 ≤ a ∧ a < 0x0E0) ∨ a = 0x0E1 ∨ 0x100 ≤ a then s
  else fullWrite a v s

/-! ### The Steward port (R390) -/

/-- ST_OP written: the operation with the operands in ST_ARG0 and ST_ARG1; other OP values return BAD_OP. -/
def stewOp (r : Nat) (v : Word) (s : State) : State :=
  let p := sport s r
  let t := fld v 20 8
  let n := fld v 14 6
  match fld v 28 4 with
  | 0 => opSetFlags r t p.arg0 s
  | 1 => opWait r p.arg0 (bit v 13) p.arg1.toNat s
  | 2 => opDelay r p.arg1.toNat s
  | 3 => opYield r s
  | 4 => opPost r n (p.arg1 ++ p.arg0) s
  | 5 => opTake r n s
  | 6 => opExit r s
  | 8 => opReady r t s
  | 9 => opTakeOff r t .suspended s
  | 10 => opTakeOff r t .free s
  | _ => stResult r 5 0 s
/-- The Steward, offset from 0x2400_0000. -/
def stewReg (r off : Nat) (v : Word) (s : State) : State :=
  if off = 0 then stewOp r v s
  else if 0x3000 ≤ off ∧ off < 0x3400 ∧ off % 0x10 = 0 ∧ (reeve s r).user = false then
    modSqueue s ((off - 0x3000) / 0x10) (fun x => x.write v)
  else stewWrite r off v s
/-- The DMA engine, offset from 0x2500_0000: RD of a ring is the consumer's (R399). -/
def dmaReg (r off : Nat) (v : Word) (s : State) : State :=
  if 0x800 ≤ off ∧ off < 0x840 ∧ off % 0x10 = 0xC ∧ (reeve s r).user = false then
    rdWrite ((off - 0x800) / 0x10) (fld v 0 13) s
  else dmaRegWrite r off v s

/-! ### The map of R372 -/

/-- The block registers, which Reeves 0 and 1 write in supervisor state (R373); byte address a. -/
def blockWrite (r a : Nat) (v : Word) (s : State) : State :=
  if 0x20000000 ≤ a ∧ a < 0x20020000 then quernReg ((a - 0x20000000) / 0x400) (a % 0x400) v s
  else if 0x21000000 ≤ a ∧ a < 0x21020000 then boardReg ((a - 0x21000000) / 0x400) (a % 0x400 / 4) v s
  else if 0x22000000 ≤ a ∧ a < 0x22010000 then modLine s ((a - 0x22000000) / 0x10) (fun l => l.write (a % 0x10 / 4) v)
  else if 0x22100000 ≤ a ∧ a < 0x22104000 then bankReg ((a - 0x22100000) / 0x80) (a % 0x80) v s
  else if 0x22180000 ≤ a ∧ a < 0x22180014 then sextonReg ((a - 0x22180000) / 4) v s
  else if 0x23000000 ≤ a ∧ a < 0x23000440 then commitReg (a - 0x23000000) v s
  else if 0x23100000 ≤ a ∧ a < 0x23106300 then modAudio s (routeReg (a - 0x23100000) v)
  else if 0x23200000 ≤ a ∧ a < 0x232000B0 then refreshRates (modAudio s (clockReg (a - 0x23200000) v))
  else if 0x23300000 ≤ a ∧ a < 0x23300800 then tallyReg (a - 0x23300000) v s
  else if 0x23400000 ≤ a ∧ a < 0x23400010 then twinReg ((a - 0x23400000) / 4) v s
  else if 0x23500000 ≤ a ∧ a < 0x23500014 then greqWrite ((a - 0x23500000) / 4) v s
  else if 0x23600000 ≤ a ∧ a < 0x23600008 then wdogReg r ((a - 0x23600000) / 4) v s
  else if 0x26000000 ≤ a ∧ a < 0x26001000 then reeveWindow ((a - 0x26000000) / 4) v s
  else s
/-- A supervisor write, or a user write within the task's regions, at byte address a. -/
def mapWrite (r a : Nat) (v : Word) (s : State) : State :=
  if a < 0x40000 then localPut r a v s
  else if (localOf a).isSome then
    if reeveCtl s r then localPut ((localOf a).getD 0) (a % 0x100000) v s else s
  else if inCtrl a then ctrlPut a v s
  else if 0x24000000 ≤ a ∧ a < 0x25000000 then stewReg r (a - 0x24000000) v s
  else if 0x25000000 ≤ a ∧ a < 0x26000000 then dmaReg r (a - 0x25000000) v s
  else if reeveCtl s r then blockWrite r a v s
  else s
/-- A write of Reeve r, the address taken to its word; in user state only within the regions, else the task faults (R371). -/
def reeveWrite (r : Nat) (user : Bool) (a : Nat) (v : Word) (s : State) : State :=
  if reeveRuns s r = false ∨ (reeve s r).user ≠ user then s else byReeve r a (mapWrite r (a / 4 * 4) v) s

/-- REGISTER_WRITE: the host's address is a window word address, a Reeve's a byte address. -/
def execRegisterWrite (who : Writer) (addr : Word) (v : Word) (s : State) : Out :=
  match who with
  | .host => .next (hostRegWrite addr.toNat v s)
  | .reeve r user => .next (reeveWrite r user addr.toNat v s)

end Sys2Proof.Machine
end

