-- ==== Sys2Proof/Machine/TwinMsg.lean ====
section
/-! DEFINITION. What the partner sends over the Twin link besides Bell frames: Jexolaryn's control packets (R128,
R180, R181, R248, R253, R281, R302, R455) and the copy packets of an arming (R303 to R307). The layouts of the
packets are this model's (log 22). -/

namespace Sys2Proof.Machine

/-! ### Arming (R302 to R305) -/

/-- Mirror sets as one list: 1024 x domain + channel. -/
def mirrorKeys (f : Nat → List Nat) : List Nat := (List.range 4).flatMap (fun d => (f d).map (fun c => 1024 * d + c))
/-- The mirror sets of domain d match those of the other device (R288). -/
def mirrorsMatch (s : State) (tx rx : List Nat) (d : Nat) : Bool :=
  let own := fun (f : Nat → List Nat) => (f d).map (fun c => 1024 * d + c)
  own (mirrorRx s s.audio.inA) == tx.filter (fun k => k / 1024 == d) && own (mirrorTx s s.audio.inA) == rx.filter (fun k => k / 1024 == d)
/-- The same bundles are ACTIVE (R302 order 3). -/
def bundlesMatch (s : State) (ds : List (BitVec 384)) : Bool :=
  let own := (s.jex.bundles.filter (fun b => b.state == .active)).map (·.digest)
  own.all (fun d => ds.contains d) && ds.all (fun d => own.contains d)
/-- Domain d is enabled on both devices or on neither, at the same rate, given the other device's DOM_CFG words (R302 order
4). -/
def domainMatches (s : State) (ws : List Word) (d : Nat) : Bool :=
  let w := ws.getD d 0
  bit w 31 == (dom s d).enable && (!(dom s d).enable || fld w 8 3 == (dom s d).rate)
/-- DOM_CFG word d of a DUTY device follows the link. -/
def followsPeer (ws : List Word) (d : Nat) : Bool := bit (ws.getD d 0) 31 && fld (ws.getD d 0) 0 4 == 5
/-- The lowest domain that fails order 4, given the DOM_CFG words of the other device and of the DUTY device. -/
def domainMismatch (s : State) (doms duty : List Word) (tx rx : List Nat) : Option Nat :=
  (List.range 4).find? (fun d => !(domainMatches s doms d && !followsPeer duty d && mirrorsMatch s tx rx d))
/-- VALID lines of domain d. -/
def validLines (s : State) (d : Nat) : Nat := (s.lines.filter (fun e => e.2.valid && e.2.domain == d)).length
/-- The convergence limit of R304, in 0.01 bit/s: half of what 4 Gb/s leave beside the Bell frames. -/
def copyConverges (s : State) : Bool :=
  2 * rateSum s (fun d => 20 * validLines s d) + rateSum s (fun d => 32 * frameWords s s.audio.inA s.audio.stileA d) ≤ 400000000000
/-- The domain of a Quern whose capture fits neither its staged store nor its Bell at 0.85 V (R305). -/
def captureMisfit (s : State) : Option Nat :=
  ((activePrograms s).find? (fun e => !(captureWords e.2 ≤ 8192 && captureFits s 850 e))).map (·.2.domain)
/-- The domain of a Quern for which the joiner cannot catch up, with two passes in a Bell at 0.85 V (R305). -/
def catchUpMisfit (s : State) : Option Nat :=
  ((activePrograms s).find? (fun e =>
    !fitsAt s (e.1 / 16) 850 (2 * effSlots e.2) (nominalRate (dom s e.2.domain).rate))).map (·.2.domain)
/-- The device is ready to be armed but for a STAGED bundle or a campaign. -/
def staged (s : State) : Bool := s.jex.bundles.any (fun b => b.state == .staged) || vigilBusy s

/-- A code with the domain that a failed condition concerns. -/
def concerning (code : Nat) (d : Option Nat) : Bool × Nat × Nat := (d.isNone, code, d.getD 0xFFF)
/-- The first condition of R302 that fails on the partner of a joiner: its code and the domain, 0xFFF where none. -/
def partnerRefusal (s : State) (mode : Nat) (bundles : List (BitVec 384)) (busy : Bool) (doms : List Word) (tx rx : List Nat) :
    Option (Nat × Nat) :=
  let t := s.twin
  ([(mode == 2 && t.role == .single && s.aon.mode == .service && (t.dutyOut || (!t.dutyIn && !t.pos)), 0x84, 0xFFF),
    (t.peerProto == t.proto, 0x81, 0xFFF), (bundlesMatch s bundles, 0x82, 0xFFF), (!busy && !staged s, 0x86, 0xFFF),
    concerning 0x83 (domainMismatch s doms ((List.range 4).map (fun d => (dom s d).cfgWord)) tx rx),
    (copyConverges s, 0x85, 0xFFF), concerning 0x85 (captureMisfit s)].find? (fun e => !e.1)).map (·.2)
/-- The first condition of R302 that fails on the joiner. -/
def joinerRefusal (s : State) (mode : Nat) (bundles : List (BitVec 384)) (busy : Bool) (doms : List Word) (tx rx : List Nat) :
    Option (Nat × Nat) :=
  ([(mode == 3 && s.aon.mode == .maintenance && mayServe s, 0x84, 0xFFF), (s.twin.peerProto == s.twin.proto, 0x81, 0xFFF),
    (bundlesMatch s bundles, 0x82, 0xFFF), (!busy && !staged s, 0x86, 0xFFF), concerning 0x83 (domainMismatch s doms doms tx rx),
    concerning 0x85 (catchUpMisfit s)].find? (fun e => !e.1)).map (·.2)

/-- The conditions hold: leave is asked for (R302 order 6). -/
def armGoesOn (s : State) : State := armSettle (requestLeave 5 0 (modTwin s (fun t => { t with armOk := true })))

/-- A request to arm from the joiner, or the partner's answer to it. -/
def armRequested (fromJoiner : Bool) (mode : Nat) (bundles : List (BitVec 384)) (busy : Bool) (doms : List Word) (tx rx : List Nat)
    (s : State) : State :=
  if fromJoiner then
    if s.twin.arm ≠ .idle then s
    else
      let s1 := modTwin s (fun t => { t with arm := .check, armOk := false, attempts := 0 })
      match partnerRefusal s mode bundles busy doms tx rx with
      | some c => armFailed c.1 s1 c.2
      | none => armGoesOn s1
  else if joiner s ∧ s.twin.arm = .check ∧ !s.twin.armOk then
    match joinerRefusal s mode bundles busy doms tx rx with
    | some c => armFailed c.1 s c.2
    | none => armGoesOn s
  else s

/-- The state of the partner's arming: a device that lends its state goes along with it; where the joiner begins again, a new
J is to be stated (R307). -/
def peerArmed (a : Nat) (s : State) : State :=
  let st := ([.idle, .check, .copy, .join, .catchup, .verify] : List ArmState).getD a .idle
  let s1 := modTwin s (fun t => { t with peerArm := a })
  let s2 := if lends s ∧ 3 ≤ a then modTwin s1 (fun t => { t with arm := st })
    else if lends s ∧ a = 2 ∧ s.twin.arm ≠ .copy then
      modTwin (dropCaptures s1) (fun t => { t with arm := .copy, joinBell := [], joinIdx := [] })
    else s1
  armSettle s2

/-! ### Campaigns (R248, R253) -/

/-- The campaign of the DUTY device: 0 armed or started, 1 aborted, 2 variants staged for Bell v, 3 normal programs
for Bell w. -/
def peerCampaign (what : Nat) (b : BitVec 48) (s : State) : State :=
  match what with
  | 0 => if planStart s ≠ 0 ∧ s.vigil.state = .idle then newCampaign .armed 0 s
    else if s.vigil.state = .armed then modVigil s (fun v => { v with state := .running, step := 2 })
    else newCampaign .running 2 s
  | 1 => match s.vigil.state with
    | .armed => modVigil s (fun v => { v with state := .idle, step := 0, zones := [] })
    | _ => endCampaign s
  | 2 => stageVariants b (setMode .vigil 2 s)
  | _ => modVigil (restore s) (fun v => { v with bell := b })

/-- A plan word mirrored to the partner (R248, R253): word 0 begins a plan anew. -/
def peerPlan (off : Nat) (w : Word) (s : State) : State :=
  modVigil s (fun v =>
    let p := if off = 0 then [] else v.plan
    { v with plan := Tab.set 0 p off w, planLen := Nat.max (if off = 0 then 0 else v.planLen) (off + 1), planLast := true })

/-- Where a zone of the DUTY device's campaign stands, and the campaign's counts: what a device that takes over goes on
from (R251). -/
def peerZone (n phase verdict tries : Nat) (reasons : Word) (counts : List Nat) (s : State) : State :=
  let s1 := modZone s n (fun z =>
    { z with phase := phase, verdict := verdict, tries := tries, reasons := reasons,
             retry := verdict == 7 && phase == 0 && 0 < tries })
  modVigil s1 (fun v =>
    { v with pass := counts.getD 0 0, fail := counts.getD 1 0, inconc := counts.getD 2 0, abort := counts.getD 3 0,
             notRun := counts.getD 4 0 })

/-! ### Announcements (R455) -/

/-- The CRC-32C of each message an announcement plays agrees with the record's. -/
def messagesMatch (s : State) (a : Ann) (crcs : List Word) : Bool := (annMessages a).map (fun i => crc32c (msgBytes s i)) == crcs
/-- An announcement of the DUTY device: its twelve parameter words and c1, or the identifier of one that stops. -/
def peerService (ws crcs : List Word) (c1 : BitVec 48) (s : State) : State :=
  match ws with
  | [w] => endAnn (fun _ => c1) (fld w 0 16) 0 s
  | _ =>
    if messagesMatch s (announcement s ws c1) crcs then announce ws c1 s
    else if s.twin.role = .standby then outOfStep (source s (fld (ws.getD 0 0) 0 8)).domain c1 s
    else s

/-! ### Answers (R128, R181) -/

/-- The partner's answer to the program swap pending in domain d. -/
def swapAnswered (d : Nat) (ok : Bool) (s : State) : State :=
  match s.jex.swaps.find? (fun w => w.domain == d) with
  | none => s
  | some w =>
    if ok then modJex s (fun j => { j with swaps := j.swaps.map (fun x => if x = w then { x with partner := true } else x) })
    else
      let s2 := dropSwap w s
      if w.mb = 0 then s2 else refuse (w.mb - 1) ⟨10, 0x3D, 0x7F, d⟩ s2

/-! ### TWIN_MESSAGE_RECEIVED -/

/-- CRIER_PLAY carried to the partner (R281). -/
def peerPlay (w : Word) (s : State) : State :=
  let seq := match fld w 30 2 with
    | 0 => [fld w 0 3]
    | 1 => (s.crier.copy.map (·.alarmSeq)).getD []
    | _ => (s.crier.copy.map (·.faultSeq)).getD []
  if s.crier.playOk && !seq.isEmpty then crierStep (Crier.playHost seq (repeatsOf (fld w 8 8))) s else s
/-- CRIER_STOP carried to the partner. -/
def peerStop (s : State) : State :=
  if s.crier.alarm ∨ s.crier.internal then s else crierStep (fun c => { c with host := false }) s
/-- An own commit of the DUTY device: Quern, register, target and length of each glide (R447). -/
def peerOwn (d : Nat) (b : BitVec 48) (gs : List (Nat × Nat × Sample × Nat)) (s : State) : State :=
  armOwn d b 15 (gs.map (fun g => OwnGlide.mk g.1 g.2.1 g.2.2.1 g.2.2.2 3 0)) s
/-- A packet that a device follows. A set that the partner's host discards is discarded here too, with cause 0 (DESIGN CHOICE,
log 157: R180 mirrors staging and names no packet for a discard). -/
def followMsg (msg : TwinMsg) (s : State) : State :=
  match msg with
  | .stage n q kind addr v glide => peerStage n.val ⟨q.val, kind.val, addr, v, glide⟩ s
  | .discard n => discardSet n.val 0 s
  | .planWord off w => peerPlan off w s
  | .zone z phase verdict tries reasons counts => peerZone z.toNat phase.val verdict.val tries reasons counts s
  | .campaign what b => peerCampaign what.val b s
  | .service ws crcs c1 => peerService ws crcs c1 s
  | .own d b gs => peerOwn d.val b gs s
  | _ => s
/-- A control packet of the partner. -/
def twinMessage (msg : TwinMsg) (s : State) : State :=
  match msg with
  | .ack true n ok => swapAnswered n ok s
  | .ack false n ok => commitAnswered n ok s
  | .armState a => peerArmed a s
  | .armFail code d => armFailed code.toNat s ((d.map (·.val)).getD 0xFFF)
  | .crierPlay w => if s.twin.role ≠ .single ∨ follows s then peerPlay w s else s
  | .crierStop => if s.twin.role ≠ .single ∨ follows s then peerStop s else s
  | .armRequest j mode bundles busy doms tx rx => armRequested j mode bundles busy doms tx rx s
  | m => if follows s then followMsg m s else s
/-- TWIN_MESSAGE_RECEIVED: control packets travel while the link is UP. -/
def execTwinMessageReceived (msg : TwinMsg) (crcOk : Bool) (s : State) : Out := .next (packetIn crcOk (twinMessage msg) s)

/-! ### The copy (R304 to R306) -/

/-- Granary rows written by the twin copy engine, which owns a TWIN_COPY bank (R152). -/
def copyRows (addr : Nat) (ws : List Sample) (s : State) : State :=
  ws.zipIdx.foldl (fun t e =>
    let a := addr + e.2
    let h := addrHamlet a
    let b := posBank h (addrPos a)
    if addrOk a = false then t else if (bank t b).owner = 4 then granPut t h (addrPos a) e.1 else bankErr t b 5) s
/-- One glide register from start, target and 65,536 N + k. -/
def glideFrom (e : Sample × Sample × Nat) : Glide :=
  let g : Glide := { start := e.1, target := e.2.1, len := e.2.2 / 65536, k := e.2.2 % 65536 }
  { g with value := glideAt g g.k }
/-- The captured state of Quern q (R305): scratch, Noticeboard, glides, and its owned slots as its pass of Bell J - 1
posted them. -/
def takeCapture (q : Nat) (scratch nb slots : List Sample) (glides : List (Sample × Sample × Nat)) (s : State) : State :=
  let s1 := modQuern s q (fun u =>
    { u with
      scratch := Tab.setRun 0 [] 0 scratch
      nb := Tab.setRun 0 [] 0 nb
      glides := Tab.setRun {} [] 0 (glides.map glideFrom) })
  let page := ((quern s1 q).ownedSlots.zip slots).map (fun e => (e.1, ({ word := e.2, valid := true } : Slot)))
  match quernDom (quern s1 q) with
  | some d => modDom s1 d (fun x => { x with back := page.foldl (fun t e => Tab.set {} t e.1 e.2) x.back })
  | none => s1

/-- One buffered Bell run whole: its actions, and every pass of its domain to the end (R306). -/
def replayBell (r : ReplayBell) (s : State) : State :=
  let s1 := modDom s r.domain (fun x => { x with bell := x.bell + 1 })
  let s2 := modPeer s1 r.domain (fun p => { p with mirror := r.mirror, mirrorOk := r.mirrorOk, stileOut := r.stileOut })
  let s3 := bellBody r.domain r.env s2
  ((domQuerns s3 r.domain).filter (fun q => (quern s3 q).running)).foldl (fun t q => endPass q 0 t) s3
/-- The catch-up: banks SHARED, the buffered Bells from J in order, then VERIFY (R303, R306). -/
def catchUp (s : State) : State :=
  let js := s.twin.joinBell
  let back := (enabledDoms s).foldl (fun t d => modDom t d (fun x => { x with bell := (Tab.get 0 js d : BitVec 48) - 1 }))
    (freeCopyBanks (modTwin s (fun t => { t with arm := .catchup })))
  let run := s.twin.replay.foldl (fun t r => replayBell r t) back
  let now := (enabledDoms s).foldl (fun t d => modDom t d (fun x => { x with bell := (dom s d).bell })) run
  modTwin now (fun t =>
    { t with arm := .verify, replay := [], peers := t.peers.map (fun e => (e.1, { e.2 with good := 0, since := 0 })) })

/-- A copy packet on the joiner; one of granary rows holds at most 64 rows of 16 words (R289), and a join Bell stated anew
replaces the Bells kept from the one before (R305). -/
def copyPacket (p : CopyPacket) (s : State) : State :=
  match p with
  | .rows addr ws => if ws.length ≤ 1024 then copyRows addr ws s else s
  | .lineIdx e w => modLine s e (fun l => { l with widx := w })
  | .ledger q shadow first ws => modQuern s q (fun u =>
      if shadow then { u with ledgerS := Tab.setRun 0 u.ledgerS first ws } else { u with ledgerA := Tab.setRun 0 u.ledgerA first ws })
  | .capture q sc nb sl gl => takeCapture q sc nb sl gl s
  | .bulkDone => s
  | .joinAt d b =>
    let s1 := modTwin s (fun t =>
      { t with joinBell := Tab.set 0 t.joinBell d b, replay := t.replay.filter (fun r => r.domain != d) })
    if (enabledDoms s1).all (fun k => Tab.get 0 s1.twin.joinBell k != 0) then modTwin s1 (fun t => { t with arm := .join }) else s1
  | .captureDone => if s.twin.arm = .join then catchUp s else s
  | .dirtyLost => attemptFailed s
/-- COPY_PACKET_RECEIVED: only a joiner in COPY or JOIN takes copy packets. -/
def execCopyPacketReceived (p : CopyPacket) (crcOk : Bool) (s : State) : Out :=
  .next (packetIn crcOk (fun t => if joiner t ∧ (t.twin.arm = .copy ∨ t.twin.arm = .join) then copyPacket p t else t) s)

end Sys2Proof.Machine
end

