-- ==== Sys2Proof/Machine/Dispatch.lean ====
section
/-! DEFINITION. The effect of each command: one arm per constructor of `Instr`. -/

namespace Sys2Proof.Machine

/-- The effect of a command on everything but the queue. -/
def exec (i : Instr) (s : State) : Host.Outcome State Fault Refusal :=
  match i with
  | .nop q => Sys2Proof.Machine.execNop q s
  | .rep q n => Sys2Proof.Machine.execRep q n s
  | .mpy q acc1 cf a b => Sys2Proof.Machine.execMpy q acc1 cf a b s
  | .mac q acc1 cf a b => Sys2Proof.Machine.execMac q acc1 cf a b s
  | .msu q acc1 cf a b => Sys2Proof.Machine.execMsu q acc1 cf a b s
  | .pmpy q acc1 acc2 cf a b => Sys2Proof.Machine.execPmpy q acc1 acc2 cf a b s
  | .pmac q acc1 acc2 cf a b => Sys2Proof.Machine.execPmac q acc1 acc2 cf a b s
  | .pmsu q acc1 acc2 cf a b => Sys2Proof.Machine.execPmsu q acc1 acc2 cf a b s
  | .dmpy q acc1 cf a b => Sys2Proof.Machine.execDmpy q acc1 cf a b s
  | .dmac q acc1 cf a b => Sys2Proof.Machine.execDmac q acc1 cf a b s
  | .dmsu q acc1 cf a b => Sys2Proof.Machine.execDmsu q acc1 cf a b s
  | .lda q acc1 cf a => Sys2Proof.Machine.execLda q acc1 cf a s
  | .adda q acc1 cf a => Sys2Proof.Machine.execAdda q acc1 cf a s
  | .suba q acc1 cf a => Sys2Proof.Machine.execSuba q acc1 cf a s
  | .clra q acc1 => Sys2Proof.Machine.execClra q acc1 s
  | .mova q acc1 acc2 => Sys2Proof.Machine.execMova q acc1 acc2 s
  | .addaa q acc1 acc2 => Sys2Proof.Machine.execAddaa q acc1 acc2 s
  | .subaa q acc1 acc2 => Sys2Proof.Machine.execSubaa q acc1 acc2 s
  | .sha q acc1 sh => Sys2Proof.Machine.execSha q acc1 sh s
  | .sta q acc1 dd sh => Sys2Proof.Machine.execSta q acc1 dd sh s
  | .stam q acc1 a sh => Sys2Proof.Machine.execStam q acc1 a sh s
  | .mov q dd a => Sys2Proof.Machine.execMov q dd a s
  | .add q dd a b => Sys2Proof.Machine.execAdd q dd a b s
  | .sub q dd a b => Sys2Proof.Machine.execSub q dd a b s
  | .abs q dd a => Sys2Proof.Machine.execAbs q dd a s
  | .neg q dd a => Sys2Proof.Machine.execNeg q dd a s
  | .min q dd a b => Sys2Proof.Machine.execMin q dd a b s
  | .max q dd a b => Sys2Proof.Machine.execMax q dd a b s
  | .shf q dd a sh => Sys2Proof.Machine.execShf q dd a sh s
  | .st q a b => Sys2Proof.Machine.execSt q a b s
  | .setp q field ptr b => Sys2Proof.Machine.execSetp q field ptr b s
  | .cmp q a b => Sys2Proof.Machine.execCmp q a b s
  | .cmpa q acc1 acc2 => Sys2Proof.Machine.execCmpa q acc1 acc2 s
  | .tstf q a => Sys2Proof.Machine.execTstf q a s
  | .sel q cond dd a b => Sys2Proof.Machine.execSel q cond dd a b s
  | .sela q acc1 acc2 cond => Sys2Proof.Machine.execSela q acc1 acc2 cond s
  | .log2 q dd a => Sys2Proof.Machine.execLog2 q dd a s
  | .exp2 q dd a => Sys2Proof.Machine.execExp2 q dd a s
  | .env q cf dd a b => Sys2Proof.Machine.execEnv q cf dd a b s
  | .peak q dd a => Sys2Proof.Machine.execPeak q dd a s
  | .tap q dd win b => Sys2Proof.Machine.execTap q dd win b s
  | .tapf q dd win b => Sys2Proof.Machine.execTapf q dd win b s
  | .put q win src => Sys2Proof.Machine.execPut q win src s
  | .bell d e => Sys2Proof.Machine.execBell d e s
  | .passEnd q dur => Sys2Proof.Machine.execPassEnd q dur s
  | .referenceLoss d => Sys2Proof.Machine.execReferenceLoss d s
  | .referenceMonitorRun d ticks => Sys2Proof.Machine.execReferenceMonitorRun d ticks s
  | .slewLock d => Sys2Proof.Machine.execSlewLock d s
  | .acquireTimeout d => Sys2Proof.Machine.execAcquireTimeout d s
  | .reconfigRampDone d => Sys2Proof.Machine.execReconfigRampDone d s
  | .switchingBellTimeout d => Sys2Proof.Machine.execSwitchingBellTimeout d s
  | .muteRelease d since => Sys2Proof.Machine.execMuteRelease d since s
  | .groupClockStop g => Sys2Proof.Machine.execGroupClockStop g s
  | .groupFrameStop g => Sys2Proof.Machine.execGroupFrameStop g s
  | .groupLostExit g => Sys2Proof.Machine.execGroupLostExit g s
  | .portMonitorRun pin ticks => Sys2Proof.Machine.execPortMonitorRun pin ticks s
  | .monitorEdgeTimeout pin => Sys2Proof.Machine.execMonitorEdgeTimeout pin s
  | .sieveStuckDetect k => Sys2Proof.Machine.execSieveStuckDetect k s
  | .sieveRecover k => Sys2Proof.Machine.execSieveRecover k s
  | .detourAutoReturn o => Sys2Proof.Machine.execDetourAutoReturn o s
  | .syncInEdge since => Sys2Proof.Machine.execSyncInEdge since s
  | .goertzelBlockEnd k => Sys2Proof.Machine.execGoertzelBlockEnd k s
  | .pilotNotFound k => Sys2Proof.Machine.execPilotNotFound k s
  | .xformDone => Sys2Proof.Machine.execXformDone s
  | .sextonVisitDone bk obs => Sys2Proof.Machine.execSextonVisitDone bk obs s
  | .sextonFullTestDone bk obs => Sys2Proof.Machine.execSextonFullTestDone bk obs s
  | .leaveRequest cls key => Sys2Proof.Machine.execLeaveRequest cls key s
  | .leaveReturn cls key => Sys2Proof.Machine.execLeaveReturn cls key s
  | .leaveWithdraw cls key => Sys2Proof.Machine.execLeaveWithdraw cls key s
  | .wardenStepDown => Sys2Proof.Machine.execWardenStepDown s
  | .avsFrameEnd ok rd => Sys2Proof.Machine.execAvsFrameEnd ok rd s
  | .paceReport h ps => Sys2Proof.Machine.execPaceReport h ps s
  | .thermalReading tj => Sys2Proof.Machine.execThermalReading tj s
  | .vddAonPowerGood e => Sys2Proof.Machine.execVddAonPowerGood e s
  | .vddAonLoss => Sys2Proof.Machine.execVddAonLoss s
  | .railPowerLoss r => Sys2Proof.Machine.execRailPowerLoss r s
  | .railPowerReturn r e => Sys2Proof.Machine.execRailPowerReturn r e s
  | .resetNLow => Sys2Proof.Machine.execResetNLow s
  | .resetNRelease e => Sys2Proof.Machine.execResetNRelease e s
  | .crierStoreVerified => Sys2Proof.Machine.execCrierStoreVerified s
  | .crierReleaseTimeout => Sys2Proof.Machine.execCrierReleaseTimeout s
  | .hostLoadWindowEnd => Sys2Proof.Machine.execHostLoadWindowEnd s
  | .bootBackoffExpiry e => Sys2Proof.Machine.execBootBackoffExpiry e s
  | .holdTimeout e => Sys2Proof.Machine.execHoldTimeout e s
  | .slotErase slot hold => Sys2Proof.Machine.execSlotErase slot hold s
  | .slotProgram slot len off hold => Sys2Proof.Machine.execSlotProgram slot len off hold s
  | .slotCommit slot hold => Sys2Proof.Machine.execSlotCommit slot hold s
  | .ramLoad len off hold => Sys2Proof.Machine.execRamLoad len off hold s
  | .ramBoot hold => Sys2Proof.Machine.execRamBoot hold s
  | .retry hold e => Sys2Proof.Machine.execRetry hold e s
  | .fuseKey off hold => Sys2Proof.Machine.execFuseKey off hold s
  | .lcSet off hold => Sys2Proof.Machine.execLcSet off hold s
  | .recoveryOpDone flashOk => Sys2Proof.Machine.execRecoveryOpDone flashOk s
  | .wakeNLow => Sys2Proof.Machine.execWakeNLow s
  | .aonTimerExpiry => Sys2Proof.Machine.execAonTimerExpiry s
  | .fastWake e => Sys2Proof.Machine.execFastWake e s
  | .alarmTrigger a b held => Sys2Proof.Machine.execAlarmTrigger a b held s
  | .alarmEnd => Sys2Proof.Machine.execAlarmEnd s
  | .crierBlockRead => Sys2Proof.Machine.execCrierBlockRead s
  | .crierMessageEnd => Sys2Proof.Machine.execCrierMessageEnd s
  | .crierGapEnd => Sys2Proof.Machine.execCrierGapEnd s
  | .crierSample mic valid clk => Sys2Proof.Machine.execCrierSample mic valid clk s
  | .watchdogExpiry r => Sys2Proof.Machine.execWatchdogExpiry r s
  | .wdogSvc who n v => Sys2Proof.Machine.execWdogSvc who n v s
  | .dutyInDeassert => Sys2Proof.Machine.execDutyInDeassert s
  | .dutyInAssert => Sys2Proof.Machine.execDutyInAssert s
  | .dutyInSettle => Sys2Proof.Machine.execDutyInSettle s
  | .linkTrainingDone peerPos peerProto peerRelease => Sys2Proof.Machine.execLinkTrainingDone peerPos peerProto peerRelease s
  | .linkAlignLoss => Sys2Proof.Machine.execLinkAlignLoss s
  | .linkRttMeasure ns => Sys2Proof.Machine.execLinkRttMeasure ns s
  | .bellFrameReceived d frame since => Sys2Proof.Machine.execBellFrameReceived d frame since s
  | .twinFrameMissing d badCrc => Sys2Proof.Machine.execTwinFrameMissing d badCrc s
  | .linkLostTimeout => Sys2Proof.Machine.execLinkLostTimeout s
  | .handoverPacketReceived d bell ok => Sys2Proof.Machine.execHandoverPacketReceived d bell ok s
  | .handoverAckReceived early ok => Sys2Proof.Machine.execHandoverAckReceived early ok s
  | .handover => Sys2Proof.Machine.execHandover s
  | .twinMessageReceived msg ok => Sys2Proof.Machine.execTwinMessageReceived msg ok s
  | .copyPacketReceived p ok => Sys2Proof.Machine.execCopyPacketReceived p ok s
  | .joinTimeout => Sys2Proof.Machine.execJoinTimeout s
  | .nopFrame code nbits => Sys2Proof.Machine.execNopFrame code nbits s
  | .readFrame addr nbits slow => Sys2Proof.Machine.execReadFrame addr nbits slow s
  | .writeFrame addr data nbits => Sys2Proof.Machine.execWriteFrame addr data nbits s
  | .writeRing addr data nbits => Sys2Proof.Machine.execWriteRing addr data nbits s
  | .doorbellLatch m => Sys2Proof.Machine.execDoorbellLatch m s
  | .eventPop => Sys2Proof.Machine.execEventPop s
  | .mbRelease v => Sys2Proof.Machine.execMbRelease v s
  | .hpCountClr v => Sys2Proof.Machine.execHpCountClr v s
  | .registerWrite who addr v => Sys2Proof.Machine.execRegisterWrite who addr v s
  | .eventPost code payload => Sys2Proof.Machine.execEventPost code payload s
  | .eventsLost => Sys2Proof.Machine.execEventsLost s
  | .faultRaise code payload => Sys2Proof.Machine.execFaultRaise code payload s
  | .faultClearTimeout code payload => Sys2Proof.Machine.execFaultClearTimeout code payload s
  | .faultLogRecord => Sys2Proof.Machine.execFaultLogRecord s
  | .quernAutoRestore q => Sys2Proof.Machine.execQuernAutoRestore q s
  | .shadowResyncDone d => Sys2Proof.Machine.execShadowResyncDone d s
  | .routeCopyDone d => Sys2Proof.Machine.execRouteCopyDone d s
  | .bundleLoadDone => Sys2Proof.Machine.execBundleLoadDone s
  | .flashOpDone sel ok => Sys2Proof.Machine.execFlashOpDone sel ok s
  | .ambientMeterSample z => Sys2Proof.Machine.execAmbientMeterSample z s
  | .ambientUpdate z since => Sys2Proof.Machine.execAmbientUpdate z since s
  | .playerLineFill src => Sys2Proof.Machine.execPlayerLineFill src s
  | .campaignStartTime => Sys2Proof.Machine.execCampaignStartTime s
  | .windowEnd => Sys2Proof.Machine.execWindowEnd s
  | .vigilRoundEnd => Sys2Proof.Machine.execVigilRoundEnd s
  | .stewardDelayExpiry => Sys2Proof.Machine.execStewardDelayExpiry s
  | .waitTimeout t => Sys2Proof.Machine.execWaitTimeout t s
  | .quantumExpiry r => Sys2Proof.Machine.execQuantumExpiry r s
  | .setFlags r t flags => Sys2Proof.Machine.execSetFlags r t flags s
  | .wait r mask all timeout => Sys2Proof.Machine.execWait r mask all timeout s
  | .delay r ticks => Sys2Proof.Machine.execDelay r ticks s
  | .yieldOp r => Sys2Proof.Machine.execYieldOp r s
  | .post r qn entry => Sys2Proof.Machine.execPost r qn entry s
  | .take r qn => Sys2Proof.Machine.execTake r qn s
  | .exitOp r => Sys2Proof.Machine.execExitOp r s
  | .readyOp r t => Sys2Proof.Machine.execReadyOp r t s
  | .suspend r t => Sys2Proof.Machine.execSuspend r t s
  | .release r t => Sys2Proof.Machine.execRelease r t s
  | .userAccessFault r addr wr => Sys2Proof.Machine.execUserAccessFault r addr wr s
  | .chStart r c v => Sys2Proof.Machine.execChStart r c v s
  | .chStop r c => Sys2Proof.Machine.execChStop r c s
  | .dmaChannelEnd c => Sys2Proof.Machine.execDmaChannelEnd c s
  | .dmaPaceResume c => Sys2Proof.Machine.execDmaPaceResume c s
  | .cqRdWrite r n v => Sys2Proof.Machine.execCqRdWrite r n v s
  | .queueCfgWrite r qn v => Sys2Proof.Machine.execQueueCfgWrite r qn v s
  | .xformStart lane => Sys2Proof.Machine.execXformStart lane s
  | .seal r purpose svn src dst len => Sys2Proof.Machine.execSeal r purpose svn src dst len s
  | .openObj r purpose svn src dst len => Sys2Proof.Machine.execOpenObj r purpose svn src dst len s
  | .wakeSeal r src len => Sys2Proof.Machine.execWakeSeal r src len s
  | .ghRequestDone => Sys2Proof.Machine.execGhRequestDone s
  | .bankOwnerWrite r bk v => Sys2Proof.Machine.execBankOwnerWrite r bk v s
  | .commitSlotArm r d k ctl lo mask => Sys2Proof.Machine.execCommitSlotArm r d k ctl lo mask s
  | .routeSwapArm r d ctl lo => Sys2Proof.Machine.execRouteSwapArm r d ctl lo s
  | .lineEntryWrite r e w v => Sys2Proof.Machine.execLineEntryWrite r e w v s
  | .extPerSubmit t replyQ seq addr => Sys2Proof.Machine.execExtPerSubmit t replyQ seq addr s
  | .hostEvent t replyQ seq addr => Sys2Proof.Machine.execHostEvent t replyQ seq addr s
  | .extSeal t replyQ seq addr => Sys2Proof.Machine.execExtSeal t replyQ seq addr s
  | .extOpen t replyQ seq addr => Sys2Proof.Machine.execExtOpen t replyQ seq addr s
  | .store t replyQ seq addr => Sys2Proof.Machine.execStore t replyQ seq addr s
  | .load t replyQ seq addr => Sys2Proof.Machine.execLoad t replyQ seq addr s
  | .perEntryStart idleUs => Sys2Proof.Machine.execPerEntryStart idleUs s
  | .perEntryDone miso => Sys2Proof.Machine.execPerEntryDone miso s
  | .perForeignSelect miso => Sys2Proof.Machine.execPerForeignSelect miso s
  | .systemStatus m => Sys2Proof.Machine.execSystemStatus m s
  | .serviceStart m => Sys2Proof.Machine.execServiceStart m s
  | .serviceStop m => Sys2Proof.Machine.execServiceStop m s
  | .deviceReset m => Sys2Proof.Machine.execDeviceReset m s
  | .configSave m => Sys2Proof.Machine.execConfigSave m s
  | .configErase m => Sys2Proof.Machine.execConfigErase m s
  | .timeSet m => Sys2Proof.Machine.execTimeSet m s
  | .countersClear m => Sys2Proof.Machine.execCountersClear m s
  | .imageWrite m => Sys2Proof.Machine.execImageWrite m s
  | .imageCommit m => Sys2Proof.Machine.execImageCommit m s
  | .imageStatus m => Sys2Proof.Machine.execImageStatus m s
  | .acceptUntested m => Sys2Proof.Machine.execAcceptUntested m s
  | .fuseWrite m => Sys2Proof.Machine.execFuseWrite m s
  | .lifecycleAdvance m => Sys2Proof.Machine.execLifecycleAdvance m s
  | .bundleWrite m => Sys2Proof.Machine.execBundleWrite m s
  | .bundleLoad m => Sys2Proof.Machine.execBundleLoad m s
  | .programSwap m since => Sys2Proof.Machine.execProgramSwap m since s
  | .bundleUnload m => Sys2Proof.Machine.execBundleUnload m s
  | .bundleStatus m => Sys2Proof.Machine.execBundleStatus m s
  | .quernRestore m => Sys2Proof.Machine.execQuernRestore m s
  | .paramSetOpen m => Sys2Proof.Machine.execParamSetOpen m s
  | .paramStage m => Sys2Proof.Machine.execParamStage m s
  | .paramCommit m since => Sys2Proof.Machine.execParamCommit m since s
  | .paramDiscard m => Sys2Proof.Machine.execParamDiscard m s
  | .paramRead m => Sys2Proof.Machine.execParamRead m s
  | .paramSetStatus m => Sys2Proof.Machine.execParamSetStatus m s
  | .meterRead m => Sys2Proof.Machine.execMeterRead m s
  | .domainConfig m => Sys2Proof.Machine.execDomainConfig m s
  | .routeInputWrite m => Sys2Proof.Machine.execRouteInputWrite m s
  | .routeOutputWrite m => Sys2Proof.Machine.execRouteOutputWrite m s
  | .stileWrite m => Sys2Proof.Machine.execStileWrite m s
  | .detourWrite m => Sys2Proof.Machine.execDetourWrite m s
  | .routeSwap m since => Sys2Proof.Machine.execRouteSwap m since s
  | .detourControl m => Sys2Proof.Machine.execDetourControl m s
  | .routeStatus m => Sys2Proof.Machine.execRouteStatus m s
  | .clockGroupConfig m => Sys2Proof.Machine.execClockGroupConfig m s
  | .portConfig m => Sys2Proof.Machine.execPortConfig m s
  | .pdmConfig m => Sys2Proof.Machine.execPdmConfig m s
  | .mclkConfig m => Sys2Proof.Machine.execMclkConfig m s
  | .alignGroupConfig m => Sys2Proof.Machine.execAlignGroupConfig m s
  | .alignGroupStart m since => Sys2Proof.Machine.execAlignGroupStart m since s
  | .portStatus m => Sys2Proof.Machine.execPortStatus m s
  | .zoneConfig m => Sys2Proof.Machine.execZoneConfig m s
  | .zoneStatus m => Sys2Proof.Machine.execZoneStatus m s
  | .sourceConfig m => Sys2Proof.Machine.execSourceConfig m s
  | .priorityConfig m => Sys2Proof.Machine.execPriorityConfig m s
  | .announceStart m since => Sys2Proof.Machine.execAnnounceStart m since s
  | .announceStop m since => Sys2Proof.Machine.execAnnounceStop m since s
  | .announceStatus m => Sys2Proof.Machine.execAnnounceStatus m s
  | .messageWrite m => Sys2Proof.Machine.execMessageWrite m s
  | .messageStatus m => Sys2Proof.Machine.execMessageStatus m s
  | .messageErase m => Sys2Proof.Machine.execMessageErase m s
  | .ambientConfig m => Sys2Proof.Machine.execAmbientConfig m s
  | .ambientStatus m => Sys2Proof.Machine.execAmbientStatus m s
  | .backgroundSet m since => Sys2Proof.Machine.execBackgroundSet m since s
  | .vigilPlanWrite m => Sys2Proof.Machine.execVigilPlanWrite m s
  | .vigilPlanRead m => Sys2Proof.Machine.execVigilPlanRead m s
  | .vigilStart m => Sys2Proof.Machine.execVigilStart m s
  | .vigilAbort m since => Sys2Proof.Machine.execVigilAbort m since s
  | .vigilStatus m => Sys2Proof.Machine.execVigilStatus m s
  | .vigilResultRead m => Sys2Proof.Machine.execVigilResultRead m s
  | .vigilBaselineRead m => Sys2Proof.Machine.execVigilBaselineRead m s
  | .vigilBaselineWrite m => Sys2Proof.Machine.execVigilBaselineWrite m s
  | .vigilBaselineAccept m => Sys2Proof.Machine.execVigilBaselineAccept m s
  | .pilotConfig m => Sys2Proof.Machine.execPilotConfig m s
  | .pilotStatus m => Sys2Proof.Machine.execPilotStatus m s
  | .twinStatus m => Sys2Proof.Machine.execTwinStatus m s
  | .twinArm m => Sys2Proof.Machine.execTwinArm m s
  | .twinDisarm m => Sys2Proof.Machine.execTwinDisarm m s
  | .twinHandover m => Sys2Proof.Machine.execTwinHandover m s
  | .twinConfig m => Sys2Proof.Machine.execTwinConfig m s
  | .leaveStatus m => Sys2Proof.Machine.execLeaveStatus m s
  | .leaveConfig m => Sys2Proof.Machine.execLeaveConfig m s
  | .leaveCostWrite m => Sys2Proof.Machine.execLeaveCostWrite m s
  | .sleepEnter m => Sys2Proof.Machine.execSleepEnter m s
  | .powerStatus m => Sys2Proof.Machine.execPowerStatus m s
  | .wardenConfig m => Sys2Proof.Machine.execWardenConfig m s
  | .faultStatus m => Sys2Proof.Machine.execFaultStatus m s
  | .faultLogRead m => Sys2Proof.Machine.execFaultLogRead m s
  | .faultAck m => Sys2Proof.Machine.execFaultAck m s
  | .faultLogErase m => Sys2Proof.Machine.execFaultLogErase m s
  | .perConfig m => Sys2Proof.Machine.execPerConfig m s
  | .perSubmit m => Sys2Proof.Machine.execPerSubmit m s
  | .perResult m => Sys2Proof.Machine.execPerResult m s
  | .perCancel m => Sys2Proof.Machine.execPerCancel m s
  | .taskInstall m => Sys2Proof.Machine.execTaskInstall m s
  | .taskStart m => Sys2Proof.Machine.execTaskStart m s
  | .taskStop m => Sys2Proof.Machine.execTaskStop m s
  | .taskRemove m => Sys2Proof.Machine.execTaskRemove m s
  | .taskStatus m => Sys2Proof.Machine.execTaskStatus m s
  | .crierStatus m => Sys2Proof.Machine.execCrierStatus m s
  | .crierPlay m => Sys2Proof.Machine.execCrierPlay m s
  | .crierStop m => Sys2Proof.Machine.execCrierStop m s
  | .crierStoreWrite m => Sys2Proof.Machine.execCrierStoreWrite m s
  | .crierStoreVerify m => Sys2Proof.Machine.execCrierStoreVerify m s
  | .fallbackEnter m => Sys2Proof.Machine.execFallbackEnter m s
  | .traceConfig m => Sys2Proof.Machine.execTraceConfig m s
  | .traceRead m => Sys2Proof.Machine.execTraceRead m s
  | .lineRead m => Sys2Proof.Machine.execLineRead m s
  | .qstatRead m => Sys2Proof.Machine.execQstatRead m s
  | .bankRead m => Sys2Proof.Machine.execBankRead m s
  | .referenceEdge d dt phase since => Sys2Proof.Machine.execReferenceEdge d dt phase since s
  | .frameStartEdge g bclks dt phase => Sys2Proof.Machine.execFrameStartEdge g bclks dt phase s
  | .frameCountEnd g => Sys2Proof.Machine.execFrameCountEnd g s
  | .reconfigRampUpDone d => Sys2Proof.Machine.execReconfigRampUpDone d s
  | .freeUpdateTimeout => Sys2Proof.Machine.execFreeUpdateTimeout s
  | .aonTickSourceChange running e => Sys2Proof.Machine.execAonTickSourceChange running e s

end Sys2Proof.Machine
end

