-- ==== Sys2Proof/Machine/Step.lean ====
section
/-! DEFINITION. One step: the command at the front of the queue, or one AON tick when none waits. -/

namespace Sys2Proof.Machine

/-- One step. The front command is carried out on the state with the queue's rest; on an empty queue
the AON tick of 1 ms passes (DESIGN CHOICE, log 7). -/
def step (s : State) : Host.Outcome State Fault Refusal :=
  match s.pending with
  | [] => .next (aonTick s)
  | c :: rest => exec c (s.setPending rest)

/-- s with the command that a table word spells put at the front of its queue; the table gives no row
bits, so no word spells a command and s is unchanged (log 1). -/
def State.withFetchWord (s : State) (nbits w : Nat) : State :=
  match Sys2Proof.decodeTableWord nbits w with
  | some c => s.setPending (c :: s.pending)
  | none => s

end Sys2Proof.Machine
end

