-- ==== Sys2Proof/Machine/RegRead.lean ====
section
/-! DEFINITION. What a Reeve reads at each byte address of the map of R372, and a user-state read outside the regions
(R371). -/

namespace Sys2Proof.Machine

/-! ### Sample side -/

/-- Word i of the descriptor of the active program (R106). -/
def Program.descriptor (p : Program) (i : Nat) : Word :=
  match i with
  | 0 => pack [(p.quern, 25), (p.domain, 23), flag p.keepScratch 22, flag p.variant 21, (p.rateMask.toNat, 13), (p.l, 0)]
  | 1 => pack [(p.wordCount, 19), (p.workBase, 6), (p.windowCount, 0)]
  | 2 => pack [(p.granaryAcc, 22), (p.crossAcc, 15), (p.stallHs, 4)]
  | 3 => wrd p.outCount
  | _ => pack [(p.nameIndex, 16)]
/-- Quern q, offset from its first register: descriptor and windows of the active program, 0 without one (DESIGN CHOICE,
log 151). -/
def quernWord (s : State) (q off : Nat) : Word :=
  let u := quern s q
  let p := u.active.getD {}
  if off = 0 then u.statWord (quernsPaused s)
  else if 0x10 ≤ off ∧ off < 0x24 then (if u.active.isSome then p.descriptor ((off - 0x10) / 4) else 0)
  else if 0x40 ≤ off ∧ off < 0x140 then (p.windows.getD ((off - 0x40) / 8) {}).word (off % 8 / 4)
  else 0
/-- Bank b, offset from its first register (R150, R164). -/
def bankWord (s : State) (b off : Nat) : Word :=
  if off = 0 then ownerWord s b
  else if off = 4 then (bank s b).spareWord
  else if 0x40 ≤ off then (Tab.get {} (bank s b).remap ((off - 0x40) / 4) : Remap).word
  else 0
/-- SEXTON_CFG and SEXTON_SETn (R163). -/
def sextonWord (x : Sexton) (i : Nat) : Word :=
  if i = 0 then pack [flag x.enable 31, (x.domain, 0)] else x.set.extractLsb' (32 * (i - 1)) 32
/-- Word i of a commit slot (R172). -/
def CommitSlot.word (c : CommitSlot) (i : Nat) : Word :=
  match i with
  | 0 => c.ctl
  | 1 => bellLo c.bell
  | _ => if i < 6 then c.mask.extractLsb' (32 * (i - 2)) 32 else 0
/-- Commit and route swap slots, offset from 0x2300_0000. -/
def commitRegWord (s : State) (off : Nat) : Word :=
  if off < 0x400 then (slotOf s (off / 0x100) (off % 0x100 / 0x20)).word (off % 0x20 / 4)
  else
    let r := (dom s ((off - 0x400) / 0x10)).route
    match off % 0x10 / 4 with
    | 0 => r.ctl
    | 1 => bellLo r.bell
    | _ => 0

/-! ### Routing -/

/-- Word i of a detour's configuration. -/
def Detour.word (x : Detour) (i : Nat) : Word := if i = 0 then x.words.1 else x.words.2
/-- Maps, detours and Stiles, offset from 0x2310_0000 (R188, R190, R194, R198). -/
def routeRegWord (s : State) (off : Nat) : Word :=
  let a := s.audio
  if off < 0x800 then (Tab.get {} a.inA (off / 4) : InEntry).word (inChan s (off / 4)).concealed
  else if off < 0x1000 then (Tab.get {} a.inS ((off - 0x800) / 4) : InEntry).word false
  else if off < 0x1800 then (Tab.get {} a.outA ((off - 0x1000) / 4) : OutEntry).word
  else if off < 0x2000 then (Tab.get {} a.outS ((off - 0x1800) / 4) : OutEntry).word
  else if off < 0x4000 then
    let o := (off - 0x2000) / 0x10
    match off % 0x10 / 4 with
    | 2 => (Tab.get {} a.detStat o : DetourStat).word
    | 3 => 0
    | i => (Tab.get {} a.detA o : Detour).word i
  else if off < 0x5000 then (Tab.get {} a.detS ((off - 0x4000) / 8) : Detour).word (off % 8 / 4)
  else if 0x6000 ≤ off ∧ off < 0x6200 then
    let i := (off - 0x6000) / 8
    if off % 8 / 4 = 0 then (Tab.get {} a.stileA i : StileCfg).word else (Tab.get {} a.stileStat i : StileStat).word
  else if 0x6200 ≤ off ∧ off < 0x6300 then (Tab.get {} a.stileS ((off - 0x6200) / 4) : StileCfg).word
  else 0
/-- PDM clocks, Sieves and master clocks, offset from 0x2320_0000 (R233). -/
def clockRegWord (a : Audio) (off : Nat) : Word :=
  if off < 0x10 then (Tab.get {} a.pdmClks (off / 4) : PdmClk).word
  else if 0x20 ≤ off ∧ off < 0xA0 then (Tab.get {} a.sieves ((off - 0x20) / 4) : SieveCfg).word
  else if 0xA0 ≤ off ∧ off < 0xB0 then (Tab.get {} a.mclks ((off - 0xA0) / 4) : MclkCfg).word
  else 0
/-- Tally, offset from 0x2330_0000 (R258 to R260). -/
def tallyRegWord (s : State) (off : Nat) : Word :=
  if off < 0x200 then (lane s (off / 0x10)).word (off % 0x10 / 4)
  else if off = 0x200 then s.tally.xformWord
  else if 0x400 ≤ off ∧ off < 0x800 then (if off % 0x10 / 4 = 3 then 0 else (detector s ((off - 0x400) / 0x10)).word (off % 0x10 / 4))
  else 0

/-! ### The Steward and the DMA engine -/

/-- QUEUE_CFG, QUEUE_STAT0 and QUEUE_STAT1 (R388). -/
def SQueue.word (x : SQueue) (i : Nat) : Word :=
  match i with
  | 0 => x.cfgWord
  | 1 => pack [(x.posted, 16), (x.taken, 0)]
  | 2 => pack [(x.refused, 16), (x.fill, 0)]
  | _ => 0
/-- Word i of the port of a Reeve (R390, R391); ST_OP is write-only and reads 0. -/
def StPort.word (p : StPort) (i : Nat) : Word :=
  match i with
  | 1 => p.arg0
  | 2 => p.arg1
  | 3 => p.result
  | 4 => p.data0
  | 5 => p.data1
  | 6 => wrd p.current
  | _ => 0
/-- The Steward, offset from 0x2400_0000, read by Reeve r (R381, R384, R385, R388, R390 to R393). -/
def stewWord (s : State) (r off : Nat) : Word :=
  let w := s.stew
  if off < 0x1C then (sport s r).word (off / 4)
  else if 0x1010 ≤ off ∧ off < 0x2000 then (tslot s ((off - 0x1000) / 16)).word (off % 16 / 4)
  else if 0x2004 ≤ off ∧ off ≤ 0x201C then wrd (groupWeight s ((off - 0x2000) / 4))
  else if off = 0x2020 then wrd w.quantum
  else if 0x3000 ≤ off ∧ off < 0x3400 then (squeue s ((off - 0x3000) / 0x10)).word (off % 0x10 / 4)
  else if off = 0x4000 then w.traceCtl
  else if off = 0x4004 then w.traceHead
  else if 0x8000 ≤ off ∧ off < 0x10000 then (Tab.get 0 w.trace ((off - 0x8000) / 8)).extractLsb' (32 * (off % 8 / 4)) 32
  else 0
/-- Word i of a completion ring (R399). -/
def Ring.word (x : Ring) (i : Nat) : Word :=
  match i with
  | 0 => wrd x.base
  | 1 => wrd x.size
  | 2 => wrd x.wr
  | _ => wrd x.rd
/-- The DMA engine, offset from 0x2500_0000 (R395, R399). -/
def dmaRegWord (s : State) (off : Nat) : Word :=
  if off < 0x400 then (chan s (off / 0x20)).word (off % 0x20 / 4)
  else if 0x800 ≤ off ∧ off < 0x840 then (ring s ((off - 0x800) / 16)).word (off % 16 / 4)
  else 0

/-! ### The map -/

/-- What Reeve r reads at byte address a of R372, a multiple of 4; an address not listed reads 0, and a read through
0x2600_0000 has no side effect (R373). -/
def mapRead (s : State) (r a : Nat) : Word :=
  if a < 0x40000 then localWord s r a
  else if (localOf a).isSome then (if reeveCtl s r then localWord s ((localOf a).getD 0) (a % 0x100000) else 0)
  else if inCtrl a then ctrlWord s a
  else if 0x20000000 ≤ a ∧ a < 0x20020000 then quernWord s ((a - 0x20000000) / 0x400) (a % 0x400)
  else if 0x21000000 ≤ a ∧ a < 0x21020000 then
    if a % 0x400 / 4 < 256 then sampleWord (Tab.get 0 (quern s ((a - 0x21000000) / 0x400)).nb (a % 0x400 / 4)) else 0
  else if 0x22000000 ≤ a ∧ a < 0x22010000 then (line s ((a - 0x22000000) / 0x10)).word (a % 0x10 / 4)
  else if 0x22100000 ≤ a ∧ a < 0x22104000 then bankWord s ((a - 0x22100000) / 0x80) (a % 0x80)
  else if 0x22180000 ≤ a ∧ a < 0x22180014 then sextonWord s.sexton ((a - 0x22180000) / 4)
  else if 0x23000000 ≤ a ∧ a < 0x23000440 then commitRegWord s (a - 0x23000000)
  else if 0x23100000 ≤ a ∧ a < 0x23106300 then routeRegWord s (a - 0x23100000)
  else if 0x23200000 ≤ a ∧ a < 0x232000B0 then clockRegWord s.audio (a - 0x23200000)
  else if 0x23300000 ≤ a ∧ a < 0x23300800 then tallyRegWord s (a - 0x23300000)
  else if 0x23400000 ≤ a ∧ a < 0x23400010 then s.twin.cfgWord ((a - 0x23400000) / 4)
  else if 0x23500000 ≤ a ∧ a < 0x23500014 then s.greq.word ((a - 0x23500000) / 4)
  else if 0x23600000 ≤ a ∧ a < 0x23600008 then wrd (reeve s ((a - 0x23600000) / 4)).wdog
  else if 0x24000000 ≤ a ∧ a < 0x25000000 then stewWord s r (a - 0x24000000)
  else if 0x25000000 ≤ a ∧ a < 0x26000000 then dmaRegWord s (a - 0x25000000)
  else if 0x26000000 ≤ a ∧ a < 0x26001000 then fullWord s ((a - 0x26000000) / 4)
  else 0
/-- A read of Reeve r, the address taken to its word: a user-state read outside the regions returns 0 and the task faults
(R371). -/
def reeveRead (r : Nat) (user : Bool) (a : Nat) (s : State) : Word × State :=
  if user = true ∧ (reeve s r).regions.all (fun g => !g.permits a false) = true then (0, taskFault r a s)
  else (mapRead s r (a / 4 * 4), s)

end Sys2Proof.Machine
end

