-- ==== Sys2Proof/Machine/Pins.lean ====
section
/-! DEFINITION. What the audio pins show in a state: bit clocks, frame syncs, data outputs, microphone clocks and master
clocks, driven or high-impedance, and the pins of the peripheral port, the pair and the Crier (R210, R211, R221, R224, R225,
R273, R275, R297, R298, R468 to R474, R497, R505). No step reads them. -/

namespace Sys2Proof.Machine

/-- A clock pin: high-impedance, an input, held at a level, or running at a frequency in 0.01 Hz. -/
inductive ClockPin | highZ | input | held (level : Bool) | runs (freq : Nat)
  deriving DecidableEq, Repr
/-- A data pin: high-impedance, driven without a clock to shift by (R220), or at a level. -/
inductive DataPin | highZ | unclocked | level (v : Bool)
  deriving DecidableEq, Repr

/-! ### The shape of a frame (R211) -/

/-- The frame-start edge of FS rises. -/
def startRises (format : Nat) (fsInv : Bool) : Bool := (format != 0) != fsInv
/-- The level of a driven FS in BCLK period k of a frame. -/
def fsLevel (format : Nat) (fsInv : Bool) (k : Nat) : Bool :=
  (match format with | 0 => decide (32 ≤ k) | 1 => decide (k < 32) | _ => k == 0) != fsInv
/-- BCLK periods from the frame-start edge to the first bit of TDM slot 0. -/
def firstBit (format : Nat) (dataDelay : Bool) : Nat :=
  match format with | 0 => 1 | 1 => 0 | _ => b2n dataDelay
/-- Data and FS are launched on the falling edge of BCLK, and sampled on the other. -/
def launchFalls (bclkInv : Bool) : Bool := !bclkInv
/-- The bit of period k of a frame whose slots are `slot`; the last period of the frame before shows in the delay, and the
low bit of a TDM slot is always 0 (R217). -/
def frameBit (slot : Nat → Option Word) (delay k : Nat) : DataPin :=
  if k < delay then .level false
  else match slot ((k - delay) / 32) with
    | some w => .level (w.getLsbD (31 - (k - delay) % 32))
    | none => .level false

/-! ### Clock groups (R210, R225, R273) -/

/-- The outputs of group g are driven (R38): those of the frame that began with the interlock's permission, or in which the
device handed over (R297, R298). -/
def groupDrives (s : State) (g : Nat) : Bool :=
  audioPads s && ((group s g).tail || (driving s && ((group s g).drives || !framed s g)))
/-- The core and its pads serve the audio pins: VDDIO_A is good and the device is neither in BOOT nor in SLEEP (R497, R505). -/
def corePads (s : State) : Bool := s.aon.vddioA && s.aon.mode != .boot && s.aon.mode != .sleep

/-- A clock of group g that a frame runs n times: of a Crier-clocked group from the crystal or an input, else a master's
locked to the Bells of its domain, which GATED and the interlock may keep off, or a slave's input. -/
def groupClock (s : State) (g : Nat) (n : Nat → Nat) : ClockPin :=
  match crierClocks s g with
  | some e => if !e.master then .input else if audioPads s then .runs (n e.tdm * 4800000) else .highZ
  | none =>
    let x := group s g
    if !x.enable ∨ !corePads s then .highZ
    else if !x.master then .input
    else if x.gated && !groupDrives s g then .highZ
    else if (dom s x.domain).runs then .runs (n x.tdm * (dom s x.domain).rateNow)
    else .held false
/-- TDM_BCLK[g]. -/
def bclkPin (s : State) (g : Nat) : ClockPin := groupClock s g (fun tdm => 32 * tdm)
/-- TDM_FS[g]. -/
def fsPin (s : State) (g : Nat) : ClockPin := groupClock s g (fun _ => 1)

/-! ### Data outputs (R214, R217, R225, R273, R275) -/

/-- TDM_DOUTp in BCLK period k of the frame in progress; of a Crier-clocked port in period k of the three frames of a 16 kHz
period. -/
def doutPin (s : State) (p k : Nat) : DataPin :=
  let c := s.crier.cfg
  match c.portGroup p, (c.portGroup p).bind (crierClocks s) with
  | some g, some e =>
    if !groupDrives s g ∨ s.crier.badGroups.getLsbD g then .highZ
    else
      let n := 32 * e.tdm
      frameBit (fun t => Tab.get none s.crier.tx (512 * (k / n) + 16 * p + t)) (firstBit e.format e.dataDelay) (k % n)
  | _, _ =>
    let x := group s (port s p).group
    if !x.enable ∨ !(port s p).outEn ∨ !groupDrives s (port s p).group then .highZ
    else if !portSends s p then .unclocked
    else frameBit (fun t => Tab.get none s.audio.tx (16 * p + t)) (firstBit x.format x.dataDelay) k

/-! ### PDM_CLK and MCLK_OUT (R221, R224, R273) -/

/-- PDM clock i runs under the core. -/
def pdmRuns (s : State) (i : Nat) : Bool :=
  let c := (Tab.get {} s.audio.pdmClks i : PdmClk)
  c.enable && (dom s c.domain).runs
/-- PDM_CLK[i]: RATIO times the Bell rate of its domain; the clock of an ACTIVE Crier's microphone that the core does not
run is 3.072 MHz. -/
def pdmPin (s : State) (i : Nat) : ClockPin :=
  let c := (Tab.get {} s.audio.pdmClks i : PdmClk)
  if pdmRuns s i ∧ corePads s then .runs (c.ratio * (dom s c.domain).rateNow)
  else if s.crier.state = .active ∧ s.crier.cfg.micSrc = 1 ∧ s.crier.cfg.micPdm / 8 = i ∧ audioPads s then .runs 307200000
  else if corePads s then .held false else .highZ
/-- MCLK_OUT[i]: off it is held low; its pad follows VDDIO_A. -/
def mclkPin (s : State) (i : Nat) : ClockPin :=
  let c := (Tab.get {} s.audio.mclks i : MclkCfg)
  let r := (dom s c.domain).rateNow
  if !corePads s then .highZ
  else if !c.enable then .held false
  else match c.mode with
    | 0 => if (dom s c.domain).runs then .runs (256 * r) else .held false
    | 1 => if (dom s c.domain).runs then .runs (512 * r) else .held false
    | 2 => .runs 2457600000
    | _ => .runs 1228800000

/-! ### The peripheral port (R467 to R474) -/

/-- The pins of the peripheral port are in use: VDDIO_H is good and the device neither in BOOT nor in SLEEP (R474, R497). -/
def perPads (s : State) : Bool := s.aon.vddioH && s.aon.mode != .boot && s.aon.mode != .sleep
/-- Step i of the entry in progress. -/
def perStep (s : State) (i : Nat) : Option PerStep := (perNow s).bind (fun x => (perSteps (selCfg s x.2) x.1)[i]?)
/-- PER_SCLK in step i of the entry in progress; without one high-impedance. -/
def perSclkPin (s : State) (i : Nat) : ClockPin :=
  match perNow s with
  | some x =>
    if !perPads s then .highZ
    else match perStep s i with
      | some (.word _) => .runs (perClock (selCfg s x.2))
      | _ => .held (perIdleLevel (selCfg s x.2))
  | none => .highZ
/-- PER_MOSI in bit j of step i. -/
def perMosiPin (s : State) (i j : Nat) : DataPin :=
  if !perPads s then .highZ
  else match perNow s, perStep s i with
    | some _, some (.word bits) => .level (bits.getD j false)
    | some _, _ => .unclocked
    | none, _ => .highZ
/-- PER_CS of select k in step i: low from its fall to its rise; an enabled select that no entry drives is high, a SHARED one
high-impedance (R472). -/
def perSelPin (s : State) (k i : Nat) : DataPin :=
  if !perPads s then .highZ
  else if (perNow s).any (fun x => x.2 == k) then
    match perStep s i with
    | some (.rise _) => .level true
    | _ => .level false
  else if selOn s k && !selShared s k then .level true
  else .highZ

/-! ### SYNC_OUT, DUTY_OUT, CRIER_ACTIVE and FAULT_N (R66, R263, R293, R485, R497) -/

/-- SYNC_OUT. -/
def syncOutPin (s : State) : DataPin := if corePads s then .level s.audio.syncOut else .highZ
/-- A pad of the host segment at level v: it needs VDDIO_H. -/
def hostPad (s : State) (v : Bool) : DataPin := if s.aon.vddioH then .level v else .highZ
/-- DUTY_OUT. -/
def dutyOutPin (s : State) : DataPin := hostPad s s.twin.dutyOut
/-- CRIER_ACTIVE. -/
def crierActivePin (s : State) : DataPin := hostPad s (s.crier.state == .active)

end Sys2Proof.Machine
end

