-- ==== Sys2Proof/Safety.lean ====
section
/-! DEFINITION. The terms the statements use: when Jexolaryn takes a mailbox command, what an answered and a
pending mailbox are, and which parts of the machine a command may change. -/

namespace Sys2Proof.Safety

open Sys2Proof.Machine

/-- The command in mailbox m is the next that Jexolaryn takes, it has opcode op, and every check of R436 passes:
the general ones and its own. -/
def taken (s : State) (m : Fin 8) (op : Nat) (own : State → Option Refuse) : Bool :=
  atHead s m op && (generalRefusal (acceptHead m s) m op).isNone && (own (acceptHead m s)).isNone

/-- The command in mailbox m is the next that Jexolaryn takes, and passes the general checks, but its own checks
refuse it with r (R436, R437). -/
def turnedAway (s : State) (m : Fin 8) (op : Nat) (own : State → Option Refuse) (r : Refuse) : Bool :=
  atHead s m op && (generalRefusal (acceptHead m s) m op).isNone && own (acceptHead m s) == some r

/-- Mailbox m of t holds the OK reply of the command it held in s: the reply status word of R418 and the words ws. -/
def answered (s t : State) (m : Fin 8) (ws : List Word) : Prop :=
  (mbox t m).state = .ready ∧ ∀ i, arg t m i = (replyHead (arg s m 0) (ws.length + 1) 0 :: ws).getD i 0

/-- The command of mailbox m has been accepted and its reply reads PENDING (R419). -/
def pendingIn (s t : State) (m : Fin 8) : Prop :=
  (mbox t m).state = .accepted ∧ ∀ i, arg t m i = arg s m i

/-- The command completes: it answers a next state, and p holds of that state. -/
def completes (c : Instr) (s : State) (p : State → Prop) : Prop := ∃ t, exec c s = .next t ∧ p t

/-- The parts of the state. -/
inductive Part
  | aon | querns | domains | lines | banks | granary | sexton | audio | tally | crier | twin | warden | gate
  | greq | host | reeves | stew | dma | ctrlRam | per | flash | faults | jex | vigil | fresh | pending
  deriving DecidableEq, Repr

/-- A part is the same in two states. -/
def Part.same : Part → State → State → Prop
  | .aon, s, t => t.aon = s.aon
  | .querns, s, t => t.querns = s.querns
  | .domains, s, t => t.domains = s.domains
  | .lines, s, t => t.lines = s.lines
  | .banks, s, t => t.banks = s.banks
  | .granary, s, t => t.granary = s.granary
  | .sexton, s, t => t.sexton = s.sexton
  | .audio, s, t => t.audio = s.audio
  | .tally, s, t => t.tally = s.tally
  | .crier, s, t => t.crier = s.crier
  | .twin, s, t => t.twin = s.twin
  | .warden, s, t => t.warden = s.warden
  | .gate, s, t => t.gate = s.gate
  | .greq, s, t => t.greq = s.greq
  | .host, s, t => t.host = s.host
  | .reeves, s, t => t.reeves = s.reeves
  | .stew, s, t => t.stew = s.stew
  | .dma, s, t => t.dma = s.dma
  | .ctrlRam, s, t => t.ctrlRam = s.ctrlRam
  | .per, s, t => t.per = s.per
  | .flash, s, t => t.flash = s.flash
  | .faults, s, t => t.faults = s.faults
  | .jex, s, t => t.jex = s.jex
  | .vigil, s, t => t.vigil = s.vigil
  | .fresh, s, t => t.fresh = s.fresh
  | .pending, s, t => t.pending = s.pending

/-- Nothing but the parts of a list differs. -/
def sameExcept (ps : List Part) (s t : State) : Prop := ∀ p : Part, p ∉ ps → p.same s t

/-- Nothing waits that the end of another piece of work would set going: no arming at its check, no campaign between its
steps, no recorded bundle to load, and no SERVICE_STOP or SLEEP_ENTER that waits for the end of DUTY. -/
def quiet (s : State) : Prop :=
  s.twin.arm ≠ .check ∧ s.vigil.step ≠ 1 ∧ s.vigil.step ≠ 2 ∧ s.vigil.step ≠ 5 ∧ s.vigil.step ≠ 9 ∧ s.jex.bootSlots = [] ∧ s.jex.bootIds = [] ∧
    ∀ k : Fin 8, (mbox s k).state = .accepted → cmdOp s k ≠ 0x02 ∧ cmdOp s k ≠ 0x93

/-- t differs from s by what granting leave changes: the Warden's books, the flash selects under way and the frames of their
operations, the load under way, the arming's leave and the DMA channels (R315, R317, R478). -/
def leaveOnly (s t : State) : Prop :=
  sameExcept [.warden, .flash, .jex, .twin, .dma] s t ∧
    t.flash = { s.flash with busy := t.flash.busy, frame := t.flash.frame, frames := t.flash.frames } ∧ t.jex = { s.jex with load := t.jex.load } ∧
    t.twin = { s.twin with armLeave := t.twin.armLeave }

/-- Nothing but the host port differs. -/
def onlyHost (s t : State) : Prop := sameExcept [.host] s t

/-- The command completes with the OK reply ws, and nothing but the host port differs. -/
def reports (c : Instr) (s : State) (m : Fin 8) (ws : List Word) : Prop :=
  completes c s fun t => answered s t m ws ∧ onlyHost s t

/-- The command completes with the OK reply ws, nothing but the parts ps differs, and p holds of what it leaves. -/
def replies (c : Instr) (s : State) (m : Fin 8) (ws : List Word) (ps : List Part) (p : State → Prop) : Prop :=
  completes c s fun t => answered s t m ws ∧ sameExcept ps s t ∧ p t

/-- Nothing but the record of Quern q differs, and every other Quern is as it was. -/
def onlyQuern (q : Nat) (s t : State) : Prop := sameExcept [.querns] s t ∧ ∀ r, r ≠ q → quern t r = quern s r

/-- Nothing but the record of rate domain d differs. -/
def onlyDomain (d : Nat) (s t : State) : Prop := sameExcept [.domains] s t ∧ ∀ e, e ≠ d → dom t e = dom s e

/-- Every fuse bit set in s is set in t (R339). -/
def fusesKept (s t : State) : Prop := ∀ i, s.gate.fuses.getLsbD i = true → t.gate.fuses.getLsbD i = true

/-- The tables of memory are in their canonical form: indices rise strictly, and nothing lists what an unlisted
place reads as. -/
def memoryOk (s : State) : Bool := Tab.wf 0 s.granary && Tab.wf 0 s.ctrlRam

/-! ### Quern slots -/

/-- x limited to the 20-bit range (R86 "sat20"). -/
def clamp20 (x : Int) : Int := max (-524288) (min 524287 x)
/-- x lies outside the 20-bit range. -/
def outside20 (x : Int) : Bool := decide (x < -524288 ∨ 524287 < x)
/-- x limited to the 52-bit range (R85 "sat52"). -/
def clamp52 (x : Int) : Int := max (-2251799813685248) (min 2251799813685247 x)
/-- x lies outside the 52-bit range. -/
def outside52 (x : Int) : Bool := decide (x < -2251799813685248 ∨ 2251799813685247 < x)

/-- v is x / 2^r rounded to the nearest integer, a tie going to the even one (R78). -/
def isRounded (x : Int) (r : Nat) (v : Int) : Prop :=
  2 * |x - v * 2 ^ r| ≤ 2 ^ r ∧ (2 * |x - v * 2 ^ r| = 2 ^ r → v % 2 = 0)
/-- v is x shifted by a signed count: exactly to the left, with convergent rounding to the right (R85, R86). -/
def isShifted (x b v : Int) : Prop := if 0 ≤ b then v = x * 2 ^ b.toNat else isRounded x (-b).toNat v

/-- The condition of a code of R90 holds. -/
def conditionHolds (u : Quern) (c : Fin 16) : Bool :=
  match c.val with
  | 0 => u.cN
  | 1 => !u.cN
  | 2 => u.cZ
  | 3 => !u.cZ
  | 4 => u.cN || u.cZ
  | 5 => !(u.cN || u.cZ)
  | 6 => u.cV
  | 7 => !u.cV
  | 8 => u.cL
  | 9 => !u.cL
  | _ => false

/-- Pointer p of a Quern after the post-modify of an instruction's operands (R82). -/
def steppedPtr (u : Quern) : List Opnd → Fin 4 → Pointer
  | .ind _ k r :: l, p => if r = p then { u.ptr p with addr := (u.ptr p).step k.toInt } else steppedPtr u l p
  | _ :: l, p => steppedPtr u l p
  | [], p => u.ptr p

/-- Quern q ran one slot with operands ops: no other Quern and nothing outside the Querns changed, the pointers are
post-modified, the next slot comes next and no repetition is left. -/
def slotRan (q : Nat) (ops : List Opnd) (s t : State) : Prop :=
  onlyQuern q s t ∧ (quern t q).pc = (quern s q).pc + 1 ∧ (quern t q).rep = 0 ∧
    ∀ p : Fin 4, (quern t q).ptr p = steppedPtr (quern s q) ops p

/-- The slot wrote v into data register dd and set SAT when clip, and changed nothing else in the Quern (R86). -/
def wroteD (q : Nat) (dd : Fin 8) (ops : List Opnd) (s t : State) (v : Int) (clip : Bool) : Prop :=
  let u := quern s q
  let w := quern t q
  slotRan q ops s t ∧ w = { u with d := w.d, sat := u.sat || clip, p := w.p, pc := w.pc, rep := w.rep } ∧
    (w.dreg dd).toInt = v ∧ ∀ r : Fin 8, r ≠ dd → w.dreg r = u.dreg r

/-- The slot wrote the values of the list into its accumulators and set OVA when clip, and changed nothing else in the
Quern (R85). -/
def wroteAcc (q : Nat) (vs : List (Fin 4 × Int)) (ops : List Opnd) (s t : State) (clip : Bool) : Prop :=
  let u := quern s q
  let w := quern t q
  slotRan q ops s t ∧ w = { u with acc := w.acc, ova := u.ova || clip, p := w.p, pc := w.pc, rep := w.rep } ∧
    (∀ e ∈ vs, (w.accu e.1).toInt = e.2) ∧ ∀ r : Fin 4, r ∉ vs.map (·.1) → w.accu r = u.accu r

/-- The value the pass has written to Square slot n, if any. -/
def outAt (u : Quern) (n : Nat) : Option Sample := (u.outs.find? (fun e => e.1 == n)).map (·.2)

/-- A store to word a of memory m is suppressed and sets PF (R102); ind: the operand is indirect. -/
def storeBarred (u : Quern) (m : IndT) (a : Nat) (ind : Bool) : Bool :=
  match m with
  | .scr => false
  | .led => ind && decide (a % 4096 < u.workBase)
  | .nb => ind && decide (192 ≤ a % 256)
  | .sqr => !u.owns (a % 8192)

/-- Record w holds v at word a of memory m where record u allows the store, and every other word of the four memories as
in u (R75, R88, R102). -/
def storedWord (u w : Quern) (m : IndT) (a : Nat) (ind : Bool) (v : Sample) : Prop :=
  (∀ i, Tab.get 0 w.scratch i = if m = .scr ∧ i = a % 1024 then v else Tab.get 0 u.scratch i) ∧
  (∀ i, Tab.get 0 w.ledgerA i = if m = .led ∧ i = a % 4096 ∧ u.workBase ≤ i then v else Tab.get 0 u.ledgerA i) ∧
  (∀ i, Tab.get 0 w.ledgerS i = if m = .led ∧ i = a % 4096 ∧ u.workBase ≤ i then v else Tab.get 0 u.ledgerS i) ∧
  (∀ i, Tab.get 0 w.nb i = if m = .nb ∧ i = a % 256 ∧ i < 192 then v else Tab.get 0 u.nb i) ∧
  (∀ n, outAt w n = if m = .sqr ∧ n = a % 8192 ∧ u.owns n = true then some v else outAt u n) ∧
  w.pf = (u.pf || storeBarred u m a ind) ∧
  w.qPfWord = if storeBarred u m a ind && !(u.pf || u.qPf) then u.pc else u.qPfWord

/-- The memory and address of a destination operand, and whether it is indirect (R80, R82). -/
def destination (u : Quern) : Opnd → Option (IndT × Nat × Bool)
  | .scr a => some (.scr, a.toNat, false)
  | .led a => some (.led, a.toNat, false)
  | .nb a => some (.nb, a.toNat, false)
  | .sqr a => some (.sqr, a.toNat, false)
  | .ind t _ p => some (t, (u.ptr p).addr.toNat, true)
  | _ => none

/-- The slot stored v at the destination operand a and set SAT when clip, and changed nothing else in the Quern. -/
def wroteMem (q : Nat) (a : Opnd) (s t : State) (v : Sample) (clip : Bool) : Prop :=
  let u := quern s q
  let w := quern t q
  slotRan q [a] s t ∧
    w = { u with scratch := w.scratch, ledgerA := w.ledgerA, ledgerS := w.ledgerS, nb := w.nb, outs := w.outs,
                 pf := w.pf, qPfWord := w.qPfWord, sat := u.sat || clip, p := w.p, pc := w.pc, rep := w.rep } ∧
    ∀ d, destination u a = some d → storedWord u w d.1 d.2.1 d.2.2 v

/-- i executed n times, one after the other; none where it stops. -/
def runTimes (i : Instr) : Nat → State → Option State
  | 0, s => some s
  | n + 1, s => match runTimes i n s with
    | some t => match exec i t with
      | .next v => some v
      | _ => none
    | none => none

end Sys2Proof.Safety
end

