-- ==== Sys2Proof/Certificates/Slice0/Obligations.lean ====
section
/-! DEFINITION. The statements for the provers, family by family. -/

section

open Sys2Proof Sys2Proof.Machine Sys2Proof.Safety

/-- For every Quern, register, operand the loader accepts and state with no repetition waiting, MOV, ABS, NEG, SHF and
PEAK complete; Dd holds the raw operand, the saturated magnitude, the saturated negation, the shifted operand (left
saturating, right convergent) or the larger of Dd and the saturated magnitude; SAT is set when the result clips; the
pointers are post-modified; nothing else changes. (R86; R94) -/
def Obligations.DataOneOperand : Prop :=
  ∀ (q : Fin 128) (dd : Fin 8) (a : Opnd) (sh : BitVec 13) (s : State), (quern s q).rep ≤ 1 →
    let x := (readOp s (quern s q) a).toInt
    let e := ((quern s q).dreg dd).toInt
    (WellFormed (.mov q dd a) → ∃ t, exec (.mov q dd a) s = .next t ∧ wroteD q dd [a] s t x false) ∧
    (WellFormed (.abs q dd a) → ∃ t, exec (.abs q dd a) s = .next t ∧ wroteD q dd [a] s t (clamp20 |x|) (outside20 |x|)) ∧
    (WellFormed (.neg q dd a) → ∃ t, exec (.neg q dd a) s = .next t ∧ wroteD q dd [a] s t (clamp20 (-x)) (outside20 (-x))) ∧
    (WellFormed (.shf q dd a sh) → ∃ t v, exec (.shf q dd a sh) s = .next t ∧ isShifted x sh.toInt v ∧
      wroteD q dd [a] s t (clamp20 v) (outside20 v)) ∧
    (WellFormed (.peak q dd a) → ∃ t, exec (.peak q dd a) s = .next t ∧
      wroteD q dd [a] s t (max e (clamp20 |x|)) (outside20 |x|))

/-- For every Quern, register, pair of operands the loader accepts and state with no repetition waiting, ADD, SUB, MIN,
MAX, SEL and ENV complete; Dd holds the saturated sum or difference, the signed minimum or maximum, the operand the
condition selects, or the saturated envelope e plus the convergently rounded product of x - e and the attack or
release coefficient; SAT is set when a result clips; the pointers are post-modified; nothing else changes. (R86
(ADD, SUB, MIN, MAX); R90 (SEL); R93) -/
def Obligations.DataTwoOperands : Prop :=
  ∀ (q : Fin 128) (dd : Fin 8) (a b : Opnd) (c : Fin 16) (cf : Bool) (s : State), (quern s q).rep ≤ 1 →
    let u := quern s q
    let x := (readOp s u a).toInt
    let y := (readOp s u b).toInt
    let e := (u.dreg dd).toInt
    let k := if e < x then (readPair s u b).1.toInt else (readPair s u b).2.toInt
    (WellFormed (.add q dd a b) → ∃ t, exec (.add q dd a b) s = .next t ∧
      wroteD q dd [a, b] s t (clamp20 (x + y)) (outside20 (x + y))) ∧
    (WellFormed (.sub q dd a b) → ∃ t, exec (.sub q dd a b) s = .next t ∧
      wroteD q dd [a, b] s t (clamp20 (x - y)) (outside20 (x - y))) ∧
    (WellFormed (.min q dd a b) → ∃ t, exec (.min q dd a b) s = .next t ∧ wroteD q dd [a, b] s t (min x y) false) ∧
    (WellFormed (.max q dd a b) → ∃ t, exec (.max q dd a b) s = .next t ∧ wroteD q dd [a, b] s t (max x y) false) ∧
    (WellFormed (.sel q c dd a b) → ∃ t, exec (.sel q c dd a b) s = .next t ∧
      wroteD q dd [a, b] s t (if conditionHolds u c then x else y) false) ∧
    (WellFormed (.env q cf dd a b) → ∃ t p, exec (.env q cf dd a b) s = .next t ∧
      isRounded ((x - e) * k) (if cf then 16 else 19) p ∧ wroteD q dd [a, b] s t (clamp20 (e + p)) (outside20 (e + p)))

/-- For every operand the loader accepts and state with no repetition waiting, LOG2 and EXP2 complete. LOG2 of 0 is
-524288; with 2^k the leading power of |a| and m the fraction below it scaled to 14 bits and truncated, LOG2 is (k -
19) * 16384 + m + floor(11 m (16384 - m) / 2^19). EXP2 of x >= 0 is 524287 with SAT; otherwise the mantissa 16384 +
f - floor(11 f (16384 - f) / 2^19) is shifted by 5 + floor(x / 16384), left exactly and right convergently. Nothing
else changes. (R91; R92) -/
def Obligations.LogarithmAndPower : Prop :=
  ∀ (q : Fin 128) (dd : Fin 8) (a : Opnd) (s : State), (quern s q).rep ≤ 1 →
    let x := (readOp s (quern s q) a).toInt
    (WellFormed (.log2 q dd a) → ∃ t v, exec (.log2 q dd a) s = .next t ∧ wroteD q dd [a] s t v false ∧
      (x = 0 → v = -524288) ∧
      ∀ k : Nat, 2 ^ k ≤ |x| → |x| < 2 ^ (k + 1) →
        let m := (|x| - 2 ^ k) * 16384 / 2 ^ k
        v = ((k : Int) - 19) * 16384 + m + 11 * m * (16384 - m) / 2 ^ 19) ∧
    (WellFormed (.exp2 q dd a) → ∃ t v, exec (.exp2 q dd a) s = .next t ∧ wroteD q dd [a] s t v (decide (0 ≤ x)) ∧
      (0 ≤ x → v = 524287) ∧
      ∀ i f : Int, x = i * 16384 + f → 0 ≤ f → f < 16384 → i < 0 →
        isShifted (16384 + f - 11 * f * (16384 - f) / 2 ^ 19) (5 + i) v)

/-- For operands the loader accepts and no repetition waiting, the six complete: with products exact and shifted left 3
when CF is set, ACC1 holds the product (sum), the old ACC1 plus it, or minus it, saturated once to 52 bits; OVA is
set when that clips; the pointers are post-modified; nothing else changes. (R77; R85 (MPY to DMSU)) -/
def Obligations.MultiplyRows : Prop :=
  ∀ (q : Fin 128) (c : Fin 4) (cf : Bool) (a b : Opnd) (s : State), (quern s q).rep ≤ 1 →
    let u := quern s q
    let k : Int := if cf then 8 else 1
    let p := (readOp s u a).toInt * (readOp s u b).toInt * k
    let d := ((readPair s u a).1.toInt * (readPair s u b).1.toInt + (readPair s u a).2.toInt * (readPair s u b).2.toInt) * k
    let old := (u.accu c).toInt
    let done := fun (t : State) (v : Int) => wroteAcc q [(c, clamp52 v)] [a, b] s t (outside52 v)
    (WellFormed (.mpy q c cf a b) → ∃ t, exec (.mpy q c cf a b) s = .next t ∧ done t p) ∧
    (WellFormed (.mac q c cf a b) → ∃ t, exec (.mac q c cf a b) s = .next t ∧ done t (old + p)) ∧
    (WellFormed (.msu q c cf a b) → ∃ t, exec (.msu q c cf a b) s = .next t ∧ done t (old - p)) ∧
    (WellFormed (.dmpy q c cf a b) → ∃ t, exec (.dmpy q c cf a b) s = .next t ∧ done t d) ∧
    (WellFormed (.dmac q c cf a b) → ∃ t, exec (.dmac q c cf a b) s = .next t ∧ done t (old + d)) ∧
    (WellFormed (.dmsu q c cf a b) → ∃ t, exec (.dmsu q c cf a b) s = .next t ∧ done t (old - d))

/-- For operands the loader accepts and no repetition waiting, PMPY, PMAC and PMSU complete: ACC1 takes the product of
the first words of the pairs and ACC2 that of the second words, replacing, added to or subtracted from the old
values, each saturated to 52 bits, OVA set when either clips; nothing else changes but the post-modified pointers.
(R77; R83; R85 (PMPY, PMAC, PMSU)) -/
def Obligations.PairMultiplyRows : Prop :=
  ∀ (q : Fin 128) (c d : Fin 4) (cf : Bool) (a b : Opnd) (s : State), (quern s q).rep ≤ 1 →
    let u := quern s q
    let k : Int := if cf then 8 else 1
    let p := (readPair s u a).1.toInt * (readPair s u b).1.toInt * k
    let r := (readPair s u a).2.toInt * (readPair s u b).2.toInt * k
    let x := (u.accu c).toInt
    let y := (u.accu d).toInt
    let done := fun (t : State) (v w : Int) =>
      wroteAcc q [(c, clamp52 v), (d, clamp52 w)] [a, b] s t (outside52 v || outside52 w)
    (WellFormed (.pmpy q c d cf a b) → ∃ t, exec (.pmpy q c d cf a b) s = .next t ∧ done t p r) ∧
    (WellFormed (.pmac q c d cf a b) → ∃ t, exec (.pmac q c d cf a b) s = .next t ∧ done t (x + p) (y + r)) ∧
    (WellFormed (.pmsu q c d cf a b) → ∃ t, exec (.pmsu q c d cf a b) s = .next t ∧ done t (x - p) (y - r))

/-- For operands the loader accepts and no repetition waiting, the nine complete: ACC1 holds the aligned operand, ACC1
plus or minus it, 0, ACC2, ACC1 plus or minus ACC2, ACC1 shifted, or the accumulator the condition selects,
saturated to 52 bits; OVA is set when that clips; nothing else changes but the post-modified pointers. (R85 (LDA to
SHA); R90 (SELA)) -/
def Obligations.AccumulatorRows : Prop :=
  ∀ (q : Fin 128) (c d : Fin 4) (cf : Bool) (a : Opnd) (sh : BitVec 13) (k : Fin 16) (s : State), (quern s q).rep ≤ 1 →
    let u := quern s q
    let v := (readOp s u a).toInt * (if cf then 4194304 else 524288)
    let x := (u.accu c).toInt
    let y := (u.accu d).toInt
    let done := fun (ops : List Opnd) (t : State) (r : Int) => wroteAcc q [(c, clamp52 r)] ops s t (outside52 r)
    (WellFormed (.lda q c cf a) → ∃ t, exec (.lda q c cf a) s = .next t ∧ done [a] t v) ∧
    (WellFormed (.adda q c cf a) → ∃ t, exec (.adda q c cf a) s = .next t ∧ done [a] t (x + v)) ∧
    (WellFormed (.suba q c cf a) → ∃ t, exec (.suba q c cf a) s = .next t ∧ done [a] t (x - v)) ∧
    (∃ t, exec (.clra q c) s = .next t ∧ done [] t 0) ∧
    (∃ t, exec (.mova q c d) s = .next t ∧ done [] t y) ∧
    (∃ t, exec (.addaa q c d) s = .next t ∧ done [] t (x + y)) ∧
    (∃ t, exec (.subaa q c d) s = .next t ∧ done [] t (x - y)) ∧
    (WellFormed (.sha q c sh) → ∃ t r, exec (.sha q c sh) s = .next t ∧ isShifted x sh.toInt r ∧ done [] t r) ∧
    (WellFormed (.sela q c d k) → ∃ t, exec (.sela q c d k) s = .next t ∧ done [] t (if conditionHolds u k then x else y))

/-- For a shift the loader accepts and no repetition waiting, STA writes to Dd, and STAM to its memory destination, ACC1
divided by 2^(19 - s), rounded to the nearest with ties to even and saturated to 20 bits, SAT set when it saturates.
ST writes Dn or its immediate to its destination. A store outside the working region, into the in region or to a
Square slot not owned is suppressed as R75 and R102 say. Nothing else changes. (R78; R75; R102) -/
def Obligations.StoreConversion : Prop :=
  ∀ (q : Fin 128) (c : Fin 4) (dd : Fin 8) (a b : Opnd) (sh : BitVec 13) (s : State), (quern s q).rep ≤ 1 →
    let u := quern s q
    (WellFormed (.sta q c dd sh) → ∃ t v, exec (.sta q c dd sh) s = .next t ∧
      isRounded (u.accu c).toInt (19 - sh.toInt).toNat v ∧ wroteD q dd [] s t (clamp20 v) (outside20 v)) ∧
    (WellFormed (.stam q c a sh) → ∃ t v, exec (.stam q c a sh) s = .next t ∧
      isRounded (u.accu c).toInt (19 - sh.toInt).toNat v ∧ wroteMem q a s t (BitVec.ofInt 20 (clamp20 v)) (outside20 v)) ∧
    (WellFormed (.st q a b) → ∃ t, exec (.st q a b) s = .next t ∧ wroteMem q a s t (readOp s u b) false)

/-- With no repetition waiting, CMP sets N to a < b and Z to a = b, CMPA does the same for ACC1 and ACC2, both signed,
and leave V and L; TSTF sets V and L to the VALID and LATE flags of the front-page slot named and leaves N and Z.
Each completes for operands the loader accepts and changes nothing else but the post-modified pointers. (R89) -/
def Obligations.ConditionRows : Prop :=
  ∀ (q : Fin 128) (c d : Fin 4) (a b : Opnd) (s : State), (quern s q).rep ≤ 1 →
    let u := quern s q
    let x := (readOp s u a).toInt
    let y := (readOp s u b).toInt
    let done := fun (ops : List Opnd) (t : State) (n z v l : Bool) => slotRan q ops s t ∧
      quern t q = { u with cN := n, cZ := z, cV := v, cL := l, p := (quern t q).p, pc := u.pc + 1, rep := 0 }
    (WellFormed (.cmp q a b) → ∃ t, exec (.cmp q a b) s = .next t ∧
      done [a, b] t (decide (x < y)) (decide (x = y)) u.cV u.cL) ∧
    (∃ t, exec (.cmpa q c d) s = .next t ∧
      done [] t (decide ((u.accu c).toInt < (u.accu d).toInt)) (decide ((u.accu c).toInt = (u.accu d).toInt)) u.cV u.cL) ∧
    (WellFormed (.tstf q a) → ∀ dom, quernDom u = some dom →
      ∃ t n, exec (.tstf q a) s = .next t ∧ (destination u a).map (·.2.1 % 8192) = some n ∧
        done [a] t u.cN u.cZ (frontSlot s dom n).valid (frontSlot s dom n).late)

/-- NOP completes and only moves to the next slot. A well-formed REP n completes with the next slot to execute n times.
SETP writes ADDR, BASE, LEN or both BASE and ADDR of its pointer from the immediate or bits [12:0] of Dn and changes
nothing else. No other Quern and nothing outside the Querns changes. (R84; R98; R99) -/
def Obligations.ControlRows : Prop :=
  ∀ (q : Fin 128) (n : BitVec 13) (f p : Fin 4) (b : Opnd) (s : State), (quern s q).rep ≤ 1 →
    let u := quern s q
    let v : BitVec 13 := match b with
      | .imm x => x
      | .reg r => (u.dreg r).setWidth 13
      | _ => 0
    let old := u.ptr p
    let new : Pointer :=
      { addr := if f = 0 ∨ f = 3 then v else old.addr
        base := if f = 1 ∨ f = 3 then v else old.base
        len := if f = 2 then v else old.len }
    (∃ t, exec (.nop q) s = .next t ∧ onlyQuern q s t ∧ quern t q = { u with pc := u.pc + 1, rep := 0 }) ∧
    (1 ≤ n.toNat → n.toNat ≤ 1024 → ∃ t, exec (.rep q n) s = .next t ∧ onlyQuern q s t ∧
      quern t q = { u with pc := u.pc + 1, rep := n.toNat }) ∧
    (WellFormed (.setp q f p b) → ∃ t, exec (.setp q f p b) s = .next t ∧ onlyQuern q s t ∧
      quern t q = { u with p := (quern t q).p, pc := u.pc + 1, rep := 0 } ∧
      ∀ r : Fin 4, (quern t q).ptr r = if r = p then new else u.ptr r)

/-- For a window bound to a VALID line, banks owned by the Querns and no repetition waiting, TAP and TAPF complete. TAP
writes to Dd the word at offset BIAS + b behind the write index; TAPF uses BIAS + floor(b) and that plus 1 with the
8 fractional bits F and writes (256 x0 + F (x1 - x0)) / 256 rounded convergently. Offsets are clamped to LENGTH - 1;
on a line of another Quern they are first raised to 1, a TAPF offset below 1.0 becoming exactly 1.0 (the order of the two is
log 54); either sets PF of the Quern and CLAMPED of the entry. In a late pass a word of the Quern's own line that the pass has
put is the one put, still in the buffer (R87, R141). Memory is unchanged. (R95; R96; R141; R87) -/
def Obligations.DelayReads : Prop :=
  ∀ (q : Fin 128) (dd : Fin 8) (win : Fin 32) (b : Opnd) (s : State), (quern s q).rep ≤ 1 →
    let u := quern s q
    let w := u.window win
    let l := line s w.entry
    let v := offsetWord s u b
    let foreign : Bool := decide (l.owner ≠ q.val)
    let at_ := fun (o : Nat) => l.pos ((passIdx u win l + l.length - o) % l.length)
    let word := fun (o : Nat) =>
      match l.put with
      | some p => if u.lateBells ≠ 0 ∧ foreign = false ∧ p.1 = (passIdx u win l + l.length - o) % l.length then p.2 else granGet s l.hamlet (at_ o)
      | none => granGet s l.hamlet (at_ o)
    let raised := fun (o : Nat) => if foreign then max 1 o else o
    let inside := fun (o : Nat) => min (raised o) (l.length - 1)
    let off := fun (o : Nat) => decide (raised o ≠ o ∨ l.length - 1 < raised o)
    let low : Bool := foreign && decide (w.bias + v / 256 < 1)
    let o1 := if low then 1 else w.bias + v / 256
    let f : Int := if low then 0 else (v % 256 : Nat)
    let done := fun (t : State) (r : Sample) (c : Bool) =>
      sameExcept [.querns, .lines] s t ∧
      (∀ k, k ≠ q.val → quern t k = quern s k) ∧
      quern t q = { u with d := (quern t q).d, pf := u.pf || c, qPfWord := (quern t q).qPfWord, pc := u.pc + 1, rep := 0 } ∧
      (∀ k : Fin 8, (quern t q).dreg k = if k = dd then r else u.dreg k) ∧
      ∀ e, line t e = if e = w.entry then { l with clamped := l.clamped || c } else line s e
    w.bound = true → l.valid = true → 1 ≤ l.length → (∀ j, j < l.length → (bank s (posBank l.hamlet (l.pos j))).owner = 0) →
      (WellFormed (.tap q dd win b) → ∃ t, exec (.tap q dd win b) s = .next t ∧
        done t (word (inside (w.bias + v))) (off (w.bias + v))) ∧
      (WellFormed (.tapf q dd win b) → ∃ t r, exec (.tapf q dd win b) s = .next t ∧
        isRounded (256 * (word (inside o1)).toInt + f * ((word (inside (o1 + 1))).toInt - (word (inside o1)).toInt)) 8 r.toInt ∧
        done t r (low || off o1 || off (o1 + 1)))

/-- For a bound window on a VALID line that the Quern owns and that is not STORED, a bank owned by the Querns and no
repetition waiting, PUT completes: in a pass not marked late the granary word at the write index of the pass, in the cell
that a visit or a repair redirects it to, is Dn and every other granary word is as it was; in a late pass memory is unchanged. In a late pass, and
in the pass of Bell J - 1 on a device that lends its partner state, the put buffer of the line holds the index and
Dn. The Quern itself only moves to its next slot. (R97; R129; R144; R305) -/
def Obligations.DelayWrite : Prop :=
  ∀ (q : Fin 128) (win : Fin 32) (src : Fin 8) (s : State), (quern s q).rep ≤ 1 →
    let u := quern s q
    let e := (u.window win).entry
    let l := line s e
    let w := passIdx u win l
    let ran := fun (t : State) => (∀ k, k ≠ q.val → quern t k = quern s k) ∧ quern t q = { u with pc := u.pc + 1, rep := 0 }
    (u.window win).bound = true → l.valid = true → l.owner = q.val → l.stored = false →
      (bank s (posBank l.hamlet (l.pos w))).owner = 0 →
      let buffered := fun (t : State) => ∀ k, line t k = if k = e then { l with put := some (w, u.dreg src) } else line s k
      (u.lateBells = 0 → ∃ t, exec (.put q win src) s = .next t ∧ ran t ∧
        (if (quernDom u).any (captures s) then sameExcept [.querns, .granary, .lines] s t ∧ buffered t
          else sameExcept [.querns, .granary] s t) ∧
        ∀ k, Tab.get 0 t.granary k = if k = granKey l.hamlet (granCell s l.hamlet (l.pos w)) then u.dreg src else Tab.get 0 s.granary k) ∧
      (u.lateBells ≠ 0 → ∃ t, exec (.put q win src) s = .next t ∧ ran t ∧
        sameExcept [.querns, .lines] s t ∧ buffered t)

/-- Every command that is not well formed stops with the fault rejectedAtLoad and a code that is the lowest of those its
checks fail: such a word is never in a program store. The stop itself is the choice of the model for such a row,
since the spec refuses the load (log 42). (R84; R105) -/
def Obligations.RefusedByLoader : Prop :=
  ∀ (i : Instr) (s : State), WellFormed i = false → (∀ q w r, i ≠ .put q w r) →
    ∃ c, exec i s = .fault (.rejectedAtLoad c) ∧ c ∈ failing (loaderChecks i) ∧ ∀ k ∈ failing (loaderChecks i), c ≤ k

/-- With a repetition count of n + 1 waiting, every Quern row but REP ends where n + 1 single executions end, if none of them
stops, except that the program counter moves one slot; the word that PF names is not compared. (R99) -/
def Obligations.RepeatRunsTheSlotAgain : Prop :=
  ∀ (q : Fin 128) (n : Nat) (c d : Fin 4) (cf : Bool) (dd : Fin 8) (a b : Opnd) (sh : BitVec 13) (k : Fin 16) (f p : Fin 4)
    (win : Fin 32) (s v : State), (quern s q).rep = n + 1 →
    ∀ i ∈ [Instr.nop q, .mpy q c cf a b, .mac q c cf a b, .msu q c cf a b, .pmpy q c d cf a b, .pmac q c d cf a b,
        .pmsu q c d cf a b, .dmpy q c cf a b, .dmac q c cf a b, .dmsu q c cf a b, .lda q c cf a, .adda q c cf a, .suba q c cf a,
        .clra q c, .mova q c d, .addaa q c d, .subaa q c d, .sha q c sh, .sta q c dd sh, .stam q c a sh] ++
        [.mov q dd a, .add q dd a b, .sub q dd a b, .abs q dd a, .neg q dd a, .min q dd a b, .max q dd a b, .shf q dd a sh, .st q a b,
        .setp q f p b, .cmp q a b, .cmpa q c d, .tstf q a, .sel q k dd a b, .sela q c d k, .log2 q dd a, .exp2 q dd a,
        .env q cf dd a b, .peak q dd a, .tap q dd win b, .tapf q dd win b, .put q win dd],
      runTimes i (n + 1) (modQuern s q (fun u => { u with rep := 0 })) = some v →
      ∃ t, exec i s = .next t ∧ sameExcept [.querns] v t ∧ (∀ r, r ≠ q.val → quern t r = quern v r) ∧
        quern t q = { quern v q with pc := (quern s q).pc + 1, rep := 0, qPfWord := (quern t q).qPfWord }

/-- For every command c, every state s and every rest of the queue, the step of s with c in front of the rest is exec of
c on s with the rest. The queue is the form of the model (log 1), so this is its choice, not a rule of the spec.
(R438 (commands are taken in order); R419) -/
def Obligations.StepRunsTheFrontCommand : Prop :=
  ∀ (c : Instr) (s : State) (rest : List Instr), step (s.setPending (c :: rest)) = exec c (s.setPending rest)

/-- With an empty queue a step always answers a next state with an empty queue. Without VDD_AON it is the state itself.
In SLEEP the AON tick count goes up by one modulo 2^32, the AON timer has a tick less to run, and nothing but these and the device
clock changes, but that the tick after the timer's last begins a wake. That a step without a command is one tick of 1 ms is the
choice of the model (log 7). (R503; R446; R331) -/
def Obligations.IdleStepIsAnAonTick : Prop :=
  ∀ s : State, s.pending = [] → ∃ t, step s = .next t ∧ t.pending = [] ∧
    (s.aon.vddAon = false → t = s) ∧
    (s.aon.vddAon = true → s.aon.sleeping = false → s.gate.phase = .asleep →
      (s.aon.timer ≠ some 0 → sameExcept [.aon, .jex] s t ∧
        t.aon = { s.aon with tick := (s.aon.tick + 1) % 4294967296, timer := s.aon.timer.map (· - 1) }) ∧
      (s.aon.timer = some 0 → s.aon.mode = .sleep → sameExcept [.aon, .jex, .gate] s t ∧
        t.gate = { s.gate with phase := .waking, sleepOk := false } ∧
        t.aon = { s.aon with tick := (s.aon.tick + 1) % 4294967296, timer := none }) ∧
      t.jex = { s.jex with msAcc := t.jex.msAcc, upSecs := t.jex.upSecs, clock := t.jex.clock, clockMs := t.jex.clockMs })

/-- For every state in which the command is taken, SYSTEM_STATUS, IMAGE_STATUS, TIME_SET and COUNTERS_CLEAR complete.
SYSTEM_STATUS is answered with MODE, LAST_MODE, the role, UNTESTED, AUTOSTART, config restored and clock set, the device
clock, the seconds since cold boot, the counts of bundles, announcements, staging sets and tasks, and ten reserved words;
IMAGE_STATUS with GH_STATUS, GH_BOOT, both GH_SLOT words, both SEQ, both RELEASE, REVOKE with KEY_LOCK, and DEVICE_ID;
both change only the host port. TIME_SET sets the device clock to w1, marks it set and answers the previous value.
COUNTERS_CLEAR answers its mask; bit 0 clears LOSS_COUNT, GLITCH_COUNT and DOM_LATE of every domain, bit 1 IN_SAT of
every port, bit 2 CRC_ERR and MISSING of the link, bit 3 the QSTAT flags of every Quern; nothing else changes. (R442
(0x00, 0x06, 0x07); R368 (0x12); R446 (TIME_SET)) -/
def Obligations.SystemReportsAndClock : Prop :=
  ∀ (s : State) (m : Fin 8),
    let bundles := fun (st : BState) => (s.jex.bundles.filter (fun b => b.state == st && !b.loading)).length
    let slot := fun (n : Nat) =>
      let x : GhSlot := Tab.get {} s.gate.slots n
      pack [(x.state, 30), flag x.seqErr 29, (x.result, 25), (x.svn, 19), (x.seq % 65536, 0)]
    let w := arg s m 1
    (taken s m 0x00 noChecks = true → reports (.systemStatus m) s m
      ([pack [(s.aon.mode.code, 0), (s.aon.lastMode, 4), (s.twin.role.code, 8), flag s.gate.untested 10, flag s.jex.autostart 11,
          flag s.jex.restored 12, flag s.jex.clockSet 13],
        wrd s.jex.clock, wrd s.jex.upSecs,
        pack [(bundles .active, 0), (bundles .staged, 8), ((s.jex.anns.filter (fun a => a.ended.isNone)).length, 16)],
        pack [(((List.range 8).filter (fun n => (hostSet s n).state == .opened)).length, 0),
          ((s.jex.tasks.filter (fun e => e.2.state == 1)).length, 8)]] ++ List.replicate 10 0)) ∧
    (taken s m 0x12 noChecks = true → reports (.imageStatus m) s m
      ([s.gate.statusWord, s.gate.bootWord, slot 0, slot 1, wrd (slotSeq s 0), wrd (slotSeq s 0 / 2 ^ 32),
        wrd (slotSeq s 1), wrd (slotSeq s 1 / 2 ^ 32), wrd (headerRelease s 0), wrd (headerRelease s 1),
        pack [flag (revoked s 0) 0, flag (revoked s 1) 1, flag (revoked s 2) 2, flag (keyLock s 0) 4, flag (keyLock s 1) 5,
          flag (keyLock s 2) 6]] ++ (List.range 4).map (fun i => (deviceId s).extractLsb' (32 * i) 32))) ∧
    (taken s m 0x06 noChecks = true → replies (.timeSet m) s m [wrd s.jex.clock] [.jex, .host] fun t =>
      t.jex = { s.jex with clock := w.toNat, clockSet := true, clockMs := 0 }) ∧
    (taken s m 0x07 noChecks = true → replies (.countersClear m) s m [w] [.domains, .audio, .twin, .querns, .host] fun t =>
      (∀ d : Fin 4, dom t d = if bit w 0 then { dom s d with lossCount := 0, glitchCount := 0, lateCount := 0 } else dom s d) ∧
      t.audio = { s.audio with ports := t.audio.ports } ∧
      (∀ p, port t p = if bit w 1 then { port s p with inSat := 0 } else port s p) ∧
      t.twin = (if bit w 2 then { s.twin with crcErr := 0, missing := 0 } else s.twin) ∧
      ∀ q, quern t q = if bit w 3 then (quern s q).clearStat 7 else quern s q)

/-- CONFIG_SAVE, CONFIG_ERASE, IMAGE_COMMIT, ACCEPT_UNTESTED with PERSIST, MESSAGE_ERASE, the segment writes IMAGE_WRITE,
BUNDLE_WRITE, MESSAGE_WRITE, CRIER_STORE_WRITE and TASK_INSTALL, TASK_REMOVE, VIGIL_BASELINE_WRITE and _ACCEPT, and
FAULT_LOG_ERASE complete in every state in which they are taken: the row of erases and page programs of the command stands
in its select, with leave of class FLASH granted or asked for, or, where the select has another row, joins those that
wait (log 142); the mailbox is ACCEPTED with its words as they were; nothing but host port, flash port, Warden, the blocks a grant
starts and the baseline to be written changes. ACCEPT_UNTESTED without PERSIST is answered 0 with the image accepted.
(R481; R419; R441) -/
def Obligations.FlashCommandsBegin : Prop :=
  ∀ (s : State) (m : Fin 8),
    let row := fun (sel : Nat) (steps : List FlashStep) (w : FlashWork) =>
      ({ sel := sel, mb := m + 1, cls := 3, steps := steps, work := w } : FlashOp)
    let rowStands := fun (o : FlashOp) (t : State) => pendingIn s t m ∧
      (flashOp s o.sel = none → flashOp t o.sel = some o ∧ (hasGrant t 3 o.sel || hasRequest t 3 o.sel) = true) ∧
      (flashOp s o.sel ≠ none → flashOp t o.sel = flashOp s o.sel ∧ t.flash.waiting = s.flash.waiting ++ [o])
    let begun := fun (sel : Nat) (steps : List FlashStep) (w : FlashWork) (t : State) =>
      rowStands (row sel steps w) t ∧ sameExcept [.flash, .warden, .jex, .twin, .dma, .host] s t
    let begunBase := fun (t : State) =>
      rowStands (row 0 (baselineSteps s (baselineWork s m).1) (.cmd m)) t ∧
        sameExcept [.flash, .warden, .jex, .twin, .dma, .host, .vigil] s t ∧
        t.vigil = { s.vigil with accepting := Tab.set (0, {}) s.vigil.accepting m (baselineWork s m) }
    let written := fun (op sel base : Nat) =>
      let f := fileSt s (fileKey op (segTarget s m))
      if segErase s m then begun sel (segErases op m s) (.part m 0)
      else begun sel
        ((if op = 0x57 then reachSteps base (segOffset s m) (segBytes s m) f.spans else []) ++
          pageSteps s sel (base + segOffset s m) (segData s m))
        (if op = 0x57 ∧ (segLast s m ∨ f.last) then .part m 1 else .cmd m)
    (taken s m 0x04 (configChecks m) = true → completes (.configSave m) s (begun 0 (configSteps s) (.cmd m))) ∧
    (taken s m 0x05 (configEraseChecks m) = true →
      completes (.configErase m) s (begun 0 (eraseUnits configAddr (65536 * areaSectors s configAddr 0x80000)) (.cmd m))) ∧
    (taken s m 0x11 (imageCommitChecks m) = true →
      completes (.imageCommit m) s (begun (idleSlot s) (sealSteps s (idleSlot s)) (.part m 0))) ∧
    (taken s m 0x13 (acceptUntestedChecks m) = true →
      (bit (arg s m 1) 0 = true → completes (.acceptUntested m) s (begun 0 (configSteps s) (.cmd m))) ∧
      (bit (arg s m 1) 0 = false → replies (.acceptUntested m) s m [0] [.jex, .host] fun t => t.jex = { s.jex with accepted := true })) ∧
    (taken s m 0x59 (messageEraseChecks m) = true → completes (.messageErase m) s (begun 0 (dirSteps s) (.cmd m))) ∧
    (∀ sel a n, taken s m 0x10 (imageWriteChecks m) = true → segPlace s 0x10 (segTarget s m) = some (sel, a, n) →
      completes (.imageWrite m) s (written 0x10 sel a)) ∧
    (∀ sel a n, taken s m 0x20 (bundleWriteChecks m) = true → segPlace s 0x20 (segTarget s m) = some (sel, a, n) →
      completes (.bundleWrite m) s (written 0x20 sel a)) ∧
    (∀ sel a n, taken s m 0x57 (soleChecks 0x57 m) = true → segPlace s 0x57 (segTarget s m) = some (sel, a, n) →
      completes (.messageWrite m) s (written 0x57 sel a)) ∧
    (∀ sel a n, taken s m 0xD3 (soleChecks 0xD3 m) = true → segPlace s 0xD3 (segTarget s m) = some (sel, a, n) →
      completes (.crierStoreWrite m) s (written 0xD3 sel a)) ∧
    (∀ sel a n, taken s m 0xC0 (taskInstallChecks m) = true → segPlace s 0xC0 (segTarget s m) = some (sel, a, n) →
      completes (.taskInstall m) s (written 0xC0 sel a)) ∧
    (∀ i, taken s m 0xC3 (taskRemoveChecks m) = true → namedTask s m = some i →
      completes (.taskRemove m) s (begun 0 (eraseUnits (taskPlace i) (regionSize s 0 (taskPlace i) 0x40000)) (.cmd m))) ∧
    (taken s m 0x77 (baselineWriteChecks m) = true → completes (.vigilBaselineWrite m) s begunBase) ∧
    (taken s m 0x78 (baselineAcceptChecks m) = true → completes (.vigilBaselineAccept m) s begunBase) ∧
    (taken s m 0xA3 (logEraseChecks m) = true →
      completes (.faultLogErase m) s (begun 0 (eraseUnits logAddr (65536 * areaSectors s logAddr 0x100000)) (.cmd m)))

/-- When the last operation of the row of a CONFIG_ERASE, MESSAGE_ERASE, FAULT_LOG_ERASE, TASK_REMOVE or baseline command
under way on select 0 ends well, nothing else waits and no mode change has stopped the command, the command is answered
with 0: the saved configuration and the persisted acceptances are gone, the message is absent and its units free, the
log is empty, the task is gone, or the baseline stands at its place; the select is idle again. When an operation of a
segment write fails, or a page of it does not read back as programmed, its mailbox holds the refusal of its group. (R481; R445; R484; R437) -/
def Obligations.FlashOperationEnds : Prop :=
  ∀ (s : State) (m : Fin 8) (o : FlashOp) (st : FlashStep),
    flashOp s 0 = some o → Tab.get false s.flash.busy 0 = true → o.stop = none → quiet s → s.flash.waiting = [] →
    (o.work = .cmd m → o.steps = [st] → st.data = [] →
      (cmdOp s m = 0x05 → completes (.flashOpDone 0 true) s fun t => answered s t m [0] ∧
        t.jex.saved = none ∧ t.jex.accepts = [] ∧ t.jex.autostart = false ∧ flashOp t 0 = none) ∧
      (cmdOp s m = 0x59 → completes (.flashOpDone 0 true) s fun t => answered s t m [0] ∧
        msg t (fld (arg s m 1) 0 8) = {} ∧ flashOp t 0 = none) ∧
      (cmdOp s m = 0xA3 → completes (.flashOpDone 0 true) s fun t => answered s t m [0] ∧
        t.faults.log = [] ∧ flashOp t 0 = none) ∧
      (cmdOp s m = 0x77 ∨ cmdOp s m = 0x78 → completes (.flashOpDone 0 true) s fun t => answered s t m [0] ∧
        (let w := Tab.get (0, {}) s.vigil.accepting m
        Tab.get {} t.vigil.baselines w.1 = w.2) ∧ flashOp t 0 = none) ∧
      (∀ i, cmdOp s m = 0xC3 → namedTask s m = some i → completes (.flashOpDone 0 true) s fun t => answered s t m [0] ∧
        taskOf t i = { halfSel := (taskOf s i).halfSel, stored := (taskOf s i).stored } ∧ flashOp t 0 = none)) ∧
    (∀ ok, o.work.mailbox = some m → (ok && readsBack 0 o.now (stepEnds 0 o ok s)) = false →
      cmdOp s m = 0x10 ∨ cmdOp s m = 0x20 ∨ cmdOp s m = 0x57 ∨ cmdOp s m = 0xC0 ∨ cmdOp s m = 0xD3 →
      completes (.flashOpDone 0 ok) s fun t => (mbox t m).state = .ready ∧ flashOp t 0 = none ∧
        arg t m 0 = replyHead (arg s m 0) 2 (failedRefusal s m 0).status ∧ arg t m 1 = (failedRefusal s m 0).word)

/-- A FUSE_WRITE that is taken programs the digest of its key slot with KEY_LOCK, the REVOKE copies of its slot, or the
SVN floor bits below its new floor, discards the wake seal and answers 0. LIFECYCLE_ADVANCE to a state other than
RMA programs the bits of that state and answers it; to RMA with PHASE 0 it changes no fuse, answers a fresh nonce,
first byte highest, and remembers it; to RMA with PHASE 1 it uses the nonce up, and programs the bits of RMA if the
authorisation verifies. ACCEPT_UNTESTED without PERSIST records the acceptance and answers 0. Every fuse bit set before is
set after. A revocation of slot 1 disables the playback of a Crier store that is in force and ends the host trigger (log 141).
(R368 (0x13, 0x14, 0x15); R339; R355; R345; R341; R361) -/
def Obligations.FuseCommands : Prop :=
  ∀ (s : State) (m : Fin 8),
    let w := arg s m 1
    let gateOnly := fun (t : State) => sameExcept [.gate, .host] s t ∧ fusesKept s t
    (taken s m 0x14 (fuseWriteChecks m) = true → completes (.fuseWrite m) s fun t => fusesKept s t ∧ answered s t m [0] ∧
      (if revoked t 1 && s.crier.playOk then t.crier.playOk = false ∧ t.crier.host = false else gateOnly t) ∧
      t.gate.sealHeld = false ∧
      (fld w 0 2 = 0 → keyLock t (fld w 4 2) = true ∧
        ∀ i : Fin 384, (keyDigest t (fld w 4 2)).getLsbD i = ((keyDigest s (fld w 4 2)).getLsbD i ||
          (arg s m (14 - i.val / 32)).getLsbD (i.val % 32))) ∧
      (fld w 0 2 = 1 → revoked t (fld w 4 2) = true) ∧
      (fld w 0 2 = 2 → ∀ i, i < fld (arg s m 2) 0 6 → t.gate.fuses.getLsbD (1560 + i) = true)) ∧
    (taken s m 0x15 (lifecycleChecks m) = true → fld w 0 3 ≠ 4 → completes (.lifecycleAdvance m) s fun t => gateOnly t ∧
      answered s t m [wrd (lcOf t.gate.fuses), 0, 0] ∧ t.gate.sealHeld = false ∧
      ∀ i : Fin 3, t.gate.fuses.getLsbD (1542 + 3 * fld w 0 3 + i) = true) ∧
    (taken s m 0x15 (lifecycleChecks m) = true → fld w 0 3 = 4 → bit w 31 = false → completes (.lifecycleAdvance m) s fun t =>
      sameExcept [.gate, .fresh, .host] s t ∧ t.gate.fuses = s.gate.fuses ∧ t.gate.nonceOk = true ∧
      answered s t m [wrd (lcOf s.gate.fuses), wrd (t.gate.nonce / 2 ^ 32), wrd t.gate.nonce]) ∧
    (taken s m 0x15 (lifecycleChecks m) = true → fld w 0 3 = 4 → bit w 31 = true → completes (.lifecycleAdvance m) s fun t =>
      gateOnly t ∧ t.gate.nonceOk = false ∧
      (rmaOk s m = true → answered s t m [wrd (lcOf t.gate.fuses), 0, 0] ∧
        ∀ i : Fin 3, t.gate.fuses.getLsbD (1554 + i) = true) ∧
      (rmaOk s m = false → t.gate.fuses = s.gate.fuses ∧ (mbox t m).state = .ready ∧
        arg t m 0 = replyHead (arg s m 0) 2 7)) ∧
    (taken s m 0x13 (acceptUntestedChecks m) = true → bit w 0 = false → completes (.acceptUntested m) s fun t =>
      sameExcept [.jex, .host] s t ∧ t.jex = { s.jex with accepted := true } ∧ answered s t m [0])

/-- A SERVICE_START that is taken sets MODE to SERVICE with LAST_MODE the mode before. A SERVICE_STOP on a SINGLE device
sets MODE to MAINTENANCE and LAST_MODE to SERVICE; on a DUTY device it first starts a handover at the second Bell
from now of the lowest running domain (log 161), with MODE as it was. (R443; R37; R277; R20; R297) -/
def Obligations.ModeCommands : Prop :=
  ∀ (s : State) (m : Fin 8),
    (taken s m 0x01 serviceStartChecks = true → completes (.serviceStart m) s fun t =>
      t.aon.mode = .service ∧ t.aon.lastMode = s.aon.mode.code) ∧
    (taken s m 0x02 noChecks = true → s.twin.role = .single → completes (.serviceStop m) s fun t =>
      t.aon.mode = .maintenance ∧ t.aon.lastMode = s.aon.mode.code) ∧
    (∀ d, taken s m 0x02 noChecks = true → s.twin.role = .duty → s.twin.handover = none → faultDomain s = some d →
      completes (.serviceStop m) s fun t => pendingIn s t m ∧ sameExcept [.twin, .host] s t ∧
        t.twin.handover = some { domain := d, bell := (dom s d).bell + 2 } ∧ t.twin.selfFault = true ∧ t.aon.mode = s.aon.mode)

/-- For every state in which the command is taken, TWIN_STATUS, LEAVE_STATUS, CRIER_STATUS, PILOT_STATUS, PORT_STATUS,
ROUTE_STATUS, ZONE_STATUS, AMBIENT_STATUS, MESSAGE_STATUS, VIGIL_STATUS, TASK_STATUS, FAULT_STATUS, QSTAT_READ, BANK_READ
and LINE_READ complete: the mailbox is answered with OK and the words their rules lay out, and nothing but the host port
changes. (The slot results in CRIER_STATUS are free, log 81.) (R310; R332; R281; R261; R234; R207; R461; R403; R451;
R452) -/
def Obligations.StatusCommandsReport : Prop :=
  ∀ (s : State) (m : Fin 8),
    let w := arg s m 1
    let z := svcZone s (fld w 0 8)
    let x := msg s (fld w 0 8)
    let k := taskOf s (fld w 0 6)
    let mis := (s.twin.firstMis.map (·.2)).getD 0
    let codes := activeCodes s.faults.active
    (taken s m 0x80 noChecks = true → reports (.twinStatus m) s m [s.twin.statusWord, wrd s.twin.events.toNat, s.twin.mismatchWord,
      s.twin.linkWord, wrd (bellHi mis), bellLo mis, wrd s.twin.peerRelease]) ∧
    (taken s m 0x90 noChecks = true → reports (.leaveStatus m) s m ([s.warden.word 0, s.warden.word 1] ++
      (List.range 10).map (fun c => wrd ((s.warden.grants.filter (fun g => g.cls == c)).map (·.price)).sum) ++ [wrd s.warden.queue.length, 0, 0])) ∧
    (taken s m 0xD0 noChecks = true → reports (.crierStatus m) s m [s.crier.statusWord, s.crier.eventsWord,
      wrd (crierSeq s 0), wrd (crierSeq s 1), wrd (Config.crierResults s.crier.slotAOk s.crier.slotBOk).toNat,
      wrd ((s.crier.copy.map (·.msgs.length)).getD 0), wrd s.crier.remaining]) ∧
    (taken s m 0x7A noChecks = true → reports (.pilotStatus m) s m
      ((List.range 15).map (fun i => if fld w 0 6 + i < 64 then (detector s (fld w 0 6 + i)).word 2 else 0))) ∧
    (taken s m 0x4E noChecks = true → reports (.portStatus m) s m (portWords s (fld w 0 3))) ∧
    (taken s m 0x47 noChecks = true → reports (.routeStatus m) s m (routeWords s (fld w 0 5))) ∧
    (taken s m 0x51 noChecks = true → reports (.zoneStatus m) s m
      [pack [(zoneState z, 28), (z.prio, 24), (z.carries.getD 0, 0)], wrd (((z.carries.bind (ann s)).map (·.source)).getD z.bg),
        ambientValue s z, intWord z.lastA, bellLo z.lastSwitch, 0, 0]) ∧
    (taken s m 0x5B noChecks = true → reports (.ambientStatus m) s m
      [intWord z.lastA, intWord z.lastG, ambientValue s z, wrd z.lastN, 0, 0, 0]) ∧
    (taken s m 0x58 (msgNumChecks m) = true → reports (.messageStatus m) s m
      (if x.present then [wrd (2 ^ 31 + x.rate), wrd (x.bytes / 3), x.crc] else [0, 0, 0])) ∧
    (taken s m 0x74 noChecks = true → reports (.vigilStatus m) s m (vigilWords s)) ∧
    (taken s m 0xC4 noChecks = true → reports (.taskStatus m) s m
      [wrd k.id, wrd (k.state * 2 ^ 30 + (if k.id = 0 then 0 else k.reeve * 256) + k.slot), wrd k.faults, wrd k.faultAddr, wrd k.svn, 0, 0]) ∧
    (taken s m 0xA0 noChecks = true → reports (.faultStatus m) s m
      (wrd (codes.length + 65536 * (activeCodes (s.faults.active.filter (fun i => !i.acked))).length) ::
        padWords 14 (pairCodes (codes.take 28)))) ∧
    (taken s m 0xE3 (qstatReadChecks m) = true → reports (.qstatRead m) s m
      ((List.range (fld w 8 6)).map (fun i => (quern s (fld w 0 7 + i)).statWord (quernsPaused s)))) ∧
    (taken s m 0xE4 (bankReadChecks m) = true → reports (.bankRead m) s m
      ((List.range (fld w 8 6)).flatMap (fun i => [ownerWord s (fld w 0 7 + i), (bank s (fld w 0 7 + i)).spareWord]))) ∧
    (taken s m 0xE2 (lineReadChecks m) = true → reports (.lineRead m) s m
      (w :: (List.range (fld w 12 4)).flatMap (fun i => (List.range 4).map (fun k => (line s (fld w 0 12 + i)).word k))))

/-- For every state in which the command is taken, VIGIL_PLAN_READ, VIGIL_RESULT_READ, VIGIL_BASELINE_READ,
FAULT_LOG_READ, TRACE_READ, BUNDLE_STATUS, ANNOUNCE_STATUS, PARAM_READ, METER_READ, PER_RESULT and POWER_STATUS complete:
the mailbox is answered with OK and the words of what w1 names, and nothing but the host port changes; POWER_STATUS with no
active program takes a free value for the slack; METER_READ of a Quern in no domain answers the Bell 0 (log 70). (R261; R254; R492; R403; R120; R461; R183; R184; R471; R332) -/
def Obligations.RecordReadsReport : Prop :=
  ∀ (s : State) (m : Fin 8),
    let w := arg s m 1
    (taken s m 0x71 (planReadChecks m) = true → reports (.vigilPlanRead m) s m
      (w :: (List.range (fld w 16 8)).map (fun i => planWord s (fld w 0 12 + i)))) ∧
    (∀ r, taken s m 0x75 (resultReadChecks m) = true → s.vigil.results[fld w 0 12]? = some r →
      reports (.vigilResultRead m) s m (pack [(fld w 0 12, 0), (Nat.min 4095 s.vigil.results.length, 16)] :: padWords 19 r.words)) ∧
    (∀ ws, taken s m 0x76 (baselineReadChecks m) = true → baselineOf s (baseArgs s m).1 (baseArgs s m).2 = some ws →
      reports (.vigilBaselineRead m) s m
        (pack [(8 * (baseArgs s m).1 + (baseArgs s m).2, 0), (s.vigil.baselines.length, 16)] :: padWords 19 ws)) ∧
    (taken s m 0xA1 (faultLogChecks m) = true → reports (.faultLogRead m) s m
      (wrd s.faults.log.length :: ((s.faults.log.drop (fld w 0 16)).take (fld w 16 3)).flatMap LogRec.words)) ∧
    (taken s m 0xE1 (traceReadChecks m) = true → reports (.traceRead m) s m
      (s.stew.traceHead :: (List.range (fld w 0 5)).flatMap (fun i =>
        let r := Tab.get 0 s.stew.trace ((s.stew.trNext + 8192 - fld w 16 12 - i - 1) % 4096)
        [r.setWidth 32, (r >>> 32).setWidth 32]))) ∧
    (∀ b, taken s m 0x24 (bundleStatusChecks m) = true → statusBundle s m = some b → reports (.bundleStatus m) s m (bundleWords s b)) ∧
    (∀ a, taken s m 0x56 (announceStatusChecks m) = true → ann s (fld w 0 16) = some a → reports (.announceStatus m) s m (annWords s a)) ∧
    (∀ h hs, taken s m 0x34 (paramReadChecks m) = true → namedHandles s m = h :: hs →
      let first := fld (arg s m 4) 0 10
      let count := fld (arg s m 4) 10 6
      let g : Glide := Tab.get {} (quern s h.quern).glides (h.first + first)
      reports (.paramRead m) s m
        ([wrd (count * 1024 + first), if h.kind = 1 then sampleWord g.target else 0, if h.kind = 1 then wrd (g.len - g.k) else 0] ++
        (List.range count).map (fun i => sampleWord (paramValue (quern s h.quern) h.kind (h.first + first + i) (bit w 31))))) ∧
    (let u := quern s (fld w 0 7)
     taken s m 0x36 (meterReadChecks m) = true → reports (.meterRead m) s m
      (((quernDom u).map (fun d => bellLo (dom s d).bell)).getD 0 ::
        (List.range (fld (arg s m 2) 0 8)).map (fun i => sampleWord (Tab.get 0 u.nb (fld (arg s m 2) 8 8 + i))))) ∧
    (∀ k, taken s m 0xB2 (ticketKnown m) = true → namedTicket s m = some k →
      reports (.perResult m) s m (wrd k.status :: if k.status = 1 ∨ k.status = 2 then [] else k.data.take 62)) ∧
    (taken s m 0x94 noChecks = true → replies (.powerStatus m) s m
      ([s.warden.word 2, s.warden.word 3, s.warden.word 4] ++
        (List.range 8).map (fun h => wrd (Tab.get 0 s.warden.pace h)) ++ [wrd (lowSlack s).1, 0, 0, 0]) [.host, .fresh] fun t =>
      (∃ e ∈ s.querns, e.2.active.isSome) → t.fresh = s.fresh)

/-- PARAM_SET_OPEN opens the lowest FREE set and answers its number. PARAM_STAGE with no resynchronisation and no
failing check puts every value into the staging place of its target, keeps every value in force, and claims the
Quern. PARAM_COMMIT on a single device arms the lowest free host slot of the domain of the set for the stated or the
next Bell with the claimed Querns as mask, and answers the set and the Bell; in a pair the reply waits.
PARAM_DISCARD makes the set DISCARDED with the shadows of its Querns equal to the active ledgers. PARAM_SET_STATUS
reports the set and frees a DISCARDED one. SHADOW_RESYNC_DONE with nothing held frees the sets in RESYNC of its
domain and brings the shadows up to date where nothing staged for a later Bell stands in them. (R168; R169; R171; R518; R183; R175) -/
def Obligations.ParameterSets : Prop :=
  ∀ (s : State) (m : Fin 8),
    let w := arg s m 1
    let n := fld w 0 3
    let d := (hostSet s n).domain
    let others := fun (t : State) (n : Nat) => ∀ k, k ≠ n → hostSet t k = hostSet s k
    (∀ k, k < 8 → (hostSet s k).state = .free → (∀ j, j < k → (hostSet s j).state ≠ .free) → taken s m 0x30 paramSetOpenChecks = true →
      replies (.paramSetOpen m) s m [wrd k] [.jex, .host] fun t => hostSet t k = { state := .opened } ∧ others t k) ∧
    (∀ h, taken s m 0x31 noChecks = true → stageHeld s m = false → paramStageChecks m s = none → namedHandles s m = [h] →
      (2 ≤ h.kind → 192 ≤ h.first) →
      replies (.paramStage m) s m [0] [.querns, .jex, .host] fun t => others t n ∧ (hostSet t n).state = (hostSet s n).state ∧
        h.quern ∈ (hostSet t n).claims ∧ (hostSet t n).hasDomain = true ∧
        (∀ q, quern t q = { quern s q with ledgerS := (quern t q).ledgerS, stagedGlides := (quern t q).stagedGlides, nbShadow := (quern t q).nbShadow }) ∧
        (∀ q, q ≠ h.quern → quern t q = quern s q) ∧
        ∀ i, i < fld (arg s m 4) 10 6 →
          paramValue (quern t h.quern) h.kind (h.first + fld (arg s m 4) 0 10 + i) true = wordSample (arg s m (5 + i))) ∧
    (∀ since k, taken s m 0x32 (paramCommitChecks m since) = true → s.twin.role = .single → k < 6 →
      (slotOf s d k).armed = false → (∀ j, j < k → (slotOf s d j).armed = true) →
      let b := if bit w 31 then (dom s d).bell + 1 else bellOf (fld (arg s m 2) 0 16) (arg s m 3).toNat
      replies (.paramCommit m since) s m [wrd n, wrd (bellHi b), bellLo b]
        ([.domains, .jex, .host] ++ if lends s then [.twin] else []) fun t =>
        slotOf t d k = { slotOf s d k with
          armed := true, next := bit w 31, bell := b, mask := querMask (hostSet s n).claims, set := some n, own := [], images := [],
          waits := false } ∧
        (∀ e j, e ≠ d ∨ j ≠ k → slotOf t e j = slotOf s e j) ∧ (hostSet t n).state = .armed ∧ (hostSet t n).slot = some k ∧ others t n) ∧
    (∀ since, taken s m 0x32 (paramCommitChecks m since) = true → s.twin.role ≠ .single →
      completes (.paramCommit m since) s fun t => pendingIn s t m ∧ sameExcept [.domains, .twin, .jex, .host] s t ∧
        (hostSet t n).state = .armed ∧ (hostSet t n).mb = m.val + 1 ∧ others t n) ∧
    (taken s m 0x33 (paramDiscardChecks m) = true →
      replies (.paramDiscard m) s m [0] [.querns, .domains, .jex, .host] fun t => (hostSet t n).state = .discarded ∧ (hostSet t n).claims = [] ∧
        others t n ∧ ∀ q, (quern t q).ledgerA = (quern s q).ledgerA ∧ (q ∉ (hostSet s n).claims → quern t q = quern s q) ∧
          (q ∈ (hostSet s n).claims → (quern t q).ledgerS = (quern s q).ledgerA ∧ (quern t q).stagedGlides = [])) ∧
    (taken s m 0x35 noChecks = true → replies (.paramSetStatus m) s m
      [wrd ((hostSet s n).state.code * 268435456 + d * 67108864), wrd (bellHi (hostSet s n).bell), bellLo (hostSet s n).bell,
       wrd ((hostSet s n).staged.length * 65536 + (hostSet s n).claims.length), wrd ((hostSet s n).lowDef.getD 0x7F)] [.jex, .host]
      fun t => hostSet t n = (if (hostSet s n).state = .discarded then {} else hostSet s n) ∧ others t n) ∧
    (∀ e : Fin 4, jexOn s = true → s.jex.held = [] → s.jex.peerHeld = [] → completes (.shadowResyncDone e) s fun t => sameExcept [.querns, .jex] s t ∧
      (∀ k, k < 8 → hostSet t k = if (hostSet s k).state = .resync ∧ (hostSet s k).domain = e then {} else hostSet s k) ∧
      (∀ q, (quern t q).ledgerA = (quern s q).ledgerA) ∧
      ∀ q, (quern s q).resync = true → quernDom (quern s q) = some e.val → (quern t q).resync = false ∧
        ((∀ n, n < 8 → (hostSet s n).awaits s q = false) → (quern t q).ledgerS = (quern s q).ledgerA))

/-- BUNDLE_LOAD of a file that passes every check joins the loads in progress with the bundle of the file held; the first
of them is under way and waits for loader leave (log 147). BUNDLE_LOAD_DONE with leave granted, checks 5 to 8 holding still, stages
the programs of the bundle, keeps every active program, answers the identifier, and the next load is under way. PROGRAM_SWAP on a single device adds the swap with its Bell to those that wait, the command staying
ACCEPTED. BUNDLE_UNLOAD of a bundle that is not ACTIVE, one swapped in part included (log 113), removes it and answers 0. QUERN_RESTORE answers whether the
Quern was muted and starts its restore ramp; QUERN_AUTO_RESTORE does so after 1 s of passes in time. (R115; R121;
R123; R124; R132; R438) -/
def Obligations.BundleCommands : Prop :=
  ∀ (s : State) (m : Fin 8),
    let leave := [Part.jex, .warden, .flash, .twin, .dma, .host]
    let held := fun (l : Load) => (l.mb, l.bundle)
    let restored := fun (u : Quern) => if u.muted then { u with muted := false, rampDown := 0, rampUp := 1, timely := 0 } else u
    (let n := fld (arg s m 1) 0 3
     taken s m 0x21 (bundleLoadChecks m) = true → loadRefusal s (bundleRd s n).1 (bundleRd s n).2 n = none →
      completes (.bundleLoad m) s fun t => pendingIn s t m ∧ sameExcept leave s t ∧
        (loadsNow t).map held = (loadsNow s).map held ++ [(m.val, { bundleFile (bundleRd s n).1 n with loading := true })] ∧
        t.jex.load ≠ none) ∧
    (∀ l, s.jex.load = some l → l.mb = m.val → l.granted = true → s.jex.fullLeft = 0 →
      let b := { l.bundle with loading := false }
      fitRefusal (modJex s (fun j => { j with load := none, loads := [] })) b = none → programsFail s b = none → (b.normal.map (·.quern)).Nodup →
      completes .bundleLoadDone s fun t => answered s t m [wrd b.id, 0] ∧
        sameExcept ([.querns, .lines, .banks, .granary, .domains] ++ leave) s t ∧
        (loadsNow t).map held = s.jex.loads.map held ∧ (s.jex.loads ≠ [] → t.jex.load ≠ none) ∧
        t.jex.bundles = s.jex.bundles ++ [{ b with state := .staged }] ∧
        (∀ q, (quern t q).active = (quern s q).active) ∧
        ∀ p ∈ b.normal, (quern t p.quern).staged = some p ∧ (quern t p.quern).stagedOk = true) ∧
    (∀ since b, taken s m 0x22 (programSwapChecks m since) = true → s.twin.role = .single → s.twin.arm = .idle → namedBundle s m = some b →
      completes (.programSwap m since) s fun t => pendingIn s t m ∧ sameExcept leave s t ∧
        ∃ x, t.jex.swaps = s.jex.swaps ++ [x] ∧ x.domain = fld (arg s m 2) 28 2 ∧ x.bundle = b.id ∧ x.next = bit (arg s m 2) 31 ∧
          x.revert = bit (arg s m 2) 30 ∧ x.bell = bellOf (fld (arg s m 2) 0 16) (arg s m 3).toNat ∧ x.mb = m.val + 1) ∧
    (∀ b, taken s m 0x23 (bundleUnloadChecks m) = true → namedBundle s m = some b → b.state ≠ .active →
      replies (.bundleUnload m) s m [0] [.querns, .lines, .domains, .jex, .host] fun t =>
        t.jex.bundles = s.jex.bundles.filter (fun x => x.id != b.id) ∧
        (∀ q, (quern t q).active = (quern s q).active) ∧
        ∀ p ∈ b.progs, ∀ x, (quern t p.quern).staged = some x → x.bundle ≠ b.id) ∧
    (let q := fld (arg s m 1) 0 7
     taken s m 0x25 noChecks = true → replies (.quernRestore m) s m [wrd (b2n (quern s q).muted)] [.querns, .host] fun t =>
      ∀ k, quern t k = if k = q then restored (quern s q) else quern s k) ∧
    (∀ (q : Fin 128) d, jexOn s = true → (quern s q).muted = true → quernDom (quern s q) = some d → secondBells s d ≤ (quern s q).timely →
      completes (.quernAutoRestore q) s fun t => onlyQuern q s t ∧ quern t q = restored (quern s q))

/-- CLOCK_GROUP_CONFIG writes its group, whose flags and measured rate stay, restarts the ports of it, and makes a slave
group LOST whose measured code is not that of its domain. PORT_CONFIG writes its port, which has then not
started. PDM_CONFIG writes a Sieve or a PDM clock, MCLK_CONFIG a master clock. ALIGN_GROUP_CONFIG makes exactly the
ports of its mask members. ALIGN_GROUP_START makes its groups wait for SYNC_IN, or, on a single device, for the
stated Bell or the second Bell from now, with SYNC_OUT reserved. (R210; R234; R219; R221; R224; R235; R227; R226) -/
def Obligations.PortCommands : Prop :=
  ∀ (s : State) (m : Fin 8),
    let w := arg s m 1
    let w2 := arg s m 2
    let g := fld w 0 3
    let p := fld w 0 5
    let fresh := fun (x : Group) => let y := groupOf w x
      { y with state := b2n (bit w 31), phase := (if (dom s (fld w 28 2)).runs then y.phase else 255), good := 0, lostSeen := false,
               lostWas := false, seen := false, startOk := false, begun := false, passed := y.passed && x.enable && bit w 31 }
    let judged := fun (x : Group) =>
      if x.slave = true ∧ x.rateCode ≠ (dom s x.domain).rate then { x with state := 2, rateEv := true, good := 0 } else x
    let named := wrd (bitsOf (List.range 8) (fun a => bit w a))
    (taken s m 0x48 (clockGroupChecks m) = true → replies (.clockGroupConfig m) s m
      [(judged (fresh (group s g))).statusWord] [.audio, .domains, .host] fun t =>
        (∀ k, group t k = if k = g then judged (fresh (group s g)) else group s k) ∧
        (∀ k, k < 32 → port t k = if (port s k).group = g then { port s k with started := false, startAt := none, concealed := false } else port s k) ∧
        ∀ k i, k < 32 → (port s k).group = g → i < 16 → inChan t (16 * k + i) = {}) ∧
    (taken s m 0x49 (portConfigChecks m) = true →
      let x := { portOf w (port s p) with started := false, startAt := none, concealed := false }
      replies (.portConfig m) s m [x.word] [.audio, .host] fun t => (∀ k, port t k = if k = p then x else port s k) ∧
        ∀ i, i < 16 → inChan t (16 * p + i) = {}) ∧
    (taken s m 0x4A (pdmConfigChecks m) = true → replies (.pdmConfig m) s m [0] [.audio, .domains, .host] fun t =>
      (bit w 28 = true → t.audio = { s.audio with sieves := t.audio.sieves } ∧
        ∀ k, Tab.get {} t.audio.sieves k = if k = p then sieveOf w2 else Tab.get {} s.audio.sieves k) ∧
      (bit w 28 = false → t.audio = { s.audio with pdmClks := t.audio.pdmClks } ∧
        ∀ k, Tab.get {} t.audio.pdmClks k = if k = p then pdmClkOf w2 else Tab.get {} s.audio.pdmClks k)) ∧
    (taken s m 0x4B (mclkConfigChecks m) = true → replies (.mclkConfig m) s m [0] [.audio, .domains, .host] fun t =>
      t.audio = { s.audio with mclks := t.audio.mclks } ∧
        ∀ k, Tab.get {} t.audio.mclks k = if k = fld w 0 2 then mclkOf w2 else Tab.get {} s.audio.mclks k) ∧
    (taken s m 0x4C (alignConfigChecks m) = true → replies (.alignGroupConfig m) s m [w2] [.audio, .host] fun t =>
      (∀ k, k < 32 → (((port t k).aligned = true ∧ (port t k).align = g) ↔ bit w2 k = true)) ∧
      ∀ k, k < 32 → bit w2 k = false → (port s k).align ≠ g → port t k = port s k) ∧
    (∀ since, taken s m 0x4D (alignStartChecks m since) = true → fld w 30 2 = 0 →
      completes (.alignGroupStart m since) s fun t => sameExcept [.audio, .host] s t ∧ answered s t m [named, 0, 0] ∧
        ∀ k, k < 8 → align t k = if bit w k then { align s k with state := 1, onSync := true, start := 0 } else align s k) ∧
    (∀ since, taken s m 0x4D (alignStartChecks m since) = true → fld w 30 2 ≠ 0 → s.twin.role = .single → s.twin.arm = .idle →
      let d := startDomain s m
      let b := if fld w 30 2 = 1 then bellOf (fld w2 0 16) (arg s m 3).toNat else (dom s d).bell + 2
      completes (.alignGroupStart m since) s fun t => sameExcept [.audio, .host] s t ∧ answered s t m [named, wrd (bellHi b), bellLo b] ∧
        t.audio.syncResv = s.audio.syncResv ++ [(d, b)] ∧
        ∀ k, k < 8 → align t k = if bit w k then { align s k with state := 1, onSync := false, start := b } else align s k)

/-- ROUTE_INPUT_WRITE, ROUTE_OUTPUT_WRITE, STILE_WRITE and DETOUR_WRITE with no copy in progress and no failing check
write their entries to the staged tables, leave the active ones and every other entry alone and answer 0. ROUTE_SWAP
on a single device arms the route slot of its domain for the stated or the next Bell, its flags kept, and answers it.
DETOUR_CONTROL marks the detour and stays ACCEPTED. ROUTE_COPY_DONE with nothing held makes the staged
copies that the swap exchanged equal to the active ones, leaves every other, and ends the copy. (R207; R199; R193; R202; R192) -/
def Obligations.RouteCommands : Prop :=
  ∀ (s : State) (m : Fin 8),
    let w := arg s m 1
    let free := routeHeld s m = false
    let a := mapArgs s m
    (taken s m 0x41 noChecks = true → free → routeInputChecks m s = none → replies (.routeInputWrite m) s m [0] [.audio, .host] fun t =>
      t.audio = { s.audio with inS := t.audio.inS } ∧ ∀ k, Tab.get {} t.audio.inS k =
        if a.1 ≤ k ∧ k < a.1 + a.2 then inEntryOf (arg s m (2 + (k - a.1))) else Tab.get {} s.audio.inS k) ∧
    (taken s m 0x42 noChecks = true → free → routeOutputChecks m s = none → replies (.routeOutputWrite m) s m [0] [.audio, .host] fun t =>
      t.audio = { s.audio with outS := t.audio.outS } ∧ ∀ k, Tab.get {} t.audio.outS k =
        if a.1 ≤ k ∧ k < a.1 + a.2 then outEntryOf (arg s m (2 + (k - a.1))) else Tab.get {} s.audio.outS k) ∧
    (taken s m 0x43 noChecks = true → free → stileWriteChecks m s = none → replies (.stileWrite m) s m [0] [.audio, .host] fun t =>
      t.audio = { s.audio with stileS := t.audio.stileS } ∧ ∀ k, Tab.get {} t.audio.stileS k =
        if k = fld w 0 6 then stileOf (arg s m 2) else Tab.get {} s.audio.stileS k) ∧
    (taken s m 0x44 noChecks = true → free → detourWriteChecks m s = none → replies (.detourWrite m) s m [0] [.audio, .host] fun t =>
      t.audio = { s.audio with detS := t.audio.detS } ∧ ∀ k, Tab.get {} t.audio.detS k =
        if fld w 0 9 ≤ k ∧ k < fld w 0 9 + fld w 21 5 then
          detourOf (arg s m (2 + 2 * (k - fld w 0 9))) (arg s m (3 + 2 * (k - fld w 0 9))) else Tab.get {} s.audio.detS k) ∧
    (∀ since, taken s m 0x45 noChecks = true → free → routeSwapChecks m (swapAsked s m since) s = none → s.twin.role = .single → s.twin.arm = .idle →
      let d := fld w 28 2
      let b := if bit w 31 then (dom s d).bell + 1 else bellOf (fld w 0 16) (arg s m 2).toNat
      replies (.routeSwap m since) s m [wrd (d * 268435456), wrd (bellHi b), bellLo b] [.domains, .host] fun t =>
        let late : Bool := !bit w 31 && decide (b.toNat ≤ (dom s d).bell.toNat)
        ∀ e, dom t e = if e = d then { dom s d with route := { (dom s d).route with
          armed := !late, next := bit w 31, bell := b, missed := (dom s d).route.missed || late } } else dom s e) ∧
    (taken s m 0x46 noChecks = true → free → detourControlChecks m s = none →
      completes (.detourControl m) s fun t => pendingIn s t m ∧ sameExcept [.audio, .host] s t ∧
        t.audio = { s.audio with detStat := t.audio.detStat } ∧ ∀ k, Tab.get {} t.audio.detStat k = if k = fld w 0 9 then
          (if fld w 30 2 = 1 then { Tab.get {} s.audio.detStat k with forced := true, returning := false } else { Tab.get {} s.audio.detStat k with returning := true })
          else Tab.get {} s.audio.detStat k) ∧
    (∀ d : Fin 4, jexOn s = true → (dom s d).routeBusy = true → s.jex.held = [] →
      completes (.routeCopyDone d) s fun t => sameExcept [.audio, .domains, .jex] s t ∧
        t.audio = { s.audio with inS := t.audio.inS, outS := t.audio.outS, detS := t.audio.detS, stileS := t.audio.stileS } ∧
        (∀ e, dom t e = if e = d.val then { dom s e with routeBusy := false, copyChans := [], copyStiles := [] } else dom s e) ∧
        (∀ c, let swapped := c ∈ (dom s d).copyChans
          Tab.get {} t.audio.inS c = (if swapped then Tab.get {} s.audio.inA c else Tab.get {} s.audio.inS c) ∧
          Tab.get {} t.audio.outS c = (if swapped then Tab.get {} s.audio.outA c else Tab.get {} s.audio.outS c) ∧
          Tab.get {} t.audio.detS c = (if swapped then Tab.get {} s.audio.detA c else Tab.get {} s.audio.detS c)) ∧
        ∀ i, Tab.get {} t.audio.stileS i = if i ∈ (dom s d).copyStiles then Tab.get {} s.audio.stileA i else Tab.get {} s.audio.stileS i)

/-- A DOMAIN_CONFIG that is taken answers DOM_CFG as it then reads. It enables a disabled domain with the stated rate
and source in ACQUIRE at count 0; it disables an enabled one, which is then OFF at count 0 with empty pages and no
valid line; with the same source and another rate on a running domain it starts the ramp down to the stated rate, and what an
earlier rate had still to commit is dropped (log 96). On a disabled domain it writes RATE, SRC, SRC_GROUP and POLICY. The slave
groups of a domain it enables, or keeps disabled, are LOST where their code is not the new rate. A domain it disables keeps the
flags of its route slot, which is disarmed, and its lines keep their words (log 63). Other domains change in RATE_MASK only.
(R60; R49; R50; R59; R192; R215; R219) -/
def Obligations.DomainConfigCommand : Prop :=
  ∀ (s : State) (m : Fin 8), taken s m 0x40 (domainConfigChecks m) = true →
    let w := arg s m 1
    let d := fld w 28 2
    let x := dom s d
    let judged := fun (y : Group) =>
      if y.slave = true ∧ y.domain = d ∧ y.rateCode ≠ fld w 8 3 then { y with state := 2, rateEv := true, good := 0 } else y
    (bit w 31 = true → x.enable = false → completes (.domainConfig m) s fun t => answered s t m [(dom t d).cfgWord] ∧
      sameExcept [.domains, .audio, .host] s t ∧ t.audio = { s.audio with groups := t.audio.groups } ∧
      (∀ g, g < 8 → group t g = judged (group s g)) ∧
      (∀ e, e ≠ d → dom t e = { dom s e with rateMask := (dom t e).rateMask }) ∧
      dom t d = { x with enable := true, rate := fld w 8 3, src := fld w 0 4, srcGroup := fld w 4 3, state := .acquire, bell := 0, acqOk := false, policy := bit w 11, rateMask := (dom t d).rateMask }) ∧
    (bit w 31 = false → x.enable = true → completes (.domainConfig m) s fun t => answered s t m [(dom t d).cfgWord] ∧
      sameExcept [.querns, .lines, .domains, .audio, .jex, .host, .warden, .flash, .twin, .dma] s t ∧ (dom t d).enable = false ∧ (dom t d).state = .off ∧ (dom t d).bell = 0 ∧
      (dom t d).front = [] ∧ (dom t d).back = [] ∧ (dom t d).route = { x.route with armed := false } ∧ ∀ k, (line s k).valid = true → (line s k).domain = d → (line t k).valid = false) ∧
    (bit w 31 = true → x.enable = true → x.src = fld w 0 4 → x.srcGroup = fld w 4 3 → x.rate ≠ fld w 8 3 → x.runs = true →
      completes (.domainConfig m) s fun t => answered s t m [(dom t d).cfgWord] ∧ sameExcept [.domains, .jex, .host] s t ∧
        t.jex = { s.jex with heldChanges := t.jex.heldChanges } ∧ (∀ k, k < 8 → (slotOf t d k).images = []) ∧
        (dom t d).state = .switching ∧ (dom t d).step = .rampDown ∧ (dom t d).target = some (fld w 8 3) ∧ (dom t d).rate = x.rate ∧
        (dom t d).commanded = true ∧ ∀ e, e ≠ d → dom t e = { dom s e with rateMask := (dom t e).rateMask }) ∧
    (bit w 31 = false → x.enable = false → completes (.domainConfig m) s fun t => answered s t m [(dom t d).cfgWord] ∧
      sameExcept [.domains, .audio, .host] s t ∧ (∀ g, g < 8 → group t g = judged (group s g)) ∧
      (∀ e, e ≠ d → dom t e = { dom s e with rateMask := (dom t e).rateMask }) ∧
      dom t d = { x with rate := fld w 8 3, src := fld w 0 4, srcGroup := fld w 4 3, policy := bit w 11, rateMask := (dom t d).rateMask })

/-- ZONE_CONFIG writes the zone, which then carries its background with a change under way when it is enabled.
SOURCE_CONFIG, PRIORITY_CONFIG and AMBIENT_CONFIG write their record. BACKGROUND_SET writes source and gain of the
background of the zone. AMBIENT_METER_SAMPLE appends the meter word while no announcement is carried; AMBIENT_UPDATE
takes the readings in and counts them, and commits nothing in a zone with an announcement (log 163). (R453; R454; R458; R459; R461; R457) -/
def Obligations.ServiceSettings : Prop :=
  ∀ (s : State) (m : Fin 8),
    let w := arg s m 1
    let z := fld w 0 8
    let others := fun (t : State) => ∀ k, k ≠ z → svcZone t k = svcZone s k
    (taken s m 0x50 (zoneConfigChecks m) = true → replies (.zoneConfig m) s m [0] [.domains, .jex, .host] fun t => others t ∧
      let y := svcZone t z
      y.enable = bit w 31 ∧ y.bundle = (arg s m 2).toNat ∧ y.select = (arg s m 3).toNat ∧ y.gain = (arg s m 4).toNat ∧
        y.ambient = (arg s m 5).toNat ∧ y.bg = fld (arg s m 6) 0 8 ∧ y.bgGain = wordSample (arg s m 7) ∧
        y.annGain = wordSample (arg s m 8) ∧ y.carries = none ∧ y.next = none ∧ y.due = bit w 31) ∧
    (taken s m 0x52 (sourceConfigChecks m) = true → replies (.sourceConfig m) s m [0] [.jex, .host] fun t =>
      t.jex = { s.jex with sources := t.jex.sources } ∧ ∀ k, source t k = if k = z then
        { kind := fld w 30 2, domain := fld w 28 2, slot := fld (arg s m 2) 0 13, line := fld (arg s m 3) 0 12 } else source s k) ∧
    (taken s m 0x53 (priorityConfigChecks m) = true → replies (.priorityConfig m) s m [0] [.jex, .host] fun t =>
      t.jex = { s.jex with prios := t.jex.prios } ∧ ∀ k, prioOf t k = if k = fld w 0 4 then
        { fadeOut := fld (arg s m 2) 16 16, fadeIn := fld (arg s m 2) 0 16, chime := fld w 8 8, chimeSrc := fld w 16 8 } else prioOf s k) ∧
    (taken s m 0x5A (ambientConfigChecks m) = true → replies (.ambientConfig m) s m [0] [.jex, .host] fun t =>
      t.jex = { s.jex with zones := t.jex.zones } ∧ others t ∧ (svcZone t z).ambEn = bit w 31 ∧ (svcZone t z).readings = [] ∧
        (svcZone t z).slope = fld (arg s m 4) 0 16 ∧ (svcZone t z).maxBoost = fld (arg s m 4) 16 16 ∧
        (svcZone t z).maxCut = fld (arg s m 5) 0 16 ∧ (svcZone t z).update = fld (arg s m 5) 16 8 ∧
        (svcZone t z).mWord = fld (arg s m 2) 8 8 ∧ (svcZone t z).mQuern = fld (arg s m 2) 0 7) ∧
    (∀ since, taken s m 0x5C (backgroundSetChecks m) = true → replies (.backgroundSet m since) s m [0] [.domains, .jex, .host] fun t =>
      others t ∧ (svcZone t z).bg = fld w 8 8 ∧ (svcZone t z).bgGain = wordSample (arg s m 2) ∧ (svcZone t z).carries = (svcZone s z).carries) ∧
    (∀ k : Fin 256, ambientRuns s k = true → (svcZone s k).carries = none → completes (.ambientMeterSample k) s fun t => sameExcept [.jex] s t ∧
      (∀ j, j ≠ k.val → svcZone t j = svcZone s j) ∧ svcZone t k = { svcZone s k with
        readings := (svcZone s k).readings ++ [(Tab.get 0 (quern s (svcZone s k).mQuern).nb (svcZone s k).mWord).toInt] }) ∧
    (∀ (k : Fin 256) since, ambientRuns s k = true → (svcZone s k).readings ≠ [] → completes (.ambientUpdate k since) s fun t =>
      sameExcept [.domains, .jex] s t ∧ (∀ j, j ≠ k.val → svcZone t j = svcZone s j) ∧ (svcZone t k).readings = [] ∧
        ((svcZone s k).quiet = false → sameExcept [.jex] s t) ∧
        (svcZone t k).lastN = (svcZone s k).readings.length)

/-- With its identifier new to the zones and the list, an ANNOUNCE_START that is taken records the announcement of its
words, whose material starts at the Bell c2 of the first zone that takes it, with none at the earliest that can be (R461),
and answers the number of zones won, the identifier and that Bell. ANNOUNCE_STOP answers 0 and leaves the announcement ended with cause 0 or gone. PLAYER_LINE_FILL of a
player whose own stream goes on, with at least 20 ms ahead, writes the samples from its lead up to 400 ms ahead into
the player line. (R455; R456; R454) -/
def Obligations.Announcements : Prop :=
  ∀ (s : State) (m : Fin 8),
    let parts := [Part.domains, .granary, .tally, .twin, .warden, .host, .dma, .flash, .jex, .vigil, .banks]
    (∀ since, taken s m 0x54 (announceStartChecks m) = true →
      let ws := args s m 1 12
      let a := announcement s ws (firstBell s (source s (fld (arg s m 1) 0 8)).domain since)
      ann s a.id = none → (∀ z, (svcZone s z).carries ≠ some a.id ∧ (svcZone s z).next ≠ some a.id) →
      completes (.announceStart m since) s fun t => sameExcept parts s t ∧
        let u := retargetAll (fun _ => firstBell s (source s (fld (arg s m 1) 0 8)).domain since)
          (modJex (acceptHead m s) (fun j => { j with anns := j.anns ++ [a], nextAnn := if j.nextAnn = 65535 then 1 else j.nextAnn + 1 }))
        let c2 := ((startsOf u a.id).min?.map (BitVec.ofNat 48)).getD ((ann (noteWait a.id u) a.id).getD a).start
        ann t a.id = some { a with start := c2 } ∧
        answered s t m [wrd (65536 * (wonZones t a.id).length + a.id), wrd (bellHi c2), bellLo c2]) ∧
    (∀ since, taken s m 0x55 (announceStopChecks m) = true → completes (.announceStop m since) s fun t => sameExcept parts s t ∧
      answered s t m [0] ∧ ∀ x, ann t (fld (arg s m 1) 0 16) = some x → x.ended = some 0) ∧
    (∀ (i : BitVec 8) (a : Ann), let x := source s i.toNat
      let now := (dom s x.domain).bell.toNat
      let rate := nominalRate (dom s x.domain).rate
      let l := line s x.line
      addrPos l.base + l.length ≤ hamletWords →
      jexOn s = true → x.kind = 2 → l.valid = true → x.user.bind (ann s) = some a → a.source = i.toNat → leadLow rate ≤ x.lead →
      (now < a.start.toNat ∨ (streamAt s a (now - a.start.toNat)).isSome = true) →
      completes (.playerLineFill i) s fun t => sameExcept [.granary, .banks, .flash, .jex] s t ∧ (source t i.toNat).lead = leadFull rate ∧
        ∀ b, x.lead < b → b ≤ leadFull rate → b < l.length → (bank s (posBank l.hamlet (l.pos ((l.widx + b) % l.length)))).owner = 0 →
          granGet t l.hamlet (l.pos ((l.widx + b) % l.length)) = playerSample s i.toNat b a)

/-- VIGIL_PLAN_WRITE places its words in the plan and answers its length. VIGIL_START of a plan with a START_TIME arms a
campaign with the next number and its counts cleared; VIGIL_ABORT cancels an armed one. At CAMPAIGN_START_TIME in
SERVICE, with every check passed, an armed campaign waits for Tally leave or has entered its second step. WINDOW_END marks the
window over. VIGIL_ROUND_END with no zone left begins the restoration; with a round left and the window open it
starts that round. (R450; R247; R251; R248; R250; R249) -/
def Obligations.VigilCampaigns : Prop :=
  ∀ (s : State) (m : Fin 8),
    let w := arg s m 1
    let n := cmdLen s m - 2
    (taken s m 0x70 (planWriteChecks m) = true →
      let len := Nat.max (if bit w 31 then 0 else s.vigil.planLen) (fld w 0 12 + n)
      replies (.vigilPlanWrite m) s m [wrd len] [.vigil, .host] fun t => t.vigil.planLen = len ∧
        (∀ i, i < n → planWord t (fld w 0 12 + i) = arg s m (2 + i)) ∧
        ∀ i, (i < fld w 0 12 ∨ fld w 0 12 + n ≤ i) → planWord t i = if bit w 31 then 0 else planWord s i) ∧
    (taken s m 0x72 (fun t => startRefusal t false (!vigilBusy t)) = true → planStart s ≠ 0 →
      completes (.vigilStart m) s fun t => sameExcept [.vigil, .host] s t ∧ t.vigil.state = .armed ∧
        t.vigil.campaign = (s.vigil.campaign + 1) % 256 ∧ t.vigil.pass = 0 ∧ t.vigil.fail = 0 ∧ t.vigil.inconc = 0 ∧
        t.vigil.abort = 0 ∧ t.vigil.notRun = 0 ∧
        answered s t m [wrd t.vigil.campaign, wrd (planRounds t).length, wrd (((planRounds t).map (roundSecs t)).sum)]) ∧
    (∀ since, taken s m 0x73 noChecks = true → s.vigil.state = .armed → s.vigil.step = 0 →
      replies (.vigilAbort m since) s m [0] [.vigil, .host] fun t => t.vigil = { s.vigil with state := .idle, zones := [] }) ∧
    (s.vigil.state = .armed → s.vigil.step = 0 → planStart s ≤ s.jex.clock → s.twin.role ≠ .standby → s.aon.mode = .service → s.aon.sleeping = false →
      startRefusal s true true = none →
      completes .campaignStartTime s fun t =>
        sameExcept [.aon, .querns, .domains, .banks, .twin, .warden, .host, .dma, .flash, .jex, .vigil] s t ∧
        (t.vigil.state = .armed ∧ t.vigil.step = 1 ∨ t.vigil.state = .running ∧ t.vigil.step = 2 ∧ t.aon.mode = .vigil)) ∧
    (s.vigil.state = .running → planEnd s ≤ s.jex.clock → completes .windowEnd s fun t => sameExcept [.vigil] s t ∧
      t.vigil = { s.vigil with windowOver := true }) ∧
    (roundOver s = true → nextRound s = none → completes .vigilRoundEnd s fun t =>
      sameExcept [.lines, .banks, .granary, .twin, .warden, .dma, .flash, .jex, .vigil] s t ∧ t.vigil.state = .restoring ∧
        t.vigil.step = 8 ∧ t.vigil.banks = []) ∧
    (∀ r, roundOver s = true → nextRound s = some r → s.vigil.windowOver = false → s.jex.clock + roundSecs s r ≤ planEnd s →
      completes .vigilRoundEnd s fun t => sameExcept [.tally, .vigil] s t ∧ t.vigil.round = r ∧ t.vigil.step = 6)

/-- XFORM_START with the unit idle and data in the lane makes the unit busy with that lane, else sets REFUSED and leaves
the transform in progress alone. XFORM_DONE writes every point of the transform of the running lane in place, the sum in
point 65,535, and frees the unit; where the lane's bank has another owner it changes no word, the lane stops with FAULT
and the bank reports the bus error. A complete block of a detector gives its state by the level, whose last tenth of a
decibel is free (log 10). PILOT_NOT_FOUND posts event 0x0054. PILOT_CONFIG restarts its detector with the stated
configuration. (R259; R242; R152; R256; R257) -/
def Obligations.TallyUnit : Prop :=
  ∀ s : State,
    let x := lane s s.tally.xRun
    (∀ n : Fin 32, completes (.xformStart n) s fun t => sameExcept [.tally] s t ∧ t.tally =
      if s.tally.xBusy = false ∧ (lane s n).hasData = true then { s.tally with xBusy := true, xLane := n.val, xRun := n.val }
      else { s.tally with xRefused := true, xLane := n.val }) ∧
    (s.tally.xBusy = true → (bank s x.bank).owner = 0 ∨ (bank s x.bank).owner = 3 → completes .xformDone s fun t =>
      sameExcept [.tally, .granary] s t ∧ t.tally.xBusy = false ∧ (∀ n, lane t n = if n = s.tally.xRun then { x with xformDone := true } else lane s n) ∧
      point t x.bank 65535 = BitVec.ofInt 60 (points s x.bank).sum ∧
      ∀ k, k < 65535 → point t x.bank k = BitVec.ofInt 60 (rneDiv (correlate (points s x.bank) k - (points s x.bank).sum) 65536)) ∧
    (s.tally.xBusy = true → (bank s x.bank).owner ≠ 0 → (bank s x.bank).owner ≠ 3 → completes .xformDone s fun t =>
      sameExcept [.tally, .banks] s t ∧ t.tally.xBusy = false ∧ (bank t x.bank).busErr = true ∧ (∀ b, b ≠ x.bank → bank t b = bank s b) ∧
      ∀ n, lane t n = if n = s.tally.xRun then { x with enable := false, running := false, fault := true, xformDone := true } else lane s n) ∧
    (∀ k : Fin 64, let x := detector s k
      x.enable = true → x.inBlock = true → x.xs.length = x.block → completes (.goertzelBlockEnd k) s fun t => sameExcept [.tally] s t ∧
      (∀ j, j ≠ k.val → detector t j = detector s j) ∧
      let y := detector t k
      y.inBlock = false ∧ y.xs = [] ∧ y.level ≤ 65535 ∧
      (x.state = 1 → y.state = if x.bad = false ∧ y.level + 50 * x.hyst ≤ 50 * x.lossLevel then 2 else 1) ∧
      (x.state = 2 → y.state = if (x.bad = true ∨ 50 * x.lossLevel < y.level) ∧ x.lossBlocks ≤ x.run + 1 then 3 else 2) ∧
      (x.state = 3 → y.state = if (x.bad = false ∧ y.level + 50 * x.hyst ≤ 50 * x.lossLevel) ∧ 2 ≤ x.run then 2 else 3)) ∧
    (∀ k : Fin 64, (detector s k).enable = true → (detector s k).state = 1 → completes (.pilotNotFound k) s fun t =>
      t = postEvent 0x0054 [wrd k.val] s ∧ onlyHost s t) ∧
    (∀ m : Fin 8, taken s m 0x79 (pilotConfigChecks m) = true → replies (.pilotConfig m) s m [0] [.tally, .host] fun t =>
      (∀ j, j ≠ fld (arg s m 1) 0 6 → detector t j = detector s j) ∧
      let y := detector t (fld (arg s m 1) 0 6)
      y.enable = bit (arg s m 2) 31 ∧ y.domain = fld (arg s m 2) 29 2 ∧ y.freq = fld (arg s m 2) 0 16 ∧ y.block = fld (arg s m 3) 22 10 ∧
        y.xs = [] ∧ y.inBlock = false ∧ y.state ≤ 1)

/-- BANK_OWNER_WRITE of a running control-side Reeve sets REFUSED where the ownership rule refuses, else gives OWNER and
CHANNEL to a bank not being visited. A visit whose March reads what it wrote restores the row and goes to the next one, as
a SOFT row when it was the repeat; a first failure keeps the row redirected for the repeat; a second one puts the save row
in the row's place for good. A full test that ends returns the bank
SHARED with every data word 0. (R151; R156; R157; R162; R158; R159) -/
def Obligations.BanksAndSexton : Prop :=
  ∀ (s : State) (bk : Fin 128),
    let k := bank s bk
    let leave := [Part.banks, .warden, .flash, .jex, .twin, .dma]
    let others := fun (t : State) => ∀ b, b ≠ bk.val → bank t b = bank s b
    (∀ (r : Fin 4) (v : Word), reeveCtl s r = true → ownerRefused s bk (fld v 5 3) = true → completes (.bankOwnerWrite r bk v) s fun t =>
      sameExcept [.banks] s t ∧ others t ∧ bank t bk = { k with refused := true, busErr := k.busErr && !bit v 30 }) ∧
    (∀ (r : Fin 4) (v : Word), reeveCtl s r = true → ownerRefused s bk (fld v 5 3) = false → k.visiting = false →
      completes (.bankOwnerWrite r bk v) s fun t => sameExcept leave s t ∧ others t ∧ bank t bk = { k with
        owner := fld v 5 3, channel := (if fld v 5 3 = 1 then fld v 0 5 else 0), ownerNext := none, refused := k.refused && !bit v 31, busErr := k.busErr && !bit v 30 }) ∧
    (∀ obs, k.visiting = true → k.ownerNext = none → completes (.sextonVisitDone bk obs) s fun t =>
      let failed := marchFails (k.sweeps % 2 == 1) obs
      let next := { k with visiting := false, again := false, phase := .idle, copied := 0, save := none, rowPtr := k.rowPtr + 1 }
      sameExcept (.sexton :: .granary :: leave) s t ∧ others t ∧
      (failed = false → k.again = false → k.rowPtr + 1 < 12288 → bank t bk = next) ∧
      (failed = false → k.again = true → k.rowPtr + 1 < 12288 →
        bank t bk = { next with soft := true, softRows := insertSorted k.rowPtr k.softRows }) ∧
      (failed = true → k.again = false →
        bank t bk = { k with visiting := false, again := true, phase := .held, copied := (bank t bk).copied }) ∧
      (∀ n, failed = true → k.again = true → k.save = some n →
        Tab.get {} (bank t bk).remap n = { valid := true, row := k.rowPtr } ∧ (bank t bk).repairEv = true ∧ (bank t bk).again = false)) ∧
    (∀ obs, jexOn s = true → k.owner = 2 → hasGrant s 9 bk = true → s.jex.fullLeft ≤ 8 → completes (.sextonFullTestDone bk obs) s fun t =>
      sameExcept (.sexton :: .granary :: leave) s t ∧ (bank t bk).owner = 0 ∧ (bank t bk).fullDone = true ∧
      ∀ p, p < bankWords → granGet t (bk / 16) (bankPos bk 0 + p) = 0)

/-- A reference that is lost takes a domain from LOCKED, SLEW or a finished switching to HOLDOVER, counting the loss. An
edge too early counts a glitch, five within 16 Bells losing the reference, those of a domain without Bells not among them; an accepted edge is noted with its phase.
An edge at least 0.99 of the new period after the last Bell sets the switching Bell going. A monitor run of 256 edges
writes the measured rate and acts by state: in ACQUIRE it says whether the rate is in the band, in LOCKED it is followed
or lost, in HOLDOVER a rate in the band begins the slew, and one out of it sets RETURN and RATE_CHANGE (log 98). A loss in SLEW holds the rate of the last accepted edge. SLEW_LOCK
locks after 256 edges within the tolerance, with the synthesiser at its nominal rate. ACQUIRE_TIMEOUT reports the rate code. The synthesiser is never
lost. No other domain changes. (R53; R44; R48; R54; R55; R57; R59; R517; R56; R49) -/
def Obligations.ReferenceEvents : Prop :=
  ∀ (s : State) (d : Fin 4),
    let x := dom s d
    let only := fun (t : State) => sameExcept [.domains, .host] s t ∧ ∀ e, e ≠ d.val → dom t e = dom s e
    let lost := fun (y : Domain) => { y with state := DomState.holdover, bellRate := (if y.state = .slew ∧ y.heldRate ≠ 0 then y.heldRate else y.bellRate), returnEv := y.returnedFrom.getD y.returnEv, returnedFrom := none, lossCount := Nat.min (y.lossCount + 1) 65535, loss := true, lostRefs := (y.src, y.srcGroup) :: y.lostRefs.filter (· != (y.src, y.srcGroup)), refRate := 0, edgeSeen := false, runEdges := none, glitchBells := [], lockRun := 0 }
    let edges := x.enable = true ∧ (x.src = 1 ∨ x.src = 2 ∨ x.src = 3 ∨ (x.src = 5 ∧ s.twin.link = .up))
    (x.src = 4 → completes (.referenceLoss d) s fun t => t = s) ∧
    (x.src ≠ 4 → x.state = .holdover → completes (.referenceLoss d) s fun t => only t ∧ dom t d = { x with runEdges := none, edgeSeen := false, glitchBells := [] }) ∧
    (x.src ≠ 4 → (x.state = .locked ∨ x.state = .slew ∨ (x.state = .switching ∧ x.target = none)) →
      completes (.referenceLoss d) s fun t => only t ∧ dom t d = lost x) ∧
    (∀ dt phase since, edges → x.edgeSeen = true → 4 * dt * nominalRate x.rate < 300000000000000 →
      completes (.referenceEdge d dt phase since) s fun t => only t ∧ (dom t d).glitch = true ∧
        (dom t d).glitchCount = Nat.min (x.glitchCount + 1) 65535 ∧ (dom t d).runEdges = none ∧ (x.runs = false → (dom t d).glitchBells = []) ∧
        (x.state = .locked → ((dom t d).state = .holdover ↔ 4 ≤ (x.glitchBells.filter (fun b => x.bell.toNat < b + 16)).length))) ∧
    (∀ dt phase since, edges → (x.edgeSeen = true → 300000000000000 ≤ 4 * dt * nominalRate x.rate ∧
        2 * dt * nominalRate x.rate ≤ 300000000000000 ∧ phaseLost x phase = false) →
      completes (.referenceEdge d dt phase since) s fun t => only t ∧ dom t d = { x with edgeSeen := true, heldRate := (if x.state = .slew then x.rateNow else x.heldRate), returnedFrom := none, phaseErr := phase, runEdges := some (match x.runEdges with | none => 0 | some n => Nat.min (n + 1) 256), lockRun := (dom t d).lockRun, switchIn := (dom t d).switchIn } ∧
        (∀ c, x.step = .muted → x.switchIn = none → x.target = some c →
          (dom t d).switchIn = if 9900000000000000 ≤ 100 * since * nominalRate c then some 0 else none) ∧
        (x.state = .slew → 128 * phase.natAbs * nominalRate x.rate ≤ 100000000000000 → (dom t d).lockRun = Nat.min (x.lockRun + 1) 256) ∧
        (x.state = .slew → 100000000000000 < 128 * phase.natAbs * nominalRate x.rate → (dom t d).lockRun = 0)) ∧
    (∀ ticks, edges → x.runEdges = some 256 → 0 < ticks → completes (.referenceMonitorRun d ticks) s fun t =>
      let r := runRate ticks
      let z := { x with refRate := r, runEdges := some 0 }
      only t ∧ (x.state = .acquire → dom t d = { z with acqOk := inBand r (nominalRate x.rate) }) ∧
      (x.state = .locked → inBand r (nominalRate x.rate) = true → dom t d = { z with bellRate := r }) ∧
      ((x.state = .locked ∨ x.state = .slew) → inBand r (nominalRate x.rate) = false → dom t d = lost z) ∧
      (x.state = .slew → inBand r (nominalRate x.rate) = true → dom t d = z) ∧
      (x.state = .holdover → inBand r x.rateNow = true → dom t d = { z with returnEv := true, state := .slew, lockRun := 0, slewRem := 0, heldRate := x.rateNow, returnedFrom := some x.returnEv }) ∧
      (x.state = .holdover → inBand r x.rateNow = false → (dom t d).returnEv = true ∧ (dom t d).rateChange = true ∧
        (dom t d).newRate = rateCode r)) ∧
    (x.state = .slew → (if x.src = 4 then x.rateNow = nominalRate x.rate else x.lockRun = 256) → completes (.slewLock d) s fun t => only t ∧ dom t d =
      { x with state := .locked, lockedEv := true, lockRun := 0, lostRefs := [], bellRate := (if x.src = 4 ∨ x.refRate = 0 then x.bellRate else x.refRate) }) ∧
    (x.state = .acquire → edges → x.acqOk = false → completes (.acquireTimeout d) s fun t => only t ∧
      dom t d = { x with rateChange := true, newRate := (if x.refRate = 0 then 15 else rateCode x.refRate) })

/-- RECONFIG_RAMP_DONE mutes the outputs, with the synthesiser one Bell before the switching Bell;
SWITCHING_BELL_TIMEOUT of a commanded change lets the switching Bell come without an edge; MUTE_RELEASE lets the
outputs ramp up at once where the set in force changes for no program, else arms a commit slot for the first Bell of the lead
(log 58) with the sets of every bound program, or with none free holds them at priority 0 (log 118); a Bell that is the switching
Bell takes the new rate code, and the rate last measured where that is in its band (log 46). RECONFIG_RAMP_UP_DONE ends the reconfiguration, LOCKED when
nothing was lost on the way, slewing when the synthesiser is not yet at its nominal rate. (R59; R60; R447; R448) -/
def Obligations.RateReconfiguration : Prop :=
  ∀ (s : State) (d : Fin 4),
    let x := dom s d
    (x.step = .rampDown → completes (.reconfigRampDone d) s fun t => onlyDomain d s t ∧
      dom t d = { x with step := .muted, switchIn := (if x.src = 4 then some 1 else none) }) ∧
    (x.commanded = true → x.step = .muted → x.target.isSome = true → x.switchIn = none → completes (.switchingBellTimeout d) s fun t =>
      onlyDomain d s t ∧ dom t d = { x with switchIn := some 1, timedOut := true }) ∧
    (∀ since, jexOn s = true → x.step = .muted → x.target = none → changedImages s d x.fromRate x.rate = [] →
      completes (.muteRelease d since) s fun t => onlyDomain d s t ∧ dom t d = { x with step := .rampUp, rampK := 0 }) ∧
    (∀ since, jexOn s = true → x.step = .muted → x.target = none → changedImages s d x.fromRate x.rate ≠ [] →
      imagesWait s d = false →
      completes (.muteRelease d since) s fun t => sameExcept [.querns, .domains, .host, .jex] s t ∧ (dom t d).step = .muted ∧
        let imgs := changedImages s d x.fromRate x.rate
        let stands := ∃ k : Fin 8, (slotOf t d k).armed = true ∧ (slotOf t d k).next = false ∧
          (slotOf t d k).bell = firstBell s d since ∧ (slotOf t d k).images = imgs
        ((∃ k : Fin 8, (slotOf s d k).armed = false) → stands) ∧
        (stands ∨ t.jex.heldChanges = s.jex.heldChanges ++ [{ domain := d, prio := 0, own := [], images := imgs }])) ∧
    (∀ since, jexOn s = true → x.step = .muted → x.target = none → changedImages s d x.fromRate x.rate ≠ [] →
      imagesWait s d = true → completes (.muteRelease d since) s fun t => t = s) ∧
    (x.step = .rampUp → completes (.reconfigRampUpDone d) s fun t => sameExcept [.domains, .host] s t ∧
      (∀ e, e ≠ d.val → dom t e = dom s e) ∧
      let z := { x with step := .none, commanded := false, rampK := 0 }
      dom t d = if x.state = .switching then (if x.src = 4 ∧ x.rateNow ≠ nominalRate x.rate then { z with state := .slew, lockRun := 0 }
        else { z with state := .locked, lockedEv := true, lockRun := 0 }) else z) ∧
    (∀ env code, x.enable = true → x.state = .switching → x.step = .muted → x.target = some code → x.switchIn = some 0 → x.toSynth = false →
      s.twin.armMb = none → completes (.bell d env) s fun t => t = settle (bellBody d env (alignBell d (countBell d env.interval s))) ∧
        let y := dom (countBell d env.interval s) d
        y.bell = x.bell + 1 ∧ y.rate = code ∧ y.target = none ∧ y.switchIn = none ∧
        y.bellRate = (if x.timedOut = true ∨ x.src = 4 ∨ x.refRate = 0 ∨ inBand x.refRate (nominalRate code) = false then nominalRate code else x.refRate) ∧
        y.state = if x.timedOut = true then .holdover else .switching)

/-- BELL of an enabled domain that generates Bells, or has its reference in the band in ACQUIRE, completes: it adds 1 to
the Bell count, then runs actions 2 to 8 and what waited on them; a joiner from its Bell J on keeps the Bell instead. The first Bell locks a domain in ACQUIRE. The page swap leaves the
back page empty and the front page as the back page was in every slot that no Quern of the domain owns; a write
index advances by one modulo LENGTH; a pass starts with its registers at 0. PASS_END completes in every state: it runs
the remaining slots of a running pass (log 55), ends it, gathers its flags, posts the owned slots of a pass in time, discards the
Square writes of a late one, and captures the state of the pass of Bell J - 1; with no pass running nothing changes.
(R27; R514; R50; R72; R88; R103; R129; R140; R305; R306) -/
def Obligations.BellsAndPasses : Prop :=
  ∀ (s : State) (d : Fin 4),
    let x := dom s d
    let rings := x.enable = true ∧ (x.state = .locked ∨ x.state = .holdover ∨ x.state = .slew ∨ x.state = .switching ∨
      (x.state = .acquire ∧ (x.src = 4 ∨ x.acqOk = true)))
    let joinAt : BitVec 48 := Tab.get 0 s.twin.joinBell d
    let keeps := s.twin.armMb.isSome = true ∧ (s.twin.arm = .copy ∨ s.twin.arm = .join) ∧ joinAt ≠ 0 ∧ joinAt.toNat ≤ x.bell.toNat + 1
    (∀ env, rings → ¬ keeps → completes (.bell d env) s fun t =>
      let c := countBell d env.interval s
      t = settle (bellBody d env (alignBell d c)) ∧ (dom c d).bell = x.bell + 1 ∧
      dom (alignBell d c) d = dom c d ∧
      (x.state = .acquire → x.toSynth = false → x.step = .none → (dom c d).state = .locked ∧ (dom c d).lockedEv = true)) ∧
    (∀ env, rings → keeps → completes (.bell d env) s fun t =>
      (dom t d).bell = x.bell + 1 ∧ t.twin.replay.length = (countBell d env.interval s).twin.replay.length + 1) ∧
    (∀ n, (∀ q ∈ domQuerns s d, n ∉ (quern s q).ownedSlots) →
      (dom (swapPages d s) d).back = [] ∧ (Tab.get {} (dom (swapPages d s) d).front n : Slot) = Tab.get {} x.back n) ∧
    (∀ e, (line s e).length ≠ 0 → lineFrozen s (line s e) = false →
      (line (lineBell e s) e).widx = ((line s e).widx + 1) % (line s e).length) ∧
    (∀ q ∈ domQuerns s d, quernsPaused s = false → (quern s q).lateNow = false →
      let u := quern (startPasses d s) q
      u.pageIn = (dom s d).front ∧ u.running = true ∧ u.pc = 0 ∧ u.acc = [] ∧ u.d = [] ∧ u.p = [] ∧ u.cN = false ∧ u.cZ = false ∧ u.cV = false ∧ u.cL = false ∧
        u.outs = [] ∧ u.active = (quern s q).active ∧ u.scratch = (quern s q).scratch) ∧
    (∀ (q : Fin 128) (dur : Nat), (quern s q).running = false → completes (.passEnd q dur) s fun t => t = s) ∧
    (∀ (q : Fin 128) (dur : Nat), (quern s q).running = true → completes (.passEnd q dur) s fun t =>
      let ran := runRest q s
      let v := quern ran q
      let inTime : Bool := decide (v.lateBells = 0)
      sameExcept [.querns, .domains, .lines, .banks, .granary, .host] s t ∧ sameExcept [.querns, .domains] ran t ∧
      (∀ r, r ≠ q.val → quern t r = quern s r) ∧
      quern t q = { v with
        running := false, dur := dur, outs := [], qOva := v.qOva || v.ova, qSat := v.qSat || v.sat, qPf := v.qPf || v.pf
        posted := v.posted || inTime, overruns := if inTime then 0 else v.overruns
        capture := if inTime ∧ (quernDom v).any (captures s) = true then some v.captured else v.capture } ∧
      (inTime = false ∨ v.active = none → t.domains = s.domains) ∧
      (inTime = true → ∀ p, v.active = some p →
        (∀ e, e ≠ p.domain → dom t e = dom s e) ∧ ∀ n, (Tab.get {} (dom t p.domain).back n : Slot) =
          if n ∈ p.owned then (match outAt v n with | some w => { word := w, valid := true } | none => {}) else Tab.get {} (dom s p.domain).back n))

/-- A stopped clock or frame of an enabled slave group, or a frame too long, sets its flag and LOST. A frame-start edge
of the right length in its window counts towards the end of LOST, one of the wrong length or outside the window sets
FRAME_ERR or PHASE_ERR and LOST; only a frame that began in the window counts; 16 good frames end LOST, of a group that supplies the Bell
of its domain not before LOCKED. The edges of a slave group that is not
enabled are measured alone. A monitor run or its timeout writes rate and code of its
pin and loses a slave group whose domain has another rate. An edge of SYNC_IN starts the groups armed on it at the first Bell that
begins at least 1 us after it, reckoned at the present rate of their domain (log 56). Stuck Sieves and the return of a detour do what
their rules say. (R219; R220; R218; R223; R66; R202; R215; R227) -/
def Obligations.PortEvents : Prop :=
  ∀ (s : State) (g : Fin 8),
    let x := group s g
    let y := dom s x.domain
    let only := fun (t : State) (k : Nat) => sameExcept [.audio] s t ∧ ∀ h, h ≠ k → group t h = group s h
    let measured := fun (c : Instr) (pin r code : Nat) =>
      (pin < 8 → (group s pin).enable = false ∨ (group s pin).master = false → completes c s fun t => only t pin ∧
        let z := group s pin
        group t pin = if z.enable = true ∧ code ≠ (dom s z.domain).rate then { z with rate := r, rateCode := code, rateEv := true, state := 2, good := 0 } else { z with rate := r, rateCode := code, rateEv := z.rateEv || z.rateCode != code }) ∧
      (8 ≤ pin → completes c s fun t => sameExcept [.audio] s t ∧ t.audio.groups = s.audio.groups ∧
        let w := Tab.get {} s.audio.wclk (pin - 8)
        Tab.get {} t.audio.wclk (pin - 8) = { w with rate := r, rateCode := code, rateEv := w.rateEv || w.rateCode != code })
    let stuck := fun (c : Instr) (i : Fin 32) (v : Bool) => completes c s fun t => sameExcept [.audio] s t ∧
      t.audio = { s.audio with sieveStuck := t.audio.sieveStuck, sieveEv := t.audio.sieveEv } ∧ ∀ j : Fin 32,
        t.audio.sieveStuck.getLsbD j = (if j = i then v else s.audio.sieveStuck.getLsbD j) ∧
        t.audio.sieveEv.getLsbD j = (s.audio.sieveEv.getLsbD j || (j == i && s.audio.sieveStuck.getLsbD i != v))
    (x.slave = true →
      (completes (.groupClockStop g) s fun t => only t g ∧ group t g = { x with state := 2, good := 0, clkLoss := true }) ∧
      (completes (.groupFrameStop g) s fun t => only t g ∧ group t g = { x with state := 2, good := 0, frameErr := true }) ∧
      (completes (.frameCountEnd g) s fun t => only t g ∧ group t g = { x with state := 2, good := 0, frameErr := true }) ∧
      ∀ bclks dt phase, completes (.frameStartEdge g bclks dt phase) s fun t => only t g ∧ (group t g).bclks = Nat.min bclks 1023 ∧
        let wrong := x.seen = true ∧ (bclks ≠ 32 * x.tdm ∨ 300000000000000 < 2 * dt * nominalRate y.rate)
        let outside := y.runs = true ∧ inWindow (nominalRate y.rate) phase = false
        ((group t g).phase = if y.runs then phaseReg (nominalRate y.rate) phase else 255) ∧
        (wrong → (group t g).state = 2 ∧ (group t g).frameErr = true ∧ (group t g).good = 0) ∧
        (outside → (group t g).state = 2 ∧ (group t g).phaseErr = true ∧ (group t g).good = 0) ∧
        (¬ wrong → ¬ outside → (group t g).state = x.state ∧ (group t g).frameErr = x.frameErr ∧ (group t g).phaseErr = x.phaseErr ∧
          (group t g).good = if x.state = 2 ∧ x.seen = true ∧ x.startOk = true ∧ y.runs = true ∧ x.rateCode = y.rate then Nat.min (x.good + 1) 16 else 0)) ∧
    (∀ bclks dt phase, x.enable = false → x.master = false → completes (.frameStartEdge g bclks dt phase) s fun t => only t g ∧
      group t g = { x with bclks := Nat.min bclks 1023, phase := if y.runs then phaseReg (nominalRate y.rate) phase else 255 }) ∧
    (x.slave = true → x.state = 2 → x.good = 16 → x.rateCode = y.rate →
      ((suppliesBell s g = false ∨ y.state = .locked) → completes (.groupLostExit g) s fun t => only t g ∧
        group t g = { x with state := 1, good := 0 }) ∧
      (suppliesBell s g = true → y.state ≠ .locked → completes (.groupLostExit g) s fun t => t = s)) ∧
    (∀ (pin : Fin 10) ticks, 0 < ticks → measured (.portMonitorRun pin ticks) pin (runRate ticks % 16777216) (rateCode (runRate ticks))) ∧
    (∀ pin : Fin 10, measured (.monitorEdgeTimeout pin) pin 0 15) ∧
    (∀ i, stuck (.sieveStuckDetect i) i true ∧ stuck (.sieveRecover i) i false) ∧
    (∀ since, completes (.syncInEdge since) s fun t => sameExcept [.audio, .twin] s t ∧ (s.twin.role = .single → s.twin.arm = .idle → t.twin = s.twin) ∧
      ∀ a : Fin 8, let z := align s a
        align t a = if z.domain < 4 ∧ z.state = 1 ∧ z.onSync = true then
          { z with state := 2, start := (dom s z.domain).bell + BitVec.ofNat 48 (leadBells (dom s z.domain) 1000000 (since.getD z.domain 0)) }
        else z) ∧
    (∀ o : Fin 512, (Tab.get {} s.audio.detA o).returnAuto = true → (Tab.get {} s.audio.detStat o).detoured = true →
      (Tab.get {} s.audio.detStat o).forced = false → detourTrigs s o = 0 → completes (.detourAutoReturn o) s fun t => sameExcept [.audio] s t ∧
        Tab.get {} t.audio.detStat o = { Tab.get {} s.audio.detStat o with returning := true } ∧
        ∀ k, k ≠ o.val → Tab.get {} t.audio.detStat k = Tab.get {} s.audio.detStat k)

/-- EPOCH counts each grant and return (log 91). A request already granted or waiting changes nothing; BASE is booked, with FREE pending when that ends; a SEXTON visit is granted at once or not at
all; any other request with an empty queue is granted when its price fits and otherwise waits, and behind a head
that does not fit it takes its place by rank. A grant returned goes back to the books. A withdrawn QUERN or safety
flash request leaves the queue. FREE takes its new value with domain 0 OFF. LEAVE_CONFIG books BASE at the new pool;
LEAVE_COST_WRITE answers the old cost and sets the new one. (R315; R316; R317; R318; R319; R312; R313; R314) -/
def Obligations.LeaveBooks : Prop :=
  ∀ (s : State),
    let w := s.warden
    let book := fun (v : Warden) => { v with reserveNow := Nat.min v.reserve (v.pool - v.granted), free := v.pool - v.granted - Nat.min v.reserve (v.pool - v.granted), epoch := (v.epoch + 1) % 256 }
    let based := fun (v : Warden) =>
      let gs := v.grants.filter (fun g => g.cls != 0) ++ [{ cls := 0, cost := classCost s 0, price := priceAt v.setpoint (classCost s 0) }]
      if v.freePending then { v with baseDue := true }
      else book { v with pool := v.cfgPool, grants := gs, granted := (gs.map (·.price)).sum, baseDue := false }
    (∀ (cls : Fin 10) key, (hasGrant s cls key || hasRequest s cls key) = true → exec (.leaveRequest cls key) s = .next s) ∧
    (∀ (cls : Fin 10) key, hasGrant s cls key = false → hasRequest s cls key = false → completes (.leaveRequest cls key) s fun t => leaveOnly s t ∧
      let cost := requestCost s cls key
      let g : Grant := { cls := cls, key := key, cost := cost }
      let price := priceAt w.setpoint cost
      let granted := book { w with grants := w.grants ++ [{ g with price := price }], granted := w.granted + price }
      (cls = 0 → t.warden = based w) ∧
      (cls = 8 → t.warden = if w.queue = [] ∧ w.fits 8 price = true then granted else w) ∧
      (cls ≠ 0 → cls ≠ 8 → w.queue = [] → t.warden = if w.fits cls price then granted else { w with queue := [g] }) ∧
      (∀ h rest, cls ≠ 0 → cls ≠ 8 → w.queue = h :: rest → w.fits h.cls (priceAt w.setpoint h.cost) = false → classRank h.cls ≤ classRank cls →
        t.warden = { w with queue := h :: enqueue g rest })) ∧
    (∀ (cls : Fin 10) key, quiet s → hasGrant s cls key = true → w.queue = [] → completes (.leaveReturn cls key) s fun t => sameExcept [.warden] s t ∧
      let back := ((w.grants.filter (fun g => g.cls == cls.val && g.key == key)).map (·.price)).sum
      hasGrant t cls key = false ∧ t.warden.granted = w.granted - back ∧
      (w.freePending = false → t.warden = book { w with grants := t.warden.grants, granted := w.granted - back })) ∧
    (∀ (cls : Fin 10) key g, quiet s → cls = 1 ∨ cls = 2 → g.cls = cls.val → g.key = key → w.queue = [g] →
      completes (.leaveWithdraw cls key) s fun t => sameExcept [.warden] s t ∧ t.warden = { w with queue := [] }) ∧
    (w.freePending = true → (dom s 0).state = .off → w.queue = [] → completes .freeUpdateTimeout s fun t => sameExcept [.warden] s t ∧
      t.warden = let v := book { w with freePending := false }
        if w.baseDue then based v else v) ∧
    (∀ m : Fin 8, taken s m 0x91 (leaveConfigChecks m) = true → w.queue = [] → replies (.leaveConfig m) s m [0] [.warden, .host] fun t =>
      t.warden = based { w with cfgPool := fld (arg s m 1) 0 12, reserve := fld (arg s m 1) 12 12 }) ∧
    (∀ m : Fin 8, taken s m 0x92 (leaveCostChecks m) = true → replies (.leaveCostWrite m) s m [wrd (classCost s (fld (arg s m 1) 0 4))] [.warden, .host] fun t =>
      t.warden = { w with costs := t.warden.costs } ∧ ∀ c, classCost t c = if c = fld (arg s m 1) 0 4 then fld (arg s m 1) 16 12 else classCost s c)

/-- A step down that the conditions of R324 allow writes 5 mV less; without them nothing changes. A write that is
acknowledged makes its target the set-point and reprices every grant with FREE pending; a readback within 15 mV ends it, write and
readback being two frames, and a newer write drops the readback (log 138). A failed frame, read or write, is repeated, the third in a
row giving up with AVS_ERR, the set-point as it stands (log 40); a read that ends well gives READ_MV. PACE_REPORT takes the report in, FLOOR_MV follows, and a program that no longer fits steps up by 5 mV.
THERMAL_READING sets the conditions with 5 degrees of hysteresis (log 43) and posts 0x0070 at a new warning. WARDEN_CONFIG
writes its fields. (R324; R326; R320; R327; R322; R323; R318; R325) -/
def Obligations.WardenRail : Prop :=
  ∀ (s : State),
    let w := s.warden
    let calm := s.gate.phase ≠ .waitCrystal ∧ s.gate.phase ≠ .waitSetpoint
    let failed := fun (v : Warden) (again : Option Nat) (t : State) =>
      t.warden = if v.fails < 2 then { v with fails := v.fails + 1, frame := again }
        else { v with fails := 0, frame := none, readback := none, avsBad := true, bootWrite := true, events := v.events ||| 4 }
    (w.inControl = true → w.avsBad = false → w.frame = none → agoOk s w.stepTick w.dwell = true → 555 ≤ w.setpoint → floorMv s ≤ w.setpoint - 5 → holdMv s ≤ w.setpoint - 5 →
      allFit s (w.setpoint - 5) = true → agoOk s w.slackTick w.dwell = true → agoOk s w.lateTick 1000 = true →
      completes .wardenStepDown s fun t => t = { s with warden := { w with frame := some (w.setpoint - 5), readback := none } }) ∧
    ((w.inControl = false ∨ w.avsBad = true ∨ w.frame ≠ none ∨ agoOk s w.stepTick w.dwell = false ∨ w.setpoint < 555 ∨ w.setpoint - 5 < floorMv s ∨ w.setpoint - 5 < holdMv s ∨
        allFit s (w.setpoint - 5) = false ∨ agoOk s w.slackTick w.dwell = false ∨ agoOk s w.lateTick 1000 = false) →
      completes .wardenStepDown s fun t => t = s) ∧
    (∀ v rd, w.frame = some v → calm → completes (.avsFrameEnd true rd) s fun t =>
      sameExcept [.warden] s t ∧ t.warden.setpoint = v ∧ t.warden.read = w.read ∧ t.warden.frame = none ∧ t.warden.readback = some v ∧
        t.warden.fails = w.fails ∧ t.warden.stepTick = some s.aon.tick ∧ t.warden.freePending = true ∧ t.warden.free = w.free ∧
        t.warden.reserveNow = w.reserveNow ∧ t.warden.grants = w.grants.map (fun g => { g with price := priceAt v g.cost }) ∧
        t.warden.granted = (t.warden.grants.map (·.price)).sum ∧ t.warden.floor = if w.inControl then floorMv t else 0) ∧
    (∀ v rd, w.frame = some v → calm → completes (.avsFrameEnd false rd) s fun t => sameExcept [.warden] s t ∧ failed w (some v) t) ∧
    (∀ v rd, w.frame = none → w.readback = some v → calm →
      (completes (.avsFrameEnd true rd) s fun t => sameExcept [.warden] s t ∧
        if rd % 1024 ≤ v + 15 ∧ v ≤ rd % 1024 + 15 then
          t.warden = { w with read := rd % 1024, readback := none, fails := 0, bootWrite := w.bootWrite || v == 800 }
        else failed { w with read := rd % 1024 } (some v) t) ∧
      (completes (.avsFrameEnd false rd) s fun t => sameExcept [.warden] s t ∧ failed w none t)) ∧
    (∀ rd, w.frame = none → w.readback = none → calm →
      (completes (.avsFrameEnd true rd) s fun t => sameExcept [.warden] s t ∧ t.warden = { w with read := rd % 1024, fails := 0 }) ∧
      (completes (.avsFrameEnd false rd) s fun t => sameExcept [.warden] s t ∧ failed w none t)) ∧
    (∀ (h : Fin 8) ps, completes (.paceReport h ps) s fun t => sameExcept [.warden] s t ∧
      t.warden = { w with pace := t.warden.pace, floor := t.warden.floor, frame := t.warden.frame, readback := t.warden.readback } ∧
      (∀ k, Tab.get 0 t.warden.pace k = if k = h.val then ps else Tab.get 0 w.pace k) ∧
      (t.warden.floor = if w.inControl then floorMv t else 0) ∧
      (w.frame ≠ none ∨ w.inControl = false → t.warden.frame = w.frame ∧ t.warden.readback = w.readback) ∧
      (w.frame = none → w.inControl = true → w.setpoint < 850 →
        t.warden.frame = if allFit t w.setpoint then none else some (Nat.min 850 (w.setpoint + 5))) ∧
      (w.frame = none → t.warden.frame = none → t.warden.readback = w.readback)) ∧
    (∀ tj : BitVec 10, w.queue = [] → completes (.thermalReading tj) s fun t => sameExcept [.warden, .host] s t ∧
      let x := tj.toInt
      let state := fun (was : Bool) (thr : Int) => if was then decide (4 * (thr - 5) < x) else decide (4 * thr ≤ x)
      t.warden.tj = x ∧ t.warden.thermWarn = state w.thermWarn w.warm ∧ t.warden.thermHot = state w.thermHot w.hot ∧
      t.warden.thermCrit = state w.thermCrit 115 ∧ t.warden.grants = w.grants ∧
      (t.warden.thermWarn = w.thermWarn → t.warden.thermHot = w.thermHot → t.warden.thermCrit = w.thermCrit → t.warden.events = w.events) ∧
      (t.warden.thermHot ≠ w.thermHot → t.warden.events.getLsbD 4 = true) ∧
      ((t.warden.thermWarn = false ∨ w.thermWarn = true) → t.host = s.host) ∧
      (t.warden.thermWarn = true → w.thermWarn = false → t = postEvent 0x0070 [wrd (x % 1024).toNat] { s with warden := t.warden })) ∧
    (∀ m : Fin 8, taken s m 0x95 (wardenConfigChecks m) = true → replies (.wardenConfig m) s m [0] [.warden, .host] fun t =>
      let clear := bit (arg s m 1) 31
      t.warden = { w with railSel := fld (arg s m 1) 0 4, avsClk := fld (arg s m 1) 4 2, dwell := fld (arg s m 2) 0 7, slackMin := fld (arg s m 2) 8 5, warm := fld (arg s m 3) 0 8, hot := fld (arg s m 3) 8 8, avsBad := w.avsBad && !clear, fails := if clear then 0 else w.fails })

/-- RESET_N low, a lost rail outside SLEEP and DEVICE_RESET put the core domain at its reset values in MODE BOOT,
keeping flash, fuses, fault log and the lower half of control RAM, what is lost reading 0 (log 4); loss of VDD_AON keeps flash, fuses and fault log
only, and what an erase or program in progress is cut to. A lost rail is lost until it returns; without VDD_OSC the crystal stops, and a flash whose rail goes loses its volatile
quad enable. Power-good with RESET_N high, a release of RESET_N and the return of the last lost rail start a boot:
counted, life cycle decoded, waiting for the crystal when it does not run; after a reset the rail is first written to 800 mV. DEVICE_RESET does both in its one row (log 30).
Where nothing starts, only the input is noted. (R334; R263; R506; R33; R444; R323) -/
def Obligations.PowerAndReset : Prop :=
  ∀ (s : State),
    let still := (∀ e ∈ s.flash.ops, Tab.get false s.flash.busy e.1 = false) ∧ s.gate.busy = false
    let core := fun (t : State) => t.querns = [] ∧ t.domains = [] ∧ t.lines = [] ∧ t.banks = [] ∧ t.granary = [] ∧ t.host = {} ∧ t.reeves = [] ∧ t.stew = {} ∧
      t.dma = {} ∧ t.tally = {} ∧ t.audio = {} ∧ t.per = {} ∧ t.greq = {} ∧ t.sexton = {} ∧ t.flash.bytes = (cutFlash s).flash.bytes ∧ (still → t.flash.bytes = s.flash.bytes) ∧ t.gate.fuses = s.gate.fuses ∧
      t.faults.log = s.faults.log ∧ t.faults.active = [] ∧ t.jex = s.jex.kept false ∧ t.pending = s.pending
    let reset := fun (t : State) => core t ∧ t.aon.mode = .boot ∧ t.aon.lastMode = 15 ∧ t.aon.tick = s.aon.tick ∧
      ∀ k, Tab.get 0 t.ctrlRam k = if k < retainedWords then Tab.get 0 s.ctrlRam k else 0
    let board := fun (e : BootEnv) => e.selfTest = true ∧ e.fuseDiff = 0 ∧ lcOf s.gate.fuses ≠ 0 ∧ lcOf s.gate.fuses ≠ 5 ∧ e.bootsel.toNat < 2
    let begun := fun (e : BootEnv) (t : State) => sameExcept [.aon, .twin, .warden, .gate, .flash] s t ∧ t.gate.phase = .waitCrystal ∧ t.gate.bootcode = 1 ∧
      t.gate.coldBoot = true ∧ t.gate.attempts = Nat.min (s.gate.attempts + 1) 65535 ∧ t.gate.lc = lcOf s.gate.fuses ∧
      t.gate.svnFloor = fuseFloor s.gate.fuses ∧ t.gate.bootsel = e.bootsel.toNat ∧ t.twin.pos = e.pos ∧ t.gate.fuses = s.gate.fuses
    let steady := s.crier.state = .active ∨ s.crier.triggered = false
    let lose := fun (r : Rails) => { s.aon with rails := s.aon.rails && !r.core, vddOsc := s.aon.vddOsc && !r.osc, vddioA := s.aon.vddioA && !r.audio, vddioH := s.aon.vddioH && !r.host, exact := s.aon.exact && !r.osc }
    let power := fun (t : State) => (t.aon.rails, t.aon.vddOsc, t.aon.vddioA, t.aon.vddioH, t.aon.exact)
    (∀ e, s.aon.vddAon = false → e.resetN = false → completes (.vddAonPowerGood e) s fun t => sameExcept [.aon, .twin, .warden, .gate] s t ∧
      t.aon = { s.aon with vddAon := true, rails := e.rails, vddioH := e.vddioH, vddioA := e.vddioA, vddOsc := e.vddOsc, resetN := false } ∧ t.twin = { s.twin with dutyIn := e.dutyIn } ∧
      t.warden = { s.warden with bootWrite := true } ∧ t.gate = { s.gate with phase := .inReset }) ∧
    (∀ e, s.aon.vddAon = false → e.resetN = true → board e.boot → e.boot.crystal = false → completes (.vddAonPowerGood e) s fun t =>
      begun e.boot t ∧ t.aon.vddAon = true ∧ t.aon.rails = e.rails ∧ t.aon.vddioH = e.vddioH ∧ t.aon.vddioA = e.vddioA ∧ t.aon.vddOsc = e.vddOsc ∧ t.warden = { s.warden with bootWrite := true }) ∧
    (completes .vddAonLoss s fun t => core t ∧ t.aon = {} ∧ t.crier = {} ∧ t.ctrlRam = [] ∧ t.twin = {} ∧ t.warden = {} ∧ t.gate = { fuses := s.gate.fuses }) ∧
    (steady → s.aon.vddAon = true → s.aon.resetN = true → completes .resetNLow s fun t => reset t ∧ t.aon.resetN = false ∧ t.gate.phase = .inReset) ∧
    (s.aon.vddAon = false ∨ s.aon.resetN = false → completes .resetNLow s fun t => sameExcept [.aon] s t ∧ t.aon = { s.aon with resetN := false }) ∧
    (∀ e, s.aon.vddAon = true → s.aon.resetN = false → anyRail s.aon.railLost = false → board e → e.crystal = false → completes (.resetNRelease e) s fun t =>
      begun e t ∧ t.aon.resetN = true ∧ t.warden = if s.gate.attempts = 0 then s.warden else { s.warden with frame := some 800, readback := none }) ∧
    (∀ r, steady → anyRail (s.aon.good r) = true → s.gate.phase ≠ .off → s.gate.phase ≠ .asleep → s.gate.phase ≠ .waking → completes (.railPowerLoss r) s fun t =>
      reset t ∧ power t = power { s with aon := lose r } ∧ t.aon.railLost = railsOr s.aon.railLost (s.aon.good r) ∧ t.gate.phase = .inReset) ∧
    (∀ r, (s.gate.phase = .off ∨ s.gate.phase = .asleep ∨ s.gate.phase = .waking ∨ anyRail (s.aon.good r) = false) → completes (.railPowerLoss r) s fun t =>
      sameExcept [.aon, .flash] s t ∧ t.aon = lose r ∧ t.flash = if r.host then { s.flash with quad := [] } else s.flash) ∧
    (∀ r e, anyRail s.aon.railLost = true → anyRail (railsLeft s.aon.railLost r) = false → s.aon.resetN = true → board e → e.crystal = false →
      completes (.railPowerReturn r e) s fun t => begun e t ∧ t.aon.rails = (s.aon.rails || r.core) ∧ t.aon.vddOsc = (s.aon.vddOsc || r.osc) ∧
        t.aon.vddioA = (s.aon.vddioA || r.audio) ∧ t.aon.vddioH = (s.aon.vddioH || r.host) ∧ anyRail t.aon.railLost = false ∧
        t.warden = { s.warden with frame := some 800, readback := none }) ∧
    (∀ r e, (if anyRail s.aon.railLost then anyRail (railsLeft s.aon.railLost r) = true ∨ s.aon.resetN = false
        else s.gate.phase ≠ .waitCrystal ∧ s.gate.phase ≠ .waitSetpoint) → completes (.railPowerReturn r e) s fun t => sameExcept [.aon] s t ∧
      t.aon = { s.aon with rails := s.aon.rails || r.core, vddOsc := s.aon.vddOsc || r.osc, vddioA := s.aon.vddioA || r.audio, vddioH := s.aon.vddioH || r.host, railLost := railsLeft s.aon.railLost r }) ∧
    (∀ m : Fin 8, taken s m 0x03 (fun t => confirmOk t m) = true → steady → lcOf s.gate.fuses ≠ 0 → lcOf s.gate.fuses ≠ 5 → s.aon.bootselPins < 2 →
      s.aon.exact = true → s.aon.vddioH = true → s.aon.vddOsc = true → usableBytes (Tab.get {} s.flash.sfdp 0) (Tab.get 0 s.flash.size 0) ≠ 0 → completes (.deviceReset m) s fun t =>
      reset t ∧ t.gate.phase = .waitCrier ∧ t.gate.bootcode = 3 ∧ t.gate.attempts = Nat.min (s.gate.attempts + 1) 65535 ∧ t.warden = { frame := some 800 })

/-- A crystal that runs takes a waiting boot to the verification of the Crier stores, what the first flash declares being
recorded. A verified store is installed and
the Crier released; without one the timeout releases it with playback disabled. The end of the host-load window
tries the slots: with none VALID a device in FIELD goes to FALLBACK and backs off. A back-off that expires resets
the core domain and starts an attempt unless held. WAKE_N and the AON timer begin a wake; FAST_WAKE with every rail good releases Reeves 0 and 1 at
their wake entries when the seal agrees, and otherwise boots from step 2. (R503; R476; R336; R337; R357; R360; R331; R362) -/
def Obligations.BootProgress : Prop :=
  ∀ (s : State),
    let g := s.gate
    let again := fun (t : State) => sameExcept [.aon, .gate, .flash] (resetCore s) t ∧ t.host = {} ∧ t.gate.phase = .waitCrystal ∧ t.gate.dueHeld = false ∧ t.gate.backEnd = none ∧
      t.gate.attempts = Nat.min (g.attempts + 1) 65535
    let fromFlash := g.failCode ≠ 15 ∧ g.failCode ≠ 8 ∧ g.lc ≠ 0
    let wakes := fun (c : Instr) => completes c s fun t => sameExcept [.aon, .gate] s t ∧ t.gate = { g with phase := .waking, sleepOk := false } ∧ t.aon.timer = none ∧
      t.aon.mode = .sleep
    (∀ running e, g.phase ≠ .waitCrystal → g.phase ≠ .waitSetpoint → completes (.aonTickSourceChange running e) s fun t => sameExcept [.aon] s t ∧
      t.aon = { s.aon with exact := running && s.aon.vddOsc }) ∧
    (∀ e, g.phase = .waitCrystal → s.aon.vddioH = true → s.aon.vddOsc = true → usableBytes e.sfdp0 e.size0 ≠ 0 → g.coldBoot = true → g.tries = 0 → completes (.aonTickSourceChange true e) s fun t =>
      sameExcept [.aon, .gate, .flash] s t ∧ t.aon.exact = true ∧ t.gate = { g with phase := .waitCrier, bootcode := 3 } ∧
        Tab.get {} t.flash.params 0 = recorded e.sfdp0 (usableBytes e.sfdp0 e.size0)) ∧
    (∀ n, g.phase = .waitCrier → g.bootsel = 1 → g.sampled = true → crierChoice s = some n → s.crier.state = .off →
      completes .crierStoreVerified s fun t => t.gate = { g with crierReleased := true, phase := .hostLoad, bootcode := 6 } ∧
        t.crier.copy = some (crierStoreOf n (flashFile s n crierBase)) ∧ t.crier.store = n + 1 ∧ t.crier.playOk = true ∧
        (s.crier.triggered = false → t.crier.state = .armed) ∧ (s.crier.triggered = true → t.crier.state = .active)) ∧
    (g.phase = .waitCrier → g.bootsel = 1 → g.sampled = true → lcNow s ≠ 5 → g.crierReleased = false → s.crier.state = .off → s.crier.triggered = false →
      completes .crierReleaseTimeout s fun t => sameExcept [.twin, .crier, .gate] s t ∧ t.crier = { s.crier with state := .armed } ∧
        t.gate = { g with crierReleased := true, phase := .hostLoad, bootcode := 6 }) ∧
    (g.phase = .hostLoad → candidates s = [] → g.lc = 3 → completes .hostLoadWindowEnd s fun t => t.gate.phase = .backoff ∧ t.gate.bootcode = 7 ∧
      t.gate.lastCode = 12 ∧ t.gate.tries = g.tries + 1 ∧ t.gate.backoff = Nat.min (2 ^ g.tries) 60 ∧ t.aon.mode = .fallback ∧ t.faults.hwBoot = true) ∧
    (g.phase = .hostLoad → candidates s = [] → g.lc ≠ 3 → completes .hostLoadWindowEnd s fun t => sameExcept [.gate, .faults] s t ∧ t.gate.phase = .halted ∧
      t.gate.halt = true ∧ t.gate.bootcode = 12 ∧ t.faults = { s.faults with hwBoot := true }) ∧
    (∀ e, g.phase = .backoff → g.backEnd.isSome = true → g.hold = true ∨ g.busy = true → completes (.bootBackoffExpiry e) s fun t => sameExcept [.gate] s t ∧
      t.gate = { g with dueHeld := true, backEnd := none, backoff := 0 }) ∧
    (∀ e, g.phase = .backoff → g.backEnd.isSome = true → g.hold = false → g.busy = false → fromFlash → e.crystal = false →
      completes (.bootBackoffExpiry e) s again) ∧
    (∀ e, g.dueHeld = false → completes (.holdTimeout e) s fun t => sameExcept [.gate] s t ∧ t.gate = { g with hold := false }) ∧
    (∀ e, g.dueHeld = true → g.busy = false → g.phase = .backoff → fromFlash → e.crystal = false → completes (.holdTimeout e) s fun t => again t ∧ t.gate.hold = false) ∧
    (s.aon.mode = .sleep → g.phase = .asleep → wakes .wakeNLow ∧ (s.aon.timer = some 0 → wakes .aonTimerExpiry)) ∧
    (∀ e, g.phase = .waking → s.aon.vddioH = true → s.aon.vddioA = true → s.aon.vddOsc = true → e.fuseDiff = 0 → g.sealHeld = true → e.bootsel = 0 → wakeTag s = g.sealTag →
      completes (.fastWake e) s fun t => ∃ u, t = jexStart u ∧ u.gate.fastWake = true ∧ u.gate.sealHeld = false ∧ u.gate.phase = .running ∧ u.gate.bootcode = 0 ∧
        (reeve u 0).run = .running ∧ (reeve u 0).entry = g.entries.getD 2 0 ∧ (reeve u 1).run = .running ∧ (reeve u 1).entry = g.entries.getD 3 0) ∧
    (∀ e, g.phase = .waking → g.sealHeld = false ∨ e.bootsel = 1 → e.fuseDiff = 0 → lcOf g.fuses ≠ 0 → lcOf g.fuses ≠ 5 → e.bootsel.toNat < 2 → e.crystal = false →
      completes (.fastWake e) s fun t => sameExcept [.aon, .twin, .warden, .gate, .flash] s t ∧ t.gate.phase = .waitCrystal ∧ t.gate.wakeSlow = true ∧
        t.gate.sealHeld = false ∧ t.gate.coldBoot = false ∧ t.aon.mode = .boot)

/-- A write with GO while no operation runs sets BUSY and takes OP, SLOT, LENGTH, OFFSET and HOLD; outside the window of
the operation it ends with RESULT 2; a flash operation asks for the port. RETRY ends with RESULT 0 and starts its attempt. SLOT_ERASE leaves the
slot reading 0xFF; SLOT_COMMIT carries out U4 to U8 with RESULT 0, or U4 and U5 with RESULT 4 for an image that does not pass; SLOT_PROGRAM and RAM_LOAD write the words of the transfer buffer where LENGTH and OFFSET allow, else
RESULT 3; FUSE_KEY and LC_SET burn their fuses in BLANK only (RESULT 6) and where the slot and target allow (RESULT
3); a flash operation that fails gives RESULT 5, a RAM_BOOT of an image that does not pass 4. (R359; R339; R364) -/
def Obligations.RecoveryOperations : Prop :=
  ∀ (s : State),
    let g := s.gate
    let starts := fun (c : Instr) (op slot len off : Nat) (hold : Bool) => g.busy = false → completes c s fun t => sameExcept [.gate, .flash] s t ∧
      t.flash = (if rcvOpen s op = true ∧ (op = 1 ∨ op = 3 ∨ (op = 2 ∧ rcvArgs len off = true)) then { s.flash with frame := t.flash.frame, frames := t.flash.frames } else s.flash) ∧
      t.gate = { g with hold := hold, op := op, slot := slot, length := len, offset := off, busy := true, rcvJob := if rcvOpen s op then [op, slot, len, off] else [] }
    let done := fun (op slot len off : Nat) (ok : Bool) (p : State → Prop) => g.busy = true → g.dueHeld = false → g.rcvJob = [op, slot, len, off] → rcvOpen s op = true →
      completes (.recoveryOpDone ok) s fun t => sameExcept [.gate, .flash, .ctrlRam, .fresh] s t ∧ t.gate.busy = false ∧ t.gate.done = true ∧ p t
    (∀ (slot : Fin 2) hold, starts (.slotErase slot hold) 1 slot g.length g.offset hold ∧ starts (.slotCommit slot hold) 3 slot g.length g.offset hold) ∧
    (∀ (slot : Fin 2) (len : BitVec 11) (off : Word) hold, starts (.slotProgram slot len off hold) 2 slot len.toNat off.toNat hold) ∧
    (∀ (len : BitVec 11) (off : Word) hold, starts (.ramLoad len off hold) 4 g.slot len.toNat off.toNat hold) ∧
    (∀ hold, starts (.ramBoot hold) 5 g.slot g.length g.offset hold) ∧
    (∀ (off : Word) hold, starts (.fuseKey off hold) 7 g.slot g.length off.toNat hold ∧ starts (.lcSet off hold) 8 g.slot g.length off.toNat hold) ∧
    (∀ hold e, g.busy = false → rcvOpen s 6 = true → g.failCode ≠ 15 → g.failCode ≠ 8 → g.lc ≠ 0 → e.crystal = false → completes (.retry hold e) s fun t =>
      sameExcept [.aon, .gate, .flash] (if g.phase = .backoff then resetCore s else s) t ∧ t.gate.phase = .waitCrystal ∧ t.gate.halt = false ∧ t.gate.done = true ∧ t.gate.rcvResult = 0 ∧ t.gate.hold = hold ∧
        t.gate.attempts = Nat.min (g.attempts + 1) 65535) ∧
    (∀ ok, g.busy = true → g.dueHeld = false → g.rcvJob = [] → completes (.recoveryOpDone ok) s fun t => sameExcept [.gate] s t ∧
      t.gate = { g with busy := false, done := true, rcvResult := 2 }) ∧
    (∀ slot len off, done 1 slot len off true fun t => t.gate.rcvResult = 0 ∧ t.gate.fuses = g.fuses ∧ ∀ a, a < 4096 ∨ a < regionSize s slot 0 0x110000 → flashByte t slot a = 0xFF) ∧
    (∀ slot len off, done 1 slot len off false fun t => t.gate.rcvResult = 5 ∧
      t.gate.fuses = g.fuses ∧
      t.flash = { s.flash with bytes := t.flash.bytes, chips := t.flash.chips, frame := t.flash.frame, frames := t.flash.frames, readers := t.flash.readers }) ∧
    (∀ slot len off, rcvArgs len off = true → done 2 slot len off true fun t => t.gate.rcvResult = 0 ∧ t.gate.fuses = g.fuses ∧ ∀ i, i < 4 * len →
      flashByte t slot (4096 + off + i) = flashByte s slot (4096 + off + i) &&& (bufBytes s len).getD i 0) ∧
    (∀ op slot len off ok, op = 2 ∨ op = 4 → rcvArgs len off = false → done op slot len off ok fun t => t.gate.rcvResult = 3 ∧ t.flash = s.flash ∧ t.ctrlRam = s.ctrlRam) ∧
    (∀ slot len off, done 3 slot len off true fun t => let u := imageVerified slot (doSteps (commitSteps s slot) s)
      t.gate.rcvResult = (if slotResult u slot = 1 then 0 else 4) ∧ t.flash.bytes = u.flash.bytes) ∧
    (∀ slot len off ok, rcvArgs len off = true → done 4 slot len off ok fun t => t.gate.rcvResult = 0 ∧ t.flash = s.flash ∧
      t.ctrlRam = (ctrlPutBytes (0x10000000 + off) (bufBytes s len) s).ctrlRam) ∧
    (∀ slot len off ok, imageResult s (ramFile s) 0x100000 ≠ 1 → done 5 slot len off ok fun t => t.gate.rcvResult = 4 ∧ t.ctrlRam = s.ctrlRam) ∧
    (∀ op slot len off ok, op = 7 ∨ op = 8 → lcNow s ≠ 0 → done op slot len off ok fun t => t.gate.rcvResult = 6 ∧ t.gate.fuses = g.fuses) ∧
    (∀ slot len off ok, lcNow s = 0 → done 7 slot len off ok fun t => t.gate.rcvResult = (if fuseKeyArgs s off then 0 else 3) ∧
      t.gate.fuses = if fuseKeyArgs s off then g.fuses ||| keyFuses (off % 4) ((List.range 12).map (bufWord s)) else g.fuses) ∧
    (∀ slot len off ok, lcNow s = 0 → done 8 slot len off ok fun t => t.gate.rcvResult = (if lcSetArgs s off then 0 else 3) ∧
      t.gate.fuses = if lcSetArgs s off then (burnRoot s).gate.fuses ||| lcFuses (off % 8) else g.fuses)

/-- For every fuse pattern f and every state whose fuses hold it: if a step answers a next state, the fuses of that
state hold f too, whatever command ran or with none waiting; and the queue of the next state is the queue without
its front command. No command and no event, reset and power loss among them, clears a programmed fuse bit. The queue
is the form of the model (log 1). (R339; R340; R355; R506) -/
def Obligations.FusesAndQueueKept : Prop :=
  ∀ (f : BitVec 2048) (s t : State), (∀ i, f.getLsbD i = true → s.gate.fuses.getLsbD i = true) → step s = .next t →
    (∀ i, f.getLsbD i = true → t.gate.fuses.getLsbD i = true) ∧ t.pending = s.pending.tail

/-- For every state whose granary and control-RAM tables are canonical, addresses strictly rising and no entry equal to
what an unlisted word reads as: if a step answers a next state, the tables of that state are canonical too, whatever
command ran or with none waiting. The canonical list is the form of the model (log 4), over the words R135 and R372
give. (R135; R372) -/
def Obligations.MemoryStaysCanonical : Prop :=
  ∀ s t : State, memoryOk s = true → step s = .next t → memoryOk t = true

/-- MODE is BOOT with LAST_MODE 15, no rail is good, no Quern has a program and every register of it is 0, every domain is OFF with
NEW_RATE 15, no line is valid, every bank is SHARED, the Sexton and the Tally are disabled, every group and port is off with the
code 15 and no window, the Steward has every slot FREE, every queue out of use and a quantum of 2, every DMA channel is idle, the
Reeves are in reset, no request to the Gatehouse runs, the peripheral port has no ticket, the Crier is OFF, the pair SINGLE and the
link DOWN, POOL and leave are 0 at 800 mV, no campaign stands, no mailbox is served and each is FREE, no event, flag and fault is
held, no fuse is programmed (log 5), granaries and control RAM list nothing and read 0 (log 4), and no command waits. Where the spec
gives a register no reset value the value is the choice of the model (log 3). (R20; R69; R150; R163; R230; R231; R263; R308; R328;
R379; R416; R488) -/
def Obligations.ResetLeaves : Prop :=
  ∀ s, s = State.reset →
    (s.aon.mode = .boot ∧ s.aon.lastMode = 15 ∧ s.aon.tick = 0 ∧ s.aon.timer = none ∧ s.aon.vddAon = false ∧ s.aon.rails = false ∧ s.aon.vddioH = false ∧
      s.aon.vddioA = false ∧ s.aon.vddOsc = false) ∧
    (∀ q : Fin 128, let u := quern s q
      u.active = none ∧ u.staged = none ∧ u.running = false ∧ u.muted = false ∧ u.hold = false ∧ u.qOva = false ∧ u.qSat = false ∧ u.qPf = false ∧ u.overruns = 0 ∧
      ∀ i, Tab.get 0 u.nb i = 0 ∧ Tab.get 0 u.ledgerA i = 0 ∧ Tab.get 0 u.ledgerS i = 0 ∧ Tab.get 0 u.scratch i = 0) ∧
    (∀ d : Fin 4, (dom s d).enable = false ∧ (dom s d).state = .off ∧ (dom s d).newRate = 15 ∧ (dom s d).bell = 0 ∧ (dom s d).route = {} ∧
      ∀ k : Fin 8, (slotOf s d k).armed = false ∧ (slotOf s d k).fired = false ∧ (slotOf s d k).missed = false) ∧
    (∀ e : Fin 4096, (line s e).valid = false ∧ (line s e).length = 0 ∧ (line s e).widx = 0 ∧ (line s e).freeze = false) ∧
    (∀ b : Fin 128, (bank s b).owner = 0 ∧ (bank s b).channel = 0 ∧ (bank s b).refused = false ∧ (bank s b).busErr = false ∧ (bank s b).rowPtr = 0 ∧
      (bank s b).sweeps = 0 ∧ (bank s b).remap = [] ∧ (bank s b).fullDone = false) ∧
    (s.sexton.enable = false ∧ s.sexton.domain = 0 ∧ s.sexton.set = 0 ∧ s.tally.xBusy = false ∧ s.tally.xRefused = false ∧
      (∀ n : Fin 32, (lane s n).enable = false ∧ (lane s n).done = false ∧ (lane s n).fault = false) ∧
      ∀ k : Fin 64, (detector s k).enable = false ∧ (detector s k).state = 0 ∧ (detector s k).lossEv = false ∧ (detector s k).presentEv = false) ∧
    (∀ g : Fin 8, let x := group s g
      x.enable = false ∧ x.state = 0 ∧ x.rateCode = 15 ∧ x.rate = 0 ∧ x.phase = 255 ∧ x.bclks = 0 ∧ x.rateEv = false ∧ x.phaseErr = false ∧ x.frameErr = false ∧
        x.clkLoss = false ∧ x.underrun = false ∧ (align s g).state = 0 ∧ (align s g).start = 0) ∧
    (∀ p : Fin 32, (port s p).inEn = false ∧ (port s p).outEn = false ∧ (port s p).inSat = 0 ∧ s.audio.sieveStuck.getLsbD p = false ∧ s.audio.sieveEv.getLsbD p = false) ∧
    (s.audio.syncOut = false ∧ s.audio.inA = [] ∧ s.audio.inS = [] ∧ s.audio.outA = [] ∧ s.audio.outS = [] ∧ s.audio.detA = [] ∧ s.audio.detS = [] ∧
      s.audio.stileA = [] ∧ s.audio.stileS = []) ∧
    (s.stew.quantum = 2 ∧ s.stew.ready = [] ∧ s.stew.delays = [] ∧ s.stew.trEnable = false ∧ s.stew.trFreeze = false ∧ s.stew.trKinds = 0x1F ∧
      (∀ n : Fin 256, (tslot s n).state = .free) ∧ ∀ q : Fin 64, (squeue s q).enable = false ∧ (squeue s q).entries = []) ∧
    (∀ c : Fin 32, (chan s c).state = .idle ∧ (chan s c).count = 0 ∧ (chan s c).doneEv = false ∧ (chan s c).startRefused = false ∧ (chan s c).lastStatus = 0) ∧
    (∀ r : Fin 4, (reeve s r).run = .inReset ∧ (reeve s r).user = false ∧ (reeve s r).regions = [] ∧ (reeve s r).wdog = 0 ∧
      (ring s r).base = 0 ∧ (ring s r).size = 0 ∧ (ring s r).wr = 0 ∧ (ring s r).rd = 0 ∧ selCfg s r = 0) ∧
    (s.greq.busy = false ∧ s.greq.done = false ∧ s.greq.result = 0 ∧ s.per.tickets = [] ∧ s.per.done = [] ∧ s.per.next = 1 ∧ s.per.active = false) ∧
    (s.crier.state = .off ∧ s.crier.triggered = false ∧ s.crier.badMsg = 0 ∧ s.crier.play = none ∧ s.crier.copy = none ∧ s.twin.role = .single ∧ s.twin.link = .down ∧
      s.twin.dutyOut = false ∧ s.twin.events = 0 ∧ s.twin.crcErr = 0 ∧ s.twin.missing = 0) ∧
    (s.warden.pool = 0 ∧ s.warden.granted = 0 ∧ s.warden.free = 0 ∧ s.warden.epoch = 0 ∧ s.warden.setpoint = 800 ∧ s.warden.avsBad = false ∧ s.warden.events = 0 ∧
      s.warden.queue = []) ∧
    (s.host.served = false ∧ s.host.irqEnable = 0 ∧ s.host.rejectCount = 0 ∧ s.host.wrDiscard = 0 ∧ s.host.evq = [] ∧ s.host.lost = 0 ∧ s.host.seq = 0 ∧
      ∀ m : Fin 8, (mbox s m).state = .free) ∧
    (s.vigil.state = .idle ∧ s.vigil.planLen = 0 ∧ s.faults.active = [] ∧ s.faults.hwWdog = false ∧ s.faults.hwOverrun = false ∧ s.faults.hwBoot = false ∧
      s.faults.fwActive = 0 ∧ s.faults.fwUnacked = 0 ∧ s.faults.new = false) ∧
    s.gate.fuses = 0 ∧ s.gate.phase = .off ∧ (∀ h p, granGet s h p = 0) ∧ (∀ k, Tab.get 0 s.ctrlRam k = 0) ∧ memoryOk s = true ∧ s.pending = []

/-- After k steps, k from 1 to N, a glide from v0 to t over N steps shows v0 + q, q being d k / N rounded to the nearest
with ties to even, d = t - v0; every such value lies between v0 and t; after N steps and ever after it shows t, and
the step count no longer moves. The glides of a Quern all take one step together. (R177; R178; R179) -/
def Obligations.GlidesFollowTheLaw : Prop :=
  ∀ (g : Glide) (t : Sample) (n : Nat),
    let v0 := g.value.toInt
    let d := t.toInt - v0
    let at_ := fun (k : Nat) => Nat.repeat Glide.step k (g.begin t n)
    (∀ k, 1 ≤ k → k ≤ n →
      let q := d * k / n
      let rem := d * k - q * n
      (at_ k).value.toInt = v0 + (if (n : Int) < 2 * rem ∨ (2 * rem = n ∧ q % 2 = 1) then q + 1 else q) ∧
      min v0 t.toInt ≤ (at_ k).value.toInt ∧ (at_ k).value.toInt ≤ max v0 t.toInt) ∧
    (∀ k, 1 ≤ n → n ≤ k → (at_ k).value = t ∧ (at_ k).k = n ∧ (at_ (k + 1)) = at_ k) ∧
    (∀ (u : Quern) (r : Nat), Tab.wf {} u.glides = true → (Tab.get {} u.stepGlides.glides r : Glide) = (Tab.get {} u.glides r).step)

/-- For commands of every mailbox group: when the command stands first in doorbell order and a general check or, those
passing, one of its own refuses it, its mailbox holds a reply of LENGTH 2 with the status of that refusal and its
detail word, and nothing but the host port has changed. (R418; R435; R436; R437; R185) -/
def Obligations.RefusedCommands : Prop :=
  ∀ (s : State) (m : Fin 8) (n : Nat),
    let refused := fun (c : Instr) (op : Nat) (own : State → Option Refuse) => ∀ r, atHead s m op = true →
      (generalRefusal (acceptHead m s) m op = some r ∨ (generalRefusal (acceptHead m s) m op = none ∧ own (acceptHead m s) = some r)) →
      completes c s fun t => onlyHost s t ∧ (mbox t m).state = .ready ∧ arg t m 0 = replyHead (arg s m 0) 2 r.status ∧ arg t m 1 = (r.inGroup op).word
    refused (.serviceStart m) 0x01 serviceStartChecks ∧ refused (.configErase m) 0x05 (configEraseChecks m) ∧ refused (.imageCommit m) 0x11 (imageCommitChecks m) ∧
    refused (.fuseWrite m) 0x14 (fuseWriteChecks m) ∧ refused (.lifecycleAdvance m) 0x15 (lifecycleChecks m) ∧ refused (.bundleLoad m) 0x21 (bundleLoadChecks m) ∧
    refused (.paramSetOpen m) 0x30 paramSetOpenChecks ∧ refused (.paramCommit m n) 0x32 (paramCommitChecks m n) ∧ refused (.domainConfig m) 0x40 (domainConfigChecks m) ∧
    refused (.clockGroupConfig m) 0x48 (clockGroupChecks m) ∧ refused (.portConfig m) 0x49 (portConfigChecks m) ∧ refused (.zoneConfig m) 0x50 (zoneConfigChecks m) ∧
    refused (.announceStart m n) 0x54 (announceStartChecks m) ∧ refused (.vigilPlanWrite m) 0x70 (planWriteChecks m) ∧ refused (.pilotConfig m) 0x79 (pilotConfigChecks m) ∧
    refused (.twinArm m) 0x81 twinArmChecks ∧ refused (.twinHandover m) 0x83 twinHandoverChecks ∧ refused (.twinConfig m) 0x84 (twinConfigChecks m) ∧
    refused (.leaveConfig m) 0x91 (leaveConfigChecks m) ∧ refused (.sleepEnter m) 0x93 (sleepChecks m) ∧ refused (.wardenConfig m) 0x95 (wardenConfigChecks m) ∧
    refused (.faultAck m) 0xA2 (faultAckChecks m) ∧ refused (.perSubmit m) 0xB1 (perSubmitChecks m) ∧ refused (.taskInstall m) 0xC0 (taskInstallChecks m) ∧
    refused (.crierPlay m) 0xD1 (crierPlayChecks m) ∧ refused (.crierStop m) 0xD2 crierStopChecks ∧ refused (.traceRead m) 0xE1 (traceReadChecks m)

/-- DUTY_IN asserted makes a SINGLE device at position B give up DUTY_OUT; deasserted it makes an IN_STEP STANDBY device
without a self-fault take over, no group driving the frame in progress, and lets a SINGLE device that claims its outputs drive them,
at position B, or where a reset had released them (log 162), after 4 ms. Training ends UP, or stays in TRAIN with POS_CONFLICT at equal positions; alignment loss is DOWN and ends an
arming; a measured round trip is halved, and a link may go DOWN before it is trained (log 76). A first missing frame is counted; further ones make a DUTY device SINGLE
and a STANDBY one wait for DUTY_IN; a locked domain that follows the link loses its reference with the link and with a
missing frame, not with a frame of which only the CRC is bad, whose marker has come. A join that times out is tried again, the third time refused. (R298; R293; R284;
R285; R307; R275; R61; R296) -/
def Obligations.TwinInputs : Prop :=
  ∀ (s : State),
    let w := s.twin
    let free := w.arm = .idle ∧ w.armMb = none
    let follows := fun (d : Fin 4) => (dom s d).enable && (dom s d).src == 5
    let noted := fun (d : Fin 4) (t : State) => dom t d = { dom s d with lateRun := 0 } ∧ ∀ e, e ≠ d.val → dom t e = dom s e
    let took := fun (t : State) => t.twin.role = .duty ∧ t.twin.dutyOut = true ∧ t.twin.dutyIn = false ∧ t.twin.inStep = false ∧ t.twin.handover = none ∧
      t.twin.events.getLsbD 3 = true ∧ ∀ g : Fin 8, (group t g).drives = false ∧ (group t g).tail = false
    (completes .dutyInAssert s fun t => sameExcept [.twin] s t ∧ t.twin = { w with dutyIn := true, settled := false, released := false, dutyOut := (match w.role with | .duty => true | .standby => false | .single => claims s && w.dutyOut && !w.pos) }) ∧
    (mayTakeOver s = true → w.handover = none → completes .dutyInDeassert s fun t =>
      took t ∧ (s.vigil.state ≠ .running → sameExcept [.domains, .audio, .lines, .banks, .granary, .tally, .twin, .warden, .host, .dma, .flash, .jex, .vigil] s t)) ∧
    (mayTakeOver s = false → completes .dutyInDeassert s fun t => sameExcept [.twin] s t ∧ t.twin = { w with dutyIn := false, settled := false, dutyOut := (match w.role with | .duty => true | .standby => false | .single => claims s && (w.dutyOut || !(w.pos || (w.released && s.aon.mode != .service && s.aon.mode != .vigil)))) }) ∧
    (w.dutyIn = false → completes .dutyInSettle s fun t => sameExcept [.twin] s t ∧ t.twin = { w with settled := true, released := false, dutyOut := (match w.role with | .duty => true | .standby => false | .single => claims s) }) ∧
    (∀ proto rel, w.linkEn = true → w.link ≠ .up → completes (.linkTrainingDone w.pos proto rel) s fun t => sameExcept [.twin] s t ∧ t.twin.link = .train ∧
      t.twin.events.getLsbD 6 = true) ∧
    (∀ proto rel, w.linkEn = true → w.link ≠ .up → completes (.linkTrainingDone (!w.pos) proto rel) s fun t => sameExcept [.twin, .host] s t ∧ t.twin.link = .up ∧
      t.twin.peerProto = proto.toNat ∧ t.twin.peerRelease = rel.toNat ∧ (proto.toNat = w.proto → t.host = s.host ∧ t.twin.events = w.events) ∧
      (proto.toNat ≠ w.proto → t.twin.events.getLsbD 7 = true)) ∧
    (free → w.link ≠ .down → completes .linkAlignLoss s fun t => sameExcept [.domains, .twin, .host] s t ∧ t.twin = { w with link := .down } ∧
      ((∀ d : Fin 4, follows d = false) → t.domains = s.domains ∧ t.host = s.host) ∧
      ∀ d : Fin 4, follows d = true → (dom s d).state = .locked → (dom t d).state = .holdover) ∧
    (∀ m, w.armMb = some m → w.arm ≠ .idle → w.link ≠ .down → completes .linkAlignLoss s fun t => t.twin.link = .down ∧ t.twin.arm = .idle ∧ t.twin.armMb = none ∧
      (mbox t m).state = .ready ∧ arg t m 0 = replyHead (arg s m 0) 2 5 ∧ fld (arg t m 1) 24 8 = 0x8A) ∧
    (∀ ns, w.link ≠ .down → completes (.linkRttMeasure ns) s fun t => sameExcept [.twin] s t ∧ t.twin = { w with latency := Nat.min (ns / 2) 65535 }) ∧
    (w.role = .standby → w.waitDuty = true → w.dutyIn = true → completes .linkLostTimeout s fun t => sameExcept [.domains, .twin, .host] s t ∧ t.twin.role = .single ∧
      t.twin.inStep = false ∧ t.twin.handover = none ∧ t.twin.waitDuty = false ∧ t.twin.events.getLsbD 5 = true) ∧
    (w.role = .standby → w.waitDuty = true → w.dutyIn = false → completes .linkLostTimeout s took) ∧
    (∀ (d : Fin 4) bad, (dom s d).enable = true → w.linkEn = true → (peer s d).missRun = 0 → completes (.twinFrameMissing d bad) s fun t => sameExcept [.domains, .twin, .host] s t ∧
      (follows d = false ∨ bad = true → noted d t ∧ t.host = s.host) ∧ (follows d = true → bad = false → (dom s d).state = .locked → (dom t d).state = .holdover) ∧
      t.twin = { w with missing := Nat.min (w.missing + 1) 255, crcErr := Nat.min (w.crcErr + b2n bad) 255, peers := t.twin.peers } ∧
      (∀ e, e ≠ d.val → peer t e = peer s e) ∧ peer t d = { peer s d with missRun := 1, heartbeat := ((peer s d).heartbeat + 1) % 256, mirrorOk := false, good := 0 }) ∧
    (∀ (d : Fin 4) bad, (dom s d).enable = true → w.linkEn = true → 1 ≤ (peer s d).missRun →
      (w.role = .duty → completes (.twinFrameMissing d bad) s fun t => t.twin.role = .single ∧ t.twin.events.getLsbD 5 = true) ∧
      (mayTakeOver s = true → w.dutyIn = true → completes (.twinFrameMissing d bad) s fun t => sameExcept [.domains, .twin, .host] s t ∧
        (follows d = false ∨ bad = true → noted d t ∧ t.host = s.host) ∧ t.twin.role = .standby ∧ t.twin.waitDuty = true) ∧
      (mayTakeOver s = true → w.dutyIn = false → completes (.twinFrameMissing d bad) s took)) ∧
    (∀ m, w.armMb = some m → w.arm = .join ∨ w.arm = .catchup ∨ w.arm = .verify →
      (w.attempts < 2 → completes .joinTimeout s fun t => t.twin.arm = .copy ∧ t.twin.attempts = w.attempts + 1 ∧ t.twin.joinBell = [] ∧ t.twin.replay = [] ∧ t.twin.armMb = some m) ∧
      (2 ≤ w.attempts → completes .joinTimeout s fun t => t.twin.arm = .idle ∧ t.twin.armMb = none ∧ (mbox t m).state = .ready ∧
        arg t m 0 = replyHead (arg s m 0) 2 6 ∧ fld (arg t m 1) 24 8 = 0x88))

/-- A handover packet is acknowledged by a device that may take over; an acknowledgement in time is noted; at the
handover edge the outgoing device is SINGLE without DUTY_OUT, the incoming one DUTY. A whole Bell frame is noted for
its domain, a broken one counted. Followed control packets mirror plan words, one by one from word 0 on (log 22), and discards (log 157); with the link not UP
nothing happens, and a packet with a wrong CRC-32C, told by its row (log 22), is counted and dropped. Copy packets write write-indices, ledgers, rows of TWIN_COPY banks and the join Bell. TWIN_ARM
begins CHECK and stays pending; TWIN_DISARM ends SINGLE, the domains of a STANDBY device with their own sources; TWIN_HANDOVER raises self-fault and answers the second Bell
from now; TWIN_CONFIG writes TWIN_CFG. (R297; R298; R295; R291; R289; R180; R304; R302; R310; R309; R301) -/
def Obligations.TwinPackets : Prop :=
  ∀ (s : State) (m : Fin 8),
    let w := s.twin
    let free := w.arm = .idle ∧ w.armMb = none
    let dropped := fun (c : Instr) => completes c s fun t => sameExcept [.twin] s t ∧ t.twin = { w with crcErr := Nat.min (w.crcErr + 1) 255 }
    let copying := w.link = .up ∧ joiner s = true ∧ (w.arm = .copy ∨ w.arm = .join)
    (∀ (d : Fin 4) b, free → w.link = .up → completes (.handoverPacketReceived d b true) s fun t => sameExcept [.twin] s t ∧
      t.twin = { w with handover := if mayTakeOver s then some { domain := d, bell := b, acked := true, incoming := true } else w.handover }) ∧
    (w.link = .up → dropped (.handoverAckReceived true false) ∧ dropped (.handoverAckReceived false false) ∧ (∀ (d : Fin 4) b, dropped (.handoverPacketReceived d b false)) ∧
      (∀ msg, dropped (.twinMessageReceived msg false)) ∧ ∀ p, dropped (.copyPacketReceived p false)) ∧
    (w.link ≠ .up → ∀ ok, (∀ e, exec (.handoverAckReceived e ok) s = .next s) ∧ (∀ (d : Fin 4) b, exec (.handoverPacketReceived d b ok) s = .next s) ∧
      ∀ p, exec (.copyPacketReceived p ok) s = .next s) ∧
    (∀ h, w.link = .up → w.role = .duty → w.handover = some h → h.acked = false → completes (.handoverAckReceived true true) s fun t => sameExcept [.twin] s t ∧
      t.twin = { w with handover := some { h with acked := true } }) ∧
    (∀ h, quiet s → w.link = .up → w.role = .duty → w.handover = some h → h.acked = false → completes (.handoverAckReceived false true) s fun t => t.twin.role = .single ∧ t.twin.handover = none ∧
      (w.dutyOut = true → w.dutyIn = false → s.aon.mode = .service ∨ s.aon.mode = .vigil → t.twin.dutyOut = true)) ∧
    (∀ h, quiet s → w.handover = some h → h.acked = true → (dom s h.domain).bell + 1 = h.bell →
      (h.incoming = false → completes .handover s fun t => t.twin.role = .single ∧ t.twin.dutyOut = false ∧ t.twin.events.getLsbD 2 = true) ∧
      (h.incoming = true → completes .handover s fun t => t.twin.role = .duty ∧ t.twin.dutyOut = true ∧ t.twin.events.getLsbD 3 = true ∧
        ∀ g : Fin 8, (group t g).drives = false ∧ (group t g).tail = false)) ∧
    (∀ (d : Fin 4) ws since, free → w.role = .single → w.link = .up → frameWhole d ws = true → (peer s d).seen = false → completes (.bellFrameReceived d ws since) s fun t =>
      sameExcept [.twin] s t ∧ t.twin.role = .single ∧ (∀ e, e ≠ d.val → peer t e = peer s e) ∧ (peer t d).seen = true ∧ (peer t d).missRun = 0 ∧
        (peer t d).bell = frameBell ws ∧ (peer t d).role = fld (ws.getD 0 0) 24 2 ∧ (peer t d).inStep = bit (ws.getD 0 0) 5 ∧
        (peer t d).selfFault = bit (ws.getD 0 0) 7 ∧ (peer t d).heartbeat = fld (ws.getD 0 0) 8 8) ∧
    (∀ (d : Fin 4) ws since, w.link = .up → frameWhole d ws = false → (dom s d).enable = true → (peer s d).missRun = 0 → completes (.bellFrameReceived d ws since) s fun t =>
      sameExcept [.domains, .twin] s t ∧ dom t d = { dom s d with lateRun := 0 } ∧ (∀ e, e ≠ d.val → dom t e = dom s e) ∧ t.twin.crcErr = Nat.min (w.crcErr + 1) 255 ∧ t.twin.missing = Nat.min (w.missing + 1) 255 ∧ (peer t d).missRun = 1) ∧
    (∀ msg ok, w.link ≠ .up → exec (.twinMessageReceived msg ok) s = .next s) ∧
    (∀ off v, w.link = .up → follows s = true → completes (.twinMessageReceived (.planWord off v) true) s fun t => sameExcept [.vigil] s t ∧
      t.vigil.planLen = Nat.max (if off = 0 then 0 else s.vigil.planLen) (off + 1) ∧
      ∀ i, planWord t i = if i = off then v else if off = 0 then 0 else planWord s i) ∧
    (∀ n : Fin 8, w.link = .up → follows s = true → completes (.twinMessageReceived (.discard n) true) s fun t => sameExcept [.querns, .domains, .host, .jex] s t ∧
      (hostSet t n).state = .discarded ∧ (hostSet t n).claims = [] ∧ (hostSet t n).staged = [] ∧ ∀ k, k ≠ n.val → hostSet t k = hostSet s k) ∧
    (∀ (e : Fin 4096) i, copying → completes (.copyPacketReceived (.lineIdx e i) true) s fun t => sameExcept [.lines] s t ∧ line t e = { line s e with widx := i } ∧
      ∀ k, k ≠ e.val → line t k = line s k) ∧
    (∀ (q : Fin 128) a v, copying → completes (.copyPacketReceived (.ledger q false a [v]) true) s fun t => onlyQuern q s t ∧
      ∀ i, Tab.get 0 (quern t q).ledgerA i = if i = a then v else Tab.get 0 (quern s q).ledgerA i) ∧
    (∀ a v, copying → addrOk a = true → (bank s (posBank (addrHamlet a) (addrPos a))).owner = 4 → completes (.copyPacketReceived (.rows a [v]) true) s fun t =>
      sameExcept [.granary] s t ∧ ∀ h p, p < hamletWords → granGet t h p = if h = addrHamlet a ∧ p = addrPos a then v else granGet s h p) ∧
    (∀ (d : Fin 4) b, copying → completes (.copyPacketReceived (.joinAt d b) true) s fun t => sameExcept [.twin] s t ∧ Tab.get 0 t.twin.joinBell d = b ∧
      ((∀ k ∈ enabledDoms s, Tab.get 0 t.twin.joinBell k ≠ 0) → t.twin.arm = .join)) ∧
    (taken s m 0x81 twinArmChecks = true → completes (.twinArm m) s fun t => pendingIn s t m ∧ sameExcept [.twin, .host] s t ∧
      t.twin = { w with arm := .check, armMb := some m.val, armOk := false, peerArm := 0, attempts := 0 }) ∧
    (taken s m 0x82 noChecks = true → free → w.role ≠ .duty → replies (.twinDisarm m) s m [0] [.domains, .twin, .host] fun t => t.twin.role = .single ∧ t.twin.inStep = false ∧
      t.twin.selfFault = false ∧ t.twin.handover = none ∧ (w.role = .single → t.domains = s.domains) ∧
      ∀ d : Fin 4, let own := (w.ownSrc.toNat >>> (7 * d.val + 3)) % 16
        w.role = .standby → (dom s d).src = 5 → 1 ≤ own → own ≤ 5 → (dom t d).src = own) ∧
    (∀ d, taken s m 0x83 twinHandoverChecks = true → w.handover = none → faultDomain s = some d →
      replies (.twinHandover m) s m [bellLo ((dom s d).bell + 2)] [.twin, .host] fun t =>
        t.twin = { w with selfFault := true, handover := some { domain := d, bell := (dom s d).bell + 2 } }) ∧
    (taken s m 0x84 (twinConfigChecks m) = true → free → replies (.twinConfig m) s m [0] [.domains, .twin, .host] fun t =>
      let on := bit (arg s m 1) 31
      (on = true ∨ (∀ d : Fin 4, (dom s d).enable = false ∨ (dom s d).src ≠ 5) → t.domains = s.domains) ∧
      t.twin = { w with linkEn := on, lateHo := fld (arg s m 1) 28 3, sieveTx := arg s m 2, sieveRx := arg s m 3, ownSrc := (arg s m 4).setWidth 28, proto := t.twin.proto, link := t.twin.link } ∧
      (on = false → t.twin.link = .down) ∧ (on = true → t.twin.proto = 6 ∧ t.twin.link = if w.link = .down then .train else w.link))

/-- NOP_FRAME, READ_FRAME and EVENT_POP complete. While the port serves frames an accepted one shifts out the status word,
then zeros or the words read, adds 1 to SEQ modulo 16 and leaves no error; a READ of 0 to 64 words at any address
marks the replies whose word 0 it read; the READ of the one word 0x00A, EVENT_POP, takes the head event away; a slow
first word of 0x040 to 0x0FF repeats the status word with UNDERRUN; a word above 0x3FF is 0, with ADDR_OVER. While
the port serves none, nothing happens. A frame of a wrong length, too long, of an unknown code, or a WRITE_RING that
may not ring, changes no mailbox and no event, and leaves REASON 1 to 4 and one more in the count. A NOP_FRAME with a
code of another kind of frame stands for code 0 (log 31). (R409; R429; R413; R414; R421; R410; R411; R412; R423) -/
def Obligations.HostFramesRead : Prop :=
  ∀ (s : State),
    let h := s.host
    let good := fun (n : Nat) => 32 ≤ n ∧ n ≤ 2080 ∧ n % 32 = 0
    let ends := fun (g : HostPort) (n : Nat) (ws : List Word) =>
      { g with rejected := false, reason := 0, underrun := false, addrOver := false, fresh := false, seq := (h.seq + 1) % 16, bitCount := n, miso := ws }
    let refused := fun (c : Instr) (r : Nat) => completes c s fun t => onlyHost s t ∧ t.host.mbs = h.mbs ∧ t.host.evq = h.evq ∧
      t.host.irqEnable = h.irqEnable ∧ t.host.doorbells = h.doorbells ∧ t.host.rejected = true ∧ t.host.reason = r ∧ t.host.fRejected = true ∧
      t.host.rejectCount = Nat.min (h.rejectCount + 1) 65535
    let allFour := fun (n r : Nat) => ∀ (code : BitVec 8) (addr : BitVec 16) (slow : Bool) (data : List Word),
      refused (.nopFrame code n) r ∧ refused (.readFrame addr n slow) r ∧ refused (.writeFrame addr data n) r ∧ refused (.writeRing addr data n) r
    (∀ a, 0x3FF < a → windowWord s a = 0) ∧
    (portServes s = false → exec .eventPop s = .next s ∧ ∀ (code : BitVec 8) (addr : BitVec 16) (slow : Bool) (data : List Word) n,
      exec (.nopFrame code n) s = .next s ∧ exec (.readFrame addr n slow) s = .next s ∧ exec (.writeFrame addr data n) s = .next s ∧ exec (.writeRing addr data n) s = .next s) ∧
    (portServes s = true → ∀ (code : BitVec 8) n, code.toNat ≤ 3 → good n → completes (.nopFrame code n) s fun t => onlyHost s t ∧
      t.host = ends h n (statusWord s :: List.replicate (n / 32 - 1) 0)) ∧
    (portServes s = true → ∀ (addr : BitVec 16) n slow, n ≤ 64 → completes (.readFrame addr (32 * (n + 1)) slow) s fun t => onlyHost s t ∧
      let under := slow && decide (1 ≤ n ∧ 0x040 ≤ addr.toNat ∧ addr.toNat ≤ 0x0FF)
      let past := decide (1 ≤ n ∧ 0x400 < addr.toNat + n)
      let pops := bootPort s = false ∧ addr.toNat = 0x00A ∧ n = 1
      t.host = { ends { h with mbs := t.host.mbs, evq := if pops then h.evq.drop 1 else h.evq } (32 * (n + 1))
          (statusWord s :: (List.range n).map fun i => if i = 0 ∧ under = true then statusWord s else windowWord s (addr.toNat + i)) with
        underrun := under, fUnderrun := h.fUnderrun || under, addrOver := past, fAddrOver := h.fAddrOver || past } ∧
      ∀ m : Fin 8, mbox t m = if bootPort s = false ∧ addr.toNat ≤ 0x200 + 64 * m.val ∧ 0x200 + 64 * m.val < addr.toNat + n ∧ (mbox s m).state = .ready then
        { mbox s m with words := Tab.set 0 (mbox s m).words 0 (arg s m 0 ||| 0x8000#32) } else mbox s m) ∧
    (portServes s = true → completes .eventPop s fun t => onlyHost s t ∧
      t.host = ends { h with evq := if bootPort s = true then h.evq else h.evq.drop 1 } 64 [statusWord s, windowWord s 0x00A]) ∧
    (portServes s = true → (∀ n, n = 0 ∨ n % 32 ≠ 0 → allFour n 1) ∧ (∀ n, 2080 < n → n % 32 = 0 → allFour n 2) ∧
      (∀ (code : BitVec 8) n, good n → 3 < code.toNat → refused (.nopFrame code n) 3) ∧
      ∀ (addr : BitVec 16) data n, good n → (∀ m : Fin 8, addr.toNat = 0x200 + 64 * m.val → n = 32 ∨ h.served = false ∨ (mbox s m).state ≠ .free) →
        refused (.writeRing addr data n) 4)

/-- A one-word WRITE stores into a FREE mailbox; into another it is discarded and counted. A WRITE of IRQ_ENABLE keeps
bits 12 to 0; beyond 0x3FF it is discarded with ADDR_OVER; where only the words of a boot are served, 0x200 to 0x3FF
is the transfer buffer. WRITE_RING to a FREE mailbox stores its words and leaves it RINGING. A latched doorbell
makes it QUEUED and last in order; an unknown opcode at the front is refused with status 2 (log 60). MB_RELEASE frees READY
mailboxes, ignoring others with RELEASE_IGN; HP_COUNT_CLR clears the counts. (R413; R421; R419; R424; R416; R414;
R422; R437; R438) -/
def Obligations.HostFramesWrite : Prop :=
  ∀ (s : State) (m : Fin 8),
    let h := s.host
    let ends := fun (g : HostPort) (n : Nat) (ws : List Word) =>
      { g with rejected := false, reason := 0, underrun := false, addrOver := false, fresh := false, seq := (h.seq + 1) % 16, bitCount := n, miso := ws }
    let others := fun (t : State) => ∀ k : Fin 8, k ≠ m → mbox t k = mbox s k
    let word := fun (addr : BitVec 16) (v : Word) (p : State → Prop) => completes (.writeFrame addr [v] 64) s fun t => onlyHost s t ∧ p t
    let discarded := fun (g : HostPort) => { g with fWrDiscard := true, wrDiscard := Nat.min (h.wrDiscard + 1) 65535 }
    (portServes s = true → ∀ (addr : BitVec 16) v,
      (∀ i : Fin 64, bootPort s = false → addr.toNat = 0x200 + 64 * m.val + i.val → (mbox s m).state = .free → word addr v fun t =>
        t.host = ends { h with mbs := t.host.mbs } 64 [statusWord s, 0] ∧ others t ∧ mbox t m = { mbox s m with words := Tab.set 0 (mbox s m).words i v }) ∧
      (∀ i : Fin 64, bootPort s = false → addr.toNat = 0x200 + 64 * m.val + i.val → (mbox s m).state ≠ .free → word addr v fun t =>
        t.host = discarded (ends h 64 [statusWord s, 0])) ∧
      (bootPort s = false → addr.toNat = 0x002 → word addr v fun t => t.host = { ends h 64 [statusWord s, 0] with irqEnable := v &&& 0x1FFF#32 }) ∧
      (0x3FF < addr.toNat → word addr v fun t => t.host = { discarded (ends h 64 [statusWord s, 0]) with addrOver := true, fAddrOver := true }) ∧
      (bootPort s = true → 0x200 ≤ addr.toNat → addr.toNat ≤ 0x3FF → word addr v fun t =>
        t.host = { ends h 64 [statusWord s, 0] with buf := Tab.set 0 h.buf (addr.toNat - 0x200) v }) ∧
      (∀ data : List Word, 1 ≤ data.length → data.length ≤ 64 → addr.toNat = 0x200 + 64 * m.val → h.served = true → (mbox s m).state = .free →
        completes (.writeRing addr data (32 * (data.length + 1))) s fun t => onlyHost s t ∧
          t.host = ends { h with mbs := t.host.mbs } (32 * (data.length + 1)) (statusWord s :: List.replicate data.length 0) ∧ others t ∧
          mbox t m = { state := .ringing, words := Tab.setRun 0 (mbox s m).words 0 data })) ∧
    ((mbox s m).state = .ringing → (∀ k, (h.doorbells ++ [m.val]).head? = some k → (cmdRow (cmdOp s k)).isSome = true) →
      completes (.doorbellLatch m) s fun t => onlyHost s t ∧ t.host = { h with mbs := t.host.mbs, doorbells := h.doorbells ++ [m.val] } ∧ others t ∧
        mbox t m = { mbox s m with state := .queued }) ∧
    ((mbox s m).state = .ringing → h.doorbells = [] → jexOn s = true → h.served = true → cmdRow (cmdOp s m) = none →
      completes (.doorbellLatch m) s fun t => onlyHost s t ∧ t.host.doorbells = [] ∧ others t ∧ (mbox t m).state = .ready ∧
        arg t m 0 = replyHead (arg s m 0) 2 2 ∧ arg t m 1 = (Refuse.mk 2 0xF0 0x7F none).word) ∧
    (portServes s = true → bootPort s = false → ∀ v : Word, completes (.mbRelease v) s fun t => onlyHost s t ∧
      t.host = { h with mbs := t.host.mbs, fReleaseIgn := t.host.fReleaseIgn } ∧
      (∀ k : Fin 8, mbox t k = if v.getLsbD k.val = true ∧ (mbox s k).state = .ready then {} else mbox s k) ∧
      (t.host.fReleaseIgn = true ↔ h.fReleaseIgn = true ∨ ∃ k : Fin 8, v.getLsbD k.val = true ∧ (mbox s k).state ≠ .ready)) ∧
    (portServes s = true → bootPort s = false → ∀ v : Word, completes (.hpCountClr v) s fun t => onlyHost s t ∧
      t.host = if v.getLsbD 0 then { h with rejectCount := 0, wrDiscard := 0, lost := 0 } else h)

/-- REGISTER_WRITE reaches IRQ_ENABLE from the host and a word of control RAM from a Reeve in supervisor state, and
nothing from a Reeve that is not in the state it names; outside the regions of its task a user write, one by a row of its own
included, is discarded, a user read is 0, and the task faults. A supervisor read gives the word of control RAM, 0 at an address above the map. An armed commit slot takes mask and Bell, or MISSED where
the Bell is past, and the armed set it serves is then MISSED; a route swap slot likewise; a valid line entry keeps its fields. SEAL, OPEN and WAKE_SEAL take
their operands unless a request runs; its end writes DONE and RESULT with its effect: 0, 1 for an SVN above, 3 for
bad operands, 4 while a fuse is programmed. (R13; R172; R183; R192; R138; R379; R361; R353; R373;
R371; R372) -/
def Obligations.ReeveRegisters : Prop :=
  ∀ (s : State) (r : Fin 4),
    let q := s.greq
    let ctl := reeveCtl s r = true
    let out := fun (a : Nat) => reeveRuns s r = true ∧ (reeve s r).user = true ∧ ∀ g ∈ (reeve s r).regions, g.permits a true = false
    let traps := fun (c : Instr) (a : Nat) => out a → completes c s fun t => t = taskFault r a s
    let taken := fun (op p v src dst len : Nat) (t : State) => sameExcept [.greq] s t ∧
      t.greq = { q with op := op, purpose := p, svn := v, src := src, dst := dst, len := len, job := [op, p, v, src, dst, len], busy := true }
    let done := fun (n : Nat) (t : State) => t.greq = { q with busy := false, done := true, result := n, job := [] }
    let bad := fun (n : Nat) => completes .ghRequestDone s fun t => sameExcept [.greq] s t ∧ done n t
    (∀ v : Word, portServes s = true → bootPort s = false → completes (.registerWrite .host 2 v) s fun t => onlyHost s t ∧
      t.host = { s.host with irqEnable := v &&& 0x1FFF#32 }) ∧
    (∀ (k : Nat) (v : Word), k < 0x100000 → reeveRuns s r = true → (reeve s r).user = false →
      completes (.registerWrite (.reeve r false) (BitVec.ofNat 32 (0x10000000 + 4 * k)) v) s fun t => sameExcept [.ctrlRam] s t ∧
        ∀ j, Tab.get 0 t.ctrlRam j = if j = k then v else Tab.get 0 s.ctrlRam j) ∧
    (∀ user (a v : Word), reeveRuns s r = false ∨ (reeve s r).user ≠ user → completes (.registerWrite (.reeve r user) a v) s fun t => t = s) ∧
    (∀ a v : Word, traps (.registerWrite (.reeve r true) a v) a.toNat) ∧
    (∀ (d : Fin 4) (k : Fin 8) (e : Fin 4096) (i : Fin 4) (bk : Fin 128) (p : BitVec 2) (n : BitVec 6) (w lo len : Word) (mask : BitVec 128),
      traps (.commitSlotArm r d k w lo mask) (0x23000008 + 0x100 * d.val + 0x20 * k.val) ∧ traps (.routeSwapArm r d w lo) (0x23000404 + 0x10 * d.val) ∧
      traps (.lineEntryWrite r e i w) (0x22000000 + 0x10 * e.val + 4 * i.val) ∧ traps (.bankOwnerWrite r bk w) (0x22100000 + 0x80 * bk.val) ∧
      traps (.seal r p n w lo len) 0x23500004 ∧ traps (.openObj r p n w lo len) 0x23500004 ∧ traps (.wakeSeal r w len) 0x23500004) ∧
    (∀ a : Nat, (∀ g ∈ (reeve s r).regions, g.permits a false = false) → reeveRead r true a s = (0, taskFault r a s)) ∧
    (∀ k : Nat, k < 0x100000 → reeveRead r false (0x10000000 + 4 * k) s = (Tab.get 0 s.ctrlRam k, s)) ∧
    (∀ a : Nat, 0x26001000 ≤ a → reeveRead r false a s = (0, s)) ∧
    (∀ (d : Fin 4) (k : Fin 8) (w lo : Word) (mask : BitVec 128), ctl → completes (.commitSlotArm r d k w lo mask) s fun t =>
      sameExcept [.domains, .jex] s t ∧ (∀ e, e ≠ d.val → dom t e = dom s e) ∧ t.jex = { s.jex with sets := t.jex.sets } ∧
      dom t d = { dom s d with slots := (dom t d).slots } ∧ (∀ j : Fin 8, j ≠ k → slotOf t d j = slotOf s d j) ∧
      let c := slotOf s d k
      let y := { c with mask := mask, bell := bellOf (fld w 0 16) lo.toNat, next := bit w 30, fired := c.fired && !bit w 29, missed := c.missed && !bit w 28, deferred := c.deferred && !bit w 27 }
      let miss := y.next = false ∧ y.bell.toNat ≤ (dom s d).bell.toNat
      let serves := fun (n : Nat) => c.set = some n ∧ (hostSet s n).state = .armed
      (miss → slotOf t d k = { y with armed := false, missed := true, set := if c.set.any (fun n => (hostSet s n).state == .armed) then none else c.set }) ∧
      (¬ miss → slotOf t d k = if c.armed = true then y else { y with armed := true, set := none, own := [], images := [], waits := false }) ∧
      (∀ n, miss → serves n → hostSet t n = { hostSet s n with state := .missed, slot := none }) ∧
      ∀ n, ¬ (miss ∧ serves n) → hostSet t n = hostSet s n) ∧
    (∀ (d : Fin 4) (w lo : Word), ctl → completes (.routeSwapArm r d w lo) s fun t => onlyDomain d s t ∧
      let x := (dom s d).route
      let y := { x with bell := bellOf (fld w 0 16) lo.toNat, next := bit w 30, fired := x.fired && !bit w 29, missed := x.missed && !bit w 28 }
      dom t d = { dom s d with route := if y.next = false ∧ y.bell.toNat ≤ (dom s d).bell.toNat then { y with armed := false, missed := true } else { y with armed := true } }) ∧
    (∀ (e : Fin 4096) (i : Fin 4) (v : Word), ctl → completes (.lineEntryWrite r e i v) s fun t => sameExcept [.lines] s t ∧
      (∀ j, j ≠ e.val → line t j = line s j) ∧
      let l := line s e
      (i.val = 2 → line t e = l) ∧ (i.val = 1 → l.valid = true → line t e = l) ∧ (i.val = 0 → l.valid = true → line t e = { l with valid := bit v 31 }) ∧
      (i.val = 0 → l.valid = false → line t e = { l with valid := bit v 31, cross := bit v 30, domain := fld v 28 2, base := fld v 0 25, widx := if bit v 31 then 0 else l.widx }) ∧
      (i.val = 1 → l.valid = false → line t e = { l with owner := fld v 22 7, length := fld v 0 22 }) ∧
      (i.val = 3 → line t e = { l with freeze := bit v 2, clamped := l.clamped && !bit v 1, busErr := l.busErr && !bit v 0, stored := if l.valid then l.stored else bit v 3 })) ∧
    (∀ (p : BitVec 2) (v : BitVec 6) (src dst len : Word), ctl → q.busy = false →
      completes (.seal r p v src dst len) s (taken 0 p.toNat v.toNat src.toNat dst.toNat len.toNat) ∧
      completes (.openObj r p v src dst len) s (taken 1 p.toNat v.toNat src.toNat dst.toNat len.toNat) ∧
      completes (.wakeSeal r src len) s (taken 2 q.purpose q.svn src.toNat q.dst len.toNat)) ∧
    (∀ (p : BitVec 2) (v : BitVec 6) (src dst len : Word), ctl → q.busy = true → completes (.seal r p v src dst len) s (fun t => t = s) ∧
      completes (.openObj r p v src dst len) s (fun t => t = s) ∧ completes (.wakeSeal r src len) s (fun t => t = s)) ∧
    (∀ p v src dst len, q.busy = true →
      let unfit := p = 0 ∨ 3 < p ∨ ctrlRange src len = false
      (q.job = [2, p, v, src, dst, len] → fuseBusy s = true → bad 4) ∧
      (q.job = [2, p, v, src, dst, len] → fuseBusy s = false → resumeRange src len = false → bad 3) ∧
      (q.job = [2, p, v, src, dst, len] → fuseBusy s = false → resumeRange src len = true → completes .ghRequestDone s fun t => sameExcept [.gate, .greq] s t ∧
        done 0 t ∧ t.gate = { s.gate with wakeCount := (s.gate.wakeCount + 1) % 4294967296, resBase := src, resLen := len, sealHeld := true, sealTag := wakeTag t }) ∧
      (q.job = [0, p, v, src, dst, len] → unfit ∨ len = 0 ∨ 65536 < len ∨ ctrlRange dst (len + 48) = false → bad 3) ∧
      (q.job = [1, p, v, src, dst, len] → unfit ∨ len < 49 ∨ 65584 < len ∨ ctrlRange dst (len - 48) = false → bad 3) ∧
      (q.job = [0, p, v, src, dst, len] → ¬ unfit → 1 ≤ len → len ≤ 65536 → ctrlRange dst (len + 48) = true → s.gate.svn < v → bad 1) ∧
      (q.job = [0, p, v, src, dst, len] → ¬ unfit → 1 ≤ len → len ≤ 65536 → ctrlRange dst (len + 48) = true → v ≤ s.gate.svn →
        completes .ghRequestDone s fun t => sameExcept [.ctrlRam, .fresh, .greq] s t ∧ done 0 t ∧ ∃ b : List (BitVec 8), b.length = len + 48 ∧
          b.take 32 = sealHeader p v len (Config.entropy s.fresh) ∧ t.ctrlRam = (ctrlPutBytes dst b s).ctrlRam) ∧
      (q.job = [1, p, v, src, dst, len] → ¬ unfit → 49 ≤ len → len ≤ 65584 → ctrlRange dst (len - 48) = true → v ≤ s.gate.svn →
        let a := openObject s p v (ctrlBytes s src len)
        completes .ghRequestDone s fun t => sameExcept [.ctrlRam, .greq] s t ∧ done a.1 t ∧
          t.ctrlRam = if a.1 = 0 then (ctrlPutBytes dst a.2 s).ctrlRam else s.ctrlRam))

/-- An event that Jexolaryn posts is appended with SEQ, time stamp and tick; as the 64th entry stands the overflow
marker instead, and with 64 held it is only counted. EVENTS_LOST sums the refused up once there is room, two codes a word and eight at most (log 17). A fault
whose condition holds becomes an instance, unacknowledged, with FAULT_NEW, its event and its log record, the flags of a Quern, and what was found at the start, being noted as reported; absent for
5 s, a C fault clears; FAULT_ACK clears A faults and those whose condition is absent, and acknowledges the others.
The oldest waiting log record is written under FAULT_LOG leave where the log has room. (R430; R465; R489; R492; R490; R427) -/
def Obligations.EventsAndFaults : Prop :=
  ∀ (s : State),
    let h := s.host
    let f := s.faults
    let entry := fun (code : Nat) (p : List Word) => ({ code := code, seq := h.evSeq, time := timeStamp s, tick := s.aon.tick, payload := padWords 5 p } : Event)
    let fullest := Nat.min (h.lost + 1) 65535
    let counted := fun (t : State) => t.faults.fwActive = (activeCodes t.faults.active).length ∧
      t.faults.fwUnacked = (activeCodes (t.faults.active.filter fun i => !i.acked)).length
    let both := fun (t : State) => sameExcept [.faults, .host] s t ∧ counted t
    (∀ code p, jexOn s = false → completes (.eventPost code p) s fun t => t = s) ∧
    (∀ (code : BitVec 16) p, jexOn s = true → h.refused = [] → h.evq.length < 63 → completes (.eventPost code p) s fun t => onlyHost s t ∧
      t.host = { h with evq := h.evq ++ [entry code.toNat p], evSeq := (h.evSeq + 1) % 65536 }) ∧
    (∀ (code : BitVec 16) p, jexOn s = true → h.evq.length = 63 → completes (.eventPost code p) s fun t => onlyHost s t ∧
      t.host = { h with evq := h.evq ++ [entry 0xFFFF []], evSeq := (h.evSeq + 1) % 65536, overflow := true, lost := fullest, refused := insertSorted code.toNat h.refused, refusedCount := h.refusedCount + 1 }) ∧
    (∀ (code : BitVec 16) p, jexOn s = true → 64 ≤ h.evq.length → completes (.eventPost code p) s fun t => onlyHost s t ∧
      t.host = { h with lost := fullest, refused := insertSorted code.toNat h.refused, refusedCount := h.refusedCount + 1 }) ∧
    (jexOn s = true → h.refused ≠ [] → h.evq.length < 63 → completes .eventsLost s fun t => onlyHost s t ∧
      t.host = { h with evq := h.evq ++ [entry 4 (wrd h.refusedCount :: pairCodes (h.refused.take 8))], evSeq := (h.evSeq + 1) % 65536, refused := [], refusedCount := 0 }) ∧
    (jexOn s = false ∨ h.refused = [] ∨ 63 ≤ h.evq.length → completes .eventsLost s fun t => t = s) ∧
    (∀ (code : BitVec 16) w p cl pin mask, jexOn s = true → faultNow s code.toNat (payloadW4 w) = some p → faultRow code.toNat = some (cl, pin, mask) →
      f.active.any (fun i => i.named code.toNat p && i.cond) = false → completes (.faultRaise code w) s fun t => sameExcept [.querns, .faults, .host] s t ∧ counted t ∧ t.faults.new = true ∧
        (∀ q, quern t q = if code = 0x0102#16 ∧ q = fld (payloadW4 w) 0 7 then { quern s q with qSeen := (quern s q).flags3 } else quern s q) ∧
        t.faults.active = f.active.map (fun i => if i.code = code.toNat then { i with acked := false } else i) ++ [{ code := code.toNat, payload := padWords 4 p, cond := true }] ∧
        (pin = true → t.faults.fwAssert = true) ∧ (∀ i : Fin 3, t.faults.found.getLsbD i = (f.found.getLsbD i && code.toNat != i.val + 1)) ∧
        (f.waiting.length < 256 → ∃ x : LogRec, t.faults.waiting = f.waiting ++ [x] ∧ x.code = code.toNat ∧ x.kind = 0 ∧ x.payload = padWords 4 p) ∧
        (f.waiting.length < 256 → h.refused = [] → h.evq.length < 63 → ∃ e : Event, t.host.evq = h.evq ++ [e] ∧ e.code = 5 ∧ e.payload.drop 1 = padWords 4 p)) ∧
    (∀ (code : BitVec 16) w p pin mask cl, faultNow s code.toNat (payloadW4 w) = some p → faultRow code.toNat = some (cl, pin, mask) → cl = .c ∨ cl = .ca →
      f.active.any (fun i => i.named code.toNat p && i.cond) = true → completes (.faultRaise code w) s fun t => t = s) ∧
    (∀ (code : BitVec 16) w, faultNow s code.toNat (payloadW4 w) = none → completes (.faultRaise code w) s fun t => t = s) ∧
    (∀ (code : BitVec 16) w p, faultNow s code.toNat (payloadW4 w) = some p → completes (.faultClearTimeout code w) s fun t => t = s) ∧
    (∀ (code : BitVec 16) w pin mask, jexOn s = true → faultNow s code.toNat (payloadW4 w) = none → faultRow code.toNat = some (.c, pin, mask) →
      completes (.faultClearTimeout code w) s fun t => both t ∧ t.faults.active = f.active.filter fun i => !i.named code.toNat w) ∧
    (∀ (code : BitVec 16) w pin mask, jexOn s = true → faultNow s code.toNat (payloadW4 w) = none → faultRow code.toNat = some (.ca, pin, mask) →
      completes (.faultClearTimeout code w) s fun t => both t ∧
        t.faults.active = (f.active.map fun i => if i.named code.toNat w then { i with cond := false, absent5 := true } else i).filter fun i => !(i.named code.toNat w && i.acked)) ∧
    (∀ (m : Fin 8) cl pin mask, taken s m 0xA2 (faultAckChecks m) = true → faultRow (ackCode s m) = some (cl, pin, mask) →
      let marked := f.active.map fun i => if i.code = ackCode s m then { i with acked := true } else i
      completes (.faultAck m) s fun t => both t ∧ answered s t m [wrd (b2n (t.faults.active.any fun i => i.code == ackCode s m))] ∧
        (cl = .c → t.faults.active = marked) ∧ (cl = .a → t.faults.active = f.active.filter fun i => i.code != ackCode s m) ∧
        (cl = .ca ∨ cl = .p → t.faults.active = marked.filter fun i => !(i.code == ackCode s m && i.absent5))) ∧
    (jexOn s = true → f.waiting ≠ [] → logBusy s = false → 0 < logRoom s → flashOp s 0 = none → completes .faultLogRecord s fun t => leaveOnly s { t with flash := s.flash } ∧
      flashOp t 0 = some { sel := 0, cls := 2, steps := logSteps s, work := .log }) ∧
    (jexOn s = false ∨ f.waiting = [] ∨ logBusy s = true ∨ logRoom s = 0 → completes .faultLogRecord s fun t => t = s)

/-- An alarm input held for 5 ms activates an ARMED Crier with ALARM_SEQ from its first good message, and in SLEEP begins a
wake, an entry to SLEEP that waits being refused and undone at once (log 139); in OFF it only waits; a shorter low shows in the input
bits alone (log 82). The end of the last trigger returns it to ARMED with END_EV at once or lets the message in progress
finish. A good block lets a message play on, a bad one marks it and ramps it out; the read stops the frame on the flash
port and suspends what runs on that flash. A message that ends is followed by the next good one, a repetition with or
without a gap, or the end; FAULT_SEQ plays once. A sample period sums message and microphone, and gives each TDM slot of
the Crier-clocked ports its word while the pads have power, each frame driven as the interlock stands at its start.
CRIER_PLAY and CRIER_STOP begin and end the host trigger. (R264; R270; R266; R267; R271; R273; R274; R281; R297; R329; R331) -/
def Obligations.CrierWorks : Prop :=
  ∀ (s : State),
    let c := s.crier
    let only := fun (t : State) => sameExcept [.crier, .twin] s t ∧ t.twin = { s.twin with dutyOut := t.twin.dutyOut }
    let begins := fun (t : State) => t.audio = { s.audio with groups := t.audio.groups } ∧
      ∀ g : Fin 8, group t g = if (crierClocks t g).isSome then { group s g with drives := driving t, tail := false } else group s g
    let calm := s.vigil.state ≠ .running ∧ s.aon.mode ≠ .sleep
    let noEntry := acceptedOf s 0x93 = none
    let begun := fun (t : State) (r : Nat) (q : List Nat) (rep : Option Nat) => t.crier.state = .active ∧ t.crier.actEv = true ∧
      (c.playOk = true → ∀ k, c.nextGood q 0 = some k → t.crier.play = some { rank := r, seq := q, repeats := rep, pos := k } ∧ t.crier.msg = q.getD k 0) ∧
      (c.playOk = false ∨ c.nextGood q 0 = none → t.crier.play = none)
    let ended := fun (t : State) => t.crier.state = .armed ∧ t.crier.endEv = true ∧ t.crier.play = none ∧ t.crier.values = [] ∧ t.crier.newCopy = none ∧
      (∀ n, c.newCopy = some n → t.crier.copy = some n ∧ t.crier.store = n.slot + 1) ∧ (c.newCopy = none → t.crier.copy = c.copy)
    let alarms := (c.copy.map (·.alarmSeq)).getD []
    (∀ a b held, (held && (a || b)) = false → completes (.alarmTrigger a b held) s fun t => sameExcept [.crier] s t ∧ t.crier = { c with reqA := a, reqB := b }) ∧
    (∀ a b, (a || b) = true → c.state = .off → s.aon.mode ≠ .sleep → noEntry → completes (.alarmTrigger a b true) s fun t => only t ∧ t.crier = { c with reqA := a, reqB := b, alarm := true }) ∧
    (∀ a b, (a || b) = true → c.state = .armed → c.play = none → c.begun.getLsbD 0 = false → calm → noEntry → completes (.alarmTrigger a b true) s fun t =>
      sameExcept [.crier, .twin] s t ∧ t.crier.alarm = true ∧ t.crier.reqA = a ∧ t.crier.reqB = b ∧ begun t 0 alarms none) ∧
    (∀ a b, (a || b) = true → c.state = .armed → s.vigil.state ≠ .running → s.aon.mode = .sleep → s.gate.phase = .asleep → noEntry → c.alarm = false → completes (.alarmTrigger a b true) s fun t =>
      sameExcept [.crier, .twin, .aon, .gate] s t ∧ t.crier.state = .active ∧ t.gate = { s.gate with phase := .waking, sleepOk := false } ∧ t.aon = { s.aon with timer := none }) ∧
    (∀ a b (m : Fin 8), (a || b) = true → c.state = .armed → c.play = none → c.begun.getLsbD 0 = false → calm → c.alarm = false → acceptedOf s 0x93 = some m.val →
      completes (.alarmTrigger a b true) s fun t => sameExcept [.crier, .twin, .aon, .domains, .host] s t ∧ begun t 0 alarms none ∧
        t.aon = { s.aon with sleeping := false, sleepTick := none, timer := none } ∧ (mbox t m).state = .ready ∧ arg t m 0 = replyHead (arg s m 0) 2 5 ∧ fld (arg t m 1) 24 8 = 0xF6) ∧
    (c.state = .active → c.host = false → c.internal = false → c.play = none → completes .alarmEnd s fun t => only t ∧ ended t ∧ t.crier.alarm = false ∧
      t.crier.reqA = false ∧ t.crier.reqB = false) ∧
    (∀ p, c.state = .active → c.host = false → c.internal = false → c.play = some p → p.gap = false → completes .alarmEnd s fun t => only t ∧
      t.crier.state = .active ∧ t.crier.play = some { p with finishing := true } ∧ t.crier.alarm = false) ∧
    (∀ p, c.play = some p → p.gap = false → p.blockOk = false → p.frozen = false → p.sample < c.msgLen p → completes .crierBlockRead s fun t => sameExcept [.crier, .flash, .fresh] s t ∧ t.flash.bytes = s.flash.bytes ∧
      (∀ k, c.copy = some k → t.fresh = s.fresh + 1 ∧ t.flash = s.flash.crierRead (Config.bytesSent s.fresh) k.slot) ∧
      t.crier = if crierBlockGood s = true then { c with play := some { p with blockOk := true } } else { c with blockErr := true, badMsg := c.badMsg ||| BitVec.ofNat 8 (2 ^ p.seq.getD p.pos 0), play := some { p with ramp := 32, rampLen := 32, rampNext := if p.ramp = 0 then 1 else p.rampNext, frozen := true } }) ∧
    (∀ p, c.play = some p → c.state = .active → c.holds p.rank = true → (∀ r, r < p.rank → c.holds r = true → c.begun.getLsbD r = true) →
      let at_ := fun (k : Nat) => { p with pos := k, block := 0, blockOk := false, sample := 0, gap := false, ramp := 0, frozen := false, held := 0 }
      (p.gap = false → p.ramp = 0 → c.msgLen p ≤ p.sample → p.finishing = false →
        (∀ k, c.nextGood p.seq (p.pos + 1) = some k → completes .crierMessageEnd s fun t => only t ∧ t.crier.state = .active ∧ t.crier.play = some (at_ k) ∧ t.crier.msg = p.seq.getD k 0) ∧
        (∀ k, c.nextGood p.seq (p.pos + 1) = none → c.nextGood p.seq 0 = some k → p.repeats ≠ some 0 → completes .crierMessageEnd s fun t => only t ∧
          t.crier.state = .active ∧ t.crier.play = some (if (c.copy.map (·.gapMs)).getD 0 = 0 then { at_ k with repeats := p.repeats.map (· - 1) } else { p with repeats := p.repeats.map (· - 1), gap := true, pos := k }))) ∧
      (p.gap = true → completes .crierGapEnd s fun t => only t ∧ t.crier.state = .active ∧ t.crier.play = some (at_ p.pos) ∧ t.crier.msg = p.seq.getD p.pos 0)) ∧
    (∀ p, c.play = some p → c.state = .active → p.gap = false → p.ramp = 0 → c.msgLen p ≤ p.sample → c.alarm = false → c.internal = false →
      (p.finishing = true ∧ c.host = false) ∨ (p.finishing = false ∧ p.rank = 1 ∧ p.repeats = some 0 ∧ c.nextGood p.seq (p.pos + 1) = none) →
        completes .crierMessageEnd s fun t => only t ∧ ended t ∧ t.crier.host = false) ∧
    (∀ p, c.play = some p → c.state = .active → p.gap = false → p.ramp = 0 → c.msgLen p ≤ p.sample → p.rank = 2 → p.repeats = some 0 → p.finishing = false →
      c.nextGood p.seq (p.pos + 1) = none → c.internal = true → c.alarm = false → c.host = false → c.begun.getLsbD 2 = true →
        completes .crierMessageEnd s fun t => only t ∧ t.crier.state = .active ∧ t.crier.play = none) ∧
    (∀ mic valid clk, c.state ≠ .active → completes (.crierSample mic valid clk) s fun t => sameExcept [.twin, .audio] s t ∧
      t.twin = { s.twin with dutyOut := t.twin.dutyOut } ∧ begins t) ∧
    (∀ mic valid clk, c.state = .active → completes (.crierSample mic valid clk) s fun t => sameExcept [.crier, .twin, .audio, .fresh] s t ∧ begins t ∧
      let k := c.cfg
      let bad := badClocks s clk
      let v := crierMic k mic (micValid s k valid)
      let vox := Config.crierVox k.voxDb v c.voxOpen s.fresh
      t.fresh = s.fresh + 1 ∧ t.crier.voxOpen = vox ∧ t.crier.groupErr = (c.groupErr || bad != 0) ∧ t.crier.badGroups = bad ∧ t.crier.values = crierValues k t.crier.x ∧
      t.crier.tx = (if audioPads s then crierFrames s k bad t.crier.values s.fresh else []) ∧
      (c.play = none → t.crier.x.toInt = clamp20 ((if vox then duck k.duckDb 0 else 0).toInt + v.toInt)) ∧
      ∀ p, c.play = some p → p.gap = false → p.ramp = 0 → p.frozen = false → p.blockOk = true → p.sample < c.msgLen p →
        t.crier.x.toInt = clamp20 ((if vox then duck k.duckDb (crierDue s) else crierDue s).toInt + v.toInt) ∧
        t.crier.play = some { p with sample := p.sample + 1, held := crierDue s, blockOk := (p.sample + 1) % 1024 != 0, block := (p.sample + 1) / 1024 }) ∧
    (∀ m : Fin 8, taken s m 0xD1 (crierPlayChecks m) = true → c.state = .armed → c.play = none → c.alarm = false → c.internal = false → calm →
      completes (.crierPlay m) s fun t => sameExcept [.crier, .twin, .host] s t ∧ answered s t m [0] ∧ t.crier.host = true ∧ t.crier.hostSeq = namedSeq s m ∧
        begun t 1 (namedSeq s m) (if fld (arg s m 1) 8 8 = 0 then none else some (fld (arg s m 1) 8 8 - 1))) ∧
    (∀ m : Fin 8, taken s m 0xD2 crierStopChecks = true → completes (.crierStop m) s fun t => sameExcept [.crier, .twin, .host] s t ∧ answered s t m [0] ∧
      t.crier.host = false ∧ (c.state = .active → c.play = none → ended t) ∧
      ∀ p, c.state = .active → c.play = some p → p.gap = false → t.crier.state = .active ∧ t.crier.play = some { p with finishing := true }) ∧
    (∀ m : Fin 8, taken s m 0xD4 crierVerifyChecks = true → reports (.crierStoreVerify m) s m [wrd (idleStore s), wrd (crierSeq s (idleStore s)), 0])

/-- WDOG_SVC of the Reeve that matches clears its count and nothing else. An expiry, the count being 1 s, sets FAULT_HW.WDOG with
its Reeve, the lower number where both have expired, halts the Reeves, clears SERVED and triggers the Crier, and from MAINTENANCE, SERVICE or VIGIL the mode becomes
FALLBACK; on a DUTY device self-fault comes first, for the second Bell of the lowest running domain
(log 161), and the activation waits. FALLBACK_ENTER leaves Reeve 0 in the
restricted loop and Reeves 2 and 3 in reset. SLEEP_ENTER, once accepted, begins its ramp, an arming in progress having
ended and the entry on the peripheral port ending at its next word, and on a DUTY device first hands over; the ramp over, it is answered OK with resume state and seal made and the
timer set. That the ramp ends at the eleventh tick is the choice of the model (log 139). (R265; R378; R277; R329; R33;
R36; R296; R297; R299; R474; R486) -/
def Obligations.WatchdogAndFallback : Prop :=
  ∀ (s : State),
    let calm := s.vigil.state ≠ .running
    let held := fun (r : Fin 2) => (reeve s r).held && s.gate.lc == 1
    let live := s.aon.mode = .service ∨ s.aon.mode = .vigil ∨ s.aon.mode = .maintenance
    let halted := fun (t : State) => (∀ r : Fin 4, (reeve t r).run = .halted) ∧ t.host.served = false ∧ t.jex.started = false
    let named := fun (r : Fin 2) (t : State) => t.faults.hwWdog = true ∧ t.faults.wdogReeve = if s.faults.hwWdog then s.faults.wdogReeve else if wdogDue s 0 then 0 else r.val
    let due := fun (r : Fin 2) => 1000 ≤ (reeve s r).wdog
    let edge := fun (d : Nat) => ({ domain := d, bell := (dom s d).bell + 2 } : Handover)
    (∀ (who : Fin 4) (n : Fin 2) (v : Word), who.val = n.val → reeveRuns s who = true → v = 0xA5A5#32 → completes (.wdogSvc who n v) s fun t =>
      sameExcept [.reeves] s t ∧ reeve t n = { reeve s n with wdog := 0 } ∧ ∀ j, j ≠ n.val → reeve t j = reeve s j) ∧
    (∀ (who : Fin 4) (n : Fin 2) (v : Word), who.val ≠ n.val ∨ reeveRuns s who = false ∨ v ≠ 0xA5A5#32 → completes (.wdogSvc who n v) s fun t => t = s) ∧
    (∀ r : Fin 2, (reeve s r).run ≠ .running → (reeve s r).run ≠ .restricted → completes (.watchdogExpiry r) s fun t => t = s) ∧
    (∀ r : Fin 2, (reeve s r).held = true → s.gate.lc = 1 → completes (.watchdogExpiry r) s fun t => t = s) ∧
    (∀ r : Fin 2, ¬ due r → completes (.watchdogExpiry r) s fun t => t = s) ∧
    (calm → s.twin.role ≠ .duty → (reeve s 0).run = .restricted → held 0 = false → due 0 → completes (.watchdogExpiry 0) s fun t => halted t ∧ named 0 t ∧ t.crier.wdog = true ∧
      (s.crier.state = .armed → t.crier.state = .active)) ∧
    (∀ r : Fin 2, calm → live → s.twin.role = .single → (reeve s r).run = .running → held r = false → due r → completes (.watchdogExpiry r) s fun t => halted t ∧ named r t ∧
      t.aon.mode = .fallback ∧ t.aon.lastMode = s.aon.mode.code ∧ t.crier.wdog = true ∧ (s.crier.state = .armed → t.crier.state = .active)) ∧
    (∀ (r : Fin 2) d, live → s.twin.role = .duty → s.twin.handover = none → faultDomain s = some d → (reeve s r).run = .running → held r = false → due r →
      completes (.watchdogExpiry r) s fun t => halted t ∧ named r t ∧ t.aon.mode = .fallback ∧ t.crier = { s.crier with heldWdog := true } ∧
        t.twin.selfFault = true ∧ t.twin.handover = some (edge d)) ∧
    (∀ m : Fin 8, taken s m 0xD5 noChecks = true → calm → s.twin.role = .single → completes (.fallbackEnter m) s fun t => answered s t m [0] ∧
      t.aon.mode = .fallback ∧ t.aon.lastMode = s.aon.mode.code ∧ t.crier.fbCmd = true ∧ (s.crier.state = .armed → t.crier.state = .active) ∧
      (reeve t 0).run = .restricted ∧ (reeve t 1).run = .halted ∧ (reeve t 2).run = .inReset ∧ (reeve t 3).run = .inReset ∧ t.jex.restricted = true) ∧
    (∀ m : Fin 8, taken s m 0x93 (sleepChecks m) = true → s.twin.role ≠ .duty → s.twin.armMb ≠ some m.val → completes (.sleepEnter m) s fun t => pendingIn s t m ∧
      t.aon = { s.aon with sleepTick := some s.aon.tick } ∧ (s.per.active = true → t.per.ending = true) ∧
      (s.twin.arm = .idle → s.twin.armMb = none → s.per.active = false → s.per.tickets = [] → sameExcept [.aon, .host] s t)) ∧
    (∀ (m : Fin 8) d, taken s m 0x93 (sleepChecks m) = true → s.twin.role = .duty → s.twin.handover = none → faultDomain s = some d →
      completes (.sleepEnter m) s fun t => pendingIn s t m ∧ sameExcept [.twin, .host] s t ∧ t.twin.handover = some (edge d) ∧ t.twin.selfFault = true) ∧
    (∀ (m : Fin 8) t0, s.aon.sleepTick = some t0 →
      (since s t0 < 11 → sleepSettle m s = s) ∧
      (11 ≤ since s t0 → (mbox s m).state = .accepted → (∀ c, (chan s c).state ≠ .run) → let t := sleepSettle m s
        answered s t m [0] ∧ t.jex.resume.isSome = true ∧
        t.aon = { s.aon with sleeping := true, sleepTick := none, timer := if (arg s m 1).toNat = 0 then none else some (arg s m 1).toNat } ∧
        t.gate = { s.gate with wakeCount := (s.gate.wakeCount + 1) % 4294967296, resBase := 0x10100000, resLen := 0x100000, sealHeld := true, sealTag := wakeTag t, sleepGpio := fld (arg s m 2) 0 4 })) ∧
    (∀ m : Fin 8, s.aon.sleepTick = none → s.twin.arm = .idle → s.twin.armMb = none → s.per.active = false → s.per.tickets = [] → sleepSettle m s = s.setAon { s.aon with sleepTick := some s.aon.tick })

/-- Of an executing Reeve: SET_FLAGS ORs its flags into a slot and wakes a WAITING task whose condition holds with the
flags met; WAIT whose condition holds returns and clears the flags; POST appends to an enabled queue or is refused
FULL and counted; TAKE returns the oldest entry or EMPTY; READY, SUSPEND and RELEASE put a slot that does not run
into its state. A user task is denied, no current task or a FREE slot is NO_TASK, a bad operand BAD_OP (log 25); nothing
else changes. A Reeve that does not execute performs none. (R382; R386; R387; R390; R391) -/
def Obligations.StewardOperations : Prop :=
  ∀ (s : State) (r : Fin 4),
    let p := sport s r
    let user := (reeve s r).user
    let cur := tslot s p.current
    let port := fun (y : StPort) (t : State) => sameExcept [.stew] s t ∧ sport t r = y ∧ ∀ j, j ≠ r.val → sport t j = sport s j
    let quiet_ := fun (y : StPort) (t : State) => port y t ∧ t.stew.slots = s.stew.slots ∧ t.stew.queues = s.stew.queues ∧ t.stew.ready = s.stew.ready ∧ t.stew.delays = s.stew.delays
    let slotNow := fun (n : Nat) (x : TaskSlot) (t : State) => tslot t n = x ∧ (∀ j, j ≠ n → tslot t j = tslot s j) ∧ t.stew.queues = s.stew.queues
    let woken := fun (n : Nat) (t : State) => t.stew.ready = s.stew.ready.filter (· != n) ++ [n] ∧ t.stew.delays = s.stew.delays.filter (· != n)
    let gone := fun (n : Nat) (t : State) => t.stew.ready = s.stew.ready.filter (· != n) ∧ t.stew.delays = s.stew.delays.filter (· != n)
    (reeveRuns s r = false → ∀ (n : BitVec 8) (f m e : Word) all (q : Fin 64) (v : BitVec 64), let none_ := fun (c : Instr) => completes c s fun t => t = s
      none_ (.setFlags r n f) ∧ none_ (.wait r m all e) ∧ none_ (.delay r e) ∧ none_ (.yieldOp r) ∧ none_ (.post r q v) ∧ none_ (.take r q) ∧ none_ (.exitOp r) ∧
      none_ (.readyOp r n) ∧ none_ (.suspend r n) ∧ none_ (.release r n)) ∧
    (reeveRuns s r = true →
      (∀ (n : BitVec 8) (f : Word), let k := tslot s n.toNat
        let fl := k.flags ||| f
        (user = true → n.toNat < 192 → completes (.setFlags r n f) s (quiet_ { p with arg0 := f, status := 4, fill := 0 })) ∧
        (user = false → n = 0 ∨ k.state = .free → completes (.setFlags r n f) s (quiet_ { p with arg0 := f, status := 3, fill := 0 })) ∧
        (user = false → n ≠ 0 → k.state ≠ .free → k.state ≠ .waiting ∨ waitMet k.modeAll k.mask fl = false → completes (.setFlags r n f) s fun t =>
          port { p with arg0 := f, status := 0, fill := 0 } t ∧ slotNow n.toNat { k with flags := fl } t ∧ t.stew.ready = s.stew.ready ∧ t.stew.delays = s.stew.delays) ∧
        (user = false → n ≠ 0 → k.state = .waiting → waitMet k.modeAll k.mask fl = true → reevesFor s n.toNat = [] → completes (.setFlags r n f) s fun t =>
          port { p with arg0 := f, status := 0, fill := 0 } t ∧ woken n.toNat t ∧
          slotNow n.toNat { k with flags := fl &&& ~~~k.mask, state := .ready, wake := some (6, fl &&& k.mask), noCharge := false } t)) ∧
      (∀ (m e : Word) all, let y := { p with arg0 := m, arg1 := e }
        (p.current = 0 → completes (.wait r m all e) s (quiet_ { y with status := 3, fill := 0 })) ∧
        (p.current ≠ 0 → m = 0 → completes (.wait r m all e) s (quiet_ { y with status := 5, fill := 0 })) ∧
        (p.current ≠ 0 → m ≠ 0 → waitMet all m cur.flags = true → completes (.wait r m all e) s fun t =>
          port { y with status := 6, fill := 0, data0 := cur.flags &&& m } t ∧ slotNow p.current { cur with flags := cur.flags &&& ~~~m } t ∧ t.stew.ready = s.stew.ready)) ∧
      (∀ e : Word, (p.current = 0 → completes (.delay r e) s (quiet_ { p with arg1 := e, status := 3, fill := 0 })) ∧
        (p.current ≠ 0 → e = 0 ∨ 16777215 < e.toNat → completes (.delay r e) s (quiet_ { p with arg1 := e, status := 5, fill := 0 }))) ∧
      (p.current = 0 → completes (.yieldOp r) s (quiet_ { p with status := 3, fill := 0 }) ∧ completes (.exitOp r) s (quiet_ { p with status := 3, fill := 0 })) ∧
      (∀ (q : Fin 64) (v : BitVec 64), let x := squeue s q
        let y := { p with arg0 := v.setWidth 32, arg1 := (v >>> 32).setWidth 32 }
        let only := fun (z : SQueue) (t : State) => squeue t q = z ∧ (∀ j, j ≠ q.val → squeue t j = squeue s j) ∧ t.stew.slots = s.stew.slots ∧ t.stew.ready = s.stew.ready
        (x.enable = false ∨ (user = true ∧ q.val ≠ 47 ∧ lentQueue s p.current q = false) → completes (.post r q v) s (quiet_ { y with status := 4, fill := 0 })) ∧
        (x.enable = true → user = false → x.fill < 16 → x.consumer = 0 → completes (.post r q v) s fun t => port { y with status := 0, fill := x.fill + 1 } t ∧
          only { x with entries := x.entries ++ [v], posted := (x.posted + 1) % 65536 } t) ∧
        (x.enable = true → user = false → 16 ≤ x.fill → completes (.post r q v) s fun t => port { y with status := 1, fill := x.fill } t ∧
          only { x with refused := Nat.min (x.refused + 1) 65535 } t) ∧
        (x.enable = false ∨ (user = true ∧ lentQueue s p.current q = false) → completes (.take r q) s (quiet_ { p with status := 4, fill := 0 })) ∧
        (x.enable = true → user = false → x.entries = [] → completes (.take r q) s (quiet_ { p with status := 2, fill := 0 })) ∧
        (∀ a rest, x.enable = true → user = false → x.entries = a :: rest → x.producer = 0 ∨ rest.length ≠ x.lowMark → s.jex.extWait = [] → completes (.take r q) s fun t =>
          port { p with status := 0, fill := rest.length, data0 := a.setWidth 32, data1 := (a >>> 32).setWidth 32 } t ∧ only { x with entries := rest, taken := (x.taken + 1) % 65536 } t)) ∧
      (∀ n : BitVec 8, let k := tslot s n.toNat
        let denied := quiet_ { p with status := 4, fill := 0 }
        let missing := quiet_ { p with status := 3, fill := 0 }
        (user = true → completes (.readyOp r n) s denied ∧ completes (.suspend r n) s denied ∧ completes (.release r n) s denied) ∧
        (user = false → n = 0 → completes (.readyOp r n) s missing) ∧
        (user = false → n = 0 ∨ k.state = .free → completes (.suspend r n) s missing ∧ completes (.release r n) s missing) ∧
        (user = false → n ≠ 0 → k.state ≠ .free → k.state ≠ .suspended → completes (.readyOp r n) s (quiet_ { p with status := 5, fill := 0 })) ∧
        (user = false → n ≠ 0 → k.state = .free ∨ k.state = .suspended → reevesFor s n.toNat = [] → completes (.readyOp r n) s fun t =>
          port { p with status := 0, fill := 0 } t ∧ slotNow n.toNat { k with state := .ready, wake := some (0, 0), noCharge := false } t ∧ woken n.toNat t) ∧
        (user = false → n ≠ 0 → k.state ≠ .free → k.state ≠ .running →
          (completes (.suspend r n) s fun t => port { p with status := 0, fill := 0 } t ∧ slotNow n.toNat { k with state := .suspended, wake := none, noCharge := false } t ∧ gone n.toNat t) ∧
          completes (.release r n) s fun t => port { p with status := 0, fill := 0 } t ∧ slotNow n.toNat { k with state := .free, wake := none, noCharge := false } t ∧ gone n.toNat t)))

/-- WAIT, DELAY and EXIT of a current task with no task READY leave the Reeve idle in supervisor state without regions,
the task WAITING, DELAYED until its EXPIRY, or FREE. YIELD hands the Reeve to a READY task of group 0 of no lower
rank, the yielding task, which no other Reeve can take, going to the tail; the end of a quantum hands it to the READY task of the same
lower group; each in the one row (log 25).
A READY task finds the lowest idle eligible Reeve and runs there with its regions. Every task
whose EXPIRY has come wakes at the tail, in the order of the delay list, a waiting one with TIMEOUT. QUEUE_CFG_WRITE takes its fields and, disabling, discards entries and counters; in
user state outside the regions the task faults. (R382; R386; R390; R385; R388;
R384; R371) -/
def Obligations.StewardScheduling : Prop :=
  ∀ (s : State) (r : Fin 4),
    let t0 := (sport s r).current
    let k := tslot s t0
    let both := fun (t : State) => sameExcept [.stew, .reeves] s t ∧ ∀ j : Fin 4, (reeve t j).run = (reeve s j).run
    let idles := fun (x : TaskSlot) (t : State) => both t ∧ (sport t r).current = 0 ∧ reeve t r = { reeve s r with user := false, regions := [] } ∧ tslot t t0 = x ∧
      (∀ j, j ≠ r.val → reeve t j = reeve s j) ∧ ∀ n, n ≠ t0 → tslot t n = tslot s n
    let runsOn := fun (i : Fin 4) (u : Nat) (t : State) => (sport t i).current = u ∧ (tslot t u).state = .running ∧ (tslot t u).runOn = i.val ∧
      reeve t i = { reeve s i with user := decide (192 ≤ u), regions := taskRegions s u }
    let wakes := fun (l : List Nat) (c : Instr) => l.Nodup → (∀ n ∈ l, reevesFor s n = []) → completes c s fun t => sameExcept [.stew] s t ∧
      t.stew.ready = s.stew.ready.filter (!l.contains ·) ++ l ∧ t.stew.delays = s.stew.delays.filter (!l.contains ·) ∧ (∀ n, n ∉ l → tslot t n = tslot s n) ∧
      ∀ n ∈ l, tslot t n = { tslot s n with state := .ready, wake := some (if (tslot s n).state = .waiting then 7 else 0, 0), noCharge := false }
    (reeveRuns s r = true → t0 ≠ 0 → s.stew.ready = [] →
      (∀ (m e : Word) all, m ≠ 0 → waitMet all m k.flags = false → completes (.wait r m all e) s fun t => t.stew.ready = [] ∧
        idles { k with state := .waiting, mask := m, modeAll := all, expiry := if e = 0 then k.expiry else (s.aon.tick + e.toNat) % 4294967296, begun := if e = 0 then k.begun else s.aon.tick } t ∧
        (e ≠ 0 → t0 ∈ t.stew.delays) ∧ (e = 0 → t.stew.delays = s.stew.delays)) ∧
      (∀ e : Word, e ≠ 0 → e.toNat ≤ 16777215 → completes (.delay r e) s fun t => t.stew.ready = [] ∧ t0 ∈ t.stew.delays ∧
        idles { k with state := .delayed, expiry := (s.aon.tick + e.toNat) % 4294967296, begun := s.aon.tick } t) ∧
      (k.state = .running → k.runOn = r.val → completes (.exitOp r) s fun t => t.stew.ready = [] ∧ t.stew.delays = s.stew.delays.filter (· != t0) ∧
        idles { k with state := .free, wake := none, noCharge := false } t)) ∧
    (∀ u, (reeve s r).run = .running → t0 ≠ 0 → u ≠ t0 → s.stew.ready = [u] → eligible s r u = true → (tslot s u).state = .ready → (tslot s u).group = 0 →
      (k.group = 0 → (tslot s u).prio ≤ k.prio) → (∀ j ∈ reevesFor s t0, j = r.val) → completes (.yieldOp r) s fun t => both t ∧ runsOn r u t ∧ t.stew.ready = [t0] ∧
        tslot t t0 = { k with state := .ready, wake := some (0, 0), noCharge := false }) ∧
    (∀ (n : BitVec 8) (i : Fin 4), reeveRuns s r = true → (reeve s r).user = false → n ≠ 0 → (tslot s n.toNat).state = .free ∨ (tslot s n.toNat).state = .suspended →
      (tslot s n.toNat).group = 0 → s.stew.ready = [] → (reeve s i).run = .running → eligible s i n.toNat = true → (sport s i).current = 0 →
      (∀ j : Fin 4, j < i → ¬ ((reeve s j).run = .running ∧ eligible s j n.toNat = true ∧ (sport s j).current = 0)) →
      completes (.readyOp r n) s fun t => both t ∧ runsOn i n.toNat t ∧ t.stew.ready = [] ∧ ∀ j : Fin 4, j ≠ i → (sport t j).current = (sport s j).current) ∧
    wakes (s.stew.delays.filter (expired s)) .stewardDelayExpiry ∧
    (∀ n : BitVec 8, let x := tslot s n.toNat
      (x.state = .waiting → n.toNat ∈ s.stew.delays → expired s n.toNat = true →
        wakes ((s.stew.delays.takeWhile (· != n.toNat) ++ [n.toNat]).filter (expired s)) (.waitTimeout n)) ∧
      (x.state ≠ .waiting ∨ n.toNat ∉ s.stew.delays ∨ expired s n.toNat = false → completes (.waitTimeout n) s fun t => t = s)) ∧
    (∀ u, (reeve s r).run = .running → t0 ≠ 0 → u ≠ t0 → k.groupNow ≠ 0 → 1 ≤ k.group → k.group ≤ 7 → s.stew.quantum ≤ k.ran → s.stew.ready = [u] → eligible s r u = true →
      (tslot s u).group = k.group → (∀ j ∈ reevesFor s t0, j = r.val) → completes (.quantumExpiry r) s fun t => both t ∧ runsOn r u t ∧ t.stew.ready = [t0] ∧
        tslot t t0 = { k with state := .ready, wake := none, noCharge := false }) ∧
    (t0 = 0 ∨ k.groupNow = 0 ∨ k.ran < s.stew.quantum ∨ s.stew.ready = [] → completes (.quantumExpiry r) s fun t => t = s) ∧
    (∀ (q : Fin 64) (v : Word), let x := squeue s q
      let y := { x with enable := bit v 31, consumer := fld v 23 8, cFlag := fld v 18 5, producer := fld v 10 8, pFlag := fld v 5 5, lowMark := fld v 0 4 }
      (reeveRuns s r = true → (reeve s r).user = false → completes (.queueCfgWrite r q v) s fun t => sameExcept [.stew] s t ∧
        t.stew = { s.stew with queues := t.stew.queues } ∧ (∀ j, j ≠ q.val → squeue t j = squeue s j) ∧
        squeue t q = if bit v 31 then y else { y with entries := [], posted := 0, taken := 0, refused := 0 }) ∧
      let a := 0x24003000 + 0x10 * q.val
      let out := reeveRuns s r = true ∧ (reeve s r).user = true ∧ ∀ g ∈ (reeve s r).regions, g.permits a true = false
      (out → completes (.queueCfgWrite r q v) s fun t => t = taskFault r a s) ∧
      (¬ out → reeveRuns s r = false ∨ (reeve s r).user = true → completes (.queueCfgWrite r q v) s fun t => t = s))

/-- CH_START of an idle channel with a legal mode, COUNT and ranges puts it in RUN, a HEAVY one by grant in RUN or in
WAIT_LEAVE, else START_REFUSED or a record of status 4. CH_STOP ends a channel with status 3 and the words done. The
end of a run moves the words left (log 26) and appends the record of R400 to its ring with DONE_EV, a comparison that differs
ending with status 1 at its offset; a ring without room holds the record in CQ_WAIT until CQ_RD is written; an
RD that leaves more than SIZE unread or passes the unread records, counted forward (log 150), is discarded. A paced
channel goes on once FILL has come down to LOW. A user write outside the regions faults the task. (R397; R396; R398; R399; R394; R395; R400; R401; R371) -/
def Obligations.DmaChannels : Prop :=
  ∀ (s : State) (r : Fin 4) (c : Fin 32),
    let x := chan s c
    let onlyC := fun (t : State) => sameExcept [.dma] s t ∧ (∀ j, j ≠ c.val → chan t j = chan s j) ∧ t.dma.rings = s.dma.rings
    let noLeave := s.warden.queue = [] ∧ hasGrant s 6 c = false
    let made := fun (status count : Nat) (off : Word) (tag : Nat) => ({ status := status, count := count, offset := off, time := timeStamp s, tag := tag } : DmaRec)
    let puts := fun (a : Nat) (ws : List Word) (u : State) => ws.zipIdx.foldl (fun v e => ctrlPut (a + 4 * e.2) e.1 v) u
    let record := fun (y : Chan) (k : DmaRec) (u t : State) => let g := ring s y.ring
      chan t c = { y with state := .idle, doneEv := true, lastStatus := k.status, held := none, postDue := false } ∧
      (∀ j, j ≠ c.val → chan t j = chan s j) ∧ ring t y.ring = { g with wr := (g.wr + 1) % (2 * g.size) } ∧
      t.ctrlRam = (puts (g.base + 16 * (g.wr % g.size)) [wrd (c.val * 2 ^ 27 + k.status * 2 ^ 24 + k.count), k.offset, k.time, wrd (g.wr / g.size * 2 ^ 31 + k.tag)] u).ctrlRam
    let out := fun (a : Nat) => reeveRuns s r = true ∧ (reeve s r).user = true ∧ ∀ g ∈ (reeve s r).regions, g.permits a true = false
    let ctlAt := 0x2500000C + 0x20 * c.val
    let room := (ring s x.ring).hasRoom = true
    (chanWriter s r c = true → ¬ out ctlAt → ∀ v : Word, let y := x.setCtl v
      (bit v 30 = false → x.state ≠ .idle ∨ x.count = 0 ∨ y.mode = 3 → completes (.chStart r c v) s fun t => onlyC t ∧ chan t c = { y with startRefused := true }) ∧
      (bit v 30 = true → x.state = .idle → completes (.chStart r c v) s fun t => onlyC t ∧ chan t c = { y with startRefused := true }) ∧
      (bit v 30 = false → x.state = .idle → x.count ≠ 0 → y.mode ≠ 3 → rangesOk c y = true → y.pace = false →
        (y.heavy = false → completes (.chStart r c v) s fun t => onlyC t ∧ chan t c = { y with remain := y.count, postDue := false, state := .run }) ∧
        (y.heavy = true → noLeave → completes (.chStart r c v) s fun t => sameExcept [.dma, .warden] s t ∧
          let fits := s.warden.fits 6 (priceAt s.warden.setpoint (classCost s 6))
          hasGrant t 6 c = fits ∧ hasRequest t 6 c = !fits ∧ chan t c = { y with remain := y.count, postDue := false, state := if fits then .run else .waitLeave })) ∧
      (bit v 30 = false → x.state = .idle → x.count ≠ 0 → y.mode ≠ 3 → rangesOk c y = false → noLeave → (ring s y.ring).hasRoom = true →
        completes (.chStart r c v) s fun t => sameExcept [.dma, .ctrlRam] s t ∧ record { y with remain := y.count } (made 4 0 0xFFFFFFFF#32 y.tag) s t)) ∧
    (chanWriter s r c = true → ¬ out ctlAt →
      (x.state = .idle ∨ x.state = .cqWait → completes (.chStop r c) s fun t => t = s) ∧
      (x.state = .paced → noLeave → room → completes (.chStop r c) s fun t => sameExcept [.dma, .ctrlRam] s t ∧ record x (made 3 (x.count - x.remain) 0xFFFFFFFF#32 x.tag) s t) ∧
      (x.state = .run → x.remain = 0 → noLeave → room → completes (.chStop r c) s fun t => sameExcept [.dma, .ctrlRam, .fresh] s t ∧ record x (made 3 x.count 0xFFFFFFFF#32 x.tag) s t) ∧
      (x.state = .waitLeave → hasGrant s 6 c = false → (∃ g, s.warden.queue = [g] ∧ g.cls = 6 ∧ g.key = c.val) → room → completes (.chStop r c) s fun t =>
        sameExcept [.dma, .ctrlRam, .warden] s t ∧ t.warden = { s.warden with queue := [] } ∧ record x (made 3 0 0xFFFFFFFF#32 x.tag) s t) ∧
      (x.state = .paced → noLeave → (ring s x.ring).hasRoom = false → completes (.chStop r c) s fun t => onlyC t ∧ t.dma.heldOrder = s.dma.heldOrder ++ [c.val] ∧
        chan t c = { x with state := .cqWait, cqFull := true, held := some (made 3 (x.count - x.remain) 0xFFFFFFFF#32 x.tag) })) ∧
    (out ctlAt → ∀ v, completes (.chStart r c v) s (fun t => t = taskFault r ctlAt s) ∧ completes (.chStop r c) s (fun t => t = taskFault r ctlAt s)) ∧
    (chanWriter s r c = false → ¬ out ctlAt → ∀ v, completes (.chStart r c v) s (fun t => t = s) ∧ completes (.chStop r c) s (fun t => t = s)) ∧
    (x.state ≠ .run → completes (.dmaChannelEnd c) s fun t => t = s) ∧
    (x.state = .run → noLeave → room →
      (x.remain = 0 → completes (.dmaChannelEnd c) s fun t => sameExcept [.dma, .ctrlRam] s t ∧ record x (made 0 x.count 0xFFFFFFFF#32 x.tag) s t) ∧
      ∀ i, x.remain = 1 → x.count = i + 1 → x.pace = false → inCtrl (x.dst + 4 * i) = true →
        (x.mode = 1 → completes (.dmaChannelEnd c) s fun t => sameExcept [.dma, .ctrlRam] s t ∧
          record { x with remain := 0 } (made 0 x.count 0xFFFFFFFF#32 x.tag) (ctrlPut (x.dst + 4 * i) (wrd x.src) s) t) ∧
        (x.mode = 0 → inCtrl (x.src + 4 * i) = true → completes (.dmaChannelEnd c) s fun t => sameExcept [.dma, .ctrlRam] s t ∧
          record { x with remain := 0 } (made 0 x.count 0xFFFFFFFF#32 x.tag) (ctrlPut (x.dst + 4 * i) (ctrlWord s (x.src + 4 * i)) s) t) ∧
        (x.mode = 2 → inCtrl (x.src + 4 * i) = true → ctrlWord s (x.src + 4 * i) ≠ ctrlWord s (x.dst + 4 * i) → completes (.dmaChannelEnd c) s fun t =>
          sameExcept [.dma, .ctrlRam] s t ∧ record x (made 1 i (wrd i) x.tag) s t)) ∧
    (x.state ≠ .paced ∨ (x.postDue = false ∧ x.low < (squeue s x.queue).fill) ∨ (x.postDue = true ∧ 16 ≤ (squeue s x.queue).fill) →
      completes (.dmaPaceResume c) s fun t => t = s) ∧
    (∀ i, x.state = .paced → x.pace = true → x.post = false → x.postDue = false → (squeue s x.queue).fill ≤ x.low → (squeue s x.queue).fill < x.high →
      x.remain = 1 → x.count = i + 1 → x.mode = 1 → inCtrl (x.dst + 4 * i) = true → completes (.dmaPaceResume c) s fun t => sameExcept [.dma, .ctrlRam] s t ∧
        chan t c = { x with state := .run, remain := 0 } ∧ t.ctrlRam = (ctrlPut (x.dst + 4 * i) (wrd x.src) s).ctrlRam) ∧
    (∀ (n : Fin 4) (v : Word), let g := ring s n
      let z := { g with rd := fld v 0 13 }
      let good := reeveRuns s r = true ∧ (reeve s r).user = false ∧ z.rd < 2 * g.size ∧ z.unread ≤ g.size ∧ (z.rd + 2 * g.size - g.rd) % (2 * g.size) ≤ g.unread
      let a := 0x2500080C + 0x10 * n.val
      (out a → completes (.cqRdWrite r n v) s fun t => t = taskFault r a s) ∧
      (¬ good → ¬ out a → completes (.cqRdWrite r n v) s fun t => t = s) ∧
      (good → s.dma.heldOrder = [] → completes (.cqRdWrite r n v) s fun t => sameExcept [.dma] s t ∧ t.dma.chans = s.dma.chans ∧ ring t n = z ∧ ∀ j, j ≠ n.val → ring t j = ring s j) ∧
      (∀ k, good → s.dma.heldOrder = [c.val] → x.held = some k → x.ring = n.val → z.hasRoom = true → completes (.cqRdWrite r n v) s fun t => sameExcept [.dma, .ctrlRam] s t ∧
        t.dma.heldOrder = [] ∧ ring t n = { z with wr := (z.wr + 1) % (2 * z.size) } ∧ chan t c = { x with state := .idle, doneEv := true, lastStatus := k.status, held := none, postDue := false }))

/-- With no task in the slot, or Jexolaryn not running, a request does nothing. Else it leaves the head of queue 47; a
reply queue not lent, or an argument block outside the arena, is answered BAD_PARAM (log 29). A ticket is queued and answered
at its end, or answered with its refusal; HOST_EVENT posts TASK_EVENT; SEAL and OPEN write their object or
plaintext, with 7 for an object of a later SVN or another task; STORE starts its row of flash operations (log 142) on the half not in use (log
148), LOAD copies the stored object. A user access outside every region stops its task, marked FAULTED. (R463; R371; R377; R484) -/
def Obligations.ExtensionRequests : Prop :=
  ∀ (s : State) (n : BitVec 8) (q : Fin 64) (seq : BitVec 8) (addr : Word),
    let x := squeue s q
    let z := squeue s 47
    let a := addr.toNat
    let nothing := fun (c : Instr) => completes c s fun t => t = s
    let taken47 := fun (kind : Nat) (t : State) => let e := requestEntry kind n.toNat q seq.toNat addr
      (∀ rest, z.entries = e :: rest → squeue t 47 = { z with entries := rest, taken := (z.taken + 1) % 65536 }) ∧ (z.entries.head? ≠ some e → squeue t 47 = z)
    let silent := fun (kind : Nat) (ps : List Part) (t : State) => sameExcept (.stew :: ps) s t ∧ taken47 kind t ∧ ∀ j, j ≠ 47 → squeue t j = squeue s j
    let answers := fun (c : Instr) (kind status : Nat) (res : Word) (ps : List Part) (p : State → Prop) => completes c s fun t =>
      sameExcept (.stew :: ps) s t ∧ taken47 kind t ∧ p t ∧ (∀ j, j ≠ 47 → j ≠ q.val → squeue t j = squeue s j) ∧
      squeue t q = { x with entries := x.entries ++ [BitVec.ofNat 64 (kind * 2 ^ 56 + status * 2 ^ 48 + seq.toNat * 2 ^ 32 + res.toNat)], posted := (x.posted + 1) % 65536 }
    let same := fun (_ : State) => True
    (slotTask s n.toNat = none ∨ jexOn s = false → nothing (.extPerSubmit n q seq addr) ∧ nothing (.hostEvent n q seq addr) ∧ nothing (.extSeal n q seq addr) ∧
      nothing (.extOpen n q seq addr) ∧ nothing (.store n q seq addr) ∧ nothing (.load n q seq addr)) ∧
    (∀ i, slotTask s n.toNat = some i → jexOn s = true → q.val ≠ 47 → x.enable = true → x.fill < 16 → x.consumer = 0 → s.jex.extWait = [] →
      z.producer = 0 ∨ z.entries.length ≠ z.lowMark + 1 →
      let k := taskOf s i
      let lent := k.queues.getLsbD q.val = true
      let blk := blockWord s a
      (¬ lent ∨ inArena k a 4 = false → answers (.extPerSubmit n q seq addr) 1 4 0 [] same) ∧ (¬ lent ∨ inArena k a 20 = false → answers (.hostEvent n q seq addr) 2 4 0 [] same) ∧
      (¬ lent ∨ inArena k a 12 = false → answers (.extSeal n q seq addr) 3 4 0 [] same ∧ answers (.extOpen n q seq addr) 4 4 0 [] same ∧
        answers (.store n q seq addr) 5 4 0 [] same ∧ answers (.load n q seq addr) 6 4 0 [] same) ∧
      (lent → inArena k a 4 = true → (∀ f, ticketRefusal s (blockEntries s k a) = some f → answers (.extPerSubmit n q seq addr) 1 f.status 0 [] same) ∧
        (ticketRefusal s (blockEntries s k a) = none → completes (.extPerSubmit n q seq addr) s fun t => silent 1 [.per] t ∧
          t.per = { s.per with next := t.per.next, tickets := s.per.tickets ++ [{ num := s.per.next, task := n.toNat, replyQ := q.val, seq := seq.toNat, entries := (ticketEntries (blockEntries s k a)).getD [], status := 1 }] })) ∧
      (lent → inArena k a 20 = true → s.host.refused = [] → s.host.evq.length < 63 → answers (.hostEvent n q seq addr) 2 0 0 [.host] fun t =>
        ∃ e : Event, t.host.evq = s.host.evq ++ [e] ∧ e.code = 0x81 ∧ e.payload = wrd k.id :: (List.range 4).map fun j => wrd (blk j)) ∧
      (lent → inArena k a 12 = true →
        (blk 0 = 0 ∨ 65532 < blk 0 ∨ inArena k (blk 1) (blk 0) = false ∨ inArena k (blk 2) (blk 0 + 52) = false → answers (.extSeal n q seq addr) 3 4 0 [] same) ∧
        (1 ≤ blk 0 → blk 0 ≤ 65532 → inArena k (blk 1) (blk 0) = true → inArena k (blk 2) (blk 0 + 52) = true →
          answers (.extSeal n q seq addr) 3 0 (wrd (blk 0 + 52)) [.ctrlRam, .fresh] fun t => ∃ b : List (BitVec 8), b.length = blk 0 + 52 ∧
            b.take 32 = sealHeader 3 k.svn (blk 0 + 4) (Config.entropy s.fresh) ∧ t.ctrlRam = (ctrlPutBytes (blk 2) b s).ctrlRam) ∧
        (blk 0 < 53 ∨ 65584 < blk 0 ∨ inArena k (blk 1) (blk 0) = false ∨ inArena k (blk 2) (blk 0 - 52) = false → answers (.extOpen n q seq addr) 4 4 0 [] same) ∧
        (53 ≤ blk 0 → blk 0 ≤ 65584 → inArena k (blk 1) (blk 0) = true → inArena k (blk 2) (blk 0 - 52) = true →
          let b := ctrlBytes s (blk 1) (blk 0)
          let v := leNat ((b.drop 8).take 2)
          let w := openObject s 3 v b
          (k.svn < v ∨ w.1 ≠ 0 ∨ leNat (w.2.take 4) ≠ k.id → answers (.extOpen n q seq addr) 4 7 0 [] same) ∧
          (v ≤ k.svn → w.1 = 0 → leNat (w.2.take 4) = k.id → answers (.extOpen n q seq addr) 4 0 (wrd (blk 0 - 52)) [.ctrlRam] fun t =>
            t.ctrlRam = (ctrlPutBytes (blk 2) (w.2.drop 4) s).ctrlRam)) ∧
        (blk 0 = 0 ∨ 65536 < blk 0 ∨ inArena k (blk 1) (blk 0) = false → answers (.store n q seq addr) 5 4 0 [] same) ∧
        (1 ≤ blk 0 → blk 0 ≤ 65536 → inArena k (blk 1) (blk 0) = true → regionSize s 0 (storePlace i 0) 0x20000 = 0x20000 → flashOp s 0 = none →
          completes (.store n q seq addr) s fun t => silent 5 [.flash, .warden, .jex, .twin, .dma] t ∧
            let p := storePlace i (nextHalf s i k)
            flashOp t 0 = some { sel := 0, mb := 0, cls := 3, steps := eraseUnits p 0x10000 ++ pageSteps s 0 p (ctrlBytes s (blk 1) (blk 0)), work := .store n.toNat q.val seq.toNat (blk 0) (nextHalf s i k) }) ∧
        (k.stored = 0 ∨ inArena k (blk 2) k.stored = false → answers (.load n q seq addr) 6 4 0 [] same) ∧
        (k.stored ≠ 0 → inArena k (blk 2) k.stored = true → answers (.load n q seq addr) 6 0 (wrd k.stored) [.ctrlRam, .flash] fun t =>
          t.flash = s.flash.wantRead 4 0 (storePlace i k.halfSel) k.stored ∧ t.ctrlRam = (ctrlPutBytes (blk 2) (flashBytes s 0 (0x02200000 + 0x20000 * i + 0x10000 * k.halfSel) k.stored) s).ctrlRam))) ∧
    (∀ (r : Fin 4) wr, let out := (reeve s r).regions.all fun g => !g.permits a wr
      ((reeve s r).user = false ∨ out = false ∨ slotTask s (current s r) = none → nothing (.userAccessFault r addr wr)) ∧
      (∀ i, (reeve s r).user = true → out = true → slotTask s (current s r) = some i → completes (.userAccessFault r addr wr) s fun t =>
        let k := taskOf s i
        ((∀ c ∈ k.chans, (chan s c).state ≠ .run) → sameExcept [.stew, .reeves, .dma, .warden, .flash, .jex, .twin, .host] s t) ∧ (tslot t k.slot).state = .free ∧ (∀ j : Fin 64, k.queues.getLsbD j.val = true → squeue t j = {}) ∧
        taskOf t i = { k with state := 3, slot := 0, chans := [], localBase := 0, arenaBase := 0, faults := (k.faults + 1) % 4294967296, faultAddr := a }))

/-- PER_CONFIG writes the word of its select, which while an entry is clocked takes effect at the entry's end. PER_SUBMIT queues its entries under the next ticket number and answers it.
The head ticket runs once its select is on and the bus has been idle long enough, and ends SELECT_OFF where it is
off; each entry done keeps its READ words, and the last ends the ticket DONE. PER_CANCEL answers the entries it
removes; a SHARED select that goes low while another is driven ends the running ticket with status 3, and the next entry waits for an
idle bus; an entry that is to end at its next word ends its ticket with status 4. An ended ticket heads the finished
ones, of which 64 are kept, and frees the port. (R468; R469; R471; R472; R470; R473; R474) -/
def Obligations.PeripheralTickets : Prop :=
  ∀ (s : State),
    let p := s.per
    let bound := fun (t : State) => ∀ j, (Tab.get {} t.per.sels j : PerSel) = let y : PerSel := Tab.get {} p.sels j
      { cfg := y.next.getD y.cfg }
    let endsIn := fun (due : Bool) (x : Ticket) (st : Nat) (rest : List Ticket) (t : State) => sameExcept [.per, .host] s t ∧ bound t ∧
      t.per = { p with tickets := rest, done := ({ x with status := st, entries := [] } :: p.done).take 64, active := false, cancel := false, ending := false, mustIdle := due, sels := t.per.sels }
    let ended := endsIn p.mustIdle
    let nothing := fun (c : Instr) => completes c s fun t => t = s
    (∀ m : Fin 8, taken s m 0xB0 (perConfigChecks m) = true → completes (.perConfig m) s fun t => answered s t m [0] ∧ sameExcept [.per, .host] s t ∧
      t.per = { p with sels := t.per.sels } ∧ ∀ j, (Tab.get {} t.per.sels j : PerSel) = if j = fld (arg s m 1) 0 2 then
        (if p.active then { (Tab.get {} p.sels j : PerSel) with next := some (arg s m 2) } else { cfg := arg s m 2 }) else Tab.get {} p.sels j) ∧
    (∀ m : Fin 8, taken s m 0xB1 (perSubmitChecks m) = true → completes (.perSubmit m) s fun t => answered s t m [wrd p.next] ∧ sameExcept [.per, .host] s t ∧
      ∃ es, ticketEntries (submitWords s m) = some es ∧ t.per = { p with next := if p.next = 65535 then 1 else p.next + 1, tickets := p.tickets ++ [{ num := p.next, tag := fld (arg s m 1) 0 8, entries := es, status := 1 }] }) ∧
    (∀ m : Fin 8, taken s m 0xB3 (ticketKnown m) = true → let num := fld (arg s m 1) 0 16
      ((∀ x ∈ p.tickets, x.num ≠ num) → reports (.perCancel m) s m [0]) ∧
      (∀ x rest, p.tickets = x :: rest → x.num = num → p.active = true → completes (.perCancel m) s fun t => answered s t m [wrd (x.entries.length - 1)] ∧
        sameExcept [.per, .host] s t ∧ t.per = { p with cancel := true, tickets := { x with entries := x.entries.take 1 } :: rest }) ∧
      (∀ x rest, p.tickets = x :: rest → x.num = num → p.active = false → x.task = 0 → completes (.perCancel m) s fun t =>
        answered s t m [wrd x.entries.length] ∧ ended x 4 rest t) ∧
      (∀ x y rest, p.tickets = y :: rest → y.num ≠ num → rest.find? (fun e => e.num == num) = some x → x.task = 0 → completes (.perCancel m) s fun t =>
        answered s t m [wrd x.entries.length] ∧ sameExcept [.per, .host] s t ∧
        t.per = { p with tickets := p.tickets.filter (fun e => e.num != num), done := ({ x with status := 4, entries := [] } :: p.done).take 64 })) ∧
    (∀ idle, p.tickets = [] ∨ p.active = true → nothing (.perEntryStart idle)) ∧ (∀ miso, p.tickets = [] ∨ p.active = false → nothing (.perEntryDone miso)) ∧
    (∀ x e es rest, p.tickets = x :: rest → x.entries = e :: es →
      let sel := fld e.hdr 30 2
      let n := if bit e.hdr 26 then fld e.hdr 0 6 else 0
      let w := 8 * (fld e.hdr 28 2 + 1)
      (∀ idle, p.active = false → selOn s sel = true → let ready := fld e.hdr 16 8 ≤ idle ∧ (selShared s sel = true → s.twin.role ≠ .standby) ∧
          (selShared s sel = true ∨ p.mustIdle = true → (if s.twin.pos then 3 else 2) ≤ idle)
        (ready → completes (.perEntryStart idle) s fun t => sameExcept [.per] s t ∧ t.per = { p with active := true, mustIdle := false, tickets := { x with status := 2 } :: rest }) ∧
        (¬ ready → nothing (.perEntryStart idle))) ∧
      (∀ idle, p.active = false → selOn s sel = false → x.task = 0 → completes (.perEntryStart idle) s (ended x 5 rest)) ∧
      (∀ miso : List Word, p.active = true →
        let y := { x with entries := es, data := x.data ++ (List.range n).map fun i => wrd ((miso.getD i 0).toNat % 2 ^ w) }
        (p.ending = false → p.cancel = false → es ≠ [] → completes (.perEntryDone miso) s fun t => sameExcept [.per] s t ∧ bound t ∧
          t.per = { p with active := false, tickets := y :: rest, sels := t.per.sels }) ∧
        (p.ending = false → p.cancel = false → es = [] → x.task = 0 → completes (.perEntryDone miso) s (ended y 0 rest)) ∧
        (p.ending = false → p.cancel = true → x.task = 0 → completes (.perEntryDone miso) s (ended y 4 rest)) ∧
        let cut := { x with data := x.data ++ (miso.take n).map fun u => wrd (u.toNat % 2 ^ w) }
        (p.ending = true → x.task = 0 → completes (.perEntryDone miso) s (ended cut 4 rest)) ∧
        (x.task = 0 → (∃ j : Fin 4, j.val ≠ sel ∧ selShared s j = true) → completes (.perForeignSelect miso) s (endsIn true cut 3 rest)) ∧
        ((∀ j : Fin 4, j.val ≠ sel → selShared s j = false) → nothing (.perForeignSelect miso)))) ∧
    (∀ miso, p.active = false → nothing (.perForeignSelect miso))

/-- A TASK_START that is taken answers the Steward slot, 192 to 255, of the task it has placed: its partition inside the
local RAM of its Reeve, one lent channel for each it asks for, its load segment copied from flash to the partition,
its slot READY or running and Reeves 2 and 3 released. TASK_STOP answers 0 with the task STOPPED, its slot FREE, its
channels idle, its queues out of use. TRACE_CONFIG takes ENABLE, FREEZE and KINDS, an ENABLE newly set clearing
WRAPPED. (R377; R403; R393; R376) -/
def Obligations.TasksAndTrace : Prop :=
  ∀ (s : State) (m : Fin 8),
    let w := arg s m 1
    let parts : List Part := [.jex, .reeves, .stew, .dma, .warden, .flash, .twin, .host]
    (∀ i, taken s m 0xC1 (taskStartChecks m) = true → namedTask s m = some i → completes (.taskStart m) s fun t =>
      let k := taskOf t i
      let file := taskFile s i
      let words := (rdNat file 8 4 - 272 + 3) / 4
      answered s t m [wrd k.slot] ∧ sameExcept parts s t ∧ k = { taskOf s i with localBase := k.localBase, arenaBase := k.arenaBase, slot := k.slot, chans := k.chans, state := 1 } ∧
      192 ≤ k.slot ∧ k.slot ≤ 255 ∧ 0x10000 ≤ k.localBase ∧ k.localBase + k.localLen ≤ 0x40000 ∧ k.chans.length = k.dmaCount ∧
      ((tslot t k.slot).state = .ready ∨ (tslot t k.slot).state = .running) ∧ (reeve t 2).run ≠ .inReset ∧ (reeve t 3).run ≠ .inReset ∧
      (∀ j, j ≠ i → taskOf t j = taskOf s j) ∧ ∀ b, b < words → localWord t k.reeve (k.localBase + 4 * b) = wrd (rdNat file (64 + 4 * b) 4)) ∧
    (∀ i, taken s m 0xC2 (taskStopChecks m) = true → namedTask s m = some i → completes (.taskStop m) s fun t =>
      let k := taskOf s i
      answered s t m [0] ∧ ((∀ c ∈ k.chans, (chan s c).state ≠ .run) → sameExcept parts s t) ∧ taskOf t i = { k with state := 2, slot := 0, chans := [], localBase := 0, arenaBase := 0 } ∧
      (∀ j, j ≠ i → taskOf t j = taskOf s j) ∧ (tslot t k.slot).state = .free ∧ (∀ c ∈ k.chans, (chan t c).state = .idle ∧ (chan t c).held = none) ∧
      ∀ q : Fin 64, k.queues.getLsbD q.val = true → squeue t q = {}) ∧
    (taken s m 0xE0 noChecks = true → completes (.traceConfig m) s fun t => answered s t m [0] ∧ sameExcept [.stew, .host] s t ∧
      t.stew = { s.stew with trEnable := bit w 31, trFreeze := bit w 30, trKinds := w.setWidth 5, trWrapped := s.stew.trWrapped && (s.stew.trEnable || !bit w 31), trSince := if bit w 31 && !s.stew.trEnable then 0 else s.stew.trSince })

end
end

