-- ==== Sys2Proof/Laws/State.lean ====
section
/-! SUPPORT. What each setter of `State` does to each field: the field it names takes the value, every
other field keeps its own. All hold by definition and are simp lemmas. -/

namespace Sys2Proof.Machine

@[simp] theorem State.setAon_aon (s : State) (v : Aon) : (s.setAon v).aon = v := rfl
@[simp] theorem State.setAon_querns (s : State) (v : Aon) : (s.setAon v).querns = s.querns := rfl
@[simp] theorem State.setAon_domains (s : State) (v : Aon) : (s.setAon v).domains = s.domains := rfl
@[simp] theorem State.setAon_lines (s : State) (v : Aon) : (s.setAon v).lines = s.lines := rfl
@[simp] theorem State.setAon_banks (s : State) (v : Aon) : (s.setAon v).banks = s.banks := rfl
@[simp] theorem State.setAon_granary (s : State) (v : Aon) : (s.setAon v).granary = s.granary := rfl
@[simp] theorem State.setAon_sexton (s : State) (v : Aon) : (s.setAon v).sexton = s.sexton := rfl
@[simp] theorem State.setAon_audio (s : State) (v : Aon) : (s.setAon v).audio = s.audio := rfl
@[simp] theorem State.setAon_tally (s : State) (v : Aon) : (s.setAon v).tally = s.tally := rfl
@[simp] theorem State.setAon_crier (s : State) (v : Aon) : (s.setAon v).crier = s.crier := rfl
@[simp] theorem State.setAon_twin (s : State) (v : Aon) : (s.setAon v).twin = s.twin := rfl
@[simp] theorem State.setAon_warden (s : State) (v : Aon) : (s.setAon v).warden = s.warden := rfl
@[simp] theorem State.setAon_gate (s : State) (v : Aon) : (s.setAon v).gate = s.gate := rfl
@[simp] theorem State.setAon_greq (s : State) (v : Aon) : (s.setAon v).greq = s.greq := rfl
@[simp] theorem State.setAon_host (s : State) (v : Aon) : (s.setAon v).host = s.host := rfl
@[simp] theorem State.setAon_reeves (s : State) (v : Aon) : (s.setAon v).reeves = s.reeves := rfl
@[simp] theorem State.setAon_stew (s : State) (v : Aon) : (s.setAon v).stew = s.stew := rfl
@[simp] theorem State.setAon_dma (s : State) (v : Aon) : (s.setAon v).dma = s.dma := rfl
@[simp] theorem State.setAon_ctrlRam (s : State) (v : Aon) : (s.setAon v).ctrlRam = s.ctrlRam := rfl
@[simp] theorem State.setAon_per (s : State) (v : Aon) : (s.setAon v).per = s.per := rfl
@[simp] theorem State.setAon_flash (s : State) (v : Aon) : (s.setAon v).flash = s.flash := rfl
@[simp] theorem State.setAon_faults (s : State) (v : Aon) : (s.setAon v).faults = s.faults := rfl
@[simp] theorem State.setAon_jex (s : State) (v : Aon) : (s.setAon v).jex = s.jex := rfl
@[simp] theorem State.setAon_vigil (s : State) (v : Aon) : (s.setAon v).vigil = s.vigil := rfl
@[simp] theorem State.setAon_fresh (s : State) (v : Aon) : (s.setAon v).fresh = s.fresh := rfl
@[simp] theorem State.setAon_pending (s : State) (v : Aon) : (s.setAon v).pending = s.pending := rfl
@[simp] theorem State.setQuerns_aon (s : State) (v : Tab Quern) : (s.setQuerns v).aon = s.aon := rfl
@[simp] theorem State.setQuerns_querns (s : State) (v : Tab Quern) : (s.setQuerns v).querns = v := rfl
@[simp] theorem State.setQuerns_domains (s : State) (v : Tab Quern) : (s.setQuerns v).domains = s.domains := rfl
@[simp] theorem State.setQuerns_lines (s : State) (v : Tab Quern) : (s.setQuerns v).lines = s.lines := rfl
@[simp] theorem State.setQuerns_banks (s : State) (v : Tab Quern) : (s.setQuerns v).banks = s.banks := rfl
@[simp] theorem State.setQuerns_granary (s : State) (v : Tab Quern) : (s.setQuerns v).granary = s.granary := rfl
@[simp] theorem State.setQuerns_sexton (s : State) (v : Tab Quern) : (s.setQuerns v).sexton = s.sexton := rfl
@[simp] theorem State.setQuerns_audio (s : State) (v : Tab Quern) : (s.setQuerns v).audio = s.audio := rfl
@[simp] theorem State.setQuerns_tally (s : State) (v : Tab Quern) : (s.setQuerns v).tally = s.tally := rfl
@[simp] theorem State.setQuerns_crier (s : State) (v : Tab Quern) : (s.setQuerns v).crier = s.crier := rfl
@[simp] theorem State.setQuerns_twin (s : State) (v : Tab Quern) : (s.setQuerns v).twin = s.twin := rfl
@[simp] theorem State.setQuerns_warden (s : State) (v : Tab Quern) : (s.setQuerns v).warden = s.warden := rfl
@[simp] theorem State.setQuerns_gate (s : State) (v : Tab Quern) : (s.setQuerns v).gate = s.gate := rfl
@[simp] theorem State.setQuerns_greq (s : State) (v : Tab Quern) : (s.setQuerns v).greq = s.greq := rfl
@[simp] theorem State.setQuerns_host (s : State) (v : Tab Quern) : (s.setQuerns v).host = s.host := rfl
@[simp] theorem State.setQuerns_reeves (s : State) (v : Tab Quern) : (s.setQuerns v).reeves = s.reeves := rfl
@[simp] theorem State.setQuerns_stew (s : State) (v : Tab Quern) : (s.setQuerns v).stew = s.stew := rfl
@[simp] theorem State.setQuerns_dma (s : State) (v : Tab Quern) : (s.setQuerns v).dma = s.dma := rfl
@[simp] theorem State.setQuerns_ctrlRam (s : State) (v : Tab Quern) : (s.setQuerns v).ctrlRam = s.ctrlRam := rfl
@[simp] theorem State.setQuerns_per (s : State) (v : Tab Quern) : (s.setQuerns v).per = s.per := rfl
@[simp] theorem State.setQuerns_flash (s : State) (v : Tab Quern) : (s.setQuerns v).flash = s.flash := rfl
@[simp] theorem State.setQuerns_faults (s : State) (v : Tab Quern) : (s.setQuerns v).faults = s.faults := rfl
@[simp] theorem State.setQuerns_jex (s : State) (v : Tab Quern) : (s.setQuerns v).jex = s.jex := rfl
@[simp] theorem State.setQuerns_vigil (s : State) (v : Tab Quern) : (s.setQuerns v).vigil = s.vigil := rfl
@[simp] theorem State.setQuerns_fresh (s : State) (v : Tab Quern) : (s.setQuerns v).fresh = s.fresh := rfl
@[simp] theorem State.setQuerns_pending (s : State) (v : Tab Quern) : (s.setQuerns v).pending = s.pending := rfl
@[simp] theorem State.setDomains_aon (s : State) (v : Tab Domain) : (s.setDomains v).aon = s.aon := rfl
@[simp] theorem State.setDomains_querns (s : State) (v : Tab Domain) : (s.setDomains v).querns = s.querns := rfl
@[simp] theorem State.setDomains_domains (s : State) (v : Tab Domain) : (s.setDomains v).domains = v := rfl
@[simp] theorem State.setDomains_lines (s : State) (v : Tab Domain) : (s.setDomains v).lines = s.lines := rfl
@[simp] theorem State.setDomains_banks (s : State) (v : Tab Domain) : (s.setDomains v).banks = s.banks := rfl
@[simp] theorem State.setDomains_granary (s : State) (v : Tab Domain) : (s.setDomains v).granary = s.granary := rfl
@[simp] theorem State.setDomains_sexton (s : State) (v : Tab Domain) : (s.setDomains v).sexton = s.sexton := rfl
@[simp] theorem State.setDomains_audio (s : State) (v : Tab Domain) : (s.setDomains v).audio = s.audio := rfl
@[simp] theorem State.setDomains_tally (s : State) (v : Tab Domain) : (s.setDomains v).tally = s.tally := rfl
@[simp] theorem State.setDomains_crier (s : State) (v : Tab Domain) : (s.setDomains v).crier = s.crier := rfl
@[simp] theorem State.setDomains_twin (s : State) (v : Tab Domain) : (s.setDomains v).twin = s.twin := rfl
@[simp] theorem State.setDomains_warden (s : State) (v : Tab Domain) : (s.setDomains v).warden = s.warden := rfl
@[simp] theorem State.setDomains_gate (s : State) (v : Tab Domain) : (s.setDomains v).gate = s.gate := rfl
@[simp] theorem State.setDomains_greq (s : State) (v : Tab Domain) : (s.setDomains v).greq = s.greq := rfl
@[simp] theorem State.setDomains_host (s : State) (v : Tab Domain) : (s.setDomains v).host = s.host := rfl
@[simp] theorem State.setDomains_reeves (s : State) (v : Tab Domain) : (s.setDomains v).reeves = s.reeves := rfl
@[simp] theorem State.setDomains_stew (s : State) (v : Tab Domain) : (s.setDomains v).stew = s.stew := rfl
@[simp] theorem State.setDomains_dma (s : State) (v : Tab Domain) : (s.setDomains v).dma = s.dma := rfl
@[simp] theorem State.setDomains_ctrlRam (s : State) (v : Tab Domain) : (s.setDomains v).ctrlRam = s.ctrlRam := rfl
@[simp] theorem State.setDomains_per (s : State) (v : Tab Domain) : (s.setDomains v).per = s.per := rfl
@[simp] theorem State.setDomains_flash (s : State) (v : Tab Domain) : (s.setDomains v).flash = s.flash := rfl
@[simp] theorem State.setDomains_faults (s : State) (v : Tab Domain) : (s.setDomains v).faults = s.faults := rfl
@[simp] theorem State.setDomains_jex (s : State) (v : Tab Domain) : (s.setDomains v).jex = s.jex := rfl
@[simp] theorem State.setDomains_vigil (s : State) (v : Tab Domain) : (s.setDomains v).vigil = s.vigil := rfl
@[simp] theorem State.setDomains_fresh (s : State) (v : Tab Domain) : (s.setDomains v).fresh = s.fresh := rfl
@[simp] theorem State.setDomains_pending (s : State) (v : Tab Domain) : (s.setDomains v).pending = s.pending := rfl
@[simp] theorem State.setLines_aon (s : State) (v : Tab Line) : (s.setLines v).aon = s.aon := rfl
@[simp] theorem State.setLines_querns (s : State) (v : Tab Line) : (s.setLines v).querns = s.querns := rfl
@[simp] theorem State.setLines_domains (s : State) (v : Tab Line) : (s.setLines v).domains = s.domains := rfl
@[simp] theorem State.setLines_lines (s : State) (v : Tab Line) : (s.setLines v).lines = v := rfl
@[simp] theorem State.setLines_banks (s : State) (v : Tab Line) : (s.setLines v).banks = s.banks := rfl
@[simp] theorem State.setLines_granary (s : State) (v : Tab Line) : (s.setLines v).granary = s.granary := rfl
@[simp] theorem State.setLines_sexton (s : State) (v : Tab Line) : (s.setLines v).sexton = s.sexton := rfl
@[simp] theorem State.setLines_audio (s : State) (v : Tab Line) : (s.setLines v).audio = s.audio := rfl
@[simp] theorem State.setLines_tally (s : State) (v : Tab Line) : (s.setLines v).tally = s.tally := rfl
@[simp] theorem State.setLines_crier (s : State) (v : Tab Line) : (s.setLines v).crier = s.crier := rfl
@[simp] theorem State.setLines_twin (s : State) (v : Tab Line) : (s.setLines v).twin = s.twin := rfl
@[simp] theorem State.setLines_warden (s : State) (v : Tab Line) : (s.setLines v).warden = s.warden := rfl
@[simp] theorem State.setLines_gate (s : State) (v : Tab Line) : (s.setLines v).gate = s.gate := rfl
@[simp] theorem State.setLines_greq (s : State) (v : Tab Line) : (s.setLines v).greq = s.greq := rfl
@[simp] theorem State.setLines_host (s : State) (v : Tab Line) : (s.setLines v).host = s.host := rfl
@[simp] theorem State.setLines_reeves (s : State) (v : Tab Line) : (s.setLines v).reeves = s.reeves := rfl
@[simp] theorem State.setLines_stew (s : State) (v : Tab Line) : (s.setLines v).stew = s.stew := rfl
@[simp] theorem State.setLines_dma (s : State) (v : Tab Line) : (s.setLines v).dma = s.dma := rfl
@[simp] theorem State.setLines_ctrlRam (s : State) (v : Tab Line) : (s.setLines v).ctrlRam = s.ctrlRam := rfl
@[simp] theorem State.setLines_per (s : State) (v : Tab Line) : (s.setLines v).per = s.per := rfl
@[simp] theorem State.setLines_flash (s : State) (v : Tab Line) : (s.setLines v).flash = s.flash := rfl
@[simp] theorem State.setLines_faults (s : State) (v : Tab Line) : (s.setLines v).faults = s.faults := rfl
@[simp] theorem State.setLines_jex (s : State) (v : Tab Line) : (s.setLines v).jex = s.jex := rfl
@[simp] theorem State.setLines_vigil (s : State) (v : Tab Line) : (s.setLines v).vigil = s.vigil := rfl
@[simp] theorem State.setLines_fresh (s : State) (v : Tab Line) : (s.setLines v).fresh = s.fresh := rfl
@[simp] theorem State.setLines_pending (s : State) (v : Tab Line) : (s.setLines v).pending = s.pending := rfl
@[simp] theorem State.setBanks_aon (s : State) (v : Tab Bank) : (s.setBanks v).aon = s.aon := rfl
@[simp] theorem State.setBanks_querns (s : State) (v : Tab Bank) : (s.setBanks v).querns = s.querns := rfl
@[simp] theorem State.setBanks_domains (s : State) (v : Tab Bank) : (s.setBanks v).domains = s.domains := rfl
@[simp] theorem State.setBanks_lines (s : State) (v : Tab Bank) : (s.setBanks v).lines = s.lines := rfl
@[simp] theorem State.setBanks_banks (s : State) (v : Tab Bank) : (s.setBanks v).banks = v := rfl
@[simp] theorem State.setBanks_granary (s : State) (v : Tab Bank) : (s.setBanks v).granary = s.granary := rfl
@[simp] theorem State.setBanks_sexton (s : State) (v : Tab Bank) : (s.setBanks v).sexton = s.sexton := rfl
@[simp] theorem State.setBanks_audio (s : State) (v : Tab Bank) : (s.setBanks v).audio = s.audio := rfl
@[simp] theorem State.setBanks_tally (s : State) (v : Tab Bank) : (s.setBanks v).tally = s.tally := rfl
@[simp] theorem State.setBanks_crier (s : State) (v : Tab Bank) : (s.setBanks v).crier = s.crier := rfl
@[simp] theorem State.setBanks_twin (s : State) (v : Tab Bank) : (s.setBanks v).twin = s.twin := rfl
@[simp] theorem State.setBanks_warden (s : State) (v : Tab Bank) : (s.setBanks v).warden = s.warden := rfl
@[simp] theorem State.setBanks_gate (s : State) (v : Tab Bank) : (s.setBanks v).gate = s.gate := rfl
@[simp] theorem State.setBanks_greq (s : State) (v : Tab Bank) : (s.setBanks v).greq = s.greq := rfl
@[simp] theorem State.setBanks_host (s : State) (v : Tab Bank) : (s.setBanks v).host = s.host := rfl
@[simp] theorem State.setBanks_reeves (s : State) (v : Tab Bank) : (s.setBanks v).reeves = s.reeves := rfl
@[simp] theorem State.setBanks_stew (s : State) (v : Tab Bank) : (s.setBanks v).stew = s.stew := rfl
@[simp] theorem State.setBanks_dma (s : State) (v : Tab Bank) : (s.setBanks v).dma = s.dma := rfl
@[simp] theorem State.setBanks_ctrlRam (s : State) (v : Tab Bank) : (s.setBanks v).ctrlRam = s.ctrlRam := rfl
@[simp] theorem State.setBanks_per (s : State) (v : Tab Bank) : (s.setBanks v).per = s.per := rfl
@[simp] theorem State.setBanks_flash (s : State) (v : Tab Bank) : (s.setBanks v).flash = s.flash := rfl
@[simp] theorem State.setBanks_faults (s : State) (v : Tab Bank) : (s.setBanks v).faults = s.faults := rfl
@[simp] theorem State.setBanks_jex (s : State) (v : Tab Bank) : (s.setBanks v).jex = s.jex := rfl
@[simp] theorem State.setBanks_vigil (s : State) (v : Tab Bank) : (s.setBanks v).vigil = s.vigil := rfl
@[simp] theorem State.setBanks_fresh (s : State) (v : Tab Bank) : (s.setBanks v).fresh = s.fresh := rfl
@[simp] theorem State.setBanks_pending (s : State) (v : Tab Bank) : (s.setBanks v).pending = s.pending := rfl
@[simp] theorem State.setGranary_aon (s : State) (v : Tab Sample) : (s.setGranary v).aon = s.aon := rfl
@[simp] theorem State.setGranary_querns (s : State) (v : Tab Sample) : (s.setGranary v).querns = s.querns := rfl
@[simp] theorem State.setGranary_domains (s : State) (v : Tab Sample) : (s.setGranary v).domains = s.domains := rfl
@[simp] theorem State.setGranary_lines (s : State) (v : Tab Sample) : (s.setGranary v).lines = s.lines := rfl
@[simp] theorem State.setGranary_banks (s : State) (v : Tab Sample) : (s.setGranary v).banks = s.banks := rfl
@[simp] theorem State.setGranary_granary (s : State) (v : Tab Sample) : (s.setGranary v).granary = v := rfl
@[simp] theorem State.setGranary_sexton (s : State) (v : Tab Sample) : (s.setGranary v).sexton = s.sexton := rfl
@[simp] theorem State.setGranary_audio (s : State) (v : Tab Sample) : (s.setGranary v).audio = s.audio := rfl
@[simp] theorem State.setGranary_tally (s : State) (v : Tab Sample) : (s.setGranary v).tally = s.tally := rfl
@[simp] theorem State.setGranary_crier (s : State) (v : Tab Sample) : (s.setGranary v).crier = s.crier := rfl
@[simp] theorem State.setGranary_twin (s : State) (v : Tab Sample) : (s.setGranary v).twin = s.twin := rfl
@[simp] theorem State.setGranary_warden (s : State) (v : Tab Sample) : (s.setGranary v).warden = s.warden := rfl
@[simp] theorem State.setGranary_gate (s : State) (v : Tab Sample) : (s.setGranary v).gate = s.gate := rfl
@[simp] theorem State.setGranary_greq (s : State) (v : Tab Sample) : (s.setGranary v).greq = s.greq := rfl
@[simp] theorem State.setGranary_host (s : State) (v : Tab Sample) : (s.setGranary v).host = s.host := rfl
@[simp] theorem State.setGranary_reeves (s : State) (v : Tab Sample) : (s.setGranary v).reeves = s.reeves := rfl
@[simp] theorem State.setGranary_stew (s : State) (v : Tab Sample) : (s.setGranary v).stew = s.stew := rfl
@[simp] theorem State.setGranary_dma (s : State) (v : Tab Sample) : (s.setGranary v).dma = s.dma := rfl
@[simp] theorem State.setGranary_ctrlRam (s : State) (v : Tab Sample) : (s.setGranary v).ctrlRam = s.ctrlRam := rfl
@[simp] theorem State.setGranary_per (s : State) (v : Tab Sample) : (s.setGranary v).per = s.per := rfl
@[simp] theorem State.setGranary_flash (s : State) (v : Tab Sample) : (s.setGranary v).flash = s.flash := rfl
@[simp] theorem State.setGranary_faults (s : State) (v : Tab Sample) : (s.setGranary v).faults = s.faults := rfl
@[simp] theorem State.setGranary_jex (s : State) (v : Tab Sample) : (s.setGranary v).jex = s.jex := rfl
@[simp] theorem State.setGranary_vigil (s : State) (v : Tab Sample) : (s.setGranary v).vigil = s.vigil := rfl
@[simp] theorem State.setGranary_fresh (s : State) (v : Tab Sample) : (s.setGranary v).fresh = s.fresh := rfl
@[simp] theorem State.setGranary_pending (s : State) (v : Tab Sample) : (s.setGranary v).pending = s.pending := rfl
@[simp] theorem State.setSexton_aon (s : State) (v : Sexton) : (s.setSexton v).aon = s.aon := rfl
@[simp] theorem State.setSexton_querns (s : State) (v : Sexton) : (s.setSexton v).querns = s.querns := rfl
@[simp] theorem State.setSexton_domains (s : State) (v : Sexton) : (s.setSexton v).domains = s.domains := rfl
@[simp] theorem State.setSexton_lines (s : State) (v : Sexton) : (s.setSexton v).lines = s.lines := rfl
@[simp] theorem State.setSexton_banks (s : State) (v : Sexton) : (s.setSexton v).banks = s.banks := rfl
@[simp] theorem State.setSexton_granary (s : State) (v : Sexton) : (s.setSexton v).granary = s.granary := rfl
@[simp] theorem State.setSexton_sexton (s : State) (v : Sexton) : (s.setSexton v).sexton = v := rfl
@[simp] theorem State.setSexton_audio (s : State) (v : Sexton) : (s.setSexton v).audio = s.audio := rfl
@[simp] theorem State.setSexton_tally (s : State) (v : Sexton) : (s.setSexton v).tally = s.tally := rfl
@[simp] theorem State.setSexton_crier (s : State) (v : Sexton) : (s.setSexton v).crier = s.crier := rfl
@[simp] theorem State.setSexton_twin (s : State) (v : Sexton) : (s.setSexton v).twin = s.twin := rfl
@[simp] theorem State.setSexton_warden (s : State) (v : Sexton) : (s.setSexton v).warden = s.warden := rfl
@[simp] theorem State.setSexton_gate (s : State) (v : Sexton) : (s.setSexton v).gate = s.gate := rfl
@[simp] theorem State.setSexton_greq (s : State) (v : Sexton) : (s.setSexton v).greq = s.greq := rfl
@[simp] theorem State.setSexton_host (s : State) (v : Sexton) : (s.setSexton v).host = s.host := rfl
@[simp] theorem State.setSexton_reeves (s : State) (v : Sexton) : (s.setSexton v).reeves = s.reeves := rfl
@[simp] theorem State.setSexton_stew (s : State) (v : Sexton) : (s.setSexton v).stew = s.stew := rfl
@[simp] theorem State.setSexton_dma (s : State) (v : Sexton) : (s.setSexton v).dma = s.dma := rfl
@[simp] theorem State.setSexton_ctrlRam (s : State) (v : Sexton) : (s.setSexton v).ctrlRam = s.ctrlRam := rfl
@[simp] theorem State.setSexton_per (s : State) (v : Sexton) : (s.setSexton v).per = s.per := rfl
@[simp] theorem State.setSexton_flash (s : State) (v : Sexton) : (s.setSexton v).flash = s.flash := rfl
@[simp] theorem State.setSexton_faults (s : State) (v : Sexton) : (s.setSexton v).faults = s.faults := rfl
@[simp] theorem State.setSexton_jex (s : State) (v : Sexton) : (s.setSexton v).jex = s.jex := rfl
@[simp] theorem State.setSexton_vigil (s : State) (v : Sexton) : (s.setSexton v).vigil = s.vigil := rfl
@[simp] theorem State.setSexton_fresh (s : State) (v : Sexton) : (s.setSexton v).fresh = s.fresh := rfl
@[simp] theorem State.setSexton_pending (s : State) (v : Sexton) : (s.setSexton v).pending = s.pending := rfl
@[simp] theorem State.setAudio_aon (s : State) (v : Audio) : (s.setAudio v).aon = s.aon := rfl
@[simp] theorem State.setAudio_querns (s : State) (v : Audio) : (s.setAudio v).querns = s.querns := rfl
@[simp] theorem State.setAudio_domains (s : State) (v : Audio) : (s.setAudio v).domains = s.domains := rfl
@[simp] theorem State.setAudio_lines (s : State) (v : Audio) : (s.setAudio v).lines = s.lines := rfl
@[simp] theorem State.setAudio_banks (s : State) (v : Audio) : (s.setAudio v).banks = s.banks := rfl
@[simp] theorem State.setAudio_granary (s : State) (v : Audio) : (s.setAudio v).granary = s.granary := rfl
@[simp] theorem State.setAudio_sexton (s : State) (v : Audio) : (s.setAudio v).sexton = s.sexton := rfl
@[simp] theorem State.setAudio_audio (s : State) (v : Audio) : (s.setAudio v).audio = v := rfl
@[simp] theorem State.setAudio_tally (s : State) (v : Audio) : (s.setAudio v).tally = s.tally := rfl
@[simp] theorem State.setAudio_crier (s : State) (v : Audio) : (s.setAudio v).crier = s.crier := rfl
@[simp] theorem State.setAudio_twin (s : State) (v : Audio) : (s.setAudio v).twin = s.twin := rfl
@[simp] theorem State.setAudio_warden (s : State) (v : Audio) : (s.setAudio v).warden = s.warden := rfl
@[simp] theorem State.setAudio_gate (s : State) (v : Audio) : (s.setAudio v).gate = s.gate := rfl
@[simp] theorem State.setAudio_greq (s : State) (v : Audio) : (s.setAudio v).greq = s.greq := rfl
@[simp] theorem State.setAudio_host (s : State) (v : Audio) : (s.setAudio v).host = s.host := rfl
@[simp] theorem State.setAudio_reeves (s : State) (v : Audio) : (s.setAudio v).reeves = s.reeves := rfl
@[simp] theorem State.setAudio_stew (s : State) (v : Audio) : (s.setAudio v).stew = s.stew := rfl
@[simp] theorem State.setAudio_dma (s : State) (v : Audio) : (s.setAudio v).dma = s.dma := rfl
@[simp] theorem State.setAudio_ctrlRam (s : State) (v : Audio) : (s.setAudio v).ctrlRam = s.ctrlRam := rfl
@[simp] theorem State.setAudio_per (s : State) (v : Audio) : (s.setAudio v).per = s.per := rfl
@[simp] theorem State.setAudio_flash (s : State) (v : Audio) : (s.setAudio v).flash = s.flash := rfl
@[simp] theorem State.setAudio_faults (s : State) (v : Audio) : (s.setAudio v).faults = s.faults := rfl
@[simp] theorem State.setAudio_jex (s : State) (v : Audio) : (s.setAudio v).jex = s.jex := rfl
@[simp] theorem State.setAudio_vigil (s : State) (v : Audio) : (s.setAudio v).vigil = s.vigil := rfl
@[simp] theorem State.setAudio_fresh (s : State) (v : Audio) : (s.setAudio v).fresh = s.fresh := rfl
@[simp] theorem State.setAudio_pending (s : State) (v : Audio) : (s.setAudio v).pending = s.pending := rfl
@[simp] theorem State.setTally_aon (s : State) (v : Tally) : (s.setTally v).aon = s.aon := rfl
@[simp] theorem State.setTally_querns (s : State) (v : Tally) : (s.setTally v).querns = s.querns := rfl
@[simp] theorem State.setTally_domains (s : State) (v : Tally) : (s.setTally v).domains = s.domains := rfl
@[simp] theorem State.setTally_lines (s : State) (v : Tally) : (s.setTally v).lines = s.lines := rfl
@[simp] theorem State.setTally_banks (s : State) (v : Tally) : (s.setTally v).banks = s.banks := rfl
@[simp] theorem State.setTally_granary (s : State) (v : Tally) : (s.setTally v).granary = s.granary := rfl
@[simp] theorem State.setTally_sexton (s : State) (v : Tally) : (s.setTally v).sexton = s.sexton := rfl
@[simp] theorem State.setTally_audio (s : State) (v : Tally) : (s.setTally v).audio = s.audio := rfl
@[simp] theorem State.setTally_tally (s : State) (v : Tally) : (s.setTally v).tally = v := rfl
@[simp] theorem State.setTally_crier (s : State) (v : Tally) : (s.setTally v).crier = s.crier := rfl
@[simp] theorem State.setTally_twin (s : State) (v : Tally) : (s.setTally v).twin = s.twin := rfl
@[simp] theorem State.setTally_warden (s : State) (v : Tally) : (s.setTally v).warden = s.warden := rfl
@[simp] theorem State.setTally_gate (s : State) (v : Tally) : (s.setTally v).gate = s.gate := rfl
@[simp] theorem State.setTally_greq (s : State) (v : Tally) : (s.setTally v).greq = s.greq := rfl
@[simp] theorem State.setTally_host (s : State) (v : Tally) : (s.setTally v).host = s.host := rfl
@[simp] theorem State.setTally_reeves (s : State) (v : Tally) : (s.setTally v).reeves = s.reeves := rfl
@[simp] theorem State.setTally_stew (s : State) (v : Tally) : (s.setTally v).stew = s.stew := rfl
@[simp] theorem State.setTally_dma (s : State) (v : Tally) : (s.setTally v).dma = s.dma := rfl
@[simp] theorem State.setTally_ctrlRam (s : State) (v : Tally) : (s.setTally v).ctrlRam = s.ctrlRam := rfl
@[simp] theorem State.setTally_per (s : State) (v : Tally) : (s.setTally v).per = s.per := rfl
@[simp] theorem State.setTally_flash (s : State) (v : Tally) : (s.setTally v).flash = s.flash := rfl
@[simp] theorem State.setTally_faults (s : State) (v : Tally) : (s.setTally v).faults = s.faults := rfl
@[simp] theorem State.setTally_jex (s : State) (v : Tally) : (s.setTally v).jex = s.jex := rfl
@[simp] theorem State.setTally_vigil (s : State) (v : Tally) : (s.setTally v).vigil = s.vigil := rfl
@[simp] theorem State.setTally_fresh (s : State) (v : Tally) : (s.setTally v).fresh = s.fresh := rfl
@[simp] theorem State.setTally_pending (s : State) (v : Tally) : (s.setTally v).pending = s.pending := rfl
@[simp] theorem State.setCrier_aon (s : State) (v : Crier) : (s.setCrier v).aon = s.aon := rfl
@[simp] theorem State.setCrier_querns (s : State) (v : Crier) : (s.setCrier v).querns = s.querns := rfl
@[simp] theorem State.setCrier_domains (s : State) (v : Crier) : (s.setCrier v).domains = s.domains := rfl
@[simp] theorem State.setCrier_lines (s : State) (v : Crier) : (s.setCrier v).lines = s.lines := rfl
@[simp] theorem State.setCrier_banks (s : State) (v : Crier) : (s.setCrier v).banks = s.banks := rfl
@[simp] theorem State.setCrier_granary (s : State) (v : Crier) : (s.setCrier v).granary = s.granary := rfl
@[simp] theorem State.setCrier_sexton (s : State) (v : Crier) : (s.setCrier v).sexton = s.sexton := rfl
@[simp] theorem State.setCrier_audio (s : State) (v : Crier) : (s.setCrier v).audio = s.audio := rfl
@[simp] theorem State.setCrier_tally (s : State) (v : Crier) : (s.setCrier v).tally = s.tally := rfl
@[simp] theorem State.setCrier_crier (s : State) (v : Crier) : (s.setCrier v).crier = v := rfl
@[simp] theorem State.setCrier_twin (s : State) (v : Crier) : (s.setCrier v).twin = s.twin := rfl
@[simp] theorem State.setCrier_warden (s : State) (v : Crier) : (s.setCrier v).warden = s.warden := rfl
@[simp] theorem State.setCrier_gate (s : State) (v : Crier) : (s.setCrier v).gate = s.gate := rfl
@[simp] theorem State.setCrier_greq (s : State) (v : Crier) : (s.setCrier v).greq = s.greq := rfl
@[simp] theorem State.setCrier_host (s : State) (v : Crier) : (s.setCrier v).host = s.host := rfl
@[simp] theorem State.setCrier_reeves (s : State) (v : Crier) : (s.setCrier v).reeves = s.reeves := rfl
@[simp] theorem State.setCrier_stew (s : State) (v : Crier) : (s.setCrier v).stew = s.stew := rfl
@[simp] theorem State.setCrier_dma (s : State) (v : Crier) : (s.setCrier v).dma = s.dma := rfl
@[simp] theorem State.setCrier_ctrlRam (s : State) (v : Crier) : (s.setCrier v).ctrlRam = s.ctrlRam := rfl
@[simp] theorem State.setCrier_per (s : State) (v : Crier) : (s.setCrier v).per = s.per := rfl
@[simp] theorem State.setCrier_flash (s : State) (v : Crier) : (s.setCrier v).flash = s.flash := rfl
@[simp] theorem State.setCrier_faults (s : State) (v : Crier) : (s.setCrier v).faults = s.faults := rfl
@[simp] theorem State.setCrier_jex (s : State) (v : Crier) : (s.setCrier v).jex = s.jex := rfl
@[simp] theorem State.setCrier_vigil (s : State) (v : Crier) : (s.setCrier v).vigil = s.vigil := rfl
@[simp] theorem State.setCrier_fresh (s : State) (v : Crier) : (s.setCrier v).fresh = s.fresh := rfl
@[simp] theorem State.setCrier_pending (s : State) (v : Crier) : (s.setCrier v).pending = s.pending := rfl
@[simp] theorem State.setTwin_aon (s : State) (v : Twin) : (s.setTwin v).aon = s.aon := rfl
@[simp] theorem State.setTwin_querns (s : State) (v : Twin) : (s.setTwin v).querns = s.querns := rfl
@[simp] theorem State.setTwin_domains (s : State) (v : Twin) : (s.setTwin v).domains = s.domains := rfl
@[simp] theorem State.setTwin_lines (s : State) (v : Twin) : (s.setTwin v).lines = s.lines := rfl
@[simp] theorem State.setTwin_banks (s : State) (v : Twin) : (s.setTwin v).banks = s.banks := rfl
@[simp] theorem State.setTwin_granary (s : State) (v : Twin) : (s.setTwin v).granary = s.granary := rfl
@[simp] theorem State.setTwin_sexton (s : State) (v : Twin) : (s.setTwin v).sexton = s.sexton := rfl
@[simp] theorem State.setTwin_audio (s : State) (v : Twin) : (s.setTwin v).audio = s.audio := rfl
@[simp] theorem State.setTwin_tally (s : State) (v : Twin) : (s.setTwin v).tally = s.tally := rfl
@[simp] theorem State.setTwin_crier (s : State) (v : Twin) : (s.setTwin v).crier = s.crier := rfl
@[simp] theorem State.setTwin_twin (s : State) (v : Twin) : (s.setTwin v).twin = v := rfl
@[simp] theorem State.setTwin_warden (s : State) (v : Twin) : (s.setTwin v).warden = s.warden := rfl
@[simp] theorem State.setTwin_gate (s : State) (v : Twin) : (s.setTwin v).gate = s.gate := rfl
@[simp] theorem State.setTwin_greq (s : State) (v : Twin) : (s.setTwin v).greq = s.greq := rfl
@[simp] theorem State.setTwin_host (s : State) (v : Twin) : (s.setTwin v).host = s.host := rfl
@[simp] theorem State.setTwin_reeves (s : State) (v : Twin) : (s.setTwin v).reeves = s.reeves := rfl
@[simp] theorem State.setTwin_stew (s : State) (v : Twin) : (s.setTwin v).stew = s.stew := rfl
@[simp] theorem State.setTwin_dma (s : State) (v : Twin) : (s.setTwin v).dma = s.dma := rfl
@[simp] theorem State.setTwin_ctrlRam (s : State) (v : Twin) : (s.setTwin v).ctrlRam = s.ctrlRam := rfl
@[simp] theorem State.setTwin_per (s : State) (v : Twin) : (s.setTwin v).per = s.per := rfl
@[simp] theorem State.setTwin_flash (s : State) (v : Twin) : (s.setTwin v).flash = s.flash := rfl
@[simp] theorem State.setTwin_faults (s : State) (v : Twin) : (s.setTwin v).faults = s.faults := rfl
@[simp] theorem State.setTwin_jex (s : State) (v : Twin) : (s.setTwin v).jex = s.jex := rfl
@[simp] theorem State.setTwin_vigil (s : State) (v : Twin) : (s.setTwin v).vigil = s.vigil := rfl
@[simp] theorem State.setTwin_fresh (s : State) (v : Twin) : (s.setTwin v).fresh = s.fresh := rfl
@[simp] theorem State.setTwin_pending (s : State) (v : Twin) : (s.setTwin v).pending = s.pending := rfl
@[simp] theorem State.setWarden_aon (s : State) (v : Warden) : (s.setWarden v).aon = s.aon := rfl
@[simp] theorem State.setWarden_querns (s : State) (v : Warden) : (s.setWarden v).querns = s.querns := rfl
@[simp] theorem State.setWarden_domains (s : State) (v : Warden) : (s.setWarden v).domains = s.domains := rfl
@[simp] theorem State.setWarden_lines (s : State) (v : Warden) : (s.setWarden v).lines = s.lines := rfl
@[simp] theorem State.setWarden_banks (s : State) (v : Warden) : (s.setWarden v).banks = s.banks := rfl
@[simp] theorem State.setWarden_granary (s : State) (v : Warden) : (s.setWarden v).granary = s.granary := rfl
@[simp] theorem State.setWarden_sexton (s : State) (v : Warden) : (s.setWarden v).sexton = s.sexton := rfl
@[simp] theorem State.setWarden_audio (s : State) (v : Warden) : (s.setWarden v).audio = s.audio := rfl
@[simp] theorem State.setWarden_tally (s : State) (v : Warden) : (s.setWarden v).tally = s.tally := rfl
@[simp] theorem State.setWarden_crier (s : State) (v : Warden) : (s.setWarden v).crier = s.crier := rfl
@[simp] theorem State.setWarden_twin (s : State) (v : Warden) : (s.setWarden v).twin = s.twin := rfl
@[simp] theorem State.setWarden_warden (s : State) (v : Warden) : (s.setWarden v).warden = v := rfl
@[simp] theorem State.setWarden_gate (s : State) (v : Warden) : (s.setWarden v).gate = s.gate := rfl
@[simp] theorem State.setWarden_greq (s : State) (v : Warden) : (s.setWarden v).greq = s.greq := rfl
@[simp] theorem State.setWarden_host (s : State) (v : Warden) : (s.setWarden v).host = s.host := rfl
@[simp] theorem State.setWarden_reeves (s : State) (v : Warden) : (s.setWarden v).reeves = s.reeves := rfl
@[simp] theorem State.setWarden_stew (s : State) (v : Warden) : (s.setWarden v).stew = s.stew := rfl
@[simp] theorem State.setWarden_dma (s : State) (v : Warden) : (s.setWarden v).dma = s.dma := rfl
@[simp] theorem State.setWarden_ctrlRam (s : State) (v : Warden) : (s.setWarden v).ctrlRam = s.ctrlRam := rfl
@[simp] theorem State.setWarden_per (s : State) (v : Warden) : (s.setWarden v).per = s.per := rfl
@[simp] theorem State.setWarden_flash (s : State) (v : Warden) : (s.setWarden v).flash = s.flash := rfl
@[simp] theorem State.setWarden_faults (s : State) (v : Warden) : (s.setWarden v).faults = s.faults := rfl
@[simp] theorem State.setWarden_jex (s : State) (v : Warden) : (s.setWarden v).jex = s.jex := rfl
@[simp] theorem State.setWarden_vigil (s : State) (v : Warden) : (s.setWarden v).vigil = s.vigil := rfl
@[simp] theorem State.setWarden_fresh (s : State) (v : Warden) : (s.setWarden v).fresh = s.fresh := rfl
@[simp] theorem State.setWarden_pending (s : State) (v : Warden) : (s.setWarden v).pending = s.pending := rfl
@[simp] theorem State.setGate_aon (s : State) (v : Gate) : (s.setGate v).aon = s.aon := rfl
@[simp] theorem State.setGate_querns (s : State) (v : Gate) : (s.setGate v).querns = s.querns := rfl
@[simp] theorem State.setGate_domains (s : State) (v : Gate) : (s.setGate v).domains = s.domains := rfl
@[simp] theorem State.setGate_lines (s : State) (v : Gate) : (s.setGate v).lines = s.lines := rfl
@[simp] theorem State.setGate_banks (s : State) (v : Gate) : (s.setGate v).banks = s.banks := rfl
@[simp] theorem State.setGate_granary (s : State) (v : Gate) : (s.setGate v).granary = s.granary := rfl
@[simp] theorem State.setGate_sexton (s : State) (v : Gate) : (s.setGate v).sexton = s.sexton := rfl
@[simp] theorem State.setGate_audio (s : State) (v : Gate) : (s.setGate v).audio = s.audio := rfl
@[simp] theorem State.setGate_tally (s : State) (v : Gate) : (s.setGate v).tally = s.tally := rfl
@[simp] theorem State.setGate_crier (s : State) (v : Gate) : (s.setGate v).crier = s.crier := rfl
@[simp] theorem State.setGate_twin (s : State) (v : Gate) : (s.setGate v).twin = s.twin := rfl
@[simp] theorem State.setGate_warden (s : State) (v : Gate) : (s.setGate v).warden = s.warden := rfl
@[simp] theorem State.setGate_gate (s : State) (v : Gate) : (s.setGate v).gate = v := rfl
@[simp] theorem State.setGate_greq (s : State) (v : Gate) : (s.setGate v).greq = s.greq := rfl
@[simp] theorem State.setGate_host (s : State) (v : Gate) : (s.setGate v).host = s.host := rfl
@[simp] theorem State.setGate_reeves (s : State) (v : Gate) : (s.setGate v).reeves = s.reeves := rfl
@[simp] theorem State.setGate_stew (s : State) (v : Gate) : (s.setGate v).stew = s.stew := rfl
@[simp] theorem State.setGate_dma (s : State) (v : Gate) : (s.setGate v).dma = s.dma := rfl
@[simp] theorem State.setGate_ctrlRam (s : State) (v : Gate) : (s.setGate v).ctrlRam = s.ctrlRam := rfl
@[simp] theorem State.setGate_per (s : State) (v : Gate) : (s.setGate v).per = s.per := rfl
@[simp] theorem State.setGate_flash (s : State) (v : Gate) : (s.setGate v).flash = s.flash := rfl
@[simp] theorem State.setGate_faults (s : State) (v : Gate) : (s.setGate v).faults = s.faults := rfl
@[simp] theorem State.setGate_jex (s : State) (v : Gate) : (s.setGate v).jex = s.jex := rfl
@[simp] theorem State.setGate_vigil (s : State) (v : Gate) : (s.setGate v).vigil = s.vigil := rfl
@[simp] theorem State.setGate_fresh (s : State) (v : Gate) : (s.setGate v).fresh = s.fresh := rfl
@[simp] theorem State.setGate_pending (s : State) (v : Gate) : (s.setGate v).pending = s.pending := rfl
@[simp] theorem State.setGreq_aon (s : State) (v : Greq) : (s.setGreq v).aon = s.aon := rfl
@[simp] theorem State.setGreq_querns (s : State) (v : Greq) : (s.setGreq v).querns = s.querns := rfl
@[simp] theorem State.setGreq_domains (s : State) (v : Greq) : (s.setGreq v).domains = s.domains := rfl
@[simp] theorem State.setGreq_lines (s : State) (v : Greq) : (s.setGreq v).lines = s.lines := rfl
@[simp] theorem State.setGreq_banks (s : State) (v : Greq) : (s.setGreq v).banks = s.banks := rfl
@[simp] theorem State.setGreq_granary (s : State) (v : Greq) : (s.setGreq v).granary = s.granary := rfl
@[simp] theorem State.setGreq_sexton (s : State) (v : Greq) : (s.setGreq v).sexton = s.sexton := rfl
@[simp] theorem State.setGreq_audio (s : State) (v : Greq) : (s.setGreq v).audio = s.audio := rfl
@[simp] theorem State.setGreq_tally (s : State) (v : Greq) : (s.setGreq v).tally = s.tally := rfl
@[simp] theorem State.setGreq_crier (s : State) (v : Greq) : (s.setGreq v).crier = s.crier := rfl
@[simp] theorem State.setGreq_twin (s : State) (v : Greq) : (s.setGreq v).twin = s.twin := rfl
@[simp] theorem State.setGreq_warden (s : State) (v : Greq) : (s.setGreq v).warden = s.warden := rfl
@[simp] theorem State.setGreq_gate (s : State) (v : Greq) : (s.setGreq v).gate = s.gate := rfl
@[simp] theorem State.setGreq_greq (s : State) (v : Greq) : (s.setGreq v).greq = v := rfl
@[simp] theorem State.setGreq_host (s : State) (v : Greq) : (s.setGreq v).host = s.host := rfl
@[simp] theorem State.setGreq_reeves (s : State) (v : Greq) : (s.setGreq v).reeves = s.reeves := rfl
@[simp] theorem State.setGreq_stew (s : State) (v : Greq) : (s.setGreq v).stew = s.stew := rfl
@[simp] theorem State.setGreq_dma (s : State) (v : Greq) : (s.setGreq v).dma = s.dma := rfl
@[simp] theorem State.setGreq_ctrlRam (s : State) (v : Greq) : (s.setGreq v).ctrlRam = s.ctrlRam := rfl
@[simp] theorem State.setGreq_per (s : State) (v : Greq) : (s.setGreq v).per = s.per := rfl
@[simp] theorem State.setGreq_flash (s : State) (v : Greq) : (s.setGreq v).flash = s.flash := rfl
@[simp] theorem State.setGreq_faults (s : State) (v : Greq) : (s.setGreq v).faults = s.faults := rfl
@[simp] theorem State.setGreq_jex (s : State) (v : Greq) : (s.setGreq v).jex = s.jex := rfl
@[simp] theorem State.setGreq_vigil (s : State) (v : Greq) : (s.setGreq v).vigil = s.vigil := rfl
@[simp] theorem State.setGreq_fresh (s : State) (v : Greq) : (s.setGreq v).fresh = s.fresh := rfl
@[simp] theorem State.setGreq_pending (s : State) (v : Greq) : (s.setGreq v).pending = s.pending := rfl
@[simp] theorem State.setHost_aon (s : State) (v : HostPort) : (s.setHost v).aon = s.aon := rfl
@[simp] theorem State.setHost_querns (s : State) (v : HostPort) : (s.setHost v).querns = s.querns := rfl
@[simp] theorem State.setHost_domains (s : State) (v : HostPort) : (s.setHost v).domains = s.domains := rfl
@[simp] theorem State.setHost_lines (s : State) (v : HostPort) : (s.setHost v).lines = s.lines := rfl
@[simp] theorem State.setHost_banks (s : State) (v : HostPort) : (s.setHost v).banks = s.banks := rfl
@[simp] theorem State.setHost_granary (s : State) (v : HostPort) : (s.setHost v).granary = s.granary := rfl
@[simp] theorem State.setHost_sexton (s : State) (v : HostPort) : (s.setHost v).sexton = s.sexton := rfl
@[simp] theorem State.setHost_audio (s : State) (v : HostPort) : (s.setHost v).audio = s.audio := rfl
@[simp] theorem State.setHost_tally (s : State) (v : HostPort) : (s.setHost v).tally = s.tally := rfl
@[simp] theorem State.setHost_crier (s : State) (v : HostPort) : (s.setHost v).crier = s.crier := rfl
@[simp] theorem State.setHost_twin (s : State) (v : HostPort) : (s.setHost v).twin = s.twin := rfl
@[simp] theorem State.setHost_warden (s : State) (v : HostPort) : (s.setHost v).warden = s.warden := rfl
@[simp] theorem State.setHost_gate (s : State) (v : HostPort) : (s.setHost v).gate = s.gate := rfl
@[simp] theorem State.setHost_greq (s : State) (v : HostPort) : (s.setHost v).greq = s.greq := rfl
@[simp] theorem State.setHost_host (s : State) (v : HostPort) : (s.setHost v).host = v := rfl
@[simp] theorem State.setHost_reeves (s : State) (v : HostPort) : (s.setHost v).reeves = s.reeves := rfl
@[simp] theorem State.setHost_stew (s : State) (v : HostPort) : (s.setHost v).stew = s.stew := rfl
@[simp] theorem State.setHost_dma (s : State) (v : HostPort) : (s.setHost v).dma = s.dma := rfl
@[simp] theorem State.setHost_ctrlRam (s : State) (v : HostPort) : (s.setHost v).ctrlRam = s.ctrlRam := rfl
@[simp] theorem State.setHost_per (s : State) (v : HostPort) : (s.setHost v).per = s.per := rfl
@[simp] theorem State.setHost_flash (s : State) (v : HostPort) : (s.setHost v).flash = s.flash := rfl
@[simp] theorem State.setHost_faults (s : State) (v : HostPort) : (s.setHost v).faults = s.faults := rfl
@[simp] theorem State.setHost_jex (s : State) (v : HostPort) : (s.setHost v).jex = s.jex := rfl
@[simp] theorem State.setHost_vigil (s : State) (v : HostPort) : (s.setHost v).vigil = s.vigil := rfl
@[simp] theorem State.setHost_fresh (s : State) (v : HostPort) : (s.setHost v).fresh = s.fresh := rfl
@[simp] theorem State.setHost_pending (s : State) (v : HostPort) : (s.setHost v).pending = s.pending := rfl
@[simp] theorem State.setReeves_aon (s : State) (v : Tab Reeve) : (s.setReeves v).aon = s.aon := rfl
@[simp] theorem State.setReeves_querns (s : State) (v : Tab Reeve) : (s.setReeves v).querns = s.querns := rfl
@[simp] theorem State.setReeves_domains (s : State) (v : Tab Reeve) : (s.setReeves v).domains = s.domains := rfl
@[simp] theorem State.setReeves_lines (s : State) (v : Tab Reeve) : (s.setReeves v).lines = s.lines := rfl
@[simp] theorem State.setReeves_banks (s : State) (v : Tab Reeve) : (s.setReeves v).banks = s.banks := rfl
@[simp] theorem State.setReeves_granary (s : State) (v : Tab Reeve) : (s.setReeves v).granary = s.granary := rfl
@[simp] theorem State.setReeves_sexton (s : State) (v : Tab Reeve) : (s.setReeves v).sexton = s.sexton := rfl
@[simp] theorem State.setReeves_audio (s : State) (v : Tab Reeve) : (s.setReeves v).audio = s.audio := rfl
@[simp] theorem State.setReeves_tally (s : State) (v : Tab Reeve) : (s.setReeves v).tally = s.tally := rfl
@[simp] theorem State.setReeves_crier (s : State) (v : Tab Reeve) : (s.setReeves v).crier = s.crier := rfl
@[simp] theorem State.setReeves_twin (s : State) (v : Tab Reeve) : (s.setReeves v).twin = s.twin := rfl
@[simp] theorem State.setReeves_warden (s : State) (v : Tab Reeve) : (s.setReeves v).warden = s.warden := rfl
@[simp] theorem State.setReeves_gate (s : State) (v : Tab Reeve) : (s.setReeves v).gate = s.gate := rfl
@[simp] theorem State.setReeves_greq (s : State) (v : Tab Reeve) : (s.setReeves v).greq = s.greq := rfl
@[simp] theorem State.setReeves_host (s : State) (v : Tab Reeve) : (s.setReeves v).host = s.host := rfl
@[simp] theorem State.setReeves_reeves (s : State) (v : Tab Reeve) : (s.setReeves v).reeves = v := rfl
@[simp] theorem State.setReeves_stew (s : State) (v : Tab Reeve) : (s.setReeves v).stew = s.stew := rfl
@[simp] theorem State.setReeves_dma (s : State) (v : Tab Reeve) : (s.setReeves v).dma = s.dma := rfl
@[simp] theorem State.setReeves_ctrlRam (s : State) (v : Tab Reeve) : (s.setReeves v).ctrlRam = s.ctrlRam := rfl
@[simp] theorem State.setReeves_per (s : State) (v : Tab Reeve) : (s.setReeves v).per = s.per := rfl
@[simp] theorem State.setReeves_flash (s : State) (v : Tab Reeve) : (s.setReeves v).flash = s.flash := rfl
@[simp] theorem State.setReeves_faults (s : State) (v : Tab Reeve) : (s.setReeves v).faults = s.faults := rfl
@[simp] theorem State.setReeves_jex (s : State) (v : Tab Reeve) : (s.setReeves v).jex = s.jex := rfl
@[simp] theorem State.setReeves_vigil (s : State) (v : Tab Reeve) : (s.setReeves v).vigil = s.vigil := rfl
@[simp] theorem State.setReeves_fresh (s : State) (v : Tab Reeve) : (s.setReeves v).fresh = s.fresh := rfl
@[simp] theorem State.setReeves_pending (s : State) (v : Tab Reeve) : (s.setReeves v).pending = s.pending := rfl
@[simp] theorem State.setStew_aon (s : State) (v : Steward) : (s.setStew v).aon = s.aon := rfl
@[simp] theorem State.setStew_querns (s : State) (v : Steward) : (s.setStew v).querns = s.querns := rfl
@[simp] theorem State.setStew_domains (s : State) (v : Steward) : (s.setStew v).domains = s.domains := rfl
@[simp] theorem State.setStew_lines (s : State) (v : Steward) : (s.setStew v).lines = s.lines := rfl
@[simp] theorem State.setStew_banks (s : State) (v : Steward) : (s.setStew v).banks = s.banks := rfl
@[simp] theorem State.setStew_granary (s : State) (v : Steward) : (s.setStew v).granary = s.granary := rfl
@[simp] theorem State.setStew_sexton (s : State) (v : Steward) : (s.setStew v).sexton = s.sexton := rfl
@[simp] theorem State.setStew_audio (s : State) (v : Steward) : (s.setStew v).audio = s.audio := rfl
@[simp] theorem State.setStew_tally (s : State) (v : Steward) : (s.setStew v).tally = s.tally := rfl
@[simp] theorem State.setStew_crier (s : State) (v : Steward) : (s.setStew v).crier = s.crier := rfl
@[simp] theorem State.setStew_twin (s : State) (v : Steward) : (s.setStew v).twin = s.twin := rfl
@[simp] theorem State.setStew_warden (s : State) (v : Steward) : (s.setStew v).warden = s.warden := rfl
@[simp] theorem State.setStew_gate (s : State) (v : Steward) : (s.setStew v).gate = s.gate := rfl
@[simp] theorem State.setStew_greq (s : State) (v : Steward) : (s.setStew v).greq = s.greq := rfl
@[simp] theorem State.setStew_host (s : State) (v : Steward) : (s.setStew v).host = s.host := rfl
@[simp] theorem State.setStew_reeves (s : State) (v : Steward) : (s.setStew v).reeves = s.reeves := rfl
@[simp] theorem State.setStew_stew (s : State) (v : Steward) : (s.setStew v).stew = v := rfl
@[simp] theorem State.setStew_dma (s : State) (v : Steward) : (s.setStew v).dma = s.dma := rfl
@[simp] theorem State.setStew_ctrlRam (s : State) (v : Steward) : (s.setStew v).ctrlRam = s.ctrlRam := rfl
@[simp] theorem State.setStew_per (s : State) (v : Steward) : (s.setStew v).per = s.per := rfl
@[simp] theorem State.setStew_flash (s : State) (v : Steward) : (s.setStew v).flash = s.flash := rfl
@[simp] theorem State.setStew_faults (s : State) (v : Steward) : (s.setStew v).faults = s.faults := rfl
@[simp] theorem State.setStew_jex (s : State) (v : Steward) : (s.setStew v).jex = s.jex := rfl
@[simp] theorem State.setStew_vigil (s : State) (v : Steward) : (s.setStew v).vigil = s.vigil := rfl
@[simp] theorem State.setStew_fresh (s : State) (v : Steward) : (s.setStew v).fresh = s.fresh := rfl
@[simp] theorem State.setStew_pending (s : State) (v : Steward) : (s.setStew v).pending = s.pending := rfl
@[simp] theorem State.setDma_aon (s : State) (v : Dma) : (s.setDma v).aon = s.aon := rfl
@[simp] theorem State.setDma_querns (s : State) (v : Dma) : (s.setDma v).querns = s.querns := rfl
@[simp] theorem State.setDma_domains (s : State) (v : Dma) : (s.setDma v).domains = s.domains := rfl
@[simp] theorem State.setDma_lines (s : State) (v : Dma) : (s.setDma v).lines = s.lines := rfl
@[simp] theorem State.setDma_banks (s : State) (v : Dma) : (s.setDma v).banks = s.banks := rfl
@[simp] theorem State.setDma_granary (s : State) (v : Dma) : (s.setDma v).granary = s.granary := rfl
@[simp] theorem State.setDma_sexton (s : State) (v : Dma) : (s.setDma v).sexton = s.sexton := rfl
@[simp] theorem State.setDma_audio (s : State) (v : Dma) : (s.setDma v).audio = s.audio := rfl
@[simp] theorem State.setDma_tally (s : State) (v : Dma) : (s.setDma v).tally = s.tally := rfl
@[simp] theorem State.setDma_crier (s : State) (v : Dma) : (s.setDma v).crier = s.crier := rfl
@[simp] theorem State.setDma_twin (s : State) (v : Dma) : (s.setDma v).twin = s.twin := rfl
@[simp] theorem State.setDma_warden (s : State) (v : Dma) : (s.setDma v).warden = s.warden := rfl
@[simp] theorem State.setDma_gate (s : State) (v : Dma) : (s.setDma v).gate = s.gate := rfl
@[simp] theorem State.setDma_greq (s : State) (v : Dma) : (s.setDma v).greq = s.greq := rfl
@[simp] theorem State.setDma_host (s : State) (v : Dma) : (s.setDma v).host = s.host := rfl
@[simp] theorem State.setDma_reeves (s : State) (v : Dma) : (s.setDma v).reeves = s.reeves := rfl
@[simp] theorem State.setDma_stew (s : State) (v : Dma) : (s.setDma v).stew = s.stew := rfl
@[simp] theorem State.setDma_dma (s : State) (v : Dma) : (s.setDma v).dma = v := rfl
@[simp] theorem State.setDma_ctrlRam (s : State) (v : Dma) : (s.setDma v).ctrlRam = s.ctrlRam := rfl
@[simp] theorem State.setDma_per (s : State) (v : Dma) : (s.setDma v).per = s.per := rfl
@[simp] theorem State.setDma_flash (s : State) (v : Dma) : (s.setDma v).flash = s.flash := rfl
@[simp] theorem State.setDma_faults (s : State) (v : Dma) : (s.setDma v).faults = s.faults := rfl
@[simp] theorem State.setDma_jex (s : State) (v : Dma) : (s.setDma v).jex = s.jex := rfl
@[simp] theorem State.setDma_vigil (s : State) (v : Dma) : (s.setDma v).vigil = s.vigil := rfl
@[simp] theorem State.setDma_fresh (s : State) (v : Dma) : (s.setDma v).fresh = s.fresh := rfl
@[simp] theorem State.setDma_pending (s : State) (v : Dma) : (s.setDma v).pending = s.pending := rfl
@[simp] theorem State.setCtrlRam_aon (s : State) (v : Tab (BitVec 32)) : (s.setCtrlRam v).aon = s.aon := rfl
@[simp] theorem State.setCtrlRam_querns (s : State) (v : Tab (BitVec 32)) : (s.setCtrlRam v).querns = s.querns := rfl
@[simp] theorem State.setCtrlRam_domains (s : State) (v : Tab (BitVec 32)) : (s.setCtrlRam v).domains = s.domains := rfl
@[simp] theorem State.setCtrlRam_lines (s : State) (v : Tab (BitVec 32)) : (s.setCtrlRam v).lines = s.lines := rfl
@[simp] theorem State.setCtrlRam_banks (s : State) (v : Tab (BitVec 32)) : (s.setCtrlRam v).banks = s.banks := rfl
@[simp] theorem State.setCtrlRam_granary (s : State) (v : Tab (BitVec 32)) : (s.setCtrlRam v).granary = s.granary := rfl
@[simp] theorem State.setCtrlRam_sexton (s : State) (v : Tab (BitVec 32)) : (s.setCtrlRam v).sexton = s.sexton := rfl
@[simp] theorem State.setCtrlRam_audio (s : State) (v : Tab (BitVec 32)) : (s.setCtrlRam v).audio = s.audio := rfl
@[simp] theorem State.setCtrlRam_tally (s : State) (v : Tab (BitVec 32)) : (s.setCtrlRam v).tally = s.tally := rfl
@[simp] theorem State.setCtrlRam_crier (s : State) (v : Tab (BitVec 32)) : (s.setCtrlRam v).crier = s.crier := rfl
@[simp] theorem State.setCtrlRam_twin (s : State) (v : Tab (BitVec 32)) : (s.setCtrlRam v).twin = s.twin := rfl
@[simp] theorem State.setCtrlRam_warden (s : State) (v : Tab (BitVec 32)) : (s.setCtrlRam v).warden = s.warden := rfl
@[simp] theorem State.setCtrlRam_gate (s : State) (v : Tab (BitVec 32)) : (s.setCtrlRam v).gate = s.gate := rfl
@[simp] theorem State.setCtrlRam_greq (s : State) (v : Tab (BitVec 32)) : (s.setCtrlRam v).greq = s.greq := rfl
@[simp] theorem State.setCtrlRam_host (s : State) (v : Tab (BitVec 32)) : (s.setCtrlRam v).host = s.host := rfl
@[simp] theorem State.setCtrlRam_reeves (s : State) (v : Tab (BitVec 32)) : (s.setCtrlRam v).reeves = s.reeves := rfl
@[simp] theorem State.setCtrlRam_stew (s : State) (v : Tab (BitVec 32)) : (s.setCtrlRam v).stew = s.stew := rfl
@[simp] theorem State.setCtrlRam_dma (s : State) (v : Tab (BitVec 32)) : (s.setCtrlRam v).dma = s.dma := rfl
@[simp] theorem State.setCtrlRam_ctrlRam (s : State) (v : Tab (BitVec 32)) : (s.setCtrlRam v).ctrlRam = v := rfl
@[simp] theorem State.setCtrlRam_per (s : State) (v : Tab (BitVec 32)) : (s.setCtrlRam v).per = s.per := rfl
@[simp] theorem State.setCtrlRam_flash (s : State) (v : Tab (BitVec 32)) : (s.setCtrlRam v).flash = s.flash := rfl
@[simp] theorem State.setCtrlRam_faults (s : State) (v : Tab (BitVec 32)) : (s.setCtrlRam v).faults = s.faults := rfl
@[simp] theorem State.setCtrlRam_jex (s : State) (v : Tab (BitVec 32)) : (s.setCtrlRam v).jex = s.jex := rfl
@[simp] theorem State.setCtrlRam_vigil (s : State) (v : Tab (BitVec 32)) : (s.setCtrlRam v).vigil = s.vigil := rfl
@[simp] theorem State.setCtrlRam_fresh (s : State) (v : Tab (BitVec 32)) : (s.setCtrlRam v).fresh = s.fresh := rfl
@[simp] theorem State.setCtrlRam_pending (s : State) (v : Tab (BitVec 32)) : (s.setCtrlRam v).pending = s.pending := rfl
@[simp] theorem State.setPer_aon (s : State) (v : Per) : (s.setPer v).aon = s.aon := rfl
@[simp] theorem State.setPer_querns (s : State) (v : Per) : (s.setPer v).querns = s.querns := rfl
@[simp] theorem State.setPer_domains (s : State) (v : Per) : (s.setPer v).domains = s.domains := rfl
@[simp] theorem State.setPer_lines (s : State) (v : Per) : (s.setPer v).lines = s.lines := rfl
@[simp] theorem State.setPer_banks (s : State) (v : Per) : (s.setPer v).banks = s.banks := rfl
@[simp] theorem State.setPer_granary (s : State) (v : Per) : (s.setPer v).granary = s.granary := rfl
@[simp] theorem State.setPer_sexton (s : State) (v : Per) : (s.setPer v).sexton = s.sexton := rfl
@[simp] theorem State.setPer_audio (s : State) (v : Per) : (s.setPer v).audio = s.audio := rfl
@[simp] theorem State.setPer_tally (s : State) (v : Per) : (s.setPer v).tally = s.tally := rfl
@[simp] theorem State.setPer_crier (s : State) (v : Per) : (s.setPer v).crier = s.crier := rfl
@[simp] theorem State.setPer_twin (s : State) (v : Per) : (s.setPer v).twin = s.twin := rfl
@[simp] theorem State.setPer_warden (s : State) (v : Per) : (s.setPer v).warden = s.warden := rfl
@[simp] theorem State.setPer_gate (s : State) (v : Per) : (s.setPer v).gate = s.gate := rfl
@[simp] theorem State.setPer_greq (s : State) (v : Per) : (s.setPer v).greq = s.greq := rfl
@[simp] theorem State.setPer_host (s : State) (v : Per) : (s.setPer v).host = s.host := rfl
@[simp] theorem State.setPer_reeves (s : State) (v : Per) : (s.setPer v).reeves = s.reeves := rfl
@[simp] theorem State.setPer_stew (s : State) (v : Per) : (s.setPer v).stew = s.stew := rfl
@[simp] theorem State.setPer_dma (s : State) (v : Per) : (s.setPer v).dma = s.dma := rfl
@[simp] theorem State.setPer_ctrlRam (s : State) (v : Per) : (s.setPer v).ctrlRam = s.ctrlRam := rfl
@[simp] theorem State.setPer_per (s : State) (v : Per) : (s.setPer v).per = v := rfl
@[simp] theorem State.setPer_flash (s : State) (v : Per) : (s.setPer v).flash = s.flash := rfl
@[simp] theorem State.setPer_faults (s : State) (v : Per) : (s.setPer v).faults = s.faults := rfl
@[simp] theorem State.setPer_jex (s : State) (v : Per) : (s.setPer v).jex = s.jex := rfl
@[simp] theorem State.setPer_vigil (s : State) (v : Per) : (s.setPer v).vigil = s.vigil := rfl
@[simp] theorem State.setPer_fresh (s : State) (v : Per) : (s.setPer v).fresh = s.fresh := rfl
@[simp] theorem State.setPer_pending (s : State) (v : Per) : (s.setPer v).pending = s.pending := rfl
@[simp] theorem State.setFlash_aon (s : State) (v : Flash) : (s.setFlash v).aon = s.aon := rfl
@[simp] theorem State.setFlash_querns (s : State) (v : Flash) : (s.setFlash v).querns = s.querns := rfl
@[simp] theorem State.setFlash_domains (s : State) (v : Flash) : (s.setFlash v).domains = s.domains := rfl
@[simp] theorem State.setFlash_lines (s : State) (v : Flash) : (s.setFlash v).lines = s.lines := rfl
@[simp] theorem State.setFlash_banks (s : State) (v : Flash) : (s.setFlash v).banks = s.banks := rfl
@[simp] theorem State.setFlash_granary (s : State) (v : Flash) : (s.setFlash v).granary = s.granary := rfl
@[simp] theorem State.setFlash_sexton (s : State) (v : Flash) : (s.setFlash v).sexton = s.sexton := rfl
@[simp] theorem State.setFlash_audio (s : State) (v : Flash) : (s.setFlash v).audio = s.audio := rfl
@[simp] theorem State.setFlash_tally (s : State) (v : Flash) : (s.setFlash v).tally = s.tally := rfl
@[simp] theorem State.setFlash_crier (s : State) (v : Flash) : (s.setFlash v).crier = s.crier := rfl
@[simp] theorem State.setFlash_twin (s : State) (v : Flash) : (s.setFlash v).twin = s.twin := rfl
@[simp] theorem State.setFlash_warden (s : State) (v : Flash) : (s.setFlash v).warden = s.warden := rfl
@[simp] theorem State.setFlash_gate (s : State) (v : Flash) : (s.setFlash v).gate = s.gate := rfl
@[simp] theorem State.setFlash_greq (s : State) (v : Flash) : (s.setFlash v).greq = s.greq := rfl
@[simp] theorem State.setFlash_host (s : State) (v : Flash) : (s.setFlash v).host = s.host := rfl
@[simp] theorem State.setFlash_reeves (s : State) (v : Flash) : (s.setFlash v).reeves = s.reeves := rfl
@[simp] theorem State.setFlash_stew (s : State) (v : Flash) : (s.setFlash v).stew = s.stew := rfl
@[simp] theorem State.setFlash_dma (s : State) (v : Flash) : (s.setFlash v).dma = s.dma := rfl
@[simp] theorem State.setFlash_ctrlRam (s : State) (v : Flash) : (s.setFlash v).ctrlRam = s.ctrlRam := rfl
@[simp] theorem State.setFlash_per (s : State) (v : Flash) : (s.setFlash v).per = s.per := rfl
@[simp] theorem State.setFlash_flash (s : State) (v : Flash) : (s.setFlash v).flash = v := rfl
@[simp] theorem State.setFlash_faults (s : State) (v : Flash) : (s.setFlash v).faults = s.faults := rfl
@[simp] theorem State.setFlash_jex (s : State) (v : Flash) : (s.setFlash v).jex = s.jex := rfl
@[simp] theorem State.setFlash_vigil (s : State) (v : Flash) : (s.setFlash v).vigil = s.vigil := rfl
@[simp] theorem State.setFlash_fresh (s : State) (v : Flash) : (s.setFlash v).fresh = s.fresh := rfl
@[simp] theorem State.setFlash_pending (s : State) (v : Flash) : (s.setFlash v).pending = s.pending := rfl
@[simp] theorem State.setFaults_aon (s : State) (v : Faults) : (s.setFaults v).aon = s.aon := rfl
@[simp] theorem State.setFaults_querns (s : State) (v : Faults) : (s.setFaults v).querns = s.querns := rfl
@[simp] theorem State.setFaults_domains (s : State) (v : Faults) : (s.setFaults v).domains = s.domains := rfl
@[simp] theorem State.setFaults_lines (s : State) (v : Faults) : (s.setFaults v).lines = s.lines := rfl
@[simp] theorem State.setFaults_banks (s : State) (v : Faults) : (s.setFaults v).banks = s.banks := rfl
@[simp] theorem State.setFaults_granary (s : State) (v : Faults) : (s.setFaults v).granary = s.granary := rfl
@[simp] theorem State.setFaults_sexton (s : State) (v : Faults) : (s.setFaults v).sexton = s.sexton := rfl
@[simp] theorem State.setFaults_audio (s : State) (v : Faults) : (s.setFaults v).audio = s.audio := rfl
@[simp] theorem State.setFaults_tally (s : State) (v : Faults) : (s.setFaults v).tally = s.tally := rfl
@[simp] theorem State.setFaults_crier (s : State) (v : Faults) : (s.setFaults v).crier = s.crier := rfl
@[simp] theorem State.setFaults_twin (s : State) (v : Faults) : (s.setFaults v).twin = s.twin := rfl
@[simp] theorem State.setFaults_warden (s : State) (v : Faults) : (s.setFaults v).warden = s.warden := rfl
@[simp] theorem State.setFaults_gate (s : State) (v : Faults) : (s.setFaults v).gate = s.gate := rfl
@[simp] theorem State.setFaults_greq (s : State) (v : Faults) : (s.setFaults v).greq = s.greq := rfl
@[simp] theorem State.setFaults_host (s : State) (v : Faults) : (s.setFaults v).host = s.host := rfl
@[simp] theorem State.setFaults_reeves (s : State) (v : Faults) : (s.setFaults v).reeves = s.reeves := rfl
@[simp] theorem State.setFaults_stew (s : State) (v : Faults) : (s.setFaults v).stew = s.stew := rfl
@[simp] theorem State.setFaults_dma (s : State) (v : Faults) : (s.setFaults v).dma = s.dma := rfl
@[simp] theorem State.setFaults_ctrlRam (s : State) (v : Faults) : (s.setFaults v).ctrlRam = s.ctrlRam := rfl
@[simp] theorem State.setFaults_per (s : State) (v : Faults) : (s.setFaults v).per = s.per := rfl
@[simp] theorem State.setFaults_flash (s : State) (v : Faults) : (s.setFaults v).flash = s.flash := rfl
@[simp] theorem State.setFaults_faults (s : State) (v : Faults) : (s.setFaults v).faults = v := rfl
@[simp] theorem State.setFaults_jex (s : State) (v : Faults) : (s.setFaults v).jex = s.jex := rfl
@[simp] theorem State.setFaults_vigil (s : State) (v : Faults) : (s.setFaults v).vigil = s.vigil := rfl
@[simp] theorem State.setFaults_fresh (s : State) (v : Faults) : (s.setFaults v).fresh = s.fresh := rfl
@[simp] theorem State.setFaults_pending (s : State) (v : Faults) : (s.setFaults v).pending = s.pending := rfl
@[simp] theorem State.setJex_aon (s : State) (v : Jex) : (s.setJex v).aon = s.aon := rfl
@[simp] theorem State.setJex_querns (s : State) (v : Jex) : (s.setJex v).querns = s.querns := rfl
@[simp] theorem State.setJex_domains (s : State) (v : Jex) : (s.setJex v).domains = s.domains := rfl
@[simp] theorem State.setJex_lines (s : State) (v : Jex) : (s.setJex v).lines = s.lines := rfl
@[simp] theorem State.setJex_banks (s : State) (v : Jex) : (s.setJex v).banks = s.banks := rfl
@[simp] theorem State.setJex_granary (s : State) (v : Jex) : (s.setJex v).granary = s.granary := rfl
@[simp] theorem State.setJex_sexton (s : State) (v : Jex) : (s.setJex v).sexton = s.sexton := rfl
@[simp] theorem State.setJex_audio (s : State) (v : Jex) : (s.setJex v).audio = s.audio := rfl
@[simp] theorem State.setJex_tally (s : State) (v : Jex) : (s.setJex v).tally = s.tally := rfl
@[simp] theorem State.setJex_crier (s : State) (v : Jex) : (s.setJex v).crier = s.crier := rfl
@[simp] theorem State.setJex_twin (s : State) (v : Jex) : (s.setJex v).twin = s.twin := rfl
@[simp] theorem State.setJex_warden (s : State) (v : Jex) : (s.setJex v).warden = s.warden := rfl
@[simp] theorem State.setJex_gate (s : State) (v : Jex) : (s.setJex v).gate = s.gate := rfl
@[simp] theorem State.setJex_greq (s : State) (v : Jex) : (s.setJex v).greq = s.greq := rfl
@[simp] theorem State.setJex_host (s : State) (v : Jex) : (s.setJex v).host = s.host := rfl
@[simp] theorem State.setJex_reeves (s : State) (v : Jex) : (s.setJex v).reeves = s.reeves := rfl
@[simp] theorem State.setJex_stew (s : State) (v : Jex) : (s.setJex v).stew = s.stew := rfl
@[simp] theorem State.setJex_dma (s : State) (v : Jex) : (s.setJex v).dma = s.dma := rfl
@[simp] theorem State.setJex_ctrlRam (s : State) (v : Jex) : (s.setJex v).ctrlRam = s.ctrlRam := rfl
@[simp] theorem State.setJex_per (s : State) (v : Jex) : (s.setJex v).per = s.per := rfl
@[simp] theorem State.setJex_flash (s : State) (v : Jex) : (s.setJex v).flash = s.flash := rfl
@[simp] theorem State.setJex_faults (s : State) (v : Jex) : (s.setJex v).faults = s.faults := rfl
@[simp] theorem State.setJex_jex (s : State) (v : Jex) : (s.setJex v).jex = v := rfl
@[simp] theorem State.setJex_vigil (s : State) (v : Jex) : (s.setJex v).vigil = s.vigil := rfl
@[simp] theorem State.setJex_fresh (s : State) (v : Jex) : (s.setJex v).fresh = s.fresh := rfl
@[simp] theorem State.setJex_pending (s : State) (v : Jex) : (s.setJex v).pending = s.pending := rfl
@[simp] theorem State.setVigil_aon (s : State) (v : Vigil) : (s.setVigil v).aon = s.aon := rfl
@[simp] theorem State.setVigil_querns (s : State) (v : Vigil) : (s.setVigil v).querns = s.querns := rfl
@[simp] theorem State.setVigil_domains (s : State) (v : Vigil) : (s.setVigil v).domains = s.domains := rfl
@[simp] theorem State.setVigil_lines (s : State) (v : Vigil) : (s.setVigil v).lines = s.lines := rfl
@[simp] theorem State.setVigil_banks (s : State) (v : Vigil) : (s.setVigil v).banks = s.banks := rfl
@[simp] theorem State.setVigil_granary (s : State) (v : Vigil) : (s.setVigil v).granary = s.granary := rfl
@[simp] theorem State.setVigil_sexton (s : State) (v : Vigil) : (s.setVigil v).sexton = s.sexton := rfl
@[simp] theorem State.setVigil_audio (s : State) (v : Vigil) : (s.setVigil v).audio = s.audio := rfl
@[simp] theorem State.setVigil_tally (s : State) (v : Vigil) : (s.setVigil v).tally = s.tally := rfl
@[simp] theorem State.setVigil_crier (s : State) (v : Vigil) : (s.setVigil v).crier = s.crier := rfl
@[simp] theorem State.setVigil_twin (s : State) (v : Vigil) : (s.setVigil v).twin = s.twin := rfl
@[simp] theorem State.setVigil_warden (s : State) (v : Vigil) : (s.setVigil v).warden = s.warden := rfl
@[simp] theorem State.setVigil_gate (s : State) (v : Vigil) : (s.setVigil v).gate = s.gate := rfl
@[simp] theorem State.setVigil_greq (s : State) (v : Vigil) : (s.setVigil v).greq = s.greq := rfl
@[simp] theorem State.setVigil_host (s : State) (v : Vigil) : (s.setVigil v).host = s.host := rfl
@[simp] theorem State.setVigil_reeves (s : State) (v : Vigil) : (s.setVigil v).reeves = s.reeves := rfl
@[simp] theorem State.setVigil_stew (s : State) (v : Vigil) : (s.setVigil v).stew = s.stew := rfl
@[simp] theorem State.setVigil_dma (s : State) (v : Vigil) : (s.setVigil v).dma = s.dma := rfl
@[simp] theorem State.setVigil_ctrlRam (s : State) (v : Vigil) : (s.setVigil v).ctrlRam = s.ctrlRam := rfl
@[simp] theorem State.setVigil_per (s : State) (v : Vigil) : (s.setVigil v).per = s.per := rfl
@[simp] theorem State.setVigil_flash (s : State) (v : Vigil) : (s.setVigil v).flash = s.flash := rfl
@[simp] theorem State.setVigil_faults (s : State) (v : Vigil) : (s.setVigil v).faults = s.faults := rfl
@[simp] theorem State.setVigil_jex (s : State) (v : Vigil) : (s.setVigil v).jex = s.jex := rfl
@[simp] theorem State.setVigil_vigil (s : State) (v : Vigil) : (s.setVigil v).vigil = v := rfl
@[simp] theorem State.setVigil_fresh (s : State) (v : Vigil) : (s.setVigil v).fresh = s.fresh := rfl
@[simp] theorem State.setVigil_pending (s : State) (v : Vigil) : (s.setVigil v).pending = s.pending := rfl
@[simp] theorem State.setFresh_aon (s : State) (v : Nat) : (s.setFresh v).aon = s.aon := rfl
@[simp] theorem State.setFresh_querns (s : State) (v : Nat) : (s.setFresh v).querns = s.querns := rfl
@[simp] theorem State.setFresh_domains (s : State) (v : Nat) : (s.setFresh v).domains = s.domains := rfl
@[simp] theorem State.setFresh_lines (s : State) (v : Nat) : (s.setFresh v).lines = s.lines := rfl
@[simp] theorem State.setFresh_banks (s : State) (v : Nat) : (s.setFresh v).banks = s.banks := rfl
@[simp] theorem State.setFresh_granary (s : State) (v : Nat) : (s.setFresh v).granary = s.granary := rfl
@[simp] theorem State.setFresh_sexton (s : State) (v : Nat) : (s.setFresh v).sexton = s.sexton := rfl
@[simp] theorem State.setFresh_audio (s : State) (v : Nat) : (s.setFresh v).audio = s.audio := rfl
@[simp] theorem State.setFresh_tally (s : State) (v : Nat) : (s.setFresh v).tally = s.tally := rfl
@[simp] theorem State.setFresh_crier (s : State) (v : Nat) : (s.setFresh v).crier = s.crier := rfl
@[simp] theorem State.setFresh_twin (s : State) (v : Nat) : (s.setFresh v).twin = s.twin := rfl
@[simp] theorem State.setFresh_warden (s : State) (v : Nat) : (s.setFresh v).warden = s.warden := rfl
@[simp] theorem State.setFresh_gate (s : State) (v : Nat) : (s.setFresh v).gate = s.gate := rfl
@[simp] theorem State.setFresh_greq (s : State) (v : Nat) : (s.setFresh v).greq = s.greq := rfl
@[simp] theorem State.setFresh_host (s : State) (v : Nat) : (s.setFresh v).host = s.host := rfl
@[simp] theorem State.setFresh_reeves (s : State) (v : Nat) : (s.setFresh v).reeves = s.reeves := rfl
@[simp] theorem State.setFresh_stew (s : State) (v : Nat) : (s.setFresh v).stew = s.stew := rfl
@[simp] theorem State.setFresh_dma (s : State) (v : Nat) : (s.setFresh v).dma = s.dma := rfl
@[simp] theorem State.setFresh_ctrlRam (s : State) (v : Nat) : (s.setFresh v).ctrlRam = s.ctrlRam := rfl
@[simp] theorem State.setFresh_per (s : State) (v : Nat) : (s.setFresh v).per = s.per := rfl
@[simp] theorem State.setFresh_flash (s : State) (v : Nat) : (s.setFresh v).flash = s.flash := rfl
@[simp] theorem State.setFresh_faults (s : State) (v : Nat) : (s.setFresh v).faults = s.faults := rfl
@[simp] theorem State.setFresh_jex (s : State) (v : Nat) : (s.setFresh v).jex = s.jex := rfl
@[simp] theorem State.setFresh_vigil (s : State) (v : Nat) : (s.setFresh v).vigil = s.vigil := rfl
@[simp] theorem State.setFresh_fresh (s : State) (v : Nat) : (s.setFresh v).fresh = v := rfl
@[simp] theorem State.setFresh_pending (s : State) (v : Nat) : (s.setFresh v).pending = s.pending := rfl
@[simp] theorem State.setPending_aon (s : State) (v : List Instr) : (s.setPending v).aon = s.aon := rfl
@[simp] theorem State.setPending_querns (s : State) (v : List Instr) : (s.setPending v).querns = s.querns := rfl
@[simp] theorem State.setPending_domains (s : State) (v : List Instr) : (s.setPending v).domains = s.domains := rfl
@[simp] theorem State.setPending_lines (s : State) (v : List Instr) : (s.setPending v).lines = s.lines := rfl
@[simp] theorem State.setPending_banks (s : State) (v : List Instr) : (s.setPending v).banks = s.banks := rfl
@[simp] theorem State.setPending_granary (s : State) (v : List Instr) : (s.setPending v).granary = s.granary := rfl
@[simp] theorem State.setPending_sexton (s : State) (v : List Instr) : (s.setPending v).sexton = s.sexton := rfl
@[simp] theorem State.setPending_audio (s : State) (v : List Instr) : (s.setPending v).audio = s.audio := rfl
@[simp] theorem State.setPending_tally (s : State) (v : List Instr) : (s.setPending v).tally = s.tally := rfl
@[simp] theorem State.setPending_crier (s : State) (v : List Instr) : (s.setPending v).crier = s.crier := rfl
@[simp] theorem State.setPending_twin (s : State) (v : List Instr) : (s.setPending v).twin = s.twin := rfl
@[simp] theorem State.setPending_warden (s : State) (v : List Instr) : (s.setPending v).warden = s.warden := rfl
@[simp] theorem State.setPending_gate (s : State) (v : List Instr) : (s.setPending v).gate = s.gate := rfl
@[simp] theorem State.setPending_greq (s : State) (v : List Instr) : (s.setPending v).greq = s.greq := rfl
@[simp] theorem State.setPending_host (s : State) (v : List Instr) : (s.setPending v).host = s.host := rfl
@[simp] theorem State.setPending_reeves (s : State) (v : List Instr) : (s.setPending v).reeves = s.reeves := rfl
@[simp] theorem State.setPending_stew (s : State) (v : List Instr) : (s.setPending v).stew = s.stew := rfl
@[simp] theorem State.setPending_dma (s : State) (v : List Instr) : (s.setPending v).dma = s.dma := rfl
@[simp] theorem State.setPending_ctrlRam (s : State) (v : List Instr) : (s.setPending v).ctrlRam = s.ctrlRam := rfl
@[simp] theorem State.setPending_per (s : State) (v : List Instr) : (s.setPending v).per = s.per := rfl
@[simp] theorem State.setPending_flash (s : State) (v : List Instr) : (s.setPending v).flash = s.flash := rfl
@[simp] theorem State.setPending_faults (s : State) (v : List Instr) : (s.setPending v).faults = s.faults := rfl
@[simp] theorem State.setPending_jex (s : State) (v : List Instr) : (s.setPending v).jex = s.jex := rfl
@[simp] theorem State.setPending_vigil (s : State) (v : List Instr) : (s.setPending v).vigil = s.vigil := rfl
@[simp] theorem State.setPending_fresh (s : State) (v : List Instr) : (s.setPending v).fresh = s.fresh := rfl
@[simp] theorem State.setPending_pending (s : State) (v : List Instr) : (s.setPending v).pending = v := rfl

end Sys2Proof.Machine
end

