-- ==== Sys2Proof/Laws/Tab.lean ====
section
/-! SUPPORT. The laws of the sparse tables: what reading a written table gives, and that writing keeps
the canonical form. -/

namespace Sys2Proof.Machine

variable {α : Type}

/-- A removed element reads as the default. -/
@[simp] theorem Tab.get_del_same (d : α) (t : Tab α) (k : Nat) : Tab.get d (Tab.del t k) k = d := by
  induction t with
  | nil => rfl
  | cons p t ih =>
    obtain ⟨j, v⟩ := p
    simp only [Tab.del]
    split
    · exact ih
    · rename_i h
      simp only [Tab.get, h, if_false]
      exact ih

/-- Removing an element leaves the others. -/
theorem Tab.get_del_other (d : α) (t : Tab α) (k j : Nat) (h : j ≠ k) : Tab.get d (Tab.del t k) j = Tab.get d t j := by
  induction t with
  | nil => rfl
  | cons p t ih =>
    obtain ⟨i, v⟩ := p
    simp only [Tab.del, Tab.get]
    by_cases hi : i = k
    · have : ¬ i = j := by omega
      rw [if_pos hi, if_neg this, ih]
    · rw [if_neg hi]
      simp only [Tab.get, ih]

/-- What an insertion reads as. -/
theorem Tab.get_ins (d : α) (t : Tab α) (k j : Nat) (v : α) :
    Tab.get d (Tab.ins t k v) j = if j = k then v else Tab.get d t j := by
  induction t with
  | nil => simp only [Tab.ins, Tab.get, eq_comm]
  | cons p t ih =>
    obtain ⟨i, w⟩ := p
    simp only [Tab.ins]
    by_cases h1 : k < i
    · rw [if_pos h1]
      simp only [Tab.get, eq_comm]
    · rw [if_neg h1]
      by_cases h2 : i = k
      · subst h2
        rw [if_pos rfl]
        simp only [Tab.get, eq_comm]
        split <;> rfl
      · rw [if_neg h2]
        simp only [Tab.get, ih]
        by_cases h3 : i = j
        · subst h3
          simp [h2]
        · simp [h3]

variable [DecidableEq α]

/-- Reading a written table: the written element has the value, every other its own. -/
theorem Tab.get_set (d : α) (t : Tab α) (k j : Nat) (v : α) :
    Tab.get d (Tab.set d t k v) j = if j = k then v else Tab.get d t j := by
  unfold Tab.set
  split
  · rename_i h
    subst h
    by_cases hj : j = k
    · subst hj
      simp
    · simp only [hj, if_false]
      exact Tab.get_del_other _ t k j hj
  · exact Tab.get_ins d t k j v

@[simp] theorem Tab.get_set_same (d : α) (t : Tab α) (k : Nat) (v : α) : Tab.get d (Tab.set d t k v) k = v := by
  rw [Tab.get_set, if_pos rfl]

/-- Reading a table after one element went through f. -/
theorem Tab.get_mod (d : α) (t : Tab α) (k j : Nat) (f : α → α) :
    Tab.get d (Tab.mod d t k f) j = if j = k then f (Tab.get d t k) else Tab.get d t j := by
  unfold Tab.mod
  exact Tab.get_set d t k j _

@[simp] theorem Tab.get_mod_same (d : α) (t : Tab α) (k : Nat) (f : α → α) :
    Tab.get d (Tab.mod d t k f) k = f (Tab.get d t k) := by
  rw [Tab.get_mod, if_pos rfl]

/-- Reading a table after a run was written. -/
theorem Tab.get_setRun (d : α) (t : Tab α) (k j : Nat) (vs : List α) :
    Tab.get d (Tab.setRun d t k vs) j = if k ≤ j ∧ j < k + vs.length then vs.getD (j - k) d else Tab.get d t j := by
  induction vs generalizing t k with
  | nil =>
    simp only [Tab.setRun, List.length_nil]
    rw [if_neg (by omega)]
  | cons v vs ih =>
    simp only [Tab.setRun, ih, Tab.get_set, List.length_cons]
    by_cases h1 : j = k
    · subst h1
      rw [if_neg (by omega), if_pos rfl, if_pos (by omega)]
      simp
    · rw [if_neg h1]
      by_cases h2 : k + 1 ≤ j ∧ j < k + 1 + vs.length
      · rw [if_pos h2, if_pos (by omega)]
        obtain ⟨n, hn⟩ : ∃ n, j - k = n + 1 := ⟨j - k - 1, by omega⟩
        have hn' : j - (k + 1) = n := by omega
        rw [hn, hn']
        simp
      · rw [if_neg h2, if_neg (by omega)]

/-! ### The canonical form -/

omit [DecidableEq α] in
/-- A lower bound of the indices may be lowered. -/
theorem Tab.rising_weaken {lo lo' : Nat} (t : Tab α) (h : lo' ≤ lo) (hr : Tab.rising (some lo) t = true) :
    Tab.rising (some lo') t = true := by
  cases t with
  | nil => rfl
  | cons p t =>
    obtain ⟨j, v⟩ := p
    simp only [Tab.rising, Bool.and_eq_true, decide_eq_true_eq] at hr ⊢
    exact ⟨by omega, hr.2⟩

omit [DecidableEq α] in
/-- A bounded rising table rises. -/
theorem Tab.rising_forget {lo : Nat} (t : Tab α) (hr : Tab.rising (some lo) t = true) : Tab.rising none t = true := by
  cases t with
  | nil => rfl
  | cons p t =>
    obtain ⟨j, v⟩ := p
    simp only [Tab.rising, Bool.and_eq_true, decide_eq_true_eq, Bool.true_and] at hr ⊢
    exact hr.2

omit [DecidableEq α] in
/-- Indices still rise after an insertion. -/
theorem Tab.rising_ins (t : Tab α) (lo : Option Nat) (k : Nat) (v : α) (hk : ∀ l, lo = some l → l < k)
    (hr : Tab.rising lo t = true) : Tab.rising lo (Tab.ins t k v) = true := by
  induction t generalizing lo with
  | nil =>
    cases lo with
    | none => rfl
    | some l => simp [Tab.ins, Tab.rising, hk l rfl]
  | cons p t ih =>
    obtain ⟨j, w⟩ := p
    simp only [Tab.ins]
    have hj : Tab.rising (some j) t = true := by
      cases lo <;> simp only [Tab.rising, Bool.and_eq_true, Bool.true_and] at hr
      · exact hr
      · exact hr.2
    split
    · rename_i h
      cases lo with
      | none => simp [Tab.rising, h, hj]
      | some l => simp [Tab.rising, h, hj, hk l rfl]
    · split
      · rename_i h1 h2
        subst h2
        cases lo with
        | none => simpa [Tab.rising] using hj
        | some l => simp [Tab.rising, hj, hk l rfl]
      · rename_i h1 h2
        have := ih (some j) (fun l hl => by cases hl; omega) hj
        cases lo with
        | none => simpa [Tab.rising] using this
        | some l =>
          simp only [Tab.rising, Bool.and_eq_true, decide_eq_true_eq] at hr ⊢
          exact ⟨hr.1, this⟩

omit [DecidableEq α] in
/-- Indices still rise after a removal. -/
theorem Tab.rising_del (t : Tab α) (lo : Option Nat) (k : Nat) (hr : Tab.rising lo t = true) :
    Tab.rising lo (Tab.del t k) = true := by
  induction t generalizing lo with
  | nil => simp [Tab.del, Tab.rising]
  | cons p t ih =>
    obtain ⟨j, w⟩ := p
    simp only [Tab.del]
    have hj : Tab.rising (some j) t = true := by
      cases lo <;> simp only [Tab.rising, Bool.and_eq_true, Bool.true_and] at hr
      · exact hr
      · exact hr.2
    split
    · apply ih
      cases lo with
      | none => exact Tab.rising_forget t hj
      | some l =>
        simp only [Tab.rising, Bool.and_eq_true, decide_eq_true_eq] at hr
        exact Tab.rising_weaken t (by omega) hj
    · have := ih (some j) hj
      cases lo with
      | none => simpa [Tab.rising] using this
      | some l =>
        simp only [Tab.rising, Bool.and_eq_true, decide_eq_true_eq] at hr ⊢
        exact ⟨hr.1, this⟩

omit [DecidableEq α] in
/-- What an insertion lists is the new pair and old pairs. -/
theorem Tab.mem_ins (t : Tab α) (k : Nat) (v : α) (p : Nat × α) (h : p ∈ Tab.ins t k v) : p = (k, v) ∨ p ∈ t := by
  induction t with
  | nil => simpa [Tab.ins] using h
  | cons q t ih =>
    obtain ⟨j, w⟩ := q
    simp only [Tab.ins] at h
    split at h
    · simpa using h
    · split at h
      · rcases List.mem_cons.mp h with h | h
        · exact .inl h
        · exact .inr (List.mem_cons_of_mem _ h)
      · rcases List.mem_cons.mp h with h | h
        · exact .inr (by rw [h]; exact List.mem_cons_self)
        · rcases ih h with h | h
          · exact .inl h
          · exact .inr (List.mem_cons_of_mem _ h)

omit [DecidableEq α] in
/-- What a removal lists was listed. -/
theorem Tab.mem_del (t : Tab α) (k : Nat) (p : Nat × α) (h : p ∈ Tab.del t k) : p ∈ t := by
  induction t with
  | nil => simp [Tab.del] at h
  | cons q t ih =>
    obtain ⟨j, w⟩ := q
    simp only [Tab.del] at h
    split at h
    · exact List.mem_cons_of_mem _ (ih h)
    · rcases List.mem_cons.mp h with h | h
      · rw [h]; exact List.mem_cons_self
      · exact List.mem_cons_of_mem _ (ih h)

/-- A write keeps the canonical form. -/
theorem Tab.wf_set (d : α) (t : Tab α) (k : Nat) (v : α) (h : Tab.wf d t = true) : Tab.wf d (Tab.set d t k v) = true := by
  simp only [Tab.wf, Bool.and_eq_true, List.all_eq_true, decide_eq_true_eq] at h ⊢
  unfold Tab.set
  split
  · exact ⟨Tab.rising_del t none k h.1, fun p hp => h.2 p (Tab.mem_del t k p hp)⟩
  · rename_i hv
    refine ⟨Tab.rising_ins t none k v (fun l hl => by cases hl) h.1, fun p hp => ?_⟩
    rcases Tab.mem_ins t k v p hp with hp | hp
    · rw [hp]; exact hv
    · exact h.2 p hp

/-- Passing an element through f keeps the canonical form. -/
theorem Tab.wf_mod (d : α) (t : Tab α) (k : Nat) (f : α → α) (h : Tab.wf d t = true) : Tab.wf d (Tab.mod d t k f) = true :=
  Tab.wf_set d t k _ h

/-- A run of writes keeps the canonical form. -/
theorem Tab.wf_setRun (d : α) (t : Tab α) (k : Nat) (vs : List α) (h : Tab.wf d t = true) :
    Tab.wf d (Tab.setRun d t k vs) = true := by
  induction vs generalizing t k with
  | nil => exact h
  | cons v vs ih => exact ih (Tab.set d t k v) (k + 1) (Tab.wf_set d t k v h)

end Sys2Proof.Machine
end

