-- ==== Sys2Proof/Laws/Ops.lean ====
section
/-! SUPPORT. The accessors and updaters of Machine/Ops.lean as simp lemmas: an updater is its setter, and an
accessor of an array sees only the setter of that array. -/

namespace Sys2Proof.Machine

@[simp] theorem modQuern_eq (s : State) (k : Nat) (f) : modQuern s k f = s.setQuerns (Tab.mod {} s.querns k f) := rfl
@[simp] theorem quern_setAon (s : State) (v : Aon) (k : Nat) : quern (s.setAon v) k = quern s k := rfl
@[simp] theorem quern_setQuerns (s : State) (v : Tab Quern) (k : Nat) : quern (s.setQuerns v) k = Tab.get {} v k := rfl
@[simp] theorem quern_setDomains (s : State) (v : Tab Domain) (k : Nat) : quern (s.setDomains v) k = quern s k := rfl
@[simp] theorem quern_setLines (s : State) (v : Tab Line) (k : Nat) : quern (s.setLines v) k = quern s k := rfl
@[simp] theorem quern_setBanks (s : State) (v : Tab Bank) (k : Nat) : quern (s.setBanks v) k = quern s k := rfl
@[simp] theorem quern_setGranary (s : State) (v : Tab Sample) (k : Nat) : quern (s.setGranary v) k = quern s k := rfl
@[simp] theorem quern_setSexton (s : State) (v : Sexton) (k : Nat) : quern (s.setSexton v) k = quern s k := rfl
@[simp] theorem quern_setAudio (s : State) (v : Audio) (k : Nat) : quern (s.setAudio v) k = quern s k := rfl
@[simp] theorem quern_setTally (s : State) (v : Tally) (k : Nat) : quern (s.setTally v) k = quern s k := rfl
@[simp] theorem quern_setCrier (s : State) (v : Crier) (k : Nat) : quern (s.setCrier v) k = quern s k := rfl
@[simp] theorem quern_setTwin (s : State) (v : Twin) (k : Nat) : quern (s.setTwin v) k = quern s k := rfl
@[simp] theorem quern_setWarden (s : State) (v : Warden) (k : Nat) : quern (s.setWarden v) k = quern s k := rfl
@[simp] theorem quern_setGate (s : State) (v : Gate) (k : Nat) : quern (s.setGate v) k = quern s k := rfl
@[simp] theorem quern_setGreq (s : State) (v : Greq) (k : Nat) : quern (s.setGreq v) k = quern s k := rfl
@[simp] theorem quern_setHost (s : State) (v : HostPort) (k : Nat) : quern (s.setHost v) k = quern s k := rfl
@[simp] theorem quern_setReeves (s : State) (v : Tab Reeve) (k : Nat) : quern (s.setReeves v) k = quern s k := rfl
@[simp] theorem quern_setStew (s : State) (v : Steward) (k : Nat) : quern (s.setStew v) k = quern s k := rfl
@[simp] theorem quern_setDma (s : State) (v : Dma) (k : Nat) : quern (s.setDma v) k = quern s k := rfl
@[simp] theorem quern_setCtrlRam (s : State) (v : Tab (BitVec 32)) (k : Nat) : quern (s.setCtrlRam v) k = quern s k := rfl
@[simp] theorem quern_setPer (s : State) (v : Per) (k : Nat) : quern (s.setPer v) k = quern s k := rfl
@[simp] theorem quern_setFlash (s : State) (v : Flash) (k : Nat) : quern (s.setFlash v) k = quern s k := rfl
@[simp] theorem quern_setFaults (s : State) (v : Faults) (k : Nat) : quern (s.setFaults v) k = quern s k := rfl
@[simp] theorem quern_setJex (s : State) (v : Jex) (k : Nat) : quern (s.setJex v) k = quern s k := rfl
@[simp] theorem quern_setVigil (s : State) (v : Vigil) (k : Nat) : quern (s.setVigil v) k = quern s k := rfl
@[simp] theorem quern_setFresh (s : State) (v : Nat) (k : Nat) : quern (s.setFresh v) k = quern s k := rfl
@[simp] theorem quern_setPending (s : State) (v : List Instr) (k : Nat) : quern (s.setPending v) k = quern s k := rfl
@[simp] theorem modDom_eq (s : State) (k : Nat) (f) : modDom s k f = s.setDomains (Tab.mod {} s.domains k f) := rfl
@[simp] theorem dom_setAon (s : State) (v : Aon) (k : Nat) : dom (s.setAon v) k = dom s k := rfl
@[simp] theorem dom_setQuerns (s : State) (v : Tab Quern) (k : Nat) : dom (s.setQuerns v) k = dom s k := rfl
@[simp] theorem dom_setDomains (s : State) (v : Tab Domain) (k : Nat) : dom (s.setDomains v) k = Tab.get {} v k := rfl
@[simp] theorem dom_setLines (s : State) (v : Tab Line) (k : Nat) : dom (s.setLines v) k = dom s k := rfl
@[simp] theorem dom_setBanks (s : State) (v : Tab Bank) (k : Nat) : dom (s.setBanks v) k = dom s k := rfl
@[simp] theorem dom_setGranary (s : State) (v : Tab Sample) (k : Nat) : dom (s.setGranary v) k = dom s k := rfl
@[simp] theorem dom_setSexton (s : State) (v : Sexton) (k : Nat) : dom (s.setSexton v) k = dom s k := rfl
@[simp] theorem dom_setAudio (s : State) (v : Audio) (k : Nat) : dom (s.setAudio v) k = dom s k := rfl
@[simp] theorem dom_setTally (s : State) (v : Tally) (k : Nat) : dom (s.setTally v) k = dom s k := rfl
@[simp] theorem dom_setCrier (s : State) (v : Crier) (k : Nat) : dom (s.setCrier v) k = dom s k := rfl
@[simp] theorem dom_setTwin (s : State) (v : Twin) (k : Nat) : dom (s.setTwin v) k = dom s k := rfl
@[simp] theorem dom_setWarden (s : State) (v : Warden) (k : Nat) : dom (s.setWarden v) k = dom s k := rfl
@[simp] theorem dom_setGate (s : State) (v : Gate) (k : Nat) : dom (s.setGate v) k = dom s k := rfl
@[simp] theorem dom_setGreq (s : State) (v : Greq) (k : Nat) : dom (s.setGreq v) k = dom s k := rfl
@[simp] theorem dom_setHost (s : State) (v : HostPort) (k : Nat) : dom (s.setHost v) k = dom s k := rfl
@[simp] theorem dom_setReeves (s : State) (v : Tab Reeve) (k : Nat) : dom (s.setReeves v) k = dom s k := rfl
@[simp] theorem dom_setStew (s : State) (v : Steward) (k : Nat) : dom (s.setStew v) k = dom s k := rfl
@[simp] theorem dom_setDma (s : State) (v : Dma) (k : Nat) : dom (s.setDma v) k = dom s k := rfl
@[simp] theorem dom_setCtrlRam (s : State) (v : Tab (BitVec 32)) (k : Nat) : dom (s.setCtrlRam v) k = dom s k := rfl
@[simp] theorem dom_setPer (s : State) (v : Per) (k : Nat) : dom (s.setPer v) k = dom s k := rfl
@[simp] theorem dom_setFlash (s : State) (v : Flash) (k : Nat) : dom (s.setFlash v) k = dom s k := rfl
@[simp] theorem dom_setFaults (s : State) (v : Faults) (k : Nat) : dom (s.setFaults v) k = dom s k := rfl
@[simp] theorem dom_setJex (s : State) (v : Jex) (k : Nat) : dom (s.setJex v) k = dom s k := rfl
@[simp] theorem dom_setVigil (s : State) (v : Vigil) (k : Nat) : dom (s.setVigil v) k = dom s k := rfl
@[simp] theorem dom_setFresh (s : State) (v : Nat) (k : Nat) : dom (s.setFresh v) k = dom s k := rfl
@[simp] theorem dom_setPending (s : State) (v : List Instr) (k : Nat) : dom (s.setPending v) k = dom s k := rfl
@[simp] theorem modLine_eq (s : State) (k : Nat) (f) : modLine s k f = s.setLines (Tab.mod {} s.lines k f) := rfl
@[simp] theorem line_setAon (s : State) (v : Aon) (k : Nat) : line (s.setAon v) k = line s k := rfl
@[simp] theorem line_setQuerns (s : State) (v : Tab Quern) (k : Nat) : line (s.setQuerns v) k = line s k := rfl
@[simp] theorem line_setDomains (s : State) (v : Tab Domain) (k : Nat) : line (s.setDomains v) k = line s k := rfl
@[simp] theorem line_setLines (s : State) (v : Tab Line) (k : Nat) : line (s.setLines v) k = Tab.get {} v k := rfl
@[simp] theorem line_setBanks (s : State) (v : Tab Bank) (k : Nat) : line (s.setBanks v) k = line s k := rfl
@[simp] theorem line_setGranary (s : State) (v : Tab Sample) (k : Nat) : line (s.setGranary v) k = line s k := rfl
@[simp] theorem line_setSexton (s : State) (v : Sexton) (k : Nat) : line (s.setSexton v) k = line s k := rfl
@[simp] theorem line_setAudio (s : State) (v : Audio) (k : Nat) : line (s.setAudio v) k = line s k := rfl
@[simp] theorem line_setTally (s : State) (v : Tally) (k : Nat) : line (s.setTally v) k = line s k := rfl
@[simp] theorem line_setCrier (s : State) (v : Crier) (k : Nat) : line (s.setCrier v) k = line s k := rfl
@[simp] theorem line_setTwin (s : State) (v : Twin) (k : Nat) : line (s.setTwin v) k = line s k := rfl
@[simp] theorem line_setWarden (s : State) (v : Warden) (k : Nat) : line (s.setWarden v) k = line s k := rfl
@[simp] theorem line_setGate (s : State) (v : Gate) (k : Nat) : line (s.setGate v) k = line s k := rfl
@[simp] theorem line_setGreq (s : State) (v : Greq) (k : Nat) : line (s.setGreq v) k = line s k := rfl
@[simp] theorem line_setHost (s : State) (v : HostPort) (k : Nat) : line (s.setHost v) k = line s k := rfl
@[simp] theorem line_setReeves (s : State) (v : Tab Reeve) (k : Nat) : line (s.setReeves v) k = line s k := rfl
@[simp] theorem line_setStew (s : State) (v : Steward) (k : Nat) : line (s.setStew v) k = line s k := rfl
@[simp] theorem line_setDma (s : State) (v : Dma) (k : Nat) : line (s.setDma v) k = line s k := rfl
@[simp] theorem line_setCtrlRam (s : State) (v : Tab (BitVec 32)) (k : Nat) : line (s.setCtrlRam v) k = line s k := rfl
@[simp] theorem line_setPer (s : State) (v : Per) (k : Nat) : line (s.setPer v) k = line s k := rfl
@[simp] theorem line_setFlash (s : State) (v : Flash) (k : Nat) : line (s.setFlash v) k = line s k := rfl
@[simp] theorem line_setFaults (s : State) (v : Faults) (k : Nat) : line (s.setFaults v) k = line s k := rfl
@[simp] theorem line_setJex (s : State) (v : Jex) (k : Nat) : line (s.setJex v) k = line s k := rfl
@[simp] theorem line_setVigil (s : State) (v : Vigil) (k : Nat) : line (s.setVigil v) k = line s k := rfl
@[simp] theorem line_setFresh (s : State) (v : Nat) (k : Nat) : line (s.setFresh v) k = line s k := rfl
@[simp] theorem line_setPending (s : State) (v : List Instr) (k : Nat) : line (s.setPending v) k = line s k := rfl
@[simp] theorem modBank_eq (s : State) (k : Nat) (f) : modBank s k f = s.setBanks (Tab.mod {} s.banks k f) := rfl
@[simp] theorem bank_setAon (s : State) (v : Aon) (k : Nat) : bank (s.setAon v) k = bank s k := rfl
@[simp] theorem bank_setQuerns (s : State) (v : Tab Quern) (k : Nat) : bank (s.setQuerns v) k = bank s k := rfl
@[simp] theorem bank_setDomains (s : State) (v : Tab Domain) (k : Nat) : bank (s.setDomains v) k = bank s k := rfl
@[simp] theorem bank_setLines (s : State) (v : Tab Line) (k : Nat) : bank (s.setLines v) k = bank s k := rfl
@[simp] theorem bank_setBanks (s : State) (v : Tab Bank) (k : Nat) : bank (s.setBanks v) k = Tab.get {} v k := rfl
@[simp] theorem bank_setGranary (s : State) (v : Tab Sample) (k : Nat) : bank (s.setGranary v) k = bank s k := rfl
@[simp] theorem bank_setSexton (s : State) (v : Sexton) (k : Nat) : bank (s.setSexton v) k = bank s k := rfl
@[simp] theorem bank_setAudio (s : State) (v : Audio) (k : Nat) : bank (s.setAudio v) k = bank s k := rfl
@[simp] theorem bank_setTally (s : State) (v : Tally) (k : Nat) : bank (s.setTally v) k = bank s k := rfl
@[simp] theorem bank_setCrier (s : State) (v : Crier) (k : Nat) : bank (s.setCrier v) k = bank s k := rfl
@[simp] theorem bank_setTwin (s : State) (v : Twin) (k : Nat) : bank (s.setTwin v) k = bank s k := rfl
@[simp] theorem bank_setWarden (s : State) (v : Warden) (k : Nat) : bank (s.setWarden v) k = bank s k := rfl
@[simp] theorem bank_setGate (s : State) (v : Gate) (k : Nat) : bank (s.setGate v) k = bank s k := rfl
@[simp] theorem bank_setGreq (s : State) (v : Greq) (k : Nat) : bank (s.setGreq v) k = bank s k := rfl
@[simp] theorem bank_setHost (s : State) (v : HostPort) (k : Nat) : bank (s.setHost v) k = bank s k := rfl
@[simp] theorem bank_setReeves (s : State) (v : Tab Reeve) (k : Nat) : bank (s.setReeves v) k = bank s k := rfl
@[simp] theorem bank_setStew (s : State) (v : Steward) (k : Nat) : bank (s.setStew v) k = bank s k := rfl
@[simp] theorem bank_setDma (s : State) (v : Dma) (k : Nat) : bank (s.setDma v) k = bank s k := rfl
@[simp] theorem bank_setCtrlRam (s : State) (v : Tab (BitVec 32)) (k : Nat) : bank (s.setCtrlRam v) k = bank s k := rfl
@[simp] theorem bank_setPer (s : State) (v : Per) (k : Nat) : bank (s.setPer v) k = bank s k := rfl
@[simp] theorem bank_setFlash (s : State) (v : Flash) (k : Nat) : bank (s.setFlash v) k = bank s k := rfl
@[simp] theorem bank_setFaults (s : State) (v : Faults) (k : Nat) : bank (s.setFaults v) k = bank s k := rfl
@[simp] theorem bank_setJex (s : State) (v : Jex) (k : Nat) : bank (s.setJex v) k = bank s k := rfl
@[simp] theorem bank_setVigil (s : State) (v : Vigil) (k : Nat) : bank (s.setVigil v) k = bank s k := rfl
@[simp] theorem bank_setFresh (s : State) (v : Nat) (k : Nat) : bank (s.setFresh v) k = bank s k := rfl
@[simp] theorem bank_setPending (s : State) (v : List Instr) (k : Nat) : bank (s.setPending v) k = bank s k := rfl
@[simp] theorem modReeve_eq (s : State) (k : Nat) (f) : modReeve s k f = s.setReeves (Tab.mod {} s.reeves k f) := rfl
@[simp] theorem reeve_setAon (s : State) (v : Aon) (k : Nat) : reeve (s.setAon v) k = reeve s k := rfl
@[simp] theorem reeve_setQuerns (s : State) (v : Tab Quern) (k : Nat) : reeve (s.setQuerns v) k = reeve s k := rfl
@[simp] theorem reeve_setDomains (s : State) (v : Tab Domain) (k : Nat) : reeve (s.setDomains v) k = reeve s k := rfl
@[simp] theorem reeve_setLines (s : State) (v : Tab Line) (k : Nat) : reeve (s.setLines v) k = reeve s k := rfl
@[simp] theorem reeve_setBanks (s : State) (v : Tab Bank) (k : Nat) : reeve (s.setBanks v) k = reeve s k := rfl
@[simp] theorem reeve_setGranary (s : State) (v : Tab Sample) (k : Nat) : reeve (s.setGranary v) k = reeve s k := rfl
@[simp] theorem reeve_setSexton (s : State) (v : Sexton) (k : Nat) : reeve (s.setSexton v) k = reeve s k := rfl
@[simp] theorem reeve_setAudio (s : State) (v : Audio) (k : Nat) : reeve (s.setAudio v) k = reeve s k := rfl
@[simp] theorem reeve_setTally (s : State) (v : Tally) (k : Nat) : reeve (s.setTally v) k = reeve s k := rfl
@[simp] theorem reeve_setCrier (s : State) (v : Crier) (k : Nat) : reeve (s.setCrier v) k = reeve s k := rfl
@[simp] theorem reeve_setTwin (s : State) (v : Twin) (k : Nat) : reeve (s.setTwin v) k = reeve s k := rfl
@[simp] theorem reeve_setWarden (s : State) (v : Warden) (k : Nat) : reeve (s.setWarden v) k = reeve s k := rfl
@[simp] theorem reeve_setGate (s : State) (v : Gate) (k : Nat) : reeve (s.setGate v) k = reeve s k := rfl
@[simp] theorem reeve_setGreq (s : State) (v : Greq) (k : Nat) : reeve (s.setGreq v) k = reeve s k := rfl
@[simp] theorem reeve_setHost (s : State) (v : HostPort) (k : Nat) : reeve (s.setHost v) k = reeve s k := rfl
@[simp] theorem reeve_setReeves (s : State) (v : Tab Reeve) (k : Nat) : reeve (s.setReeves v) k = Tab.get {} v k := rfl
@[simp] theorem reeve_setStew (s : State) (v : Steward) (k : Nat) : reeve (s.setStew v) k = reeve s k := rfl
@[simp] theorem reeve_setDma (s : State) (v : Dma) (k : Nat) : reeve (s.setDma v) k = reeve s k := rfl
@[simp] theorem reeve_setCtrlRam (s : State) (v : Tab (BitVec 32)) (k : Nat) : reeve (s.setCtrlRam v) k = reeve s k := rfl
@[simp] theorem reeve_setPer (s : State) (v : Per) (k : Nat) : reeve (s.setPer v) k = reeve s k := rfl
@[simp] theorem reeve_setFlash (s : State) (v : Flash) (k : Nat) : reeve (s.setFlash v) k = reeve s k := rfl
@[simp] theorem reeve_setFaults (s : State) (v : Faults) (k : Nat) : reeve (s.setFaults v) k = reeve s k := rfl
@[simp] theorem reeve_setJex (s : State) (v : Jex) (k : Nat) : reeve (s.setJex v) k = reeve s k := rfl
@[simp] theorem reeve_setVigil (s : State) (v : Vigil) (k : Nat) : reeve (s.setVigil v) k = reeve s k := rfl
@[simp] theorem reeve_setFresh (s : State) (v : Nat) (k : Nat) : reeve (s.setFresh v) k = reeve s k := rfl
@[simp] theorem reeve_setPending (s : State) (v : List Instr) (k : Nat) : reeve (s.setPending v) k = reeve s k := rfl
@[simp] theorem modAon_eq (s : State) (f) : modAon s f = s.setAon (f s.aon) := rfl
@[simp] theorem modAudio_eq (s : State) (f) : modAudio s f = s.setAudio (f s.audio) := rfl
@[simp] theorem modTally_eq (s : State) (f) : modTally s f = s.setTally (f s.tally) := rfl
@[simp] theorem modCrier_eq (s : State) (f) : modCrier s f = s.setCrier (f s.crier) := rfl
@[simp] theorem modTwin_eq (s : State) (f) : modTwin s f = s.setTwin (f s.twin) := rfl
@[simp] theorem modWarden_eq (s : State) (f) : modWarden s f = s.setWarden (f s.warden) := rfl
@[simp] theorem modGate_eq (s : State) (f) : modGate s f = s.setGate (f s.gate) := rfl
@[simp] theorem modGreq_eq (s : State) (f) : modGreq s f = s.setGreq (f s.greq) := rfl
@[simp] theorem modHost_eq (s : State) (f) : modHost s f = s.setHost (f s.host) := rfl
@[simp] theorem modStew_eq (s : State) (f) : modStew s f = s.setStew (f s.stew) := rfl
@[simp] theorem modDma_eq (s : State) (f) : modDma s f = s.setDma (f s.dma) := rfl
@[simp] theorem modPer_eq (s : State) (f) : modPer s f = s.setPer (f s.per) := rfl
@[simp] theorem modFlash_eq (s : State) (f) : modFlash s f = s.setFlash (f s.flash) := rfl
@[simp] theorem modFaults_eq (s : State) (f) : modFaults s f = s.setFaults (f s.faults) := rfl
@[simp] theorem modJex_eq (s : State) (f) : modJex s f = s.setJex (f s.jex) := rfl
@[simp] theorem modVigil_eq (s : State) (f) : modVigil s f = s.setVigil (f s.vigil) := rfl
@[simp] theorem modSexton_eq (s : State) (f) : modSexton s f = s.setSexton (f s.sexton) := rfl

/-! ### Setting a field twice, and to its own value -/

@[simp] theorem State.setAon_setAon (s : State) (v w : Aon) : (s.setAon v).setAon w = s.setAon w := rfl
@[simp] theorem State.setAon_self (s : State) : s.setAon s.aon = s := rfl
@[simp] theorem State.setQuerns_setQuerns (s : State) (v w : Tab Quern) : (s.setQuerns v).setQuerns w = s.setQuerns w := rfl
@[simp] theorem State.setQuerns_self (s : State) : s.setQuerns s.querns = s := rfl
@[simp] theorem State.setDomains_setDomains (s : State) (v w : Tab Domain) : (s.setDomains v).setDomains w = s.setDomains w := rfl
@[simp] theorem State.setDomains_self (s : State) : s.setDomains s.domains = s := rfl
@[simp] theorem State.setLines_setLines (s : State) (v w : Tab Line) : (s.setLines v).setLines w = s.setLines w := rfl
@[simp] theorem State.setLines_self (s : State) : s.setLines s.lines = s := rfl
@[simp] theorem State.setBanks_setBanks (s : State) (v w : Tab Bank) : (s.setBanks v).setBanks w = s.setBanks w := rfl
@[simp] theorem State.setBanks_self (s : State) : s.setBanks s.banks = s := rfl
@[simp] theorem State.setGranary_setGranary (s : State) (v w : Tab Sample) : (s.setGranary v).setGranary w = s.setGranary w := rfl
@[simp] theorem State.setGranary_self (s : State) : s.setGranary s.granary = s := rfl
@[simp] theorem State.setSexton_setSexton (s : State) (v w : Sexton) : (s.setSexton v).setSexton w = s.setSexton w := rfl
@[simp] theorem State.setSexton_self (s : State) : s.setSexton s.sexton = s := rfl
@[simp] theorem State.setAudio_setAudio (s : State) (v w : Audio) : (s.setAudio v).setAudio w = s.setAudio w := rfl
@[simp] theorem State.setAudio_self (s : State) : s.setAudio s.audio = s := rfl
@[simp] theorem State.setTally_setTally (s : State) (v w : Tally) : (s.setTally v).setTally w = s.setTally w := rfl
@[simp] theorem State.setTally_self (s : State) : s.setTally s.tally = s := rfl
@[simp] theorem State.setCrier_setCrier (s : State) (v w : Crier) : (s.setCrier v).setCrier w = s.setCrier w := rfl
@[simp] theorem State.setCrier_self (s : State) : s.setCrier s.crier = s := rfl
@[simp] theorem State.setTwin_setTwin (s : State) (v w : Twin) : (s.setTwin v).setTwin w = s.setTwin w := rfl
@[simp] theorem State.setTwin_self (s : State) : s.setTwin s.twin = s := rfl
@[simp] theorem State.setWarden_setWarden (s : State) (v w : Warden) : (s.setWarden v).setWarden w = s.setWarden w := rfl
@[simp] theorem State.setWarden_self (s : State) : s.setWarden s.warden = s := rfl
@[simp] theorem State.setGate_setGate (s : State) (v w : Gate) : (s.setGate v).setGate w = s.setGate w := rfl
@[simp] theorem State.setGate_self (s : State) : s.setGate s.gate = s := rfl
@[simp] theorem State.setGreq_setGreq (s : State) (v w : Greq) : (s.setGreq v).setGreq w = s.setGreq w := rfl
@[simp] theorem State.setGreq_self (s : State) : s.setGreq s.greq = s := rfl
@[simp] theorem State.setHost_setHost (s : State) (v w : HostPort) : (s.setHost v).setHost w = s.setHost w := rfl
@[simp] theorem State.setHost_self (s : State) : s.setHost s.host = s := rfl
@[simp] theorem State.setReeves_setReeves (s : State) (v w : Tab Reeve) : (s.setReeves v).setReeves w = s.setReeves w := rfl
@[simp] theorem State.setReeves_self (s : State) : s.setReeves s.reeves = s := rfl
@[simp] theorem State.setStew_setStew (s : State) (v w : Steward) : (s.setStew v).setStew w = s.setStew w := rfl
@[simp] theorem State.setStew_self (s : State) : s.setStew s.stew = s := rfl
@[simp] theorem State.setDma_setDma (s : State) (v w : Dma) : (s.setDma v).setDma w = s.setDma w := rfl
@[simp] theorem State.setDma_self (s : State) : s.setDma s.dma = s := rfl
@[simp] theorem State.setCtrlRam_setCtrlRam (s : State) (v w : Tab (BitVec 32)) : (s.setCtrlRam v).setCtrlRam w = s.setCtrlRam w := rfl
@[simp] theorem State.setCtrlRam_self (s : State) : s.setCtrlRam s.ctrlRam = s := rfl
@[simp] theorem State.setPer_setPer (s : State) (v w : Per) : (s.setPer v).setPer w = s.setPer w := rfl
@[simp] theorem State.setPer_self (s : State) : s.setPer s.per = s := rfl
@[simp] theorem State.setFlash_setFlash (s : State) (v w : Flash) : (s.setFlash v).setFlash w = s.setFlash w := rfl
@[simp] theorem State.setFlash_self (s : State) : s.setFlash s.flash = s := rfl
@[simp] theorem State.setFaults_setFaults (s : State) (v w : Faults) : (s.setFaults v).setFaults w = s.setFaults w := rfl
@[simp] theorem State.setFaults_self (s : State) : s.setFaults s.faults = s := rfl
@[simp] theorem State.setJex_setJex (s : State) (v w : Jex) : (s.setJex v).setJex w = s.setJex w := rfl
@[simp] theorem State.setJex_self (s : State) : s.setJex s.jex = s := rfl
@[simp] theorem State.setVigil_setVigil (s : State) (v w : Vigil) : (s.setVigil v).setVigil w = s.setVigil w := rfl
@[simp] theorem State.setVigil_self (s : State) : s.setVigil s.vigil = s := rfl
@[simp] theorem State.setFresh_setFresh (s : State) (v w : Nat) : (s.setFresh v).setFresh w = s.setFresh w := rfl
@[simp] theorem State.setFresh_self (s : State) : s.setFresh s.fresh = s := rfl
@[simp] theorem State.setPending_setPending (s : State) (v w : List Instr) : (s.setPending v).setPending w = s.setPending w := rfl
@[simp] theorem State.setPending_self (s : State) : s.setPending s.pending = s := rfl


end Sys2Proof.Machine
end

