-- ==== Sys2Proof/Laws/Mailbox.lean ====
section
/-! SUPPORT. What serving a mailbox command does: a command that passes its checks runs; what replies and
refusals write; what unknown commands behind it leave alone. -/

namespace Sys2Proof.Machine

open Sys2Proof.Safety

@[simp] theorem mbox_setHost (s : State) (v : HostPort) (m : Nat) : mbox (s.setHost v) m = Tab.get {} v.mbs m := rfl

/-- A command that every check passes is accepted and runs. -/
theorem serve_taken (s : State) (m : Fin 8) (op : Nat) (own : State → Option Refuse) (run : State → State)
    (h : taken s m op own = true) : serve op m own run s = skipAll (run (acceptHead m s)) := by
  simp only [taken, Bool.and_eq_true, Option.isNone_iff_eq_none] at h
  simp only [serve, h.1.1, if_true, h.1.2, h.2]

/-- A command that its own checks refuse gets the refusal. -/
theorem serve_turnedAway (s : State) (m : Fin 8) (op : Nat) (own : State → Option Refuse) (run : State → State) (r : Refuse)
    (h : turnedAway s m op own r = true) : serve op m own run s = skipAll (refuse m (r.inGroup op) (acceptHead m s)) := by
  simp only [turnedAway, Bool.and_eq_true, Option.isNone_iff_eq_none, beq_iff_eq] at h
  simp only [serve, h.1.1, if_true, h.1.2, h.2]

/-- A command that is not next is not served. -/
theorem serve_notHead (s : State) (m op : Nat) (own : State → Option Refuse) (run : State → State)
    (h : atHead s m op = false) : serve op m own run s = s := by
  simp [serve, h]

/-- Where a command is next, its opcode is the one named. -/
theorem taken_op (s : State) (m : Fin 8) (op : Nat) (own : State → Option Refuse) (h : taken s m op own = true) :
    cmdOp s m = op := by
  simp only [taken, atHead, Bool.and_eq_true, beq_iff_eq] at h
  exact h.1.1.2

/-! ### What accepting, replying and refusing write -/

@[simp] theorem mbox_acceptHead (s : State) (m k : Nat) :
    mbox (acceptHead m s) k = if k = m then { mbox s m with state := .accepted } else mbox s k := by
  simp only [acceptHead, modHost_eq, mbox_setHost, Tab.get_mod]
  rfl

@[simp] theorem arg_acceptHead (s : State) (m k i : Nat) : arg (acceptHead m s) k i = arg s k i := by
  simp only [arg, mbox_acceptHead]
  split
  · rename_i h
    rw [h]
  · rfl

@[simp] theorem cmdOp_acceptHead (s : State) (m k : Nat) : cmdOp (acceptHead m s) k = cmdOp s k := by
  simp [cmdOp]

/-- Accepting a command changes the host port only. -/
theorem acceptHead_only (s : State) (m : Nat) : acceptHead m s = s.setHost (acceptHead m s).host := by
  simp [acceptHead]

@[simp] theorem mbox_replyWith (s : State) (m k status : Nat) (ws : List Word) :
    mbox (replyWith m status ws s) k =
      if k = m then { state := .ready, words := Tab.setRun 0 [] 0 (replyHead (arg s m 0) (ws.length + 1) status :: ws) }
      else mbox s k := by
  simp only [replyWith, modHost_eq, mbox_setHost, Tab.get_mod]
  rfl

/-- A reply changes the host port only. -/
theorem replyWith_only (s : State) (m status : Nat) (ws : List Word) :
    replyWith m status ws s = s.setHost (replyWith m status ws s).host := by
  simp [replyWith]

/-- The words of a reply as they are read. -/
theorem arg_replyWith (s : State) (m status : Nat) (ws : List Word) (i : Nat) :
    arg (replyWith m status ws s) m i = (replyHead (arg s m 0) (ws.length + 1) status :: ws).getD i 0 := by
  simp only [arg, mbox_replyWith, if_true, Tab.get_setRun, Nat.zero_le, true_and, Nat.zero_add, Nat.sub_zero, Tab.get]
  split
  · rfl
  · rename_i h
    simp only [List.length_cons, Nat.not_lt] at h
    rw [List.getD_eq_getElem?_getD, List.getElem?_eq_none (by simpa using h)]
    rfl

/-- The opcode stands in the reply as it stood in the command (R418). -/
theorem cmdOp_replyWith (s : State) (m status : Nat) (ws : List Word) (h : ws.length < 127) (hs : status < 256) :
    cmdOp (replyWith m status ws s) m = cmdOp s m := by
  simp only [cmdOp, arg_replyWith, List.getD_cons_zero, replyHead, wrd, fld, Nat.shiftRight_eq_div_pow,
    BitVec.toNat_ofNat]
  have := (arg s m 0).isLt
  omega

/-! ### Unknown commands behind it -/

/-- A front command of an unknown opcode changes the host port only. -/
theorem skipUnknown_only (s : State) : skipUnknown s = s.setHost (skipUnknown s).host := by
  unfold skipUnknown
  split
  · rfl
  · split
    · rw [refuse, replyWith_only, State.setHost_host]
      conv => lhs; rw [acceptHead_only]
      rfl
    · rfl

/-- A mailbox with a known opcode is left alone. -/
theorem skipUnknown_mbox (s : State) (m : Nat) (h : cmdRow (cmdOp s m) ≠ none) : mbox (skipUnknown s) m = mbox s m := by
  unfold skipUnknown
  split
  · rfl
  · rename_i k _ _
    split
    · rename_i hk
      have : m ≠ k := by
        rintro rfl
        exact h hk.2.2
      simp [refuse, this]
    · rfl

/-- The same for all of them. -/
theorem skipAll_spec (s : State) (m : Nat) (h : cmdRow (cmdOp s m) ≠ none) :
    skipAll s = s.setHost (skipAll s).host ∧ mbox (skipAll s) m = mbox s m := by
  have key : ∀ (l : List Nat) (t : State), t = s.setHost t.host → mbox t m = mbox s m →
      forEach l (fun t _ => skipUnknown t) t = s.setHost (forEach l (fun t _ => skipUnknown t) t).host ∧
        mbox (forEach l (fun t _ => skipUnknown t) t) m = mbox s m := by
    intro l
    induction l with
    | nil => intro t h1 h2; exact ⟨h1, h2⟩
    | cons a l ih =>
      intro t h1 h2
      have hop : cmdOp t m = cmdOp s m := by simp only [cmdOp, arg, h2]
      apply ih (skipUnknown t)
      · have h3 := skipUnknown_only t
        rw [h3]
        conv => lhs; rw [h1]
        rw [State.setHost_setHost, ← h1, State.setHost_host]
      · rw [skipUnknown_mbox t m (by rw [hop]; exact h), h2]
  exact key _ s rfl rfl

theorem skipAll_only (s : State) : skipAll s = s.setHost (skipAll s).host := by
  have key : ∀ (l : List Nat) (t : State), t = s.setHost t.host →
      forEach l (fun t _ => skipUnknown t) t = s.setHost (forEach l (fun t _ => skipUnknown t) t).host := by
    intro l
    induction l with
    | nil => intro t h1; exact h1
    | cons a l ih =>
      intro t h1
      apply ih (skipUnknown t)
      have h3 := skipUnknown_only t
      rw [h3]
      conv => lhs; rw [h1]
      rw [State.setHost_setHost, ← h1, State.setHost_host]
  exact key _ s rfl

/-- A command that runs to an OK reply as the last thing it does answers with that reply. -/
theorem answered_skipAll (s u : State) (m : Fin 8) (op : Nat) (ws : List Word) (hop : cmdOp s m = op)
    (hrow : cmdRow op ≠ none) (hlen : ws.length < 127) (hu : arg u m 0 = arg s m 0) :
    answered s (skipAll (reply m ws u)) m ws := by
  have h1 : cmdOp (reply m ws u) m = op := by
    rw [reply, cmdOp_replyWith u m 0 ws hlen (by omega), ← hop, cmdOp, cmdOp, hu]
  have h2 := (skipAll_spec (reply m ws u) m (by rw [h1]; exact hrow)).2
  constructor
  · rw [h2, reply]
    simp
  · intro i
    rw [arg, h2, ← arg, reply, arg_replyWith, hu]

end Sys2Proof.Machine
end

