-- ==== Sys2Proof/Laws/Frames.lean ====
section
/-! SUPPORT. What the shared mailbox operations and the posting of an event leave alone, field by field. -/

namespace Sys2Proof.Machine

/-- Putting an entry into the event queue changes the host port only. -/
theorem appendEvent_only (c : Nat) (p : List Word) (s : State) :
    (appendEvent c p s).1 = s.setHost (appendEvent c p s).1.host := by
  unfold appendEvent
  dsimp only
  split
  · rfl
  · split <;> rfl

/-- A change of the host port after a change of the host port only. -/
theorem setHost_over {s t : State} (h : t = s.setHost t.host) (v : HostPort) : t.setHost v = s.setHost v := by
  rw [h]
  rfl

/-- EVENTS_LOST changes the host port only. -/
theorem postLost_only (s : State) : postLost s = s.setHost (postLost s).host := by
  unfold postLost
  split
  · rfl
  · exact (appendEvent_only _ _ _).trans rfl

/-- Posting an event changes the host port only. -/
theorem postEvent_only (c : Nat) (p : List Word) (s : State) : postEvent c p s = s.setHost (postEvent c p s).host := by
  have h := (appendEvent_only c p (postLost s)).trans (setHost_over (postLost_only s) _)
  unfold postEvent
  dsimp only
  split
  · split
    · exact h
    · exact setHost_over h _
  · rfl

theorem reply_only (m : Nat) (ws : List Word) (s : State) : reply m ws s = s.setHost (reply m ws s).host :=
  replyWith_only s m 0 ws

theorem refuse_only (m : Nat) (r : Refuse) (s : State) : refuse m r s = s.setHost (refuse m r s).host :=
  replyWith_only s m r.status [r.word]

@[simp] theorem skipAll_aon (s : State) : (skipAll s).aon = s.aon :=
  (congrArg State.aon (skipAll_only s)).trans rfl
@[simp] theorem skipAll_querns (s : State) : (skipAll s).querns = s.querns :=
  (congrArg State.querns (skipAll_only s)).trans rfl
@[simp] theorem skipAll_domains (s : State) : (skipAll s).domains = s.domains :=
  (congrArg State.domains (skipAll_only s)).trans rfl
@[simp] theorem skipAll_lines (s : State) : (skipAll s).lines = s.lines :=
  (congrArg State.lines (skipAll_only s)).trans rfl
@[simp] theorem skipAll_banks (s : State) : (skipAll s).banks = s.banks :=
  (congrArg State.banks (skipAll_only s)).trans rfl
@[simp] theorem skipAll_granary (s : State) : (skipAll s).granary = s.granary :=
  (congrArg State.granary (skipAll_only s)).trans rfl
@[simp] theorem skipAll_sexton (s : State) : (skipAll s).sexton = s.sexton :=
  (congrArg State.sexton (skipAll_only s)).trans rfl
@[simp] theorem skipAll_audio (s : State) : (skipAll s).audio = s.audio :=
  (congrArg State.audio (skipAll_only s)).trans rfl
@[simp] theorem skipAll_tally (s : State) : (skipAll s).tally = s.tally :=
  (congrArg State.tally (skipAll_only s)).trans rfl
@[simp] theorem skipAll_crier (s : State) : (skipAll s).crier = s.crier :=
  (congrArg State.crier (skipAll_only s)).trans rfl
@[simp] theorem skipAll_twin (s : State) : (skipAll s).twin = s.twin :=
  (congrArg State.twin (skipAll_only s)).trans rfl
@[simp] theorem skipAll_warden (s : State) : (skipAll s).warden = s.warden :=
  (congrArg State.warden (skipAll_only s)).trans rfl
@[simp] theorem skipAll_gate (s : State) : (skipAll s).gate = s.gate :=
  (congrArg State.gate (skipAll_only s)).trans rfl
@[simp] theorem skipAll_greq (s : State) : (skipAll s).greq = s.greq :=
  (congrArg State.greq (skipAll_only s)).trans rfl
@[simp] theorem skipAll_reeves (s : State) : (skipAll s).reeves = s.reeves :=
  (congrArg State.reeves (skipAll_only s)).trans rfl
@[simp] theorem skipAll_stew (s : State) : (skipAll s).stew = s.stew :=
  (congrArg State.stew (skipAll_only s)).trans rfl
@[simp] theorem skipAll_dma (s : State) : (skipAll s).dma = s.dma :=
  (congrArg State.dma (skipAll_only s)).trans rfl
@[simp] theorem skipAll_ctrlRam (s : State) : (skipAll s).ctrlRam = s.ctrlRam :=
  (congrArg State.ctrlRam (skipAll_only s)).trans rfl
@[simp] theorem skipAll_per (s : State) : (skipAll s).per = s.per :=
  (congrArg State.per (skipAll_only s)).trans rfl
@[simp] theorem skipAll_flash (s : State) : (skipAll s).flash = s.flash :=
  (congrArg State.flash (skipAll_only s)).trans rfl
@[simp] theorem skipAll_faults (s : State) : (skipAll s).faults = s.faults :=
  (congrArg State.faults (skipAll_only s)).trans rfl
@[simp] theorem skipAll_jex (s : State) : (skipAll s).jex = s.jex :=
  (congrArg State.jex (skipAll_only s)).trans rfl
@[simp] theorem skipAll_vigil (s : State) : (skipAll s).vigil = s.vigil :=
  (congrArg State.vigil (skipAll_only s)).trans rfl
@[simp] theorem skipAll_fresh (s : State) : (skipAll s).fresh = s.fresh :=
  (congrArg State.fresh (skipAll_only s)).trans rfl
@[simp] theorem skipAll_pending (s : State) : (skipAll s).pending = s.pending :=
  (congrArg State.pending (skipAll_only s)).trans rfl
@[simp] theorem acceptHead_aon (m : Nat) (s : State) : (acceptHead m s).aon = s.aon :=
  (congrArg State.aon (acceptHead_only s m)).trans rfl
@[simp] theorem acceptHead_querns (m : Nat) (s : State) : (acceptHead m s).querns = s.querns :=
  (congrArg State.querns (acceptHead_only s m)).trans rfl
@[simp] theorem acceptHead_domains (m : Nat) (s : State) : (acceptHead m s).domains = s.domains :=
  (congrArg State.domains (acceptHead_only s m)).trans rfl
@[simp] theorem acceptHead_lines (m : Nat) (s : State) : (acceptHead m s).lines = s.lines :=
  (congrArg State.lines (acceptHead_only s m)).trans rfl
@[simp] theorem acceptHead_banks (m : Nat) (s : State) : (acceptHead m s).banks = s.banks :=
  (congrArg State.banks (acceptHead_only s m)).trans rfl
@[simp] theorem acceptHead_granary (m : Nat) (s : State) : (acceptHead m s).granary = s.granary :=
  (congrArg State.granary (acceptHead_only s m)).trans rfl
@[simp] theorem acceptHead_sexton (m : Nat) (s : State) : (acceptHead m s).sexton = s.sexton :=
  (congrArg State.sexton (acceptHead_only s m)).trans rfl
@[simp] theorem acceptHead_audio (m : Nat) (s : State) : (acceptHead m s).audio = s.audio :=
  (congrArg State.audio (acceptHead_only s m)).trans rfl
@[simp] theorem acceptHead_tally (m : Nat) (s : State) : (acceptHead m s).tally = s.tally :=
  (congrArg State.tally (acceptHead_only s m)).trans rfl
@[simp] theorem acceptHead_crier (m : Nat) (s : State) : (acceptHead m s).crier = s.crier :=
  (congrArg State.crier (acceptHead_only s m)).trans rfl
@[simp] theorem acceptHead_twin (m : Nat) (s : State) : (acceptHead m s).twin = s.twin :=
  (congrArg State.twin (acceptHead_only s m)).trans rfl
@[simp] theorem acceptHead_warden (m : Nat) (s : State) : (acceptHead m s).warden = s.warden :=
  (congrArg State.warden (acceptHead_only s m)).trans rfl
@[simp] theorem acceptHead_gate (m : Nat) (s : State) : (acceptHead m s).gate = s.gate :=
  (congrArg State.gate (acceptHead_only s m)).trans rfl
@[simp] theorem acceptHead_greq (m : Nat) (s : State) : (acceptHead m s).greq = s.greq :=
  (congrArg State.greq (acceptHead_only s m)).trans rfl
@[simp] theorem acceptHead_reeves (m : Nat) (s : State) : (acceptHead m s).reeves = s.reeves :=
  (congrArg State.reeves (acceptHead_only s m)).trans rfl
@[simp] theorem acceptHead_stew (m : Nat) (s : State) : (acceptHead m s).stew = s.stew :=
  (congrArg State.stew (acceptHead_only s m)).trans rfl
@[simp] theorem acceptHead_dma (m : Nat) (s : State) : (acceptHead m s).dma = s.dma :=
  (congrArg State.dma (acceptHead_only s m)).trans rfl
@[simp] theorem acceptHead_ctrlRam (m : Nat) (s : State) : (acceptHead m s).ctrlRam = s.ctrlRam :=
  (congrArg State.ctrlRam (acceptHead_only s m)).trans rfl
@[simp] theorem acceptHead_per (m : Nat) (s : State) : (acceptHead m s).per = s.per :=
  (congrArg State.per (acceptHead_only s m)).trans rfl
@[simp] theorem acceptHead_flash (m : Nat) (s : State) : (acceptHead m s).flash = s.flash :=
  (congrArg State.flash (acceptHead_only s m)).trans rfl
@[simp] theorem acceptHead_faults (m : Nat) (s : State) : (acceptHead m s).faults = s.faults :=
  (congrArg State.faults (acceptHead_only s m)).trans rfl
@[simp] theorem acceptHead_jex (m : Nat) (s : State) : (acceptHead m s).jex = s.jex :=
  (congrArg State.jex (acceptHead_only s m)).trans rfl
@[simp] theorem acceptHead_vigil (m : Nat) (s : State) : (acceptHead m s).vigil = s.vigil :=
  (congrArg State.vigil (acceptHead_only s m)).trans rfl
@[simp] theorem acceptHead_fresh (m : Nat) (s : State) : (acceptHead m s).fresh = s.fresh :=
  (congrArg State.fresh (acceptHead_only s m)).trans rfl
@[simp] theorem acceptHead_pending (m : Nat) (s : State) : (acceptHead m s).pending = s.pending :=
  (congrArg State.pending (acceptHead_only s m)).trans rfl
@[simp] theorem replyWith_aon (m status : Nat) (ws : List Word) (s : State) : (replyWith m status ws s).aon = s.aon :=
  (congrArg State.aon (replyWith_only s m status ws)).trans rfl
@[simp] theorem replyWith_querns (m status : Nat) (ws : List Word) (s : State) : (replyWith m status ws s).querns = s.querns :=
  (congrArg State.querns (replyWith_only s m status ws)).trans rfl
@[simp] theorem replyWith_domains (m status : Nat) (ws : List Word) (s : State) : (replyWith m status ws s).domains = s.domains :=
  (congrArg State.domains (replyWith_only s m status ws)).trans rfl
@[simp] theorem replyWith_lines (m status : Nat) (ws : List Word) (s : State) : (replyWith m status ws s).lines = s.lines :=
  (congrArg State.lines (replyWith_only s m status ws)).trans rfl
@[simp] theorem replyWith_banks (m status : Nat) (ws : List Word) (s : State) : (replyWith m status ws s).banks = s.banks :=
  (congrArg State.banks (replyWith_only s m status ws)).trans rfl
@[simp] theorem replyWith_granary (m status : Nat) (ws : List Word) (s : State) : (replyWith m status ws s).granary = s.granary :=
  (congrArg State.granary (replyWith_only s m status ws)).trans rfl
@[simp] theorem replyWith_sexton (m status : Nat) (ws : List Word) (s : State) : (replyWith m status ws s).sexton = s.sexton :=
  (congrArg State.sexton (replyWith_only s m status ws)).trans rfl
@[simp] theorem replyWith_audio (m status : Nat) (ws : List Word) (s : State) : (replyWith m status ws s).audio = s.audio :=
  (congrArg State.audio (replyWith_only s m status ws)).trans rfl
@[simp] theorem replyWith_tally (m status : Nat) (ws : List Word) (s : State) : (replyWith m status ws s).tally = s.tally :=
  (congrArg State.tally (replyWith_only s m status ws)).trans rfl
@[simp] theorem replyWith_crier (m status : Nat) (ws : List Word) (s : State) : (replyWith m status ws s).crier = s.crier :=
  (congrArg State.crier (replyWith_only s m status ws)).trans rfl
@[simp] theorem replyWith_twin (m status : Nat) (ws : List Word) (s : State) : (replyWith m status ws s).twin = s.twin :=
  (congrArg State.twin (replyWith_only s m status ws)).trans rfl
@[simp] theorem replyWith_warden (m status : Nat) (ws : List Word) (s : State) : (replyWith m status ws s).warden = s.warden :=
  (congrArg State.warden (replyWith_only s m status ws)).trans rfl
@[simp] theorem replyWith_gate (m status : Nat) (ws : List Word) (s : State) : (replyWith m status ws s).gate = s.gate :=
  (congrArg State.gate (replyWith_only s m status ws)).trans rfl
@[simp] theorem replyWith_greq (m status : Nat) (ws : List Word) (s : State) : (replyWith m status ws s).greq = s.greq :=
  (congrArg State.greq (replyWith_only s m status ws)).trans rfl
@[simp] theorem replyWith_reeves (m status : Nat) (ws : List Word) (s : State) : (replyWith m status ws s).reeves = s.reeves :=
  (congrArg State.reeves (replyWith_only s m status ws)).trans rfl
@[simp] theorem replyWith_stew (m status : Nat) (ws : List Word) (s : State) : (replyWith m status ws s).stew = s.stew :=
  (congrArg State.stew (replyWith_only s m status ws)).trans rfl
@[simp] theorem replyWith_dma (m status : Nat) (ws : List Word) (s : State) : (replyWith m status ws s).dma = s.dma :=
  (congrArg State.dma (replyWith_only s m status ws)).trans rfl
@[simp] theorem replyWith_ctrlRam (m status : Nat) (ws : List Word) (s : State) : (replyWith m status ws s).ctrlRam = s.ctrlRam :=
  (congrArg State.ctrlRam (replyWith_only s m status ws)).trans rfl
@[simp] theorem replyWith_per (m status : Nat) (ws : List Word) (s : State) : (replyWith m status ws s).per = s.per :=
  (congrArg State.per (replyWith_only s m status ws)).trans rfl
@[simp] theorem replyWith_flash (m status : Nat) (ws : List Word) (s : State) : (replyWith m status ws s).flash = s.flash :=
  (congrArg State.flash (replyWith_only s m status ws)).trans rfl
@[simp] theorem replyWith_faults (m status : Nat) (ws : List Word) (s : State) : (replyWith m status ws s).faults = s.faults :=
  (congrArg State.faults (replyWith_only s m status ws)).trans rfl
@[simp] theorem replyWith_jex (m status : Nat) (ws : List Word) (s : State) : (replyWith m status ws s).jex = s.jex :=
  (congrArg State.jex (replyWith_only s m status ws)).trans rfl
@[simp] theorem replyWith_vigil (m status : Nat) (ws : List Word) (s : State) : (replyWith m status ws s).vigil = s.vigil :=
  (congrArg State.vigil (replyWith_only s m status ws)).trans rfl
@[simp] theorem replyWith_fresh (m status : Nat) (ws : List Word) (s : State) : (replyWith m status ws s).fresh = s.fresh :=
  (congrArg State.fresh (replyWith_only s m status ws)).trans rfl
@[simp] theorem replyWith_pending (m status : Nat) (ws : List Word) (s : State) : (replyWith m status ws s).pending = s.pending :=
  (congrArg State.pending (replyWith_only s m status ws)).trans rfl
@[simp] theorem reply_aon (m : Nat) (ws : List Word) (s : State) : (reply m ws s).aon = s.aon :=
  (congrArg State.aon (reply_only m ws s)).trans rfl
@[simp] theorem reply_querns (m : Nat) (ws : List Word) (s : State) : (reply m ws s).querns = s.querns :=
  (congrArg State.querns (reply_only m ws s)).trans rfl
@[simp] theorem reply_domains (m : Nat) (ws : List Word) (s : State) : (reply m ws s).domains = s.domains :=
  (congrArg State.domains (reply_only m ws s)).trans rfl
@[simp] theorem reply_lines (m : Nat) (ws : List Word) (s : State) : (reply m ws s).lines = s.lines :=
  (congrArg State.lines (reply_only m ws s)).trans rfl
@[simp] theorem reply_banks (m : Nat) (ws : List Word) (s : State) : (reply m ws s).banks = s.banks :=
  (congrArg State.banks (reply_only m ws s)).trans rfl
@[simp] theorem reply_granary (m : Nat) (ws : List Word) (s : State) : (reply m ws s).granary = s.granary :=
  (congrArg State.granary (reply_only m ws s)).trans rfl
@[simp] theorem reply_sexton (m : Nat) (ws : List Word) (s : State) : (reply m ws s).sexton = s.sexton :=
  (congrArg State.sexton (reply_only m ws s)).trans rfl
@[simp] theorem reply_audio (m : Nat) (ws : List Word) (s : State) : (reply m ws s).audio = s.audio :=
  (congrArg State.audio (reply_only m ws s)).trans rfl
@[simp] theorem reply_tally (m : Nat) (ws : List Word) (s : State) : (reply m ws s).tally = s.tally :=
  (congrArg State.tally (reply_only m ws s)).trans rfl
@[simp] theorem reply_crier (m : Nat) (ws : List Word) (s : State) : (reply m ws s).crier = s.crier :=
  (congrArg State.crier (reply_only m ws s)).trans rfl
@[simp] theorem reply_twin (m : Nat) (ws : List Word) (s : State) : (reply m ws s).twin = s.twin :=
  (congrArg State.twin (reply_only m ws s)).trans rfl
@[simp] theorem reply_warden (m : Nat) (ws : List Word) (s : State) : (reply m ws s).warden = s.warden :=
  (congrArg State.warden (reply_only m ws s)).trans rfl
@[simp] theorem reply_gate (m : Nat) (ws : List Word) (s : State) : (reply m ws s).gate = s.gate :=
  (congrArg State.gate (reply_only m ws s)).trans rfl
@[simp] theorem reply_greq (m : Nat) (ws : List Word) (s : State) : (reply m ws s).greq = s.greq :=
  (congrArg State.greq (reply_only m ws s)).trans rfl
@[simp] theorem reply_reeves (m : Nat) (ws : List Word) (s : State) : (reply m ws s).reeves = s.reeves :=
  (congrArg State.reeves (reply_only m ws s)).trans rfl
@[simp] theorem reply_stew (m : Nat) (ws : List Word) (s : State) : (reply m ws s).stew = s.stew :=
  (congrArg State.stew (reply_only m ws s)).trans rfl
@[simp] theorem reply_dma (m : Nat) (ws : List Word) (s : State) : (reply m ws s).dma = s.dma :=
  (congrArg State.dma (reply_only m ws s)).trans rfl
@[simp] theorem reply_ctrlRam (m : Nat) (ws : List Word) (s : State) : (reply m ws s).ctrlRam = s.ctrlRam :=
  (congrArg State.ctrlRam (reply_only m ws s)).trans rfl
@[simp] theorem reply_per (m : Nat) (ws : List Word) (s : State) : (reply m ws s).per = s.per :=
  (congrArg State.per (reply_only m ws s)).trans rfl
@[simp] theorem reply_flash (m : Nat) (ws : List Word) (s : State) : (reply m ws s).flash = s.flash :=
  (congrArg State.flash (reply_only m ws s)).trans rfl
@[simp] theorem reply_faults (m : Nat) (ws : List Word) (s : State) : (reply m ws s).faults = s.faults :=
  (congrArg State.faults (reply_only m ws s)).trans rfl
@[simp] theorem reply_jex (m : Nat) (ws : List Word) (s : State) : (reply m ws s).jex = s.jex :=
  (congrArg State.jex (reply_only m ws s)).trans rfl
@[simp] theorem reply_vigil (m : Nat) (ws : List Word) (s : State) : (reply m ws s).vigil = s.vigil :=
  (congrArg State.vigil (reply_only m ws s)).trans rfl
@[simp] theorem reply_fresh (m : Nat) (ws : List Word) (s : State) : (reply m ws s).fresh = s.fresh :=
  (congrArg State.fresh (reply_only m ws s)).trans rfl
@[simp] theorem reply_pending (m : Nat) (ws : List Word) (s : State) : (reply m ws s).pending = s.pending :=
  (congrArg State.pending (reply_only m ws s)).trans rfl
@[simp] theorem refuse_aon (m : Nat) (r : Refuse) (s : State) : (refuse m r s).aon = s.aon :=
  (congrArg State.aon (refuse_only m r s)).trans rfl
@[simp] theorem refuse_querns (m : Nat) (r : Refuse) (s : State) : (refuse m r s).querns = s.querns :=
  (congrArg State.querns (refuse_only m r s)).trans rfl
@[simp] theorem refuse_domains (m : Nat) (r : Refuse) (s : State) : (refuse m r s).domains = s.domains :=
  (congrArg State.domains (refuse_only m r s)).trans rfl
@[simp] theorem refuse_lines (m : Nat) (r : Refuse) (s : State) : (refuse m r s).lines = s.lines :=
  (congrArg State.lines (refuse_only m r s)).trans rfl
@[simp] theorem refuse_banks (m : Nat) (r : Refuse) (s : State) : (refuse m r s).banks = s.banks :=
  (congrArg State.banks (refuse_only m r s)).trans rfl
@[simp] theorem refuse_granary (m : Nat) (r : Refuse) (s : State) : (refuse m r s).granary = s.granary :=
  (congrArg State.granary (refuse_only m r s)).trans rfl
@[simp] theorem refuse_sexton (m : Nat) (r : Refuse) (s : State) : (refuse m r s).sexton = s.sexton :=
  (congrArg State.sexton (refuse_only m r s)).trans rfl
@[simp] theorem refuse_audio (m : Nat) (r : Refuse) (s : State) : (refuse m r s).audio = s.audio :=
  (congrArg State.audio (refuse_only m r s)).trans rfl
@[simp] theorem refuse_tally (m : Nat) (r : Refuse) (s : State) : (refuse m r s).tally = s.tally :=
  (congrArg State.tally (refuse_only m r s)).trans rfl
@[simp] theorem refuse_crier (m : Nat) (r : Refuse) (s : State) : (refuse m r s).crier = s.crier :=
  (congrArg State.crier (refuse_only m r s)).trans rfl
@[simp] theorem refuse_twin (m : Nat) (r : Refuse) (s : State) : (refuse m r s).twin = s.twin :=
  (congrArg State.twin (refuse_only m r s)).trans rfl
@[simp] theorem refuse_warden (m : Nat) (r : Refuse) (s : State) : (refuse m r s).warden = s.warden :=
  (congrArg State.warden (refuse_only m r s)).trans rfl
@[simp] theorem refuse_gate (m : Nat) (r : Refuse) (s : State) : (refuse m r s).gate = s.gate :=
  (congrArg State.gate (refuse_only m r s)).trans rfl
@[simp] theorem refuse_greq (m : Nat) (r : Refuse) (s : State) : (refuse m r s).greq = s.greq :=
  (congrArg State.greq (refuse_only m r s)).trans rfl
@[simp] theorem refuse_reeves (m : Nat) (r : Refuse) (s : State) : (refuse m r s).reeves = s.reeves :=
  (congrArg State.reeves (refuse_only m r s)).trans rfl
@[simp] theorem refuse_stew (m : Nat) (r : Refuse) (s : State) : (refuse m r s).stew = s.stew :=
  (congrArg State.stew (refuse_only m r s)).trans rfl
@[simp] theorem refuse_dma (m : Nat) (r : Refuse) (s : State) : (refuse m r s).dma = s.dma :=
  (congrArg State.dma (refuse_only m r s)).trans rfl
@[simp] theorem refuse_ctrlRam (m : Nat) (r : Refuse) (s : State) : (refuse m r s).ctrlRam = s.ctrlRam :=
  (congrArg State.ctrlRam (refuse_only m r s)).trans rfl
@[simp] theorem refuse_per (m : Nat) (r : Refuse) (s : State) : (refuse m r s).per = s.per :=
  (congrArg State.per (refuse_only m r s)).trans rfl
@[simp] theorem refuse_flash (m : Nat) (r : Refuse) (s : State) : (refuse m r s).flash = s.flash :=
  (congrArg State.flash (refuse_only m r s)).trans rfl
@[simp] theorem refuse_faults (m : Nat) (r : Refuse) (s : State) : (refuse m r s).faults = s.faults :=
  (congrArg State.faults (refuse_only m r s)).trans rfl
@[simp] theorem refuse_jex (m : Nat) (r : Refuse) (s : State) : (refuse m r s).jex = s.jex :=
  (congrArg State.jex (refuse_only m r s)).trans rfl
@[simp] theorem refuse_vigil (m : Nat) (r : Refuse) (s : State) : (refuse m r s).vigil = s.vigil :=
  (congrArg State.vigil (refuse_only m r s)).trans rfl
@[simp] theorem refuse_fresh (m : Nat) (r : Refuse) (s : State) : (refuse m r s).fresh = s.fresh :=
  (congrArg State.fresh (refuse_only m r s)).trans rfl
@[simp] theorem refuse_pending (m : Nat) (r : Refuse) (s : State) : (refuse m r s).pending = s.pending :=
  (congrArg State.pending (refuse_only m r s)).trans rfl
@[simp] theorem postEvent_aon (c : Nat) (p : List Word) (s : State) : (postEvent c p s).aon = s.aon :=
  (congrArg State.aon (postEvent_only c p s)).trans rfl
@[simp] theorem postEvent_querns (c : Nat) (p : List Word) (s : State) : (postEvent c p s).querns = s.querns :=
  (congrArg State.querns (postEvent_only c p s)).trans rfl
@[simp] theorem postEvent_domains (c : Nat) (p : List Word) (s : State) : (postEvent c p s).domains = s.domains :=
  (congrArg State.domains (postEvent_only c p s)).trans rfl
@[simp] theorem postEvent_lines (c : Nat) (p : List Word) (s : State) : (postEvent c p s).lines = s.lines :=
  (congrArg State.lines (postEvent_only c p s)).trans rfl
@[simp] theorem postEvent_banks (c : Nat) (p : List Word) (s : State) : (postEvent c p s).banks = s.banks :=
  (congrArg State.banks (postEvent_only c p s)).trans rfl
@[simp] theorem postEvent_granary (c : Nat) (p : List Word) (s : State) : (postEvent c p s).granary = s.granary :=
  (congrArg State.granary (postEvent_only c p s)).trans rfl
@[simp] theorem postEvent_sexton (c : Nat) (p : List Word) (s : State) : (postEvent c p s).sexton = s.sexton :=
  (congrArg State.sexton (postEvent_only c p s)).trans rfl
@[simp] theorem postEvent_audio (c : Nat) (p : List Word) (s : State) : (postEvent c p s).audio = s.audio :=
  (congrArg State.audio (postEvent_only c p s)).trans rfl
@[simp] theorem postEvent_tally (c : Nat) (p : List Word) (s : State) : (postEvent c p s).tally = s.tally :=
  (congrArg State.tally (postEvent_only c p s)).trans rfl
@[simp] theorem postEvent_crier (c : Nat) (p : List Word) (s : State) : (postEvent c p s).crier = s.crier :=
  (congrArg State.crier (postEvent_only c p s)).trans rfl
@[simp] theorem postEvent_twin (c : Nat) (p : List Word) (s : State) : (postEvent c p s).twin = s.twin :=
  (congrArg State.twin (postEvent_only c p s)).trans rfl
@[simp] theorem postEvent_warden (c : Nat) (p : List Word) (s : State) : (postEvent c p s).warden = s.warden :=
  (congrArg State.warden (postEvent_only c p s)).trans rfl
@[simp] theorem postEvent_gate (c : Nat) (p : List Word) (s : State) : (postEvent c p s).gate = s.gate :=
  (congrArg State.gate (postEvent_only c p s)).trans rfl
@[simp] theorem postEvent_greq (c : Nat) (p : List Word) (s : State) : (postEvent c p s).greq = s.greq :=
  (congrArg State.greq (postEvent_only c p s)).trans rfl
@[simp] theorem postEvent_reeves (c : Nat) (p : List Word) (s : State) : (postEvent c p s).reeves = s.reeves :=
  (congrArg State.reeves (postEvent_only c p s)).trans rfl
@[simp] theorem postEvent_stew (c : Nat) (p : List Word) (s : State) : (postEvent c p s).stew = s.stew :=
  (congrArg State.stew (postEvent_only c p s)).trans rfl
@[simp] theorem postEvent_dma (c : Nat) (p : List Word) (s : State) : (postEvent c p s).dma = s.dma :=
  (congrArg State.dma (postEvent_only c p s)).trans rfl
@[simp] theorem postEvent_ctrlRam (c : Nat) (p : List Word) (s : State) : (postEvent c p s).ctrlRam = s.ctrlRam :=
  (congrArg State.ctrlRam (postEvent_only c p s)).trans rfl
@[simp] theorem postEvent_per (c : Nat) (p : List Word) (s : State) : (postEvent c p s).per = s.per :=
  (congrArg State.per (postEvent_only c p s)).trans rfl
@[simp] theorem postEvent_flash (c : Nat) (p : List Word) (s : State) : (postEvent c p s).flash = s.flash :=
  (congrArg State.flash (postEvent_only c p s)).trans rfl
@[simp] theorem postEvent_faults (c : Nat) (p : List Word) (s : State) : (postEvent c p s).faults = s.faults :=
  (congrArg State.faults (postEvent_only c p s)).trans rfl
@[simp] theorem postEvent_jex (c : Nat) (p : List Word) (s : State) : (postEvent c p s).jex = s.jex :=
  (congrArg State.jex (postEvent_only c p s)).trans rfl
@[simp] theorem postEvent_vigil (c : Nat) (p : List Word) (s : State) : (postEvent c p s).vigil = s.vigil :=
  (congrArg State.vigil (postEvent_only c p s)).trans rfl
@[simp] theorem postEvent_fresh (c : Nat) (p : List Word) (s : State) : (postEvent c p s).fresh = s.fresh :=
  (congrArg State.fresh (postEvent_only c p s)).trans rfl
@[simp] theorem postEvent_pending (c : Nat) (p : List Word) (s : State) : (postEvent c p s).pending = s.pending :=
  (congrArg State.pending (postEvent_only c p s)).trans rfl

end Sys2Proof.Machine
end

