-- ==== Sys2Proof/Laws/Same.lean ====
section
/-! SUPPORT. How far a change reaches: the calculus of `sameExcept`. -/

namespace Sys2Proof.Machine

open Sys2Proof.Safety

@[simp] theorem same_refl (ps : List Part) (s : State) : sameExcept ps s s := by
  intro p _
  cases p <;> rfl

theorem Part.same_trans {p : Part} {s t u : State} (h : p.same s t) (k : p.same t u) : p.same s u := by
  cases p <;> exact Eq.trans k h

theorem Part.same_symm {p : Part} {s t : State} (h : p.same s t) : p.same t s := by
  cases p <;> exact Eq.symm h

theorem same_trans {ps : List Part} {s t u : State} (h : sameExcept ps s t) (k : sameExcept ps t u) : sameExcept ps s u :=
  fun p hp => Part.same_trans (h p hp) (k p hp)

theorem same_weaken {ps qs : List Part} {s t : State} (h : sameExcept ps s t) (hq : ∀ p ∈ ps, p ∈ qs) :
    sameExcept qs s t :=
  fun p hp => h p (fun hm => hp (hq p hm))

/-- After a change within the parts, the rest is the same as before exactly where it was the same. -/
theorem same_after {ps : List Part} {s t u : State} (k : sameExcept ps t u) : sameExcept ps s u ↔ sameExcept ps s t :=
  ⟨fun h p hp => Part.same_trans (h p hp) (Part.same_symm (k p hp)), fun h => same_trans h k⟩

theorem same_ite (ps : List Part) (s t u : State) (c : Prop) [Decidable c] (ht : sameExcept ps s t) (hu : sameExcept ps s u) :
    sameExcept ps s (if c then t else u) := by
  split
  · exact ht
  · exact hu

/-- A loop of changes within the parts. -/
theorem same_forEach (ps : List Part) (l : List Nat) (g : State → Nat → State) (s : State)
    (h : ∀ t x, sameExcept ps t (g t x)) : sameExcept ps s (forEach l g s) := by
  induction l generalizing s with
  | nil => exact same_refl ps s
  | cons a l ih => exact same_trans (h s a) (ih (g s a))

/-- A fold of changes within the parts. -/
theorem same_foldl {β : Type} (ps : List Part) (l : List β) (g : State → β → State) (s : State)
    (h : ∀ t x, sameExcept ps t (g t x)) : sameExcept ps s (l.foldl g s) := by
  induction l generalizing s with
  | nil => exact same_refl ps s
  | cons a l ih => exact same_trans (h s a) (ih (g s a))

theorem same_setAon_self (s : State) (v : Aon) : sameExcept [.aon] s (s.setAon v) := by
  intro p hp
  cases p <;> first | rfl | simp at hp
@[simp] theorem same_setAon (ps : List Part) (s t : State) (v : Aon) (h : Part.aon ∈ ps) :
    sameExcept ps s (t.setAon v) ↔ sameExcept ps s t :=
  same_after (same_weaken (same_setAon_self t v) (by simpa using h))
theorem same_setQuerns_self (s : State) (v : Tab Quern) : sameExcept [.querns] s (s.setQuerns v) := by
  intro p hp
  cases p <;> first | rfl | simp at hp
@[simp] theorem same_setQuerns (ps : List Part) (s t : State) (v : Tab Quern) (h : Part.querns ∈ ps) :
    sameExcept ps s (t.setQuerns v) ↔ sameExcept ps s t :=
  same_after (same_weaken (same_setQuerns_self t v) (by simpa using h))
theorem same_setDomains_self (s : State) (v : Tab Domain) : sameExcept [.domains] s (s.setDomains v) := by
  intro p hp
  cases p <;> first | rfl | simp at hp
@[simp] theorem same_setDomains (ps : List Part) (s t : State) (v : Tab Domain) (h : Part.domains ∈ ps) :
    sameExcept ps s (t.setDomains v) ↔ sameExcept ps s t :=
  same_after (same_weaken (same_setDomains_self t v) (by simpa using h))
theorem same_setLines_self (s : State) (v : Tab Line) : sameExcept [.lines] s (s.setLines v) := by
  intro p hp
  cases p <;> first | rfl | simp at hp
@[simp] theorem same_setLines (ps : List Part) (s t : State) (v : Tab Line) (h : Part.lines ∈ ps) :
    sameExcept ps s (t.setLines v) ↔ sameExcept ps s t :=
  same_after (same_weaken (same_setLines_self t v) (by simpa using h))
theorem same_setBanks_self (s : State) (v : Tab Bank) : sameExcept [.banks] s (s.setBanks v) := by
  intro p hp
  cases p <;> first | rfl | simp at hp
@[simp] theorem same_setBanks (ps : List Part) (s t : State) (v : Tab Bank) (h : Part.banks ∈ ps) :
    sameExcept ps s (t.setBanks v) ↔ sameExcept ps s t :=
  same_after (same_weaken (same_setBanks_self t v) (by simpa using h))
theorem same_setGranary_self (s : State) (v : Tab Sample) : sameExcept [.granary] s (s.setGranary v) := by
  intro p hp
  cases p <;> first | rfl | simp at hp
@[simp] theorem same_setGranary (ps : List Part) (s t : State) (v : Tab Sample) (h : Part.granary ∈ ps) :
    sameExcept ps s (t.setGranary v) ↔ sameExcept ps s t :=
  same_after (same_weaken (same_setGranary_self t v) (by simpa using h))
theorem same_setSexton_self (s : State) (v : Sexton) : sameExcept [.sexton] s (s.setSexton v) := by
  intro p hp
  cases p <;> first | rfl | simp at hp
@[simp] theorem same_setSexton (ps : List Part) (s t : State) (v : Sexton) (h : Part.sexton ∈ ps) :
    sameExcept ps s (t.setSexton v) ↔ sameExcept ps s t :=
  same_after (same_weaken (same_setSexton_self t v) (by simpa using h))
theorem same_setAudio_self (s : State) (v : Audio) : sameExcept [.audio] s (s.setAudio v) := by
  intro p hp
  cases p <;> first | rfl | simp at hp
@[simp] theorem same_setAudio (ps : List Part) (s t : State) (v : Audio) (h : Part.audio ∈ ps) :
    sameExcept ps s (t.setAudio v) ↔ sameExcept ps s t :=
  same_after (same_weaken (same_setAudio_self t v) (by simpa using h))
theorem same_setTally_self (s : State) (v : Tally) : sameExcept [.tally] s (s.setTally v) := by
  intro p hp
  cases p <;> first | rfl | simp at hp
@[simp] theorem same_setTally (ps : List Part) (s t : State) (v : Tally) (h : Part.tally ∈ ps) :
    sameExcept ps s (t.setTally v) ↔ sameExcept ps s t :=
  same_after (same_weaken (same_setTally_self t v) (by simpa using h))
theorem same_setCrier_self (s : State) (v : Crier) : sameExcept [.crier] s (s.setCrier v) := by
  intro p hp
  cases p <;> first | rfl | simp at hp
@[simp] theorem same_setCrier (ps : List Part) (s t : State) (v : Crier) (h : Part.crier ∈ ps) :
    sameExcept ps s (t.setCrier v) ↔ sameExcept ps s t :=
  same_after (same_weaken (same_setCrier_self t v) (by simpa using h))
theorem same_setTwin_self (s : State) (v : Twin) : sameExcept [.twin] s (s.setTwin v) := by
  intro p hp
  cases p <;> first | rfl | simp at hp
@[simp] theorem same_setTwin (ps : List Part) (s t : State) (v : Twin) (h : Part.twin ∈ ps) :
    sameExcept ps s (t.setTwin v) ↔ sameExcept ps s t :=
  same_after (same_weaken (same_setTwin_self t v) (by simpa using h))
theorem same_setWarden_self (s : State) (v : Warden) : sameExcept [.warden] s (s.setWarden v) := by
  intro p hp
  cases p <;> first | rfl | simp at hp
@[simp] theorem same_setWarden (ps : List Part) (s t : State) (v : Warden) (h : Part.warden ∈ ps) :
    sameExcept ps s (t.setWarden v) ↔ sameExcept ps s t :=
  same_after (same_weaken (same_setWarden_self t v) (by simpa using h))
theorem same_setGate_self (s : State) (v : Gate) : sameExcept [.gate] s (s.setGate v) := by
  intro p hp
  cases p <;> first | rfl | simp at hp
@[simp] theorem same_setGate (ps : List Part) (s t : State) (v : Gate) (h : Part.gate ∈ ps) :
    sameExcept ps s (t.setGate v) ↔ sameExcept ps s t :=
  same_after (same_weaken (same_setGate_self t v) (by simpa using h))
theorem same_setGreq_self (s : State) (v : Greq) : sameExcept [.greq] s (s.setGreq v) := by
  intro p hp
  cases p <;> first | rfl | simp at hp
@[simp] theorem same_setGreq (ps : List Part) (s t : State) (v : Greq) (h : Part.greq ∈ ps) :
    sameExcept ps s (t.setGreq v) ↔ sameExcept ps s t :=
  same_after (same_weaken (same_setGreq_self t v) (by simpa using h))
theorem same_setHost_self (s : State) (v : HostPort) : sameExcept [.host] s (s.setHost v) := by
  intro p hp
  cases p <;> first | rfl | simp at hp
@[simp] theorem same_setHost (ps : List Part) (s t : State) (v : HostPort) (h : Part.host ∈ ps) :
    sameExcept ps s (t.setHost v) ↔ sameExcept ps s t :=
  same_after (same_weaken (same_setHost_self t v) (by simpa using h))
theorem same_setReeves_self (s : State) (v : Tab Reeve) : sameExcept [.reeves] s (s.setReeves v) := by
  intro p hp
  cases p <;> first | rfl | simp at hp
@[simp] theorem same_setReeves (ps : List Part) (s t : State) (v : Tab Reeve) (h : Part.reeves ∈ ps) :
    sameExcept ps s (t.setReeves v) ↔ sameExcept ps s t :=
  same_after (same_weaken (same_setReeves_self t v) (by simpa using h))
theorem same_setStew_self (s : State) (v : Steward) : sameExcept [.stew] s (s.setStew v) := by
  intro p hp
  cases p <;> first | rfl | simp at hp
@[simp] theorem same_setStew (ps : List Part) (s t : State) (v : Steward) (h : Part.stew ∈ ps) :
    sameExcept ps s (t.setStew v) ↔ sameExcept ps s t :=
  same_after (same_weaken (same_setStew_self t v) (by simpa using h))
theorem same_setDma_self (s : State) (v : Dma) : sameExcept [.dma] s (s.setDma v) := by
  intro p hp
  cases p <;> first | rfl | simp at hp
@[simp] theorem same_setDma (ps : List Part) (s t : State) (v : Dma) (h : Part.dma ∈ ps) :
    sameExcept ps s (t.setDma v) ↔ sameExcept ps s t :=
  same_after (same_weaken (same_setDma_self t v) (by simpa using h))
theorem same_setCtrlRam_self (s : State) (v : Tab (BitVec 32)) : sameExcept [.ctrlRam] s (s.setCtrlRam v) := by
  intro p hp
  cases p <;> first | rfl | simp at hp
@[simp] theorem same_setCtrlRam (ps : List Part) (s t : State) (v : Tab (BitVec 32)) (h : Part.ctrlRam ∈ ps) :
    sameExcept ps s (t.setCtrlRam v) ↔ sameExcept ps s t :=
  same_after (same_weaken (same_setCtrlRam_self t v) (by simpa using h))
theorem same_setPer_self (s : State) (v : Per) : sameExcept [.per] s (s.setPer v) := by
  intro p hp
  cases p <;> first | rfl | simp at hp
@[simp] theorem same_setPer (ps : List Part) (s t : State) (v : Per) (h : Part.per ∈ ps) :
    sameExcept ps s (t.setPer v) ↔ sameExcept ps s t :=
  same_after (same_weaken (same_setPer_self t v) (by simpa using h))
theorem same_setFlash_self (s : State) (v : Flash) : sameExcept [.flash] s (s.setFlash v) := by
  intro p hp
  cases p <;> first | rfl | simp at hp
@[simp] theorem same_setFlash (ps : List Part) (s t : State) (v : Flash) (h : Part.flash ∈ ps) :
    sameExcept ps s (t.setFlash v) ↔ sameExcept ps s t :=
  same_after (same_weaken (same_setFlash_self t v) (by simpa using h))
theorem same_setFaults_self (s : State) (v : Faults) : sameExcept [.faults] s (s.setFaults v) := by
  intro p hp
  cases p <;> first | rfl | simp at hp
@[simp] theorem same_setFaults (ps : List Part) (s t : State) (v : Faults) (h : Part.faults ∈ ps) :
    sameExcept ps s (t.setFaults v) ↔ sameExcept ps s t :=
  same_after (same_weaken (same_setFaults_self t v) (by simpa using h))
theorem same_setJex_self (s : State) (v : Jex) : sameExcept [.jex] s (s.setJex v) := by
  intro p hp
  cases p <;> first | rfl | simp at hp
@[simp] theorem same_setJex (ps : List Part) (s t : State) (v : Jex) (h : Part.jex ∈ ps) :
    sameExcept ps s (t.setJex v) ↔ sameExcept ps s t :=
  same_after (same_weaken (same_setJex_self t v) (by simpa using h))
theorem same_setVigil_self (s : State) (v : Vigil) : sameExcept [.vigil] s (s.setVigil v) := by
  intro p hp
  cases p <;> first | rfl | simp at hp
@[simp] theorem same_setVigil (ps : List Part) (s t : State) (v : Vigil) (h : Part.vigil ∈ ps) :
    sameExcept ps s (t.setVigil v) ↔ sameExcept ps s t :=
  same_after (same_weaken (same_setVigil_self t v) (by simpa using h))
theorem same_setFresh_self (s : State) (v : Nat) : sameExcept [.fresh] s (s.setFresh v) := by
  intro p hp
  cases p <;> first | rfl | simp at hp
@[simp] theorem same_setFresh (ps : List Part) (s t : State) (v : Nat) (h : Part.fresh ∈ ps) :
    sameExcept ps s (t.setFresh v) ↔ sameExcept ps s t :=
  same_after (same_weaken (same_setFresh_self t v) (by simpa using h))
theorem same_setPending_self (s : State) (v : List Instr) : sameExcept [.pending] s (s.setPending v) := by
  intro p hp
  cases p <;> first | rfl | simp at hp
@[simp] theorem same_setPending (ps : List Part) (s t : State) (v : List Instr) (h : Part.pending ∈ ps) :
    sameExcept ps s (t.setPending v) ↔ sameExcept ps s t :=
  same_after (same_weaken (same_setPending_self t v) (by simpa using h))
@[simp] theorem same_skipAll (ps : List Part) (s t : State) (h : Part.host ∈ ps) :
    sameExcept ps s (skipAll t) ↔ sameExcept ps s t := by
  rw [skipAll_only t]
  exact same_setHost ps s t _ h
@[simp] theorem same_acceptHead (ps : List Part) (s t : State) (m : Nat) (h : Part.host ∈ ps) :
    sameExcept ps s (acceptHead m t) ↔ sameExcept ps s t := by
  rw [acceptHead_only t m]
  exact same_setHost ps s t _ h
@[simp] theorem same_replyWith (ps : List Part) (s t : State) (m status : Nat) (ws : List Word) (h : Part.host ∈ ps) :
    sameExcept ps s (replyWith m status ws t) ↔ sameExcept ps s t := by
  rw [replyWith_only t m status ws]
  exact same_setHost ps s t _ h
@[simp] theorem same_reply (ps : List Part) (s t : State) (m : Nat) (ws : List Word) (h : Part.host ∈ ps) :
    sameExcept ps s (reply m ws t) ↔ sameExcept ps s t := by
  rw [reply_only m ws t]
  exact same_setHost ps s t _ h
@[simp] theorem same_refuse (ps : List Part) (s t : State) (m : Nat) (r : Refuse) (h : Part.host ∈ ps) :
    sameExcept ps s (refuse m r t) ↔ sameExcept ps s t := by
  rw [refuse_only m r t]
  exact same_setHost ps s t _ h
@[simp] theorem same_postEvent (ps : List Part) (s t : State) (c : Nat) (p : List Word) (h : Part.host ∈ ps) :
    sameExcept ps s (postEvent c p t) ↔ sameExcept ps s t := by
  rw [postEvent_only c p t]
  exact same_setHost ps s t _ h

end Sys2Proof.Machine
end

