-- ==== Sys2Proof/Laws/Answer.lean ====
section
/-! SUPPORT. Mailboxes through changes of other parts, and the two ways a taken command ends its step: answered, or
still pending. -/

namespace Sys2Proof.Machine

open Sys2Proof.Safety

@[simp] theorem mbox_setAon (s : State) (v : Aon) (k : Nat) : mbox (s.setAon v) k = mbox s k := rfl
@[simp] theorem arg_setAon (s : State) (v : Aon) (k i : Nat) : arg (s.setAon v) k i = arg s k i := rfl
@[simp] theorem cmdOp_setAon (s : State) (v : Aon) (k : Nat) : cmdOp (s.setAon v) k = cmdOp s k := rfl
@[simp] theorem args_setAon (s : State) (v : Aon) (k lo n : Nat) : args (s.setAon v) k lo n = args s k lo n := rfl
@[simp] theorem cmdLen_setAon (s : State) (v : Aon) (k : Nat) : cmdLen (s.setAon v) k = cmdLen s k := rfl
@[simp] theorem mbox_setQuerns (s : State) (v : Tab Quern) (k : Nat) : mbox (s.setQuerns v) k = mbox s k := rfl
@[simp] theorem arg_setQuerns (s : State) (v : Tab Quern) (k i : Nat) : arg (s.setQuerns v) k i = arg s k i := rfl
@[simp] theorem cmdOp_setQuerns (s : State) (v : Tab Quern) (k : Nat) : cmdOp (s.setQuerns v) k = cmdOp s k := rfl
@[simp] theorem args_setQuerns (s : State) (v : Tab Quern) (k lo n : Nat) : args (s.setQuerns v) k lo n = args s k lo n := rfl
@[simp] theorem cmdLen_setQuerns (s : State) (v : Tab Quern) (k : Nat) : cmdLen (s.setQuerns v) k = cmdLen s k := rfl
@[simp] theorem mbox_setDomains (s : State) (v : Tab Domain) (k : Nat) : mbox (s.setDomains v) k = mbox s k := rfl
@[simp] theorem arg_setDomains (s : State) (v : Tab Domain) (k i : Nat) : arg (s.setDomains v) k i = arg s k i := rfl
@[simp] theorem cmdOp_setDomains (s : State) (v : Tab Domain) (k : Nat) : cmdOp (s.setDomains v) k = cmdOp s k := rfl
@[simp] theorem args_setDomains (s : State) (v : Tab Domain) (k lo n : Nat) : args (s.setDomains v) k lo n = args s k lo n := rfl
@[simp] theorem cmdLen_setDomains (s : State) (v : Tab Domain) (k : Nat) : cmdLen (s.setDomains v) k = cmdLen s k := rfl
@[simp] theorem mbox_setLines (s : State) (v : Tab Line) (k : Nat) : mbox (s.setLines v) k = mbox s k := rfl
@[simp] theorem arg_setLines (s : State) (v : Tab Line) (k i : Nat) : arg (s.setLines v) k i = arg s k i := rfl
@[simp] theorem cmdOp_setLines (s : State) (v : Tab Line) (k : Nat) : cmdOp (s.setLines v) k = cmdOp s k := rfl
@[simp] theorem args_setLines (s : State) (v : Tab Line) (k lo n : Nat) : args (s.setLines v) k lo n = args s k lo n := rfl
@[simp] theorem cmdLen_setLines (s : State) (v : Tab Line) (k : Nat) : cmdLen (s.setLines v) k = cmdLen s k := rfl
@[simp] theorem mbox_setBanks (s : State) (v : Tab Bank) (k : Nat) : mbox (s.setBanks v) k = mbox s k := rfl
@[simp] theorem arg_setBanks (s : State) (v : Tab Bank) (k i : Nat) : arg (s.setBanks v) k i = arg s k i := rfl
@[simp] theorem cmdOp_setBanks (s : State) (v : Tab Bank) (k : Nat) : cmdOp (s.setBanks v) k = cmdOp s k := rfl
@[simp] theorem args_setBanks (s : State) (v : Tab Bank) (k lo n : Nat) : args (s.setBanks v) k lo n = args s k lo n := rfl
@[simp] theorem cmdLen_setBanks (s : State) (v : Tab Bank) (k : Nat) : cmdLen (s.setBanks v) k = cmdLen s k := rfl
@[simp] theorem mbox_setGranary (s : State) (v : Tab Sample) (k : Nat) : mbox (s.setGranary v) k = mbox s k := rfl
@[simp] theorem arg_setGranary (s : State) (v : Tab Sample) (k i : Nat) : arg (s.setGranary v) k i = arg s k i := rfl
@[simp] theorem cmdOp_setGranary (s : State) (v : Tab Sample) (k : Nat) : cmdOp (s.setGranary v) k = cmdOp s k := rfl
@[simp] theorem args_setGranary (s : State) (v : Tab Sample) (k lo n : Nat) : args (s.setGranary v) k lo n = args s k lo n := rfl
@[simp] theorem cmdLen_setGranary (s : State) (v : Tab Sample) (k : Nat) : cmdLen (s.setGranary v) k = cmdLen s k := rfl
@[simp] theorem mbox_setSexton (s : State) (v : Sexton) (k : Nat) : mbox (s.setSexton v) k = mbox s k := rfl
@[simp] theorem arg_setSexton (s : State) (v : Sexton) (k i : Nat) : arg (s.setSexton v) k i = arg s k i := rfl
@[simp] theorem cmdOp_setSexton (s : State) (v : Sexton) (k : Nat) : cmdOp (s.setSexton v) k = cmdOp s k := rfl
@[simp] theorem args_setSexton (s : State) (v : Sexton) (k lo n : Nat) : args (s.setSexton v) k lo n = args s k lo n := rfl
@[simp] theorem cmdLen_setSexton (s : State) (v : Sexton) (k : Nat) : cmdLen (s.setSexton v) k = cmdLen s k := rfl
@[simp] theorem mbox_setAudio (s : State) (v : Audio) (k : Nat) : mbox (s.setAudio v) k = mbox s k := rfl
@[simp] theorem arg_setAudio (s : State) (v : Audio) (k i : Nat) : arg (s.setAudio v) k i = arg s k i := rfl
@[simp] theorem cmdOp_setAudio (s : State) (v : Audio) (k : Nat) : cmdOp (s.setAudio v) k = cmdOp s k := rfl
@[simp] theorem args_setAudio (s : State) (v : Audio) (k lo n : Nat) : args (s.setAudio v) k lo n = args s k lo n := rfl
@[simp] theorem cmdLen_setAudio (s : State) (v : Audio) (k : Nat) : cmdLen (s.setAudio v) k = cmdLen s k := rfl
@[simp] theorem mbox_setTally (s : State) (v : Tally) (k : Nat) : mbox (s.setTally v) k = mbox s k := rfl
@[simp] theorem arg_setTally (s : State) (v : Tally) (k i : Nat) : arg (s.setTally v) k i = arg s k i := rfl
@[simp] theorem cmdOp_setTally (s : State) (v : Tally) (k : Nat) : cmdOp (s.setTally v) k = cmdOp s k := rfl
@[simp] theorem args_setTally (s : State) (v : Tally) (k lo n : Nat) : args (s.setTally v) k lo n = args s k lo n := rfl
@[simp] theorem cmdLen_setTally (s : State) (v : Tally) (k : Nat) : cmdLen (s.setTally v) k = cmdLen s k := rfl
@[simp] theorem mbox_setCrier (s : State) (v : Crier) (k : Nat) : mbox (s.setCrier v) k = mbox s k := rfl
@[simp] theorem arg_setCrier (s : State) (v : Crier) (k i : Nat) : arg (s.setCrier v) k i = arg s k i := rfl
@[simp] theorem cmdOp_setCrier (s : State) (v : Crier) (k : Nat) : cmdOp (s.setCrier v) k = cmdOp s k := rfl
@[simp] theorem args_setCrier (s : State) (v : Crier) (k lo n : Nat) : args (s.setCrier v) k lo n = args s k lo n := rfl
@[simp] theorem cmdLen_setCrier (s : State) (v : Crier) (k : Nat) : cmdLen (s.setCrier v) k = cmdLen s k := rfl
@[simp] theorem mbox_setTwin (s : State) (v : Twin) (k : Nat) : mbox (s.setTwin v) k = mbox s k := rfl
@[simp] theorem arg_setTwin (s : State) (v : Twin) (k i : Nat) : arg (s.setTwin v) k i = arg s k i := rfl
@[simp] theorem cmdOp_setTwin (s : State) (v : Twin) (k : Nat) : cmdOp (s.setTwin v) k = cmdOp s k := rfl
@[simp] theorem args_setTwin (s : State) (v : Twin) (k lo n : Nat) : args (s.setTwin v) k lo n = args s k lo n := rfl
@[simp] theorem cmdLen_setTwin (s : State) (v : Twin) (k : Nat) : cmdLen (s.setTwin v) k = cmdLen s k := rfl
@[simp] theorem mbox_setWarden (s : State) (v : Warden) (k : Nat) : mbox (s.setWarden v) k = mbox s k := rfl
@[simp] theorem arg_setWarden (s : State) (v : Warden) (k i : Nat) : arg (s.setWarden v) k i = arg s k i := rfl
@[simp] theorem cmdOp_setWarden (s : State) (v : Warden) (k : Nat) : cmdOp (s.setWarden v) k = cmdOp s k := rfl
@[simp] theorem args_setWarden (s : State) (v : Warden) (k lo n : Nat) : args (s.setWarden v) k lo n = args s k lo n := rfl
@[simp] theorem cmdLen_setWarden (s : State) (v : Warden) (k : Nat) : cmdLen (s.setWarden v) k = cmdLen s k := rfl
@[simp] theorem mbox_setGate (s : State) (v : Gate) (k : Nat) : mbox (s.setGate v) k = mbox s k := rfl
@[simp] theorem arg_setGate (s : State) (v : Gate) (k i : Nat) : arg (s.setGate v) k i = arg s k i := rfl
@[simp] theorem cmdOp_setGate (s : State) (v : Gate) (k : Nat) : cmdOp (s.setGate v) k = cmdOp s k := rfl
@[simp] theorem args_setGate (s : State) (v : Gate) (k lo n : Nat) : args (s.setGate v) k lo n = args s k lo n := rfl
@[simp] theorem cmdLen_setGate (s : State) (v : Gate) (k : Nat) : cmdLen (s.setGate v) k = cmdLen s k := rfl
@[simp] theorem mbox_setGreq (s : State) (v : Greq) (k : Nat) : mbox (s.setGreq v) k = mbox s k := rfl
@[simp] theorem arg_setGreq (s : State) (v : Greq) (k i : Nat) : arg (s.setGreq v) k i = arg s k i := rfl
@[simp] theorem cmdOp_setGreq (s : State) (v : Greq) (k : Nat) : cmdOp (s.setGreq v) k = cmdOp s k := rfl
@[simp] theorem args_setGreq (s : State) (v : Greq) (k lo n : Nat) : args (s.setGreq v) k lo n = args s k lo n := rfl
@[simp] theorem cmdLen_setGreq (s : State) (v : Greq) (k : Nat) : cmdLen (s.setGreq v) k = cmdLen s k := rfl
@[simp] theorem mbox_setReeves (s : State) (v : Tab Reeve) (k : Nat) : mbox (s.setReeves v) k = mbox s k := rfl
@[simp] theorem arg_setReeves (s : State) (v : Tab Reeve) (k i : Nat) : arg (s.setReeves v) k i = arg s k i := rfl
@[simp] theorem cmdOp_setReeves (s : State) (v : Tab Reeve) (k : Nat) : cmdOp (s.setReeves v) k = cmdOp s k := rfl
@[simp] theorem args_setReeves (s : State) (v : Tab Reeve) (k lo n : Nat) : args (s.setReeves v) k lo n = args s k lo n := rfl
@[simp] theorem cmdLen_setReeves (s : State) (v : Tab Reeve) (k : Nat) : cmdLen (s.setReeves v) k = cmdLen s k := rfl
@[simp] theorem mbox_setStew (s : State) (v : Steward) (k : Nat) : mbox (s.setStew v) k = mbox s k := rfl
@[simp] theorem arg_setStew (s : State) (v : Steward) (k i : Nat) : arg (s.setStew v) k i = arg s k i := rfl
@[simp] theorem cmdOp_setStew (s : State) (v : Steward) (k : Nat) : cmdOp (s.setStew v) k = cmdOp s k := rfl
@[simp] theorem args_setStew (s : State) (v : Steward) (k lo n : Nat) : args (s.setStew v) k lo n = args s k lo n := rfl
@[simp] theorem cmdLen_setStew (s : State) (v : Steward) (k : Nat) : cmdLen (s.setStew v) k = cmdLen s k := rfl
@[simp] theorem mbox_setDma (s : State) (v : Dma) (k : Nat) : mbox (s.setDma v) k = mbox s k := rfl
@[simp] theorem arg_setDma (s : State) (v : Dma) (k i : Nat) : arg (s.setDma v) k i = arg s k i := rfl
@[simp] theorem cmdOp_setDma (s : State) (v : Dma) (k : Nat) : cmdOp (s.setDma v) k = cmdOp s k := rfl
@[simp] theorem args_setDma (s : State) (v : Dma) (k lo n : Nat) : args (s.setDma v) k lo n = args s k lo n := rfl
@[simp] theorem cmdLen_setDma (s : State) (v : Dma) (k : Nat) : cmdLen (s.setDma v) k = cmdLen s k := rfl
@[simp] theorem mbox_setCtrlRam (s : State) (v : Tab (BitVec 32)) (k : Nat) : mbox (s.setCtrlRam v) k = mbox s k := rfl
@[simp] theorem arg_setCtrlRam (s : State) (v : Tab (BitVec 32)) (k i : Nat) : arg (s.setCtrlRam v) k i = arg s k i := rfl
@[simp] theorem cmdOp_setCtrlRam (s : State) (v : Tab (BitVec 32)) (k : Nat) : cmdOp (s.setCtrlRam v) k = cmdOp s k := rfl
@[simp] theorem args_setCtrlRam (s : State) (v : Tab (BitVec 32)) (k lo n : Nat) : args (s.setCtrlRam v) k lo n = args s k lo n := rfl
@[simp] theorem cmdLen_setCtrlRam (s : State) (v : Tab (BitVec 32)) (k : Nat) : cmdLen (s.setCtrlRam v) k = cmdLen s k := rfl
@[simp] theorem mbox_setPer (s : State) (v : Per) (k : Nat) : mbox (s.setPer v) k = mbox s k := rfl
@[simp] theorem arg_setPer (s : State) (v : Per) (k i : Nat) : arg (s.setPer v) k i = arg s k i := rfl
@[simp] theorem cmdOp_setPer (s : State) (v : Per) (k : Nat) : cmdOp (s.setPer v) k = cmdOp s k := rfl
@[simp] theorem args_setPer (s : State) (v : Per) (k lo n : Nat) : args (s.setPer v) k lo n = args s k lo n := rfl
@[simp] theorem cmdLen_setPer (s : State) (v : Per) (k : Nat) : cmdLen (s.setPer v) k = cmdLen s k := rfl
@[simp] theorem mbox_setFlash (s : State) (v : Flash) (k : Nat) : mbox (s.setFlash v) k = mbox s k := rfl
@[simp] theorem arg_setFlash (s : State) (v : Flash) (k i : Nat) : arg (s.setFlash v) k i = arg s k i := rfl
@[simp] theorem cmdOp_setFlash (s : State) (v : Flash) (k : Nat) : cmdOp (s.setFlash v) k = cmdOp s k := rfl
@[simp] theorem args_setFlash (s : State) (v : Flash) (k lo n : Nat) : args (s.setFlash v) k lo n = args s k lo n := rfl
@[simp] theorem cmdLen_setFlash (s : State) (v : Flash) (k : Nat) : cmdLen (s.setFlash v) k = cmdLen s k := rfl
@[simp] theorem mbox_setFaults (s : State) (v : Faults) (k : Nat) : mbox (s.setFaults v) k = mbox s k := rfl
@[simp] theorem arg_setFaults (s : State) (v : Faults) (k i : Nat) : arg (s.setFaults v) k i = arg s k i := rfl
@[simp] theorem cmdOp_setFaults (s : State) (v : Faults) (k : Nat) : cmdOp (s.setFaults v) k = cmdOp s k := rfl
@[simp] theorem args_setFaults (s : State) (v : Faults) (k lo n : Nat) : args (s.setFaults v) k lo n = args s k lo n := rfl
@[simp] theorem cmdLen_setFaults (s : State) (v : Faults) (k : Nat) : cmdLen (s.setFaults v) k = cmdLen s k := rfl
@[simp] theorem mbox_setJex (s : State) (v : Jex) (k : Nat) : mbox (s.setJex v) k = mbox s k := rfl
@[simp] theorem arg_setJex (s : State) (v : Jex) (k i : Nat) : arg (s.setJex v) k i = arg s k i := rfl
@[simp] theorem cmdOp_setJex (s : State) (v : Jex) (k : Nat) : cmdOp (s.setJex v) k = cmdOp s k := rfl
@[simp] theorem args_setJex (s : State) (v : Jex) (k lo n : Nat) : args (s.setJex v) k lo n = args s k lo n := rfl
@[simp] theorem cmdLen_setJex (s : State) (v : Jex) (k : Nat) : cmdLen (s.setJex v) k = cmdLen s k := rfl
@[simp] theorem mbox_setVigil (s : State) (v : Vigil) (k : Nat) : mbox (s.setVigil v) k = mbox s k := rfl
@[simp] theorem arg_setVigil (s : State) (v : Vigil) (k i : Nat) : arg (s.setVigil v) k i = arg s k i := rfl
@[simp] theorem cmdOp_setVigil (s : State) (v : Vigil) (k : Nat) : cmdOp (s.setVigil v) k = cmdOp s k := rfl
@[simp] theorem args_setVigil (s : State) (v : Vigil) (k lo n : Nat) : args (s.setVigil v) k lo n = args s k lo n := rfl
@[simp] theorem cmdLen_setVigil (s : State) (v : Vigil) (k : Nat) : cmdLen (s.setVigil v) k = cmdLen s k := rfl
@[simp] theorem mbox_setFresh (s : State) (v : Nat) (k : Nat) : mbox (s.setFresh v) k = mbox s k := rfl
@[simp] theorem arg_setFresh (s : State) (v : Nat) (k i : Nat) : arg (s.setFresh v) k i = arg s k i := rfl
@[simp] theorem cmdOp_setFresh (s : State) (v : Nat) (k : Nat) : cmdOp (s.setFresh v) k = cmdOp s k := rfl
@[simp] theorem args_setFresh (s : State) (v : Nat) (k lo n : Nat) : args (s.setFresh v) k lo n = args s k lo n := rfl
@[simp] theorem cmdLen_setFresh (s : State) (v : Nat) (k : Nat) : cmdLen (s.setFresh v) k = cmdLen s k := rfl
@[simp] theorem mbox_setPending (s : State) (v : List Instr) (k : Nat) : mbox (s.setPending v) k = mbox s k := rfl
@[simp] theorem arg_setPending (s : State) (v : List Instr) (k i : Nat) : arg (s.setPending v) k i = arg s k i := rfl
@[simp] theorem cmdOp_setPending (s : State) (v : List Instr) (k : Nat) : cmdOp (s.setPending v) k = cmdOp s k := rfl
@[simp] theorem args_setPending (s : State) (v : List Instr) (k lo n : Nat) : args (s.setPending v) k lo n = args s k lo n := rfl
@[simp] theorem cmdLen_setPending (s : State) (v : List Instr) (k : Nat) : cmdLen (s.setPending v) k = cmdLen s k := rfl

/-! ### Events leave the mailboxes alone -/

/-- Two states with one table of mailboxes. -/
theorem mbox_congr {s t : State} (h : t.host.mbs = s.host.mbs) (k : Nat) : mbox t k = mbox s k := by
  simp only [mbox, h]

theorem mbs_appendEvent (c : Nat) (p : List Word) (s : State) : (appendEvent c p s).1.host.mbs = s.host.mbs := by
  unfold appendEvent
  dsimp only
  split
  · rfl
  · split <;> rfl

theorem mbs_postLost (s : State) : (postLost s).host.mbs = s.host.mbs := by
  unfold postLost
  split
  · rfl
  · exact mbs_appendEvent _ _ _

@[simp] theorem mbs_postEvent (c : Nat) (p : List Word) (s : State) : (postEvent c p s).host.mbs = s.host.mbs := by
  have h := (mbs_appendEvent c p (postLost s)).trans (mbs_postLost s)
  unfold postEvent
  dsimp only
  split
  · split <;> exact h
  · rfl

@[simp] theorem mbox_postEvent (c : Nat) (p : List Word) (s : State) (k : Nat) : mbox (postEvent c p s) k = mbox s k :=
  mbox_congr (mbs_postEvent c p s) k

@[simp] theorem arg_postEvent (c : Nat) (p : List Word) (s : State) (k i : Nat) : arg (postEvent c p s) k i = arg s k i := by
  simp only [arg, mbox_postEvent]

@[simp] theorem cmdLen_acceptHead (s : State) (m k : Nat) : cmdLen (acceptHead m s) k = cmdLen s k := by
  simp only [cmdLen, arg_acceptHead]

@[simp] theorem args_acceptHead (s : State) (m k lo n : Nat) : args (acceptHead m s) k lo n = args s k lo n := by
  simp only [args, arg_acceptHead]

/-! ### How a taken command ends -/

/-- A command that is taken completes with what its meaning leaves. -/
theorem completes_serve {c : Instr} {s : State} {m : Fin 8} {op : Nat} {own : State → Option Refuse} {run : State → State}
    {p : State → Prop} (h : taken s m op own = true) (he : exec c s = .next (serve op m own run s))
    (hp : p (skipAll (run (acceptHead m s)))) : completes c s p :=
  ⟨_, he.trans (congrArg Host.Outcome.next (serve_taken s m op own run h)), hp⟩

/-- The mailbox holds its reply, and nothing after it in the step touches that mailbox. -/
theorem answered_of {s u v : State} {m : Fin 8} {op : Nat} {own : State → Option Refuse} {ws : List Word}
    (h : taken s m op own = true) (hrow : cmdRow op ≠ none) (hlen : ws.length < 127)
    (hu : mbox u m = mbox (reply m ws v) m) (hv : arg v m 0 = arg s m 0) : answered s (skipAll u) m ws := by
  have ha : ∀ i, arg u m i = arg (reply m ws v) m i := fun i => by simp only [arg, hu]
  have h1 : cmdOp u m = op := by
    rw [cmdOp, ha, ← cmdOp, reply, cmdOp_replyWith v m 0 ws hlen (by omega), cmdOp, hv, ← cmdOp, taken_op s m op own h]
  have h2 := (skipAll_spec u m (by rw [h1]; exact hrow)).2
  constructor
  · rw [h2, hu, reply]
    simp
  · intro i
    rw [arg, h2, ← arg, ha, reply, arg_replyWith, hv]

/-- The mailbox is still ACCEPTED, its words as they were. -/
theorem pending_of {s u : State} {m : Fin 8} {op : Nat} {own : State → Option Refuse} (h : taken s m op own = true)
    (hrow : cmdRow op ≠ none) (hu : mbox u m = mbox (acceptHead m s) m) : pendingIn s (skipAll u) m := by
  have ha : ∀ i, arg u m i = arg s m i := fun i => by
    rw [arg, hu, ← arg, arg_acceptHead]
  have h1 : cmdOp u m = op := by
    rw [cmdOp, ha, ← cmdOp, taken_op s m op own h]
  have h2 := (skipAll_spec u m (by rw [h1]; exact hrow)).2
  refine ⟨?_, fun i => ?_⟩
  · rw [h2, hu, mbox_acceptHead, if_pos rfl]
  · rw [arg, h2, ← arg, ha]

end Sys2Proof.Machine
end

