-- ==== Sys2Proof/Laws/Guards.lean ====
section
/-! SUPPORT. When a guarded operation acts: the writes and reads of a Reeve (R371), the expiry of a watchdog (R265) and of the
AON timer (R331). -/

namespace Sys2Proof.Machine

/-- Outside the regions a user write is the task's fault. -/
theorem byReeve_out {r a : Nat} {f : State → State} {s : State} (hr : reeveRuns s r = true) (hu : (reeve s r).user = true)
    (hg : ∀ g ∈ (reeve s r).regions, g.permits a true = false) : byReeve r a f s = taskFault r a s := by
  have : (reeve s r).regions.all (fun g => !g.permits a true) = true := by simpa [List.all_eq_true] using hg
  simp [byReeve, hr, hu, this]
/-- Elsewhere it is the write. -/
theorem byReeve_in {r a : Nat} {f : State → State} {s : State}
    (h : ¬ (reeveRuns s r = true ∧ (reeve s r).user = true ∧ ∀ g ∈ (reeve s r).regions, g.permits a true = false)) :
    byReeve r a f s = f s := by
  unfold byReeve
  rw [if_neg]
  rintro ⟨hr, hu, hg⟩
  exact h ⟨hr, hu, by simpa [List.all_eq_true] using hg⟩
/-- A write in supervisor state is not judged. -/
theorem byReeve_super {r a : Nat} {f : State → State} {s : State} (hu : (reeve s r).user = false) : byReeve r a f s = f s :=
  byReeve_in (by simp [hu])

/-- Outside the regions a user read is 0 and the task's fault. -/
theorem reeveRead_out {r a : Nat} {s : State} (hg : ∀ g ∈ (reeve s r).regions, g.permits a false = false) :
    reeveRead r true a s = (0, taskFault r a s) := by
  have : (reeve s r).regions.all (fun g => !g.permits a false) = true := by simpa [List.all_eq_true] using hg
  simp [reeveRead, this]

/-- A count of 1 s of a Reeve that is watched has come to its end. -/
theorem wdogDue_iff (s : State) (r : Nat) : wdogDue s r = true ↔ watched s r = true ∧ 1000 ≤ (reeve s r).wdog := by
  simp [wdogDue]
/-- Before that nothing happens. -/
theorem wdogEnds_early {s : State} {r : Nat} (h : wdogDue s r = false) : wdogEnds r s = s := by simp [wdogEnds, h]
/-- Then the watchdog expires. -/
theorem wdogEnds_due {s : State} {r : Nat} (h : wdogDue s r = true) : wdogEnds r s = expireWdog r s := by simp [wdogEnds, h]

/-- Before its end the AON timer does nothing. -/
theorem timerDue_early {s : State} (h : s.aon.timer ≠ some 0) : timerDue s = s := by simp [timerDue, h]
/-- At its end it begins a wake. -/
theorem timerDue_due {s : State} (h : s.aon.timer = some 0) : timerDue s = beginWake s := by simp [timerDue, h]

end Sys2Proof.Machine
end

