-- ==== Sys2Proof/Laws/Kept1.lean ====
section
/-! SUPPORT. What the functions of Ops, Events, FlashPort, Leave, Operands, Commit, Domains, Ports, Square, Reply, Tally, Nvm, Bounds, Swap, Sexton, CmdBundle, Crier, Mode, Vigil leave alone: the waiting commands and the
fuse array (the lemmas of State.kept). -/

set_option linter.unusedSimpArgs false

namespace Sys2Proof.Machine

/-- What the whole-machine rules follow through a command: the waiting commands and the fuse array. -/
def State.kept (s : State) : List Instr × BitVec 2048 := (s.pending, s.gate.fuses)

theorem ite_kept (c : Prop) [Decidable c] (a b : State) :
    (if c then a else b).kept = if c then a.kept else b.kept := by split <;> exact id rfl
theorem foldl_kept {β : Type} (g : State → β → State) (l : List β) (s : State) (h : ∀ t x, (g t x).kept = t.kept) :
    (l.foldl g s).kept = s.kept := by
  induction l generalizing s with
  | nil => exact id rfl
  | cons a l ih => rw [List.foldl_cons, ih, h]
theorem forEach_kept (g : State → Nat → State) (l : List Nat) (s : State) (h : ∀ t x, (g t x).kept = t.kept) :
    (forEach l g s).kept = s.kept := foldl_kept g l s h
@[simp ↓] theorem State.setAon_kept (s : State) (v : Aon) : (State.setAon s v).kept = s.kept := id rfl
@[simp ↓] theorem State.setQuerns_kept (s : State) (v : Tab Quern) : (State.setQuerns s v).kept = s.kept := id rfl
@[simp ↓] theorem State.setDomains_kept (s : State) (v : Tab Domain) : (State.setDomains s v).kept = s.kept := id rfl
@[simp ↓] theorem State.setLines_kept (s : State) (v : Tab Line) : (State.setLines s v).kept = s.kept := id rfl
@[simp ↓] theorem State.setBanks_kept (s : State) (v : Tab Bank) : (State.setBanks s v).kept = s.kept := id rfl
@[simp ↓] theorem State.setGranary_kept (s : State) (v : Tab Sample) : (State.setGranary s v).kept = s.kept := id rfl
@[simp ↓] theorem State.setSexton_kept (s : State) (v : Sexton) : (State.setSexton s v).kept = s.kept := id rfl
@[simp ↓] theorem State.setAudio_kept (s : State) (v : Audio) : (State.setAudio s v).kept = s.kept := id rfl
@[simp ↓] theorem State.setTally_kept (s : State) (v : Tally) : (State.setTally s v).kept = s.kept := id rfl
@[simp ↓] theorem State.setCrier_kept (s : State) (v : Crier) : (State.setCrier s v).kept = s.kept := id rfl
@[simp ↓] theorem State.setTwin_kept (s : State) (v : Twin) : (State.setTwin s v).kept = s.kept := id rfl
@[simp ↓] theorem State.setWarden_kept (s : State) (v : Warden) : (State.setWarden s v).kept = s.kept := id rfl
@[simp ↓] theorem State.setGate_kept (s : State) (v : Gate) (h : v.fuses = s.gate.fuses) :
    (State.setGate s v).kept = s.kept := by
  simp only [State.kept, State.setGate, h]
@[simp ↓] theorem State.setGreq_kept (s : State) (v : Greq) : (State.setGreq s v).kept = s.kept := id rfl
@[simp ↓] theorem State.setHost_kept (s : State) (v : HostPort) : (State.setHost s v).kept = s.kept := id rfl
@[simp ↓] theorem State.setReeves_kept (s : State) (v : Tab Reeve) : (State.setReeves s v).kept = s.kept := id rfl
@[simp ↓] theorem State.setStew_kept (s : State) (v : Steward) : (State.setStew s v).kept = s.kept := id rfl
@[simp ↓] theorem State.setDma_kept (s : State) (v : Dma) : (State.setDma s v).kept = s.kept := id rfl
@[simp ↓] theorem State.setCtrlRam_kept (s : State) (v : Tab (BitVec 32)) :
    (State.setCtrlRam s v).kept = s.kept := id rfl
@[simp ↓] theorem State.setPer_kept (s : State) (v : Per) : (State.setPer s v).kept = s.kept := id rfl
@[simp ↓] theorem State.setFlash_kept (s : State) (v : Flash) : (State.setFlash s v).kept = s.kept := id rfl
@[simp ↓] theorem State.setFaults_kept (s : State) (v : Faults) : (State.setFaults s v).kept = s.kept := id rfl
@[simp ↓] theorem State.setJex_kept (s : State) (v : Jex) : (State.setJex s v).kept = s.kept := id rfl
@[simp ↓] theorem State.setVigil_kept (s : State) (v : Vigil) : (State.setVigil s v).kept = s.kept := id rfl
@[simp ↓] theorem State.setFresh_kept (s : State) (v : Nat) : (State.setFresh s v).kept = s.kept := id rfl
@[simp ↓] theorem modQuern_kept (s : State) (q : Nat) (f : Quern → Quern) : (modQuern s q f).kept = s.kept := id rfl
@[simp ↓] theorem modDom_kept (s : State) (d : Nat) (f : Domain → Domain) : (modDom s d f).kept = s.kept := id rfl
@[simp ↓] theorem modLine_kept (s : State) (e : Nat) (f : Line → Line) : (modLine s e f).kept = s.kept := id rfl
@[simp ↓] theorem modBank_kept (s : State) (b : Nat) (f : Bank → Bank) : (modBank s b f).kept = s.kept := id rfl
@[simp ↓] theorem modReeve_kept (s : State) (r : Nat) (f : Reeve → Reeve) : (modReeve s r f).kept = s.kept := id rfl
@[simp ↓] theorem modAon_kept (s : State) (f : Aon → Aon) : (modAon s f).kept = s.kept := id rfl
@[simp ↓] theorem modAudio_kept (s : State) (f : Audio → Audio) : (modAudio s f).kept = s.kept := id rfl
@[simp ↓] theorem modTally_kept (s : State) (f : Tally → Tally) : (modTally s f).kept = s.kept := id rfl
@[simp ↓] theorem modCrier_kept (s : State) (f : Crier → Crier) : (modCrier s f).kept = s.kept := id rfl
@[simp ↓] theorem modTwin_kept (s : State) (f : Twin → Twin) : (modTwin s f).kept = s.kept := id rfl
@[simp ↓] theorem modWarden_kept (s : State) (f : Warden → Warden) : (modWarden s f).kept = s.kept := id rfl
@[simp ↓] theorem modGate_kept (s : State) (f : Gate → Gate) (h : (f s.gate).fuses = s.gate.fuses) :
    (modGate s f).kept = s.kept := by
  simp only [State.kept, modGate, State.setGate, h]
@[simp ↓] theorem modGreq_kept (s : State) (f : Greq → Greq) : (modGreq s f).kept = s.kept := id rfl
@[simp ↓] theorem modHost_kept (s : State) (f : HostPort → HostPort) : (modHost s f).kept = s.kept := id rfl
@[simp ↓] theorem modStew_kept (s : State) (f : Steward → Steward) : (modStew s f).kept = s.kept := id rfl
@[simp ↓] theorem modDma_kept (s : State) (f : Dma → Dma) : (modDma s f).kept = s.kept := id rfl
@[simp ↓] theorem modPer_kept (s : State) (f : Per → Per) : (modPer s f).kept = s.kept := id rfl
@[simp ↓] theorem modFlash_kept (s : State) (f : Flash → Flash) : (modFlash s f).kept = s.kept := id rfl
@[simp ↓] theorem modFaults_kept (s : State) (f : Faults → Faults) : (modFaults s f).kept = s.kept := id rfl
@[simp ↓] theorem modJex_kept (s : State) (f : Jex → Jex) : (modJex s f).kept = s.kept := id rfl
@[simp ↓] theorem modVigil_kept (s : State) (f : Vigil → Vigil) : (modVigil s f).kept = s.kept := id rfl
@[simp ↓] theorem modSexton_kept (s : State) (f : Sexton → Sexton) : (modSexton s f).kept = s.kept := id rfl

/-! ### Ops -/

@[simp ↓] theorem takeFresh_kept (s : State) : (takeFresh s).2.kept = s.kept := id rfl
@[simp ↓] theorem cellPut_kept (s : State) (h c : Nat) (v : Sample) : (cellPut s h c v).kept = s.kept := by
  simp [cellPut]
@[simp ↓] theorem granPut_kept (s : State) (h p : Nat) (v : Sample) : (granPut s h p v).kept = s.kept := by
  simp [granPut]
@[simp ↓] theorem bankErr_kept (s : State) (b : Nat) (master : Nat) : (bankErr s b master).kept = s.kept := by
  simp [bankErr]

@[simp ↓] theorem dmaPut_kept (h p : Nat) (v : Sample) (s : State) :
    (dmaPut h p v s).kept = s.kept := by
  unfold dmaPut; split <;> simp
@[simp ↓] theorem dropCaptures_kept (s : State) :
    (dropCaptures s).kept = s.kept := by
  rfl
/-! ### Events -/

@[simp ↓] theorem appendEvent_kept (code : Nat) (payload : List Word) (s : State) :
    (appendEvent code payload s).1.kept = s.kept := by
  unfold appendEvent; extract_lets; (repeat' split) <;> simp
@[simp ↓] theorem noteRefused_kept (code : Nat) (s : State) : (noteRefused code s).kept = s.kept := by
  simp [noteRefused]
@[simp ↓] theorem postLost_kept (s : State) : (postLost s).kept = s.kept := by
  unfold postLost; (repeat' split) <;> simp
@[simp ↓] theorem postEvent_kept (code : Nat) (payload : List Word) (s : State) :
    (postEvent code payload s).kept = s.kept := by
  unfold postEvent; dsimp only; (repeat' split) <;> simp
@[simp ↓] theorem refreshFw_kept (s : State) : (refreshFw s).kept = s.kept := by
  simp [refreshFw]
@[simp ↓] theorem logRecord_kept (code kind : Nat) (payload : List Word) (s : State) :
    (logRecord code kind payload s).kept = s.kept := by
  unfold logRecord; (repeat' split) <;> simp
@[simp ↓] theorem faultEvent_kept (code kind : Nat) (payload : List Word) (s : State) :
    (faultEvent code kind payload s).kept = s.kept := by
  simp [faultEvent]
@[simp ↓] theorem markInstances_kept (p : FaultInst → Bool) (g : FaultInst → FaultInst) (s : State) :
    (markInstances p g s).kept = s.kept := by
  simp [markInstances]
@[simp ↓] theorem raiseFault_kept (code : Nat) (payload : List Word) (s : State) :
    (raiseFault code payload s).kept = s.kept := by
  unfold raiseFault; (repeat' split) <;> simp
@[simp ↓] theorem clearInstances_kept (p : FaultInst → Bool) (s : State) : (clearInstances p s).kept = s.kept := by
  simp [clearInstances, foldl_kept, forEach_kept, ite_kept]
@[simp ↓] theorem absentFault_kept (code : Nat) (payload : List Word) (s : State) :
    (absentFault code payload s).kept = s.kept := by
  unfold absentFault; extract_lets; (repeat' split) <;> simp
@[simp ↓] theorem ackFault_kept (code : Nat) (s : State) : (ackFault code s).kept = s.kept := by
  unfold ackFault; dsimp only; (repeat' split) <;> simp [foldl_kept, forEach_kept, ite_kept]
@[simp ↓] theorem passedFault_kept (payload : List Word) (s : State) : (passedFault payload s).kept = s.kept := by
  simp [passedFault]

/-! ### FlashPort -/

@[simp ↓] theorem crierPort_kept (k : Nat) (s : State) : (crierPort k s).kept = s.kept := by
  simp [crierPort]

/-! ### Leave -/

@[simp ↓] theorem onGrant_kept (cls key : Nat) (s : State) : (onGrant cls key s).kept = s.kept := by
  unfold onGrant; (repeat' split) <;> simp
@[simp ↓] theorem grantNow_kept (g : Grant) (s : State) : (grantNow g s).kept = s.kept := by
  simp [grantNow]
@[simp ↓] theorem grantHead_kept (s : State) : (grantHead s).kept = s.kept := by
  unfold grantHead; (repeat' split) <;> simp
@[simp ↓] theorem grantAll_kept (s : State) : (grantAll s).kept = s.kept := by
  simp [grantAll, foldl_kept, forEach_kept, ite_kept]
@[simp ↓] theorem bookBase_kept (s : State) : (bookBase s).kept = s.kept := by
  unfold bookBase; extract_lets; simp
@[simp ↓] theorem requestLeave_kept (cls key : Nat) (s : State) : (requestLeave cls key s).kept = s.kept := by
  unfold requestLeave; extract_lets; (repeat' split) <;> simp
@[simp ↓] theorem returnLeave_kept (cls key : Nat) (s : State) : (returnLeave cls key s).kept = s.kept := by
  unfold returnLeave; (repeat' split) <;> simp
@[simp ↓] theorem dropRequest_kept (cls key : Nat) (s : State) : (dropRequest cls key s).kept = s.kept := by
  simp [dropRequest]
@[simp ↓] theorem releaseLeave_kept (cls key : Nat) (s : State) : (releaseLeave cls key s).kept = s.kept := by
  simp [releaseLeave]
@[simp ↓] theorem reprice_kept (s : State) : (reprice s).kept = s.kept := by
  simp [reprice]
@[simp ↓] theorem freeUpdate_kept (s : State) : (freeUpdate s).kept = s.kept := by
  unfold freeUpdate; (repeat' split) <;> simp
@[simp ↓] theorem refreshFloor_kept (s : State) : (refreshFloor s).kept = s.kept := by
  unfold refreshFloor; extract_lets; (repeat' split) <;> simp
@[simp ↓] theorem avsWrite_kept (v : Nat) (s : State) : (avsWrite v s).kept = s.kept := by
  simp [avsWrite]
@[simp ↓] theorem raiseTo_kept (v : Nat) (s : State) :
    (raiseTo v s).kept = s.kept := by
  unfold raiseTo; split <;> simp
@[simp ↓] theorem stepUp_kept (n : Nat) (s : State) : (stepUp n s).kept = s.kept := by
  unfold stepUp; (repeat' split) <;> simp
@[simp ↓] theorem wardenEvent_kept (i : Nat) (s : State) : (wardenEvent i s).kept = s.kept := by
  simp [wardenEvent]
@[simp ↓] theorem lateStepUp_kept (s : State) : (lateStepUp s).kept = s.kept := by
  unfold lateStepUp; (repeat' split) <;> simp
@[simp ↓] theorem avsDone_kept (v : Nat) (s : State) :
    (avsDone v s).kept = s.kept := by
  simp [avsDone]
@[simp ↓] theorem avsFailed_kept (again : Option Nat) (s : State) :
    (avsFailed again s).kept = s.kept := by
  unfold avsFailed; (repeat' split) <;> simp
@[simp ↓] theorem avsFrame_kept (ok : Bool) (rd : Nat) (s : State) : (avsFrame ok rd s).kept = s.kept := by
  unfold avsFrame; (repeat' split) <;> simp
@[simp ↓] theorem thermalReading_kept (tj : Int) (s : State) : (thermalReading tj s).kept = s.kept := by
  unfold thermalReading; dsimp only; (repeat' split) <;> simp

/-! ### Operands -/

@[simp ↓] theorem quernSlot_kept (q : Nat) (op : State → State) (s : State) (h : ∀ t, (op t).kept = t.kept) :
    (quernSlot q op s).kept = s.kept := by
  unfold quernSlot; extract_lets; simp [forEach_kept, h]
@[simp ↓] theorem onQuern_kept (q : Nat) (f : State → Quern → Quern) (s : State) : (onQuern q f s).kept = s.kept := by
  simp [onQuern]

/-! ### Commit -/

@[simp ↓] theorem modSlot_kept (s : State) (d k : Nat) (f : CommitSlot → CommitSlot) :
    (modSlot s d k f).kept = s.kept := by
  simp [modSlot]
@[simp ↓] theorem modSet_kept (s : State) (n : Nat) (f : HostSet → HostSet) : (modSet s n f).kept = s.kept := by
  simp [modSet]
@[simp ↓] theorem stageWord_kept (s : State) (v : StagedVal) : (stageWord s v).kept = s.kept := by
  simp [stageWord]
@[simp ↓] theorem discardSet_kept (n cause : Nat) (s : State) : (discardSet n cause s).kept = s.kept := by
  unfold discardSet; dsimp only; (repeat' split) <;> simp [foldl_kept, forEach_kept, ite_kept]
@[simp ↓] theorem restage_kept (q : Nat) (s : State) : (restage q s).kept = s.kept := by
  simp [restage, foldl_kept, forEach_kept, ite_kept]
@[simp ↓] theorem resyncQuern_kept (s : State) (q : Nat) : (resyncQuern s q).kept = s.kept := by
  simp [resyncQuern]
@[simp ↓] theorem exchangeLedger_kept (q : Nat) (new : Quern → Tab Sample) (s : State) :
    (exchangeLedger q new s).kept = s.kept := by
  unfold exchangeLedger; dsimp only; split <;> simp
@[simp ↓] theorem fireImage_kept (i : LedgerImage) (s : State) : (fireImage i s).kept = s.kept := by
  simp [fireImage]
@[simp ↓] theorem firePart_kept (c : CommitSlot) (q : Nat) (s : State) : (firePart c q s).kept = s.kept := by
  unfold firePart; dsimp only; split <;> simp [foldl_kept]
@[simp ↓] theorem noteDeferred_kept (d kind setNo bundle : Nat) (b : BitVec 48) (qs : List Nat) (s : State) :
    (noteDeferred d kind setNo bundle b qs s).kept = s.kept := by
  simp [noteDeferred, foldl_kept, forEach_kept, ite_kept]
@[simp ↓] theorem fireSlot_kept (d k : Nat) (s : State) : (fireSlot d k s).kept = s.kept := by
  unfold fireSlot; dsimp only; (repeat' split) <;> simp [foldl_kept, forEach_kept, ite_kept]
@[simp ↓] theorem fireSlots_kept (d : Nat) (s : State) : (fireSlots d s).kept = s.kept := by
  simp [fireSlots, foldl_kept, forEach_kept, ite_kept]
@[simp ↓] theorem resyncDone_kept (d : Nat) (s : State) : (resyncDone d s).kept = s.kept := by
  simp [resyncDone, foldl_kept, forEach_kept, ite_kept]
@[simp ↓] theorem armChange_kept (d : Nat) (b : BitVec 48) (prio : Nat) (gs : List OwnGlide) (imgs : List LedgerImage) (s : State) :
    (armChange d b prio gs imgs s).kept = s.kept := by
  have h : (gs.foldl (fun t g => match hostCarrier s d b g.quern with
      | some k => modSlot t d k (fun c => c.carry b [g] [])
      | none => t) s).kept = s.kept := foldl_kept _ _ _ (fun t g => by split <;> simp)
  unfold armChange; dsimp only
  split
  · exact h
  · split <;> simp only [modSlot_kept, modJex_kept] <;> exact h
@[simp ↓] theorem armOwn_kept (d : Nat) (b : BitVec 48) (prio : Nat) (gs : List OwnGlide) (s : State) :
    (armOwn d b prio gs s).kept = s.kept := by
  simp [armOwn]
@[simp ↓] theorem takeHeld_kept (d : Nat) (s : State) : (takeHeld d s).kept = s.kept := by
  unfold takeHeld; dsimp only; split <;> simp [foldl_kept]
@[simp ↓] theorem cutOwn_kept (d : Nat) (f : List OwnGlide → List OwnGlide) (g : List LedgerImage → List LedgerImage) (s : State) :
    (cutOwn d f g s).kept = s.kept := by
  simp [cutOwn, forEach_kept]
@[simp ↓] theorem dropOwn_kept (d : Nat) (p : OwnGlide → Bool) (s : State) : (dropOwn d p s).kept = s.kept := by
  simp [dropOwn]
@[simp ↓] theorem dropImages_kept (d : Nat) (s : State) : (dropImages d s).kept = s.kept := by
  simp [dropImages]
@[simp ↓] theorem swapInLedger_kept (q : Nat) (s : State) : (swapInLedger q s).kept = s.kept := by
  unfold swapInLedger; split <;> simp

/-! ### Domains -/

@[simp ↓] theorem loseReference_kept (d : Nat) (s : State) : (loseReference d s).kept = s.kept := by
  unfold loseReference; (repeat' split) <;> simp
@[simp ↓] theorem enterLocked_kept (d : Nat) (s : State) : (enterLocked d s).kept = s.kept := by
  simp [enterLocked]
@[simp ↓] theorem startReconfig_kept (d code : Nat) (commanded : Bool) (s : State) :
    (startReconfig d code commanded s).kept = s.kept := by
  simp [startReconfig]
@[simp ↓] theorem changeSource_kept (d src grp : Nat) (s : State) : (changeSource d src grp s).kept = s.kept := by
  unfold changeSource; extract_lets; (repeat' split) <;> simp
@[simp ↓] theorem rateChange_kept (d rate : Nat) (s : State) : (rateChange d rate s).kept = s.kept := by
  unfold rateChange; dsimp only; (repeat' split) <;> simp
@[simp ↓] theorem monitorResult_kept (d rate : Nat) (s : State) : (monitorResult d rate s).kept = s.kept := by
  unfold monitorResult; dsimp only; (repeat' split) <;> simp
@[simp ↓] theorem glitchEdge_kept (d : Nat) (s : State) : (glitchEdge d s).kept = s.kept := by
  unfold glitchEdge; dsimp only; (repeat' split) <;> simp
@[simp ↓] theorem acceptEdge_kept (d since : Nat) (phase : Int) (s : State) :
    (acceptEdge d since phase s).kept = s.kept := by
  simp [acceptEdge]
@[simp ↓] theorem lossFound_kept (d : Nat) (s : State) : (lossFound d s).kept = s.kept := by
  simp [lossFound, foldl_kept, forEach_kept, ite_kept]
@[simp ↓] theorem loseMarker_kept (d : Nat) (s : State) : (loseMarker d s).kept = s.kept := by
  simp [loseMarker, foldl_kept, forEach_kept, ite_kept]
@[simp ↓] theorem releaseMute_kept (d : Nat) (s : State) : (releaseMute d s).kept = s.kept := by
  simp [releaseMute]
@[simp ↓] theorem commitImages_kept (d : Nat) (b : BitVec 48) (imgs : List LedgerImage) (s : State) :
    (commitImages d b imgs s).kept = s.kept := by
  simp [commitImages, foldl_kept, forEach_kept, ite_kept]

/-! ### Ports -/

@[simp ↓] theorem modGroup_kept (s : State) (g : Nat) (f : Group → Group) : (modGroup s g f).kept = s.kept := by
  simp [modGroup]
@[simp ↓] theorem modPort_kept (s : State) (p : Nat) (f : Port → Port) : (modPort s p f).kept = s.kept := by
  simp [modPort]
@[simp ↓] theorem modAlign_kept (s : State) (a : Nat) (f : Align → Align) : (modAlign s a f).kept = s.kept := by
  simp [modAlign]
@[simp ↓] theorem loseGroup_kept (g : Nat) (flag : Group → Group) (s : State) :
    (loseGroup g flag s).kept = s.kept := by
  unfold loseGroup; (repeat' split) <;> simp
@[simp ↓] theorem measureEdge_kept (g bclks : Nat) (phase : Int) (s : State) :
    (measureEdge g bclks phase s).kept = s.kept := by
  simp [measureEdge]
@[simp ↓] theorem frameEdge_kept (g bclks dt : Nat) (phase : Int) (s : State) :
    (frameEdge g bclks dt phase s).kept = s.kept := by
  unfold frameEdge; dsimp only; (repeat' split) <;> simp
@[simp ↓] theorem judgeCodes_kept (d : Nat) (s : State) : (judgeCodes d s).kept = s.kept := by
  simp [judgeCodes, foldl_kept, forEach_kept, ite_kept]
@[simp ↓] theorem unclockGroups_kept (d : Nat) (s : State) : (unclockGroups d s).kept = s.kept := by
  simp [unclockGroups, foldl_kept, forEach_kept, ite_kept]
@[simp ↓] theorem monitorPin_kept (pin rate code : Nat) (s : State) : (monitorPin pin rate code s).kept = s.kept := by
  unfold monitorPin; dsimp only; (repeat' split) <;> simp
@[simp ↓] theorem sieveStuck_kept (i : Nat) (v : Bool) (s : State) : (sieveStuck i v s).kept = s.kept := by
  unfold sieveStuck; (repeat' split) <;> simp

/-! ### Square -/

@[simp ↓] theorem postFront_kept (d n : Nat) (v : Slot) (s : State) : (postFront d n v s).kept = s.kept := by
  simp [postFront]
@[simp ↓] theorem postInput_kept (d c : Nat) (again : Bool) (got : Option Slot) (s : State) :
    (postInput d c again got s).kept = s.kept := by
  unfold postInput; extract_lets; simp
@[simp ↓] theorem idleInput_kept (c : Nat) (s : State) :
    (idleInput c s).kept = s.kept := by
  rfl
@[simp ↓] theorem inputSlot_kept (d p t : Nat) (frame : Option (List Word)) (good again : Bool) (s : State) :
    (inputSlot d p t frame good again s).kept = s.kept := by
  unfold inputSlot; dsimp only; (repeat' split) <;> simp
@[simp ↓] theorem startPort_kept (d p : Nat) (s : State) : (startPort d p s).kept = s.kept := by
  unfold startPort; extract_lets; (repeat' split) <;> simp
@[simp ↓] theorem inputPort_kept (e : BellEnv) (d p : Nat) (s : State) : (inputPort e d p s).kept = s.kept := by
  simp [inputPort, foldl_kept, forEach_kept, ite_kept]
@[simp ↓] theorem judgeGroup_kept (e : BellEnv) (d g : Nat) (s : State) : (judgeGroup e d g s).kept = s.kept := by
  unfold judgeGroup; dsimp only; (repeat' split) <;> simp
@[simp ↓] theorem postSieve_kept (e : BellEnv) (d i : Nat) (s : State) : (postSieve e d i s).kept = s.kept := by
  unfold postSieve; dsimp only; (repeat' split) <;> simp
@[simp ↓] theorem modStile_kept (s : State) (i : Nat) (f : StileStat → StileStat) :
    (modStile s i f).kept = s.kept := by
  simp [modStile]
@[simp ↓] theorem takeStileSources_kept (d : Nat) (s : State) : (takeStileSources d s).kept = s.kept := by
  simp [takeStileSources, foldl_kept, forEach_kept, ite_kept]
@[simp ↓] theorem ownStile_kept (d i : Nat) (s : State) : (ownStile d i s).kept = s.kept := by
  unfold ownStile; dsimp only; (repeat' split) <;> simp
@[simp ↓] theorem postStile_kept (d i : Nat) (s : State) : (postStile d i s).kept = s.kept := by
  unfold postStile; (repeat' split) <;> simp
@[simp ↓] theorem stopStiles_kept (d : Nat) (s : State) :
    (stopStiles d s).kept = s.kept := by
  simp [stopStiles, foldl_kept, forEach_kept, ite_kept]
@[simp ↓] theorem recentreStiles_kept (d : Nat) (s : State) : (recentreStiles d s).kept = s.kept := by
  simp [recentreStiles, foldl_kept, forEach_kept, ite_kept]
@[simp ↓] theorem routeSwapIn_kept (d : Nat) (s : State) : (routeSwapIn d s).kept = s.kept := by
  simp [routeSwapIn, foldl_kept, forEach_kept, ite_kept]
@[simp ↓] theorem swapReturn_kept (o : Nat) (old new : Detour) (s : State) :
    (swapReturn o old new s).kept = s.kept := by
  unfold swapReturn; (repeat' split) <;> simp
@[simp ↓] theorem routeSwapOut_kept (d : Nat) (s : State) : (routeSwapOut d s).kept = s.kept := by
  simp [routeSwapOut, foldl_kept, forEach_kept, ite_kept]
@[simp ↓] theorem modDetour_kept (s : State) (o : Nat) (f : DetourStat → DetourStat) :
    (modDetour s o f).kept = s.kept := by
  simp [modDetour]
@[simp ↓] theorem countAmp_kept (d o : Nat) (s : State) : (countAmp d o s).kept = s.kept := by
  unfold countAmp; extract_lets; (repeat' split) <;> simp
@[simp ↓] theorem detourStep_kept (d o : Nat) (s : State) : (detourStep d o s).kept = s.kept := by
  unfold detourStep; dsimp only; (repeat' split) <;> simp
@[simp ↓] theorem detourConflict_kept (cs : List Nat) (o : Nat) (s : State) :
    (detourConflict cs o s).kept = s.kept := by
  unfold detourConflict; extract_lets; (repeat' split) <;> simp
@[simp ↓] theorem fillOutputs_kept (d : Nat) (s : State) : (fillOutputs d s).kept = s.kept := by
  simp [fillOutputs, foldl_kept, forEach_kept, ite_kept]
@[simp ↓] theorem postInputs_kept (e : BellEnv) (d : Nat) (s : State) : (postInputs e d s).kept = s.kept := by
  simp [postInputs, foldl_kept, forEach_kept, ite_kept]

/-! ### Reply -/

@[simp ↓] theorem modMbox_kept (s : State) (m : Nat) (f : Mailbox → Mailbox) : (modMbox s m f).kept = s.kept := by
  simp [modMbox]
@[simp ↓] theorem replyWith_kept (m status : Nat) (ws : List Word) (s : State) :
    (replyWith m status ws s).kept = s.kept := by
  simp [replyWith]
@[simp ↓] theorem reply_kept (m : Nat) (ws : List Word) (s : State) : (reply m ws s).kept = s.kept := by
  simp [reply]
@[simp ↓] theorem refuse_kept (m : Nat) (r : Refuse) (s : State) : (refuse m r s).kept = s.kept := by
  simp [refuse]
@[simp ↓] theorem acceptHead_kept (m : Nat) (s : State) : (acceptHead m s).kept = s.kept := by
  simp [acceptHead]
@[simp ↓] theorem skipUnknown_kept (s : State) : (skipUnknown s).kept = s.kept := by
  unfold skipUnknown; (repeat' split) <;> simp
@[simp ↓] theorem skipAll_kept (s : State) : (skipAll s).kept = s.kept := by
  simp [skipAll, foldl_kept, forEach_kept, ite_kept]
@[simp ↓] theorem serve_kept (op m : Nat) (own : State → Option Refuse) (run : State → State) (s : State)
    (h : ∀ t, (run t).kept = t.kept) : (serve op m own run s).kept = s.kept := by
  unfold serve; (try dsimp only); (repeat' split) <;> simp [h]
@[simp ↓] theorem clearServed_kept (s : State) : (clearServed s).kept = s.kept := by
  simp [clearServed]

/-! ### Tally -/

@[simp ↓] theorem modLane_kept (s : State) (n : Nat) (f : Lane → Lane) : (modLane s n f).kept = s.kept := by
  simp [modLane]
@[simp ↓] theorem putPoint_kept (b i : Nat) (v : BitVec 60) (s : State) : (putPoint b i v s).kept = s.kept := by
  unfold putPoint; extract_lets; simp
@[simp ↓] theorem faultLane_kept (n : Nat) (s : State) : (faultLane n s).kept = s.kept := by
  simp [faultLane]
@[simp ↓] theorem accumulate_kept (n i : Nat) (s : State) : (accumulate n i s).kept = s.kept := by
  simp [accumulate]
@[simp ↓] theorem laneBell_kept (d n : Nat) (s : State) : (laneBell d n s).kept = s.kept := by
  unfold laneBell; extract_lets; (repeat' split) <;> simp
@[simp ↓] theorem transform_kept (b : Nat) (s : State) : (transform b s).kept = s.kept := by
  simp [transform, foldl_kept, forEach_kept, ite_kept]
@[simp ↓] theorem startTransform_kept (n : Nat) (s : State) : (startTransform n s).kept = s.kept := by
  unfold startTransform; (repeat' split) <;> simp
@[simp ↓] theorem endTransform_kept (s : State) : (endTransform s).kept = s.kept := by
  simp [endTransform, foldl_kept, forEach_kept, ite_kept]
@[simp ↓] theorem modDetector_kept (s : State) (k : Nat) (f : Detector → Detector) :
    (modDetector s k f).kept = s.kept := by
  simp [modDetector]
@[simp ↓] theorem detectorBell_kept (d k : Nat) (s : State) : (detectorBell d k s).kept = s.kept := by
  unfold detectorBell; extract_lets; (repeat' split) <;> simp
@[simp ↓] theorem tallyBell_kept (d : Nat) (s : State) : (tallyBell d s).kept = s.kept := by
  simp [tallyBell, foldl_kept, forEach_kept, ite_kept]
@[simp ↓] theorem stopDetectors_kept (d : Nat) (s : State) :
    (stopDetectors d s).kept = s.kept := by
  simp [stopDetectors, foldl_kept, forEach_kept, ite_kept]
@[simp ↓] theorem pilotConfigRun_kept (m : Nat) (s : State) : (pilotConfigRun m s).kept = s.kept := by
  simp [pilotConfigRun]
@[simp ↓] theorem pilotStatusRun_kept (m : Nat) (s : State) : (pilotStatusRun m s).kept = s.kept := by
  unfold pilotStatusRun; extract_lets; simp

/-! ### Nvm -/

@[simp ↓] theorem flashErase_kept (k a n : Nat) (s : State) : (flashErase k a n s).kept = s.kept := by
  simp [flashErase]
@[simp ↓] theorem flashPutByte_kept (k : Nat) (s : State) (e : Nat × BitVec 8) :
    (flashPutByte k s e).kept = s.kept := by
  simp [flashPutByte]
@[simp ↓] theorem flashPut_kept (k a : Nat) (bs : List (BitVec 8)) (s : State) :
    (flashPut k a bs s).kept = s.kept := by
  simp [flashPut, foldl_kept, forEach_kept, ite_kept]

@[simp ↓] theorem storeCopy_kept (c : SavedCfg) (s : State) :
    (storeCopy c s).kept = s.kept := by
  rfl
@[simp ↓] theorem eraseArea_kept (a : Nat) (s : State) :
    (eraseArea a s).kept = s.kept := by
  unfold eraseArea; (repeat' split) <;> simp
@[simp ↓] theorem turnDir_kept (s : State) :
    (turnDir s).kept = s.kept := by
  rfl
@[simp ↓] theorem readFile_kept (r k a n : Nat) (s : State) :
    (readFile r k a n s).kept = s.kept := by
  rfl
/-! ### Bounds -/

@[simp ↓] theorem refreshRates_kept (s : State) : (refreshRates s).kept = s.kept := by
  simp [refreshRates, foldl_kept, forEach_kept, ite_kept]

/-! ### Swap -/

@[simp ↓] theorem modBundle_kept (s : State) (id : Nat) (f : Bundle → Bundle) : (modBundle s id f).kept = s.kept := by
  simp [modBundle]
@[simp ↓] theorem granZero_kept (h p n : Nat) (s : State) : (granZero h p n s).kept = s.kept := by
  simp [granZero]
@[simp ↓] theorem clearWords_kept (h p n : Nat) (s : State) : (clearWords h p n s).kept = s.kept := by
  simp [clearWords, foldl_kept, forEach_kept, ite_kept]
@[simp ↓] theorem allocLine_kept (s : State) (l : LineRec) : (allocLine s l).kept = s.kept := by
  simp [allocLine]
@[simp ↓] theorem allocLines_kept (b : Bundle) (s : State) : (allocLines b s).kept = s.kept := by
  simp [allocLines, foldl_kept, forEach_kept, ite_kept]
@[simp ↓] theorem freeLine_kept (s : State) (l : LineRec) : (freeLine s l).kept = s.kept := by
  simp [freeLine]
@[simp ↓] theorem stageProgram_kept (b : Bundle) (s : State) (p : Program) : (stageProgram b s p).kept = s.kept := by
  simp [stageProgram]
@[simp ↓] theorem stageBundle_kept (b : Bundle) (s : State) : (stageBundle b s).kept = s.kept := by
  simp [stageBundle, foldl_kept, forEach_kept, ite_kept]
@[simp ↓] theorem bookSwap_kept (p : Program) (old : Option Program) (s : State) :
    (bookSwap p old s).kept = s.kept := by
  unfold bookSwap; (repeat' split) <;> simp [foldl_kept, forEach_kept, ite_kept]
@[simp ↓] theorem stopKept_kept (q : Nat) (s : State) : (stopKept q s).kept = s.kept := by
  unfold stopKept; dsimp only; (repeat' split) <;> simp [foldl_kept, forEach_kept, ite_kept]
@[simp ↓] theorem swapQuern_kept (q id : Nat) (s : State) : (swapQuern q id s).kept = s.kept := by
  unfold swapQuern; dsimp only; (repeat' split) <;> simp
@[simp ↓] theorem deferSwap_kept (q id : Nat) (s : State) : (deferSwap q id s).kept = s.kept := by
  simp [deferSwap]
@[simp ↓] theorem askSwapLeave_kept (b : Bundle) (d : Nat) (s : State) : (askSwapLeave b d s).kept = s.kept := by
  simp [askSwapLeave, foldl_kept, forEach_kept, ite_kept]
@[simp ↓] theorem dropSwapLeave_kept (b : Bundle) (d : Nat) (s : State) : (dropSwapLeave b d s).kept = s.kept := by
  simp [dropSwapLeave, foldl_kept, forEach_kept, ite_kept]
@[simp ↓] theorem dropSwap_kept (w : Swap) (s : State) : (dropSwap w s).kept = s.kept := by
  unfold dropSwap; dsimp only; (repeat' split) <;> simp [foldl_kept, forEach_kept, ite_kept]
@[simp ↓] theorem returnDisplaced_kept (d : Nat) (s : State) : (returnDisplaced d s).kept = s.kept := by
  simp [returnDisplaced, foldl_kept, forEach_kept, ite_kept]
@[simp ↓] theorem stopOrphans_kept (b o : Bundle) (s : State) : (stopOrphans b o s).kept = s.kept := by
  simp [stopOrphans, foldl_kept, forEach_kept, ite_kept]
@[simp ↓] theorem swapStates_kept (b : Bundle) (other : Option Bundle) (d : Nat) (revert : Bool) (s : State) :
    (swapStates b other d revert s).kept = s.kept := by
  unfold swapStates; dsimp only; (repeat' split) <;> simp
@[simp ↓] theorem swapReply_kept (w : Swap) (ok : Bool) (b : BitVec 48) (s : State) :
    (swapReply w ok b s).kept = s.kept := by
  unfold swapReply; (repeat' split) <;> simp
@[simp ↓] theorem judgeSwaps_kept (d : Nat) (s : State) :
    (judgeSwaps d s).kept = s.kept := by
  rfl
@[simp ↓] theorem runSwap_kept (w : Swap) (s : State) : (runSwap w s).kept = s.kept := by
  unfold runSwap; dsimp only; (repeat' split) <;> simp [foldl_kept, forEach_kept, ite_kept]
@[simp ↓] theorem stopQuern_kept (q : Nat) (s : State) : (stopQuern q s).kept = s.kept := by
  unfold stopQuern; extract_lets; rw [foldl_kept]
  · simp
  · simp
@[simp ↓] theorem stopDue_kept (q : Nat) (s : State) : (stopDue q s).kept = s.kept := by
  simp [stopDue, foldl_kept, forEach_kept, ite_kept]
@[simp ↓] theorem freeBundle_kept (b : Bundle) (s : State) : (freeBundle b s).kept = s.kept := by
  simp [freeBundle, foldl_kept, forEach_kept, ite_kept]
@[simp ↓] theorem freeKept_kept (s : State) :
    (freeKept s).kept = s.kept := by
  unfold freeKept; dsimp only; (repeat' split) <;> simp [foldl_kept]
@[simp ↓] theorem stopBundle_kept (b : Bundle) (s : State) : (stopBundle b s).kept = s.kept := by
  simp [stopBundle, foldl_kept, forEach_kept, ite_kept]
@[simp ↓] theorem finishUnload_kept (b : Bundle) (s : State) : (finishUnload b s).kept = s.kept := by
  unfold finishUnload; dsimp only; (repeat' split) <;> simp
@[simp ↓] theorem finishUnloads_kept (s : State) : (finishUnloads s).kept = s.kept := by
  simp [finishUnloads, foldl_kept, forEach_kept, ite_kept]
@[simp ↓] theorem beginUnload_kept (m : Nat) (b : Bundle) (s : State) : (beginUnload m b s).kept = s.kept := by
  simp [beginUnload]
@[simp ↓] theorem swapAction_kept (d : Nat) (s : State) : (swapAction d s).kept = s.kept := by
  simp [swapAction, foldl_kept, forEach_kept, ite_kept]

/-! ### Sexton -/

@[simp ↓] theorem setOwner_kept (bk owner chan : Nat) (s : State) : (setOwner bk owner chan s).kept = s.kept := by
  unfold setOwner; (repeat' split) <;> simp
@[simp ↓] theorem writeOwner_kept (bk owner chan : Nat) (s : State) : (writeOwner bk owner chan s).kept = s.kept := by
  unfold writeOwner; extract_lets; (repeat' split) <;> simp
@[simp ↓] theorem visitSave_kept (bk : Nat) (s : State) : (visitSave bk s).kept = s.kept := by
  simp [visitSave, foldl_kept, forEach_kept, ite_kept]
@[simp ↓] theorem visitMarch_kept (bk : Nat) (obs : List (Nat × Sample)) (s : State) :
    (visitMarch bk obs s).kept = s.kept := by
  simp [visitMarch, foldl_kept, forEach_kept, ite_kept]
@[simp ↓] theorem visitRestore_kept (bk : Nat) (s : State) : (visitRestore bk s).kept = s.kept := by
  simp [visitRestore, foldl_kept, forEach_kept, ite_kept]
@[simp ↓] theorem recordRepairs_kept (bk : Nat) (s : State) : (recordRepairs bk s).kept = s.kept := by
  simp [recordRepairs]
@[simp ↓] theorem moveSet_kept (s : State) : (moveSet s).kept = s.kept := by
  unfold moveSet; extract_lets; (repeat' split) <;> simp
@[simp ↓] theorem visitPhases_kept (bk : Nat) (obs : List (Nat × Sample)) (s : State) :
    (visitPhases bk obs s).kept = s.kept := by
  simp [visitPhases, foldl_kept, forEach_kept, ite_kept]
@[simp ↓] theorem visitDone_kept (bk : Nat) (obs : List (Nat × Sample)) (s : State) :
    (visitDone bk obs s).kept = s.kept := by
  unfold visitDone; dsimp only; (repeat' split) <;> simp
@[simp ↓] theorem visitBank_kept (s : State) (b : Nat) : (visitBank s b).kept = s.kept := by
  unfold visitBank; dsimp only; (repeat' split) <;> simp
@[simp ↓] theorem sextonBell_kept (d : Nat) (s : State) : (sextonBell d s).kept = s.kept := by
  simp [sextonBell, foldl_kept, forEach_kept, ite_kept]
@[simp ↓] theorem zeroBank_kept (bk : Nat) (s : State) : (zeroBank bk s).kept = s.kept := by
  simp [zeroBank]
@[simp ↓] theorem zeroSpares_kept (bk : Nat) (s : State) : (zeroSpares bk s).kept = s.kept := by
  simp [zeroSpares, foldl_kept, forEach_kept, ite_kept]
@[simp ↓] theorem fullTest_kept (bk : Nat) (obs : List (Nat × List (Nat × Sample))) (s : State) :
    (fullTest bk obs s).kept = s.kept := by
  simp [fullTest]
@[simp ↓] theorem restoreRepairs_kept (b : Nat) (s : State) : (restoreRepairs b s).kept = s.kept := by
  simp [restoreRepairs, foldl_kept, forEach_kept, ite_kept]
@[simp ↓] theorem startHamlet_kept (s : State) : (startHamlet s).kept = s.kept := by
  unfold startHamlet; split
  · simp
  · rw [forEach_kept]; simp
@[simp ↓] theorem endTest_kept (bk : Nat) (s : State) : (endTest bk s).kept = s.kept := by
  unfold endTest; dsimp only; (repeat' split) <;> simp
@[simp ↓] theorem warmBanks_kept (s : State) : (warmBanks s).kept = s.kept := by
  simp [warmBanks, foldl_kept, forEach_kept, ite_kept]
@[simp ↓] theorem coldBanks_kept (s : State) : (coldBanks s).kept = s.kept := by
  simp [coldBanks, foldl_kept, forEach_kept, ite_kept]

/-! ### CmdBundle -/

@[simp ↓] theorem refuseLoad_kept (m id : Nat) (r : Refuse) (s : State) : (refuseLoad m id r s).kept = s.kept := by
  simp [refuseLoad]
@[simp ↓] theorem nextLoad_kept (s : State) :
    (nextLoad s).kept = s.kept := by
  unfold nextLoad; split <;> simp
@[simp ↓] theorem readBundle_kept (n : Nat) (s : State) :
    (readBundle n s).kept = s.kept := by
  rfl
@[simp ↓] theorem judgeLoad_kept (m slot : Nat) (s : State) :
    (judgeLoad m slot s).kept = s.kept := by
  unfold judgeLoad; dsimp only; split <;> simp
@[simp ↓] theorem bundleLoadRun_kept (m : Nat) (s : State) : (bundleLoadRun m s).kept = s.kept := by
  simp [bundleLoadRun]
@[simp ↓] theorem emptyStores_kept (b : Bundle) (s : State) : (emptyStores b s).kept = s.kept := by
  simp [emptyStores, foldl_kept, forEach_kept, ite_kept]
@[simp ↓] theorem loadDone_kept (l : Load) (s : State) : (loadDone l s).kept = s.kept := by
  unfold loadDone; dsimp only; (repeat' split) <;> simp
@[simp ↓] theorem sendRecord_kept (d kind : Nat) (ws : List Word) (s : State) :
    (sendRecord d kind ws s).kept = s.kept := by
  unfold sendRecord; (repeat' split) <;> simp
@[simp ↓] theorem programSwapRun_kept (m since : Nat) (s : State) : (programSwapRun m since s).kept = s.kept := by
  unfold programSwapRun; dsimp only; (repeat' split) <;> simp [foldl_kept, forEach_kept, ite_kept]
@[simp ↓] theorem bundleUnloadRun_kept (m : Nat) (s : State) : (bundleUnloadRun m s).kept = s.kept := by
  unfold bundleUnloadRun; (repeat' split) <;> simp
@[simp ↓] theorem bundleStatusRun_kept (m : Nat) (s : State) : (bundleStatusRun m s).kept = s.kept := by
  unfold bundleStatusRun; (repeat' split) <;> simp
@[simp ↓] theorem restoreQuern_kept (q : Nat) (s : State) : (restoreQuern q s).kept = s.kept := by
  simp [restoreQuern]
@[simp ↓] theorem quernRestoreRun_kept (m : Nat) (s : State) : (quernRestoreRun m s).kept = s.kept := by
  unfold quernRestoreRun; extract_lets; simp

/-! ### Crier -/

@[simp ↓] theorem crierSample_kept (mic : Sample) (valid : Bool) (clk : BitVec 8) (s : State) :
    (crierSample mic valid clk s).kept = s.kept := by
  unfold crierSample; (repeat' split) <;> simp

/-! ### Mode -/

@[simp ↓] theorem beginFlash_kept (o : FlashOp) (s : State) : (beginFlash o s).kept = s.kept := by
  simp [beginFlash]
@[simp ↓] theorem startFlash_kept (o : FlashOp) (s : State) : (startFlash o s).kept = s.kept := by
  unfold startFlash; (repeat' split) <;> simp
@[simp ↓] theorem endFlash_kept (sel : Nat) (s : State) : (endFlash sel s).kept = s.kept := by
  unfold endFlash; dsimp only; (repeat' split) <;> simp
@[simp ↓] theorem followFlash_kept (o : FlashOp) (s : State) :
    (followFlash o s).kept = s.kept := by
  simp [followFlash]
@[simp ↓] theorem dropFlash_kept (m : Nat) (s : State) : (dropFlash m s).kept = s.kept := by
  simp [dropFlash, foldl_kept]
@[simp ↓] theorem stopFlash_kept (m code : Nat) (s : State) :
    (stopFlash m code s).kept = s.kept := by
  rfl
@[simp ↓] theorem haltFlash_kept (s : State) : (haltFlash s).kept = s.kept := by
  simp [haltFlash, foldl_kept, forEach_kept, ite_kept]
@[simp ↓] theorem twinEvent_kept (i : Nat) (s : State) : (twinEvent i s).kept = s.kept := by
  simp [twinEvent]
@[simp ↓] theorem ownSources_kept (s : State) : (ownSources s).kept = s.kept := by
  simp [ownSources, foldl_kept, forEach_kept, ite_kept]
@[simp ↓] theorem freeCopyBanks_kept (s : State) : (freeCopyBanks s).kept = s.kept := by
  simp [freeCopyBanks, foldl_kept, forEach_kept, ite_kept]
@[simp ↓] theorem failArming_kept (code : Nat) (s : State) : (failArming code s).kept = s.kept := by
  unfold failArming; (repeat' split) <;> simp
@[simp ↓] theorem dropWork_kept (m : Nat) (s : State) : (dropWork m s).kept = s.kept := by
  unfold dropWork; dsimp only; (repeat' split) <;> simp [foldl_kept, forEach_kept, ite_kept]
@[simp ↓] theorem endDisallowed_kept (mode : Mode) (s : State) : (endDisallowed mode s).kept = s.kept := by
  simp [endDisallowed, foldl_kept, forEach_kept, ite_kept]
@[simp ↓] theorem setMode_kept (new : Mode) (cause : Nat) (s : State) : (setMode new cause s).kept = s.kept := by
  unfold setMode; extract_lets; (repeat' split) <;> simp
@[simp ↓] theorem updateDuty_kept (s : State) : (updateDuty s).kept = s.kept := by
  simp [updateDuty]

/-! ### Vigil -/

@[simp ↓] theorem variantLines_kept (b : Bundle) (out : List LineRec) (s : State) :
    (variantLines b out s).kept = s.kept := by
  simp [variantLines, foldl_kept, forEach_kept, ite_kept]
@[simp ↓] theorem normalLines_kept (b : Bundle) (d : Nat) (s : State) : (normalLines b d s).kept = s.kept := by
  simp [normalLines, foldl_kept, forEach_kept, ite_kept]
@[simp ↓] theorem recordWritten_kept (ok : Bool) (s : State) : (recordWritten ok s).kept = s.kept := by
  unfold recordWritten; dsimp only; (repeat' split) <;> simp
@[simp ↓] theorem queueRecord_kept (r : VRecord) (s : State) : (queueRecord r s).kept = s.kept := by
  unfold queueRecord; (repeat' split) <;> simp
@[simp ↓] theorem modZone_kept (s : State) (n : Nat) (f : VZone → VZone) : (modZone s n f).kept = s.kept := by
  simp [modZone]
@[simp ↓] theorem armLanes_kept (z : VZone) (periods : Nat) (s : State) : (armLanes z periods s).kept = s.kept := by
  simp [armLanes, foldl_kept, forEach_kept, ite_kept]
@[simp ↓] theorem stopLanes_kept (z : VZone) (s : State) : (stopLanes z s).kept = s.kept := by
  simp [stopLanes, foldl_kept, forEach_kept, ite_kept]
@[simp ↓] theorem recordEmpty_kept (z : VZone) (verdict attempts reasons : Nat) (s : State) :
    (recordEmpty z verdict attempts reasons s).kept = s.kept := by
  simp [recordEmpty, foldl_kept, forEach_kept, ite_kept]
@[simp ↓] theorem dropGain_kept (z : VZone) (s : State) : (dropGain z s).kept = s.kept := by
  simp [dropGain]
@[simp ↓] theorem abortZone_kept (reason : Nat) (z : VZone) (s : State) : (abortZone reason z s).kept = s.kept := by
  unfold abortZone; (repeat' split) <;> simp
@[simp ↓] theorem abortZones_kept (reason : Nat) (b : BitVec 48) (prio : Nat) (p : VZone → Bool) (s : State) :
    (abortZones reason b prio p s).kept = s.kept := by
  simp [abortZones, foldl_kept, forEach_kept, ite_kept]
theorem placeZones_kept (zs : List VZone) (n : Nat) (s : State) : (placeZones s n zs).kept = s.kept := by
  induction zs generalizing n s with
  | nil => simp [placeZones]
  | cons z zs ih => simp only [placeZones]; rw [ih]; simp
@[simp ↓] theorem startRound_kept (r : Nat) (s : State) : (startRound r s).kept = s.kept := by
  unfold startRound; (try dsimp only); rw [placeZones_kept]; simp
@[simp ↓] theorem restore_kept (s : State) : (restore s).kept = s.kept := by
  unfold restore; dsimp only; (repeat' split) <;> simp [foldl_kept, forEach_kept, ite_kept]
@[simp ↓] theorem closeZones_kept (reason : Nat) (s : State) : (closeZones reason s).kept = s.kept := by
  simp [closeZones, foldl_kept, forEach_kept, ite_kept]
@[simp ↓] theorem goOn_kept (s : State) : (goOn s).kept = s.kept := by
  unfold goOn; (repeat' split) <;> simp
@[simp ↓] theorem ambientDone_kept (z : VZone) (s : State) : (ambientDone z s).kept = s.kept := by
  unfold ambientDone; (repeat' split) <;> simp
@[simp ↓] theorem zoneDone_kept (z : VZone) (s : State) : (zoneDone z s).kept = s.kept := by
  simp [zoneDone, foldl_kept, forEach_kept, ite_kept]
@[simp ↓] theorem zoneBell_kept (z : VZone) (s : State) : (zoneBell z s).kept = s.kept := by
  unfold zoneBell; extract_lets; (repeat' split) <;> simp
@[simp ↓] theorem gainFired_kept (d : Nat) (gs : List OwnGlide) (s : State) : (gainFired d gs s).kept = s.kept := by
  simp [gainFired, foldl_kept, forEach_kept, ite_kept]
@[simp ↓] theorem refuseTransform_kept (z : VZone) (mic : Nat) (s : State) :
    (refuseTransform z mic s).kept = s.kept := by
  simp [refuseTransform]
@[simp ↓] theorem nextTransform_kept (s : State) : (nextTransform s).kept = s.kept := by
  unfold nextTransform; extract_lets; (repeat' split) <;> simp
@[simp ↓] theorem newCampaign_kept (st : VState) (step : Nat) (s : State) :
    (newCampaign st step s).kept = s.kept := by
  simp [newCampaign]
@[simp ↓] theorem runRounds_kept (s : State) : (runRounds s).kept = s.kept := by
  simp [runRounds, foldl_kept, forEach_kept, ite_kept]
@[simp ↓] theorem enterVigil_kept (s : State) : (enterVigil s).kept = s.kept := by
  simp [enterVigil]
@[simp ↓] theorem unstageVariants_kept (s : State) : (unstageVariants s).kept = s.kept := by
  unfold unstageVariants; split
  · rfl
  · rw [foldl_kept]; simp
@[simp ↓] theorem fillExcitation_kept (s : State) : (fillExcitation s).kept = s.kept := by
  simp [fillExcitation, foldl_kept, forEach_kept, ite_kept]
@[simp ↓] theorem exchange_kept (qs : List Nat) (s : State) : (exchange qs s).kept = s.kept := by
  simp [exchange, foldl_kept, forEach_kept, ite_kept]
@[simp ↓] theorem sparedLines_kept (d : Nat) (s : State) : (sparedLines d s).kept = s.kept := by
  unfold sparedLines; (repeat' split) <;> simp [foldl_kept, forEach_kept, ite_kept]
@[simp ↓] theorem lendBanks_kept (s : State) : (lendBanks s).kept = s.kept := by
  simp [lendBanks, foldl_kept, forEach_kept, ite_kept]
@[simp ↓] theorem campaignIn_kept (s : State) : (campaignIn s).kept = s.kept := by
  simp [campaignIn]
@[simp ↓] theorem vigilTidy_kept (s : State) : (vigilTidy s).kept = s.kept := by
  simp [vigilTidy, foldl_kept, forEach_kept, ite_kept]
@[simp ↓] theorem campaignOut_kept (s : State) : (campaignOut s).kept = s.kept := by
  unfold campaignOut; dsimp only; (repeat' split) <;> simp [foldl_kept, forEach_kept, ite_kept]
@[simp ↓] theorem campaignEnd_kept (s : State) : (campaignEnd s).kept = s.kept := by
  simp [campaignEnd, foldl_kept, forEach_kept, ite_kept]
@[simp ↓] theorem endCampaign_kept (s : State) : (endCampaign s).kept = s.kept := by
  unfold endCampaign; (repeat' split) <;> simp
@[simp ↓] theorem stageVariants_kept (b : BitVec 48) (s : State) : (stageVariants b s).kept = s.kept := by
  unfold stageVariants; dsimp only; (repeat' split) <;> simp [foldl_kept, forEach_kept, ite_kept]
@[simp ↓] theorem partCampaign_kept (s : State) :
    (partCampaign s).kept = s.kept := by
  unfold partCampaign; split <;> simp
@[simp ↓] theorem abortCampaign_kept (b : BitVec 48) (s : State) : (abortCampaign b s).kept = s.kept := by
  simp [abortCampaign]
@[simp ↓] theorem dropStart_kept (s : State) (code : Nat) : (dropStart s code).kept = s.kept := by
  simp [dropStart, foldl_kept, forEach_kept, ite_kept]
@[simp ↓] theorem startGranted_kept (s : State) : (startGranted s).kept = s.kept := by
  simp [startGranted, foldl_kept, forEach_kept, ite_kept]
@[simp ↓] theorem vigilSettle_kept (s : State) : (vigilSettle s).kept = s.kept := by
  unfold vigilSettle; dsimp only; (repeat' split) <;> simp
@[simp ↓] theorem vigilBell_kept (d : Nat) (s : State) : (vigilBell d s).kept = s.kept := by
  unfold vigilBell; dsimp only; split
  · rw [vigilSettle_kept]; split
    · rw [nextTransform_kept, foldl_kept]; intro t z; split <;> simp
    · rfl
  · rfl
@[simp ↓] theorem vigilSwap_kept (d : Nat) (s : State) : (vigilSwap d s).kept = s.kept := by
  unfold vigilSwap; extract_lets; (repeat' split) <;> simp
@[simp ↓] theorem vigilLate_kept (d : Nat) (q : Nat) (s : State) : (vigilLate d q s).kept = s.kept := by
  unfold vigilLate; (repeat' split) <;> simp
@[simp ↓] theorem vigilRate_kept (d code : Nat) (s : State) : (vigilRate d code s).kept = s.kept := by
  unfold vigilRate; (repeat' split) <;> simp
@[simp ↓] theorem loseCampaign_kept (s : State) : (loseCampaign s).kept = s.kept := by
  simp [loseCampaign]
@[simp ↓] theorem vigilNoLeave_kept (s : State) : (vigilNoLeave s).kept = s.kept := by
  unfold vigilNoLeave; (repeat' split) <;> simp

end Sys2Proof.Machine
end

