-- ==== Sys2Proof/Laws/Kept2.lean ====
section
/-! SUPPORT. What the functions of Files, Steward, Dma, Seal, Task, Per, Duty, CmdVigil, CmdParam, Link, CmdRoute, Twin leave alone: the waiting commands and the
fuse array (the lemmas of State.kept). -/

set_option linter.unusedSimpArgs false

namespace Sys2Proof.Machine

/-! ### Files -/

@[simp ↓] theorem flashCmd_kept (m sel : Nat) (steps : List FlashStep) (work : FlashWork) (s : State) :
    (flashCmd m sel steps work s).kept = s.kept := by
  simp [flashCmd]
@[simp ↓] theorem modFile_kept (s : State) (k : Nat) (f : FileSt → FileSt) : (modFile s k f).kept = s.kept := by
  simp [modFile]
@[simp ↓] theorem refreshSlot_kept (n : Nat) (s : State) : (refreshSlot n s).kept = s.kept := by
  simp [refreshSlot]
@[simp ↓] theorem noteWritten_kept (k a : Nat) (s : State) :
    (noteWritten k a s).kept = s.kept := by
  unfold noteWritten; (repeat' split) <;> simp
@[simp ↓] theorem noteArea_kept (k : Nat) (st : FlashStep) (s : State) :
    (noteArea k st s).kept = s.kept := by
  unfold noteArea; split <;> simp
@[simp ↓] theorem doStep_kept (k : Nat) (st : FlashStep) (s : State) :
    (doStep k st s).kept = s.kept := by
  unfold doStep; split <;> simp
@[simp ↓] theorem cutStep_kept (k : Nat) (st : FlashStep) (s : State) :
    (cutStep k st s).kept = s.kept := by
  unfold cutStep; dsimp only; (repeat' split) <;> simp [foldl_kept, forEach_kept, ite_kept]
@[simp ↓] theorem modMsg_kept (s : State) (i : Nat) (f : Msg → Msg) : (modMsg s i f).kept = s.kept := by
  simp [modMsg]
@[simp ↓] theorem dropUnfinished_kept (s : State) : (dropUnfinished s).kept = s.kept := by
  simp [dropUnfinished]
@[simp ↓] theorem startMessage_kept (i rate : Nat) (s : State) : (startMessage i rate s).kept = s.kept := by
  simp [startMessage]
@[simp ↓] theorem finishMessage_kept (i len : Nat) (s : State) : (finishMessage i len s).kept = s.kept := by
  simp [finishMessage]
@[simp ↓] theorem segNoted_kept (op m : Nat) (s : State) :
    (segNoted op m s).kept = s.kept := by
  simp [segNoted]
@[simp ↓] theorem segProgram_kept (op m : Nat) (s : State) : (segProgram op m s).kept = s.kept := by
  unfold segProgram; dsimp only; (repeat' split) <;> simp
@[simp ↓] theorem segApply_kept (op m : Nat) (s : State) : (segApply op m s).kept = s.kept := by
  simp only [segApply, ite_kept, finishMessage_kept, segNoted_kept, turnDir_kept, ite_self]
@[simp ↓] theorem segReply_kept (op m : Nat) (s : State) : (segReply op m s).kept = s.kept := by
  simp [segReply]
@[simp ↓] theorem segRun_kept (op m : Nat) (s : State) : (segRun op m s).kept = s.kept := by
  unfold segRun; (repeat' split) <;> simp
@[simp ↓] theorem segSpoilt_kept (op m : Nat) (s : State) :
    (segSpoilt op m s).kept = s.kept := by
  rfl
@[simp ↓] theorem segErased_kept (op m : Nat) (s : State) :
    (segErased op m s).kept = s.kept := by
  unfold segErased; dsimp only; rw [modFile_kept]; split
  · rw [startMessage_kept, turnDir_kept]
  · simp [modTask]
  · rfl
@[simp ↓] theorem messageStatusRun_kept (m : Nat) (s : State) : (messageStatusRun m s).kept = s.kept := by
  unfold messageStatusRun; extract_lets; simp
@[simp ↓] theorem messageEraseDone_kept (m : Nat) (s : State) : (messageEraseDone m s).kept = s.kept := by
  unfold messageEraseDone; extract_lets; simp

/-! ### Steward -/

@[simp ↓] theorem modTslot_kept (s : State) (t : Nat) (f : TaskSlot → TaskSlot) : (modTslot s t f).kept = s.kept := by
  simp [modTslot]
@[simp ↓] theorem modSqueue_kept (s : State) (n : Nat) (f : SQueue → SQueue) : (modSqueue s n f).kept = s.kept := by
  simp [modSqueue]
@[simp ↓] theorem modSport_kept (s : State) (r : Nat) (f : StPort → StPort) : (modSport s r f).kept = s.kept := by
  simp [modSport]
@[simp ↓] theorem traceRec_kept (kind : Nat) (byDma : Bool) (r task other cause : Nat) (s : State) :
    (traceRec kind byDma r task other cause s).kept = s.kept := by
  unfold traceRec; extract_lets; (repeat' split) <;> simp
@[simp ↓] theorem newRound_kept (s : State) : (newRound s).kept = s.kept := by
  simp [newRound]
@[simp ↓] theorem chargeGroup_kept (g t : Nat) (s : State) : (chargeGroup g t s).kept = s.kept := by
  unfold chargeGroup; (repeat' split) <;> simp
@[simp ↓] theorem selectTask_kept (r : Nat) (s : State) : (selectTask r s).1.kept = s.kept := by
  unfold selectTask; (try dsimp only); (repeat' split) <;> simp
@[simp ↓] theorem dispatchTo_kept (r t old : Nat) (s : State) : (dispatchTo r t old s).kept = s.kept := by
  simp [dispatchTo]
@[simp ↓] theorem dispatch_kept (r old : Nat) (s : State) : (dispatch r old s).kept = s.kept := by
  unfold dispatch; (try dsimp only); split
  · split
    · rename_i h; rw [dispatchTo_kept]; have := selectTask_kept r (modReeve (modSport s r (fun p => { p with current := 0 })) r (fun x => { x with user := false, regions := [] })); rw [h] at this; rw [this]; simp
    · rename_i h; have := selectTask_kept r (modReeve (modSport s r (fun p => { p with current := 0 })) r (fun x => { x with user := false, regions := [] })); rw [h] at this; rw [this]; simp
  · simp
@[simp ↓] theorem preempt_kept (r t : Nat) (s : State) : (preempt r t s).kept = s.kept := by
  simp [preempt]
@[simp ↓] theorem placeIn_kept (n t : Nat) (s : State) : (placeIn n t s).kept = s.kept := by
  induction n generalizing t s with
  | zero => rfl
  | succ n ih => unfold placeIn; (repeat' split) <;> simp [ih]
@[simp ↓] theorem place_kept (t : Nat) (s : State) : (place t s).kept = s.kept := by
  unfold place; split <;> simp
@[simp ↓] theorem makeReady_kept (t cause : Nat) (wake : Option (Nat × Word)) (s : State) :
    (makeReady t cause wake s).kept = s.kept := by
  simp [makeReady]
@[simp ↓] theorem putFlags_kept (t : Nat) (fl : Word) (s : State) :
    (putFlags t fl s).kept = s.kept := by
  unfold putFlags; dsimp only; split <;> simp
@[simp ↓] theorem setFlags_kept (t : Nat) (f : Word) (s : State) : (setFlags t f s).kept = s.kept := by
  unfold setFlags; split <;> simp
@[simp ↓] theorem putDelay_kept (t n : Nat) (s : State) : (putDelay t n s).kept = s.kept := by
  simp [putDelay]
@[simp ↓] theorem stResult_kept (r st fill : Nat) (s : State) : (stResult r st fill s).kept = s.kept := by
  simp [stResult]
@[simp ↓] theorem stArgs_kept (r : Nat) (a b : Word) (s : State) : (stArgs r a b s).kept = s.kept := by
  simp [stArgs]
@[simp ↓] theorem opSetFlags_kept (r t : Nat) (f : Word) (s : State) : (opSetFlags r t f s).kept = s.kept := by
  unfold opSetFlags; (repeat' split) <;> simp
@[simp ↓] theorem blockOn_kept (r cause : Nat) (f : TaskSlot → TaskSlot) (s : State) :
    (blockOn r cause f s).kept = s.kept := by
  unfold blockOn; extract_lets; simp
@[simp ↓] theorem opWait_kept (r : Nat) (mask : Word) (all : Bool) (timeout : Nat) (s : State) :
    (opWait r mask all timeout s).kept = s.kept := by
  unfold opWait; extract_lets; (repeat' split) <;> simp
@[simp ↓] theorem opDelay_kept (r n : Nat) (s : State) : (opDelay r n s).kept = s.kept := by
  unfold opDelay; extract_lets; (repeat' split) <;> simp
@[simp ↓] theorem requeue_kept (r cause : Nat) (wake : Option (Nat × Word)) (s : State) :
    (requeue r cause wake s).kept = s.kept := by
  unfold requeue; extract_lets; simp
@[simp ↓] theorem opYield_kept (r : Nat) (s : State) : (opYield r s).kept = s.kept := by
  unfold opYield; (repeat' split) <;> simp
@[simp ↓] theorem queuePost_kept (n : Nat) (entry : BitVec 64) (byDma : Bool) (r who cause : Nat) (s : State) :
    (queuePost n entry byDma r who cause s).kept = s.kept := by
  unfold queuePost; dsimp only; (repeat' split) <;> simp
@[simp ↓] theorem opPost_kept (r n : Nat) (entry : BitVec 64) (s : State) : (opPost r n entry s).kept = s.kept := by
  unfold opPost; extract_lets; (repeat' split) <;> simp
@[simp ↓] theorem flushReplies_kept (n : Nat) (s : State) : (flushReplies n s).kept = s.kept := by
  unfold flushReplies; (repeat' split) <;> simp
@[simp ↓] theorem queueTake_kept (n : Nat) (s : State) :
    (queueTake n s).kept = s.kept := by
  unfold queueTake; dsimp only; split <;> simp
@[simp ↓] theorem opTake_kept (r n : Nat) (s : State) : (opTake r n s).kept = s.kept := by
  unfold opTake; extract_lets; (repeat' split) <;> simp
@[simp ↓] theorem unlist_kept (t : Nat) (s : State) : (unlist t s).kept = s.kept := by
  simp [unlist]
@[simp ↓] theorem takeOff_kept (t : Nat) (st : TState) (s : State) : (takeOff t st s).kept = s.kept := by
  unfold takeOff; dsimp only; (repeat' split) <;> simp
@[simp ↓] theorem opExit_kept (r : Nat) (s : State) : (opExit r s).kept = s.kept := by
  unfold opExit; extract_lets; (repeat' split) <;> simp
@[simp ↓] theorem opReady_kept (r t : Nat) (s : State) : (opReady r t s).kept = s.kept := by
  unfold opReady; extract_lets; (repeat' split) <;> simp
@[simp ↓] theorem opTakeOff_kept (r t : Nat) (st : TState) (s : State) : (opTakeOff r t st s).kept = s.kept := by
  unfold opTakeOff; (repeat' split) <;> simp
@[simp ↓] theorem portOp_kept (r : Nat) (op : State → State) (s : State) (h : ∀ t, (op t).kept = t.kept) :
    (portOp r op s).kept = s.kept := by
  unfold portOp; split <;> simp [h]
@[simp ↓] theorem expire_kept (t : Nat) (s : State) :
    (expire t s).kept = s.kept := by
  unfold expire; split <;> simp
@[simp ↓] theorem expireList_kept (l : List Nat) (s : State) :
    (expireList l s).kept = s.kept := by
  simp [expireList, foldl_kept]
@[simp ↓] theorem taskCfgWrite_kept (t i : Nat) (v : Word) (s : State) :
    (taskCfgWrite t i v s).kept = s.kept := by
  unfold taskCfgWrite; split <;> simp
@[simp ↓] theorem stewWrite_kept (r off : Nat) (v : Word) (s : State) : (stewWrite r off v s).kept = s.kept := by
  unfold stewWrite; (repeat' split) <;> simp

/-! ### Dma -/

@[simp ↓] theorem ctrlPut_kept (a : Nat) (v : Word) (s : State) : (ctrlPut a v s).kept = s.kept := by
  unfold ctrlPut; (repeat' split) <;> simp
@[simp ↓] theorem localPut_kept (r a : Nat) (v : Word) (s : State) : (localPut r a v s).kept = s.kept := by
  simp [localPut]
@[simp ↓] theorem modChan_kept (s : State) (c : Nat) (f : Chan → Chan) : (modChan s c f).kept = s.kept := by
  simp [modChan]
@[simp ↓] theorem modRing_kept (s : State) (n : Nat) (f : Ring → Ring) : (modRing s n f).kept = s.kept := by
  simp [modRing]
theorem dmaWrite_kept (c a : Nat) (v : Word) (s t : State) (h : dmaWrite c a v s = some t) : t.kept = s.kept := by
  unfold dmaWrite at h
  split at h
  · split at h
    · cases h; simp
    · cases h
  · cases h; simp
  · cases h; simp
@[simp ↓] theorem dmaBusErr_kept (a : Nat) (s : State) : (dmaBusErr a s).kept = s.kept := by
  unfold dmaBusErr; (repeat' split) <;> simp
@[simp ↓] theorem appendRecord_kept (c : Nat) (k : DmaRec) (s : State) : (appendRecord c k s).kept = s.kept := by
  simp [appendRecord, foldl_kept, forEach_kept, ite_kept]
@[simp ↓] theorem endChannel_kept (c status count : Nat) (offset : Word) (s : State) :
    (endChannel c status count offset s).kept = s.kept := by
  unfold endChannel; dsimp only; (repeat' split) <;> simp
@[simp ↓] theorem drainRing_kept (n : Nat) (s : State) : (drainRing n s).kept = s.kept := by
  unfold drainRing; rw [foldl_kept]; intro t c; (try dsimp only); (repeat' split) <;> simp
@[simp ↓] theorem moveWord_kept (c i : Nat) (s : State) : (moveWord c i s).1.kept = s.kept := by
  unfold moveWord; dsimp only
  (repeat' split) <;> first | (simp; done) | (dsimp only; exact dmaWrite_kept _ _ _ _ _ ‹_›)
@[simp ↓] theorem postBlock_kept (c : Nat) (s : State) : (postBlock c s).kept = s.kept := by
  unfold postBlock; dsimp only; (repeat' split) <;> simp
@[simp ↓] theorem pump_kept (c n : Nat) (s : State) : (pump c n s).kept = s.kept := by
  induction n generalizing s with
  | zero => simp [pump]
  | succ n ih => unfold pump; (try dsimp only); (repeat' split) <;> simp [ih]
@[simp ↓] theorem runWords_kept (c : Nat) (s : State) : (runWords c s).kept = s.kept := by
  unfold runWords; rw [pump_kept]
@[simp ↓] theorem startChannel_kept (c : Nat) (s : State) : (startChannel c s).kept = s.kept := by
  unfold startChannel; dsimp only; (repeat' split) <;> simp
@[simp ↓] theorem stopPoint_kept (c : Nat) (s : State) :
    (stopPoint c s).kept = s.kept := by
  unfold stopPoint; dsimp only; (repeat' split) <;> simp [foldl_kept, forEach_kept, ite_kept]
@[simp ↓] theorem stopChannel_kept (c : Nat) (s : State) : (stopChannel c s).kept = s.kept := by
  unfold stopChannel; (try dsimp only); (repeat' split) <;> simp
@[simp ↓] theorem writeCtl_kept (c : Nat) (v : Word) (s : State) : (writeCtl c v s).kept = s.kept := by
  unfold writeCtl; (repeat' split) <;> simp
@[simp ↓] theorem stopAllDma_kept (s : State) : (stopAllDma s).kept = s.kept := by
  simp [stopAllDma, foldl_kept, forEach_kept, ite_kept]
@[simp ↓] theorem rdWrite_kept (n rd : Nat) (s : State) :
    (rdWrite n rd s).kept = s.kept := by
  unfold rdWrite; split <;> simp
@[simp ↓] theorem ringWrite_kept (n i : Nat) (v : Word) (s : State) : (ringWrite n i v s).kept = s.kept := by
  unfold ringWrite; extract_lets; (repeat' split) <;> simp
@[simp ↓] theorem dmaRegWrite_kept (r off : Nat) (v : Word) (s : State) : (dmaRegWrite r off v s).kept = s.kept := by
  unfold dmaRegWrite; extract_lets; (repeat' split) <;> simp

/-! ### Seal -/

@[simp ↓] theorem ctrlPutByte_kept (a : Nat) (v : BitVec 8) (s : State) : (ctrlPutByte a v s).kept = s.kept := by
  unfold ctrlPutByte; extract_lets; simp
@[simp ↓] theorem ctrlPutBytes_kept (a : Nat) (bs : List (BitVec 8)) (s : State) :
    (ctrlPutBytes a bs s).kept = s.kept := by
  simp [ctrlPutBytes, foldl_kept, forEach_kept, ite_kept]
@[simp ↓] theorem sealObject_kept (purpose svn : Nat) (plain : List (BitVec 8)) (s : State) :
    (sealObject purpose svn plain s).2.kept = s.kept := by
  simp [sealObject]
@[simp ↓] theorem makeWakeSeal_kept (base len : Nat) (s : State) : (makeWakeSeal base len s).kept = s.kept := by
  simp [makeWakeSeal]
@[simp ↓] theorem greqGo_kept (op purpose svn src dst len : Nat) (s : State) :
    (greqGo op purpose svn src dst len s).kept = s.kept := by
  unfold greqGo; (repeat' split) <;> simp
@[simp ↓] theorem greqWork_kept (job : List Nat) (s : State) : (greqWork job s).1.kept = s.kept := by
  unfold greqWork; dsimp only; (repeat' split) <;> simp
@[simp ↓] theorem greqEnd_kept (s : State) : (greqEnd s).kept = s.kept := by
  simp [greqEnd]
@[simp ↓] theorem greqWrite_kept (i : Nat) (v : Word) (s : State) : (greqWrite i v s).kept = s.kept := by
  unfold greqWrite; (repeat' split) <;> simp

/-! ### Task -/

@[simp ↓] theorem modTask_kept (s : State) (i : Nat) (f : Task → Task) : (modTask s i f).kept = s.kept := by
  simp [modTask]
@[simp ↓] theorem installTask_kept (m i : Nat) (s : State) : (installTask m i s).kept = s.kept := by
  unfold installTask; dsimp only; (repeat' split) <;> simp
@[simp ↓] theorem taskInstallDone_kept (m : Nat) (s : State) : (taskInstallDone m s).kept = s.kept := by
  unfold taskInstallDone; dsimp only; (repeat' split) <;> simp
@[simp ↓] theorem lendChannels_kept (k : Task) (s : State) : (lendChannels k s).kept = s.kept := by
  simp [lendChannels, foldl_kept, forEach_kept, ite_kept]
@[simp ↓] theorem lendQueues_kept (k : Task) (on : Bool) (s : State) : (lendQueues k on s).kept = s.kept := by
  simp [lendQueues, foldl_kept, forEach_kept, ite_kept]
@[simp ↓] theorem loadTask_kept (i : Nat) (k : Task) (s : State) : (loadTask i k s).kept = s.kept := by
  simp [loadTask, foldl_kept, forEach_kept, ite_kept]
@[simp ↓] theorem releaseTaskReeves_kept (s : State) :
    (releaseTaskReeves s).kept = s.kept := by
  unfold releaseTaskReeves; refine forEach_kept _ _ _ (fun t r => ?_); split <;> simp
@[simp ↓] theorem runTask_kept (i : Nat) (k : Task) (s : State) : (runTask i k s).kept = s.kept := by
  unfold runTask; dsimp only; (repeat' split) <;> simp
@[simp ↓] theorem dropChannel_kept (c : Nat) (s : State) : (dropChannel c s).kept = s.kept := by
  unfold dropChannel; dsimp only; split <;> simp
@[simp ↓] theorem stopTask_kept (i st : Nat) (s : State) : (stopTask i st s).kept = s.kept := by
  simp [stopTask, foldl_kept, forEach_kept, ite_kept]
@[simp ↓] theorem stopTasks_kept (s : State) : (stopTasks s).kept = s.kept := by
  simp [stopTasks, foldl_kept, forEach_kept, ite_kept]
@[simp ↓] theorem startAuto_kept (s : State) : (startAuto s).kept = s.kept := by
  unfold startAuto; rw [foldl_kept]; intro t e; (repeat' split) <;> simp
@[simp ↓] theorem taskStartRun_kept (m : Nat) (s : State) : (taskStartRun m s).kept = s.kept := by
  unfold taskStartRun; (repeat' split) <;> simp
@[simp ↓] theorem taskStopRun_kept (m : Nat) (s : State) : (taskStopRun m s).kept = s.kept := by
  unfold taskStopRun; (repeat' split) <;> simp
@[simp ↓] theorem taskRemoveRun_kept (m : Nat) (s : State) : (taskRemoveRun m s).kept = s.kept := by
  unfold taskRemoveRun; (repeat' split) <;> simp
@[simp ↓] theorem taskRemoveDone_kept (m : Nat) (s : State) : (taskRemoveDone m s).kept = s.kept := by
  unfold taskRemoveDone; (repeat' split) <;> simp
@[simp ↓] theorem taskStatusRun_kept (m : Nat) (s : State) : (taskStatusRun m s).kept = s.kept := by
  unfold taskStatusRun; extract_lets; simp
@[simp ↓] theorem taskFault_kept (r addr : Nat) (s : State) : (taskFault r addr s).kept = s.kept := by
  unfold taskFault; (repeat' split) <;> simp
@[simp ↓] theorem traceConfigRun_kept (m : Nat) (s : State) : (traceConfigRun m s).kept = s.kept := by
  simp [traceConfigRun]
@[simp ↓] theorem traceReadRun_kept (m : Nat) (s : State) : (traceReadRun m s).kept = s.kept := by
  unfold traceReadRun; extract_lets; simp

/-! ### Per -/

@[simp ↓] theorem addTicket_kept (t : Ticket) (s : State) : (addTicket t s).kept = s.kept := by
  simp [addTicket]
@[simp ↓] theorem replyTask_kept (kind status replyQ seq : Nat) (res : Word) (s : State) :
    (replyTask kind status replyQ seq res s).kept = s.kept := by
  unfold replyTask; extract_lets; (repeat' split) <;> simp
@[simp ↓] theorem endTicket_kept (st : Nat) (s : State) : (endTicket st s).kept = s.kept := by
  unfold endTicket; (repeat' split) <;> simp
@[simp ↓] theorem modHead_kept (f : Ticket → Ticket) (s : State) : (modHead f s).kept = s.kept := by
  simp [modHead]
@[simp ↓] theorem entryStart_kept (idleUs : Nat) (s : State) : (entryStart idleUs s).kept = s.kept := by
  unfold entryStart; (repeat' split) <;> simp
@[simp ↓] theorem breakEntry_kept (st : Nat) (miso : List Word) (s : State) :
    (breakEntry st miso s).kept = s.kept := by
  unfold breakEntry; (repeat' split) <;> simp
@[simp ↓] theorem entryDone_kept (miso : List Word) (s : State) : (entryDone miso s).kept = s.kept := by
  unfold entryDone; (repeat' split) <;> simp
@[simp ↓] theorem cancelTickets_kept (s : State) : (cancelTickets s).kept = s.kept := by
  simp [cancelTickets, foldl_kept, forEach_kept, ite_kept]
@[simp ↓] theorem cancelQueued_kept (x : Ticket) (s : State) :
    (cancelQueued x s).kept = s.kept := by
  unfold cancelQueued; dsimp only; split <;> simp
@[simp ↓] theorem quietPort_kept (s : State) :
    (quietPort s).kept = s.kept := by
  unfold quietPort; split <;> simp [foldl_kept]
@[simp ↓] theorem perConfigRun_kept (m : Nat) (s : State) : (perConfigRun m s).kept = s.kept := by
  simp [perConfigRun]
@[simp ↓] theorem perSubmitRun_kept (m : Nat) (s : State) : (perSubmitRun m s).kept = s.kept := by
  simp [perSubmitRun]
@[simp ↓] theorem perResultRun_kept (m : Nat) (s : State) : (perResultRun m s).kept = s.kept := by
  unfold perResultRun; (repeat' split) <;> simp
@[simp ↓] theorem perCancelRun_kept (m : Nat) (s : State) : (perCancelRun m s).kept = s.kept := by
  unfold perCancelRun; extract_lets; (repeat' split) <;> simp
@[simp ↓] theorem takeRequest_kept (e : BitVec 64) (s : State) : (takeRequest e s).kept = s.kept := by
  unfold takeRequest; (repeat' split) <;> simp
@[simp ↓] theorem extRequest_kept (kind : Nat) (t replyQ seq : Nat) (addr : Word) (need : Nat)
    (f : Nat → Task → State → State × Nat × Word) (s : State) (h : ∀ i k u, (f i k u).1.kept = u.kept) :
    (extRequest kind t replyQ seq addr need f s).kept = s.kept := by
  unfold extRequest; (try dsimp only); (repeat' split) <;> simp [h]
@[simp ↓] theorem extPer_kept (t replyQ seq a : Nat) (u0 : Nat) (k : Task) (s : State) :
    (extPer t replyQ seq a u0 k s).1.kept = s.kept := by
  unfold extPer; extract_lets; (repeat' split) <;> simp
@[simp ↓] theorem extEvent_kept (a : Nat) (u0 : Nat) (k : Task) (s : State) :
    (extEvent a u0 k s).1.kept = s.kept := by
  simp [extEvent]
@[simp ↓] theorem extSealWork_kept (a : Nat) (u0 : Nat) (k : Task) (s : State) :
    (extSealWork a u0 k s).1.kept = s.kept := by
  unfold extSealWork; dsimp only; (repeat' split) <;> simp
@[simp ↓] theorem extOpenWork_kept (a : Nat) (u0 : Nat) (k : Task) (s : State) :
    (extOpenWork a u0 k s).1.kept = s.kept := by
  unfold extOpenWork; extract_lets; (repeat' split) <;> simp
@[simp ↓] theorem storeWork_kept (t replyQ seq a : Nat) (i : Nat) (k : Task) (s : State) :
    (storeWork t replyQ seq a i k s).1.kept = s.kept := by
  unfold storeWork; extract_lets; (repeat' split) <;> simp
@[simp ↓] theorem storeDone_kept (t replyQ seq len half : Nat) (ok : Bool) (s : State) :
    (storeDone t replyQ seq len half ok s).kept = s.kept := by
  unfold storeDone; split <;> (try split) <;> simp
@[simp ↓] theorem loadWork_kept (a : Nat) (i : Nat) (k : Task) (s : State) : (loadWork a i k s).1.kept = s.kept := by
  unfold loadWork; extract_lets; (repeat' split) <;> simp

/-! ### Duty -/

@[simp ↓] theorem beginWake_kept (s : State) : (beginWake s).kept = s.kept := by
  unfold beginWake; (repeat' split) <;> simp
@[simp ↓] theorem stopSleep_kept (s : State) :
    (stopSleep s).kept = s.kept := by
  rfl
@[simp ↓] theorem alarmSleep_kept (s : State) :
    (alarmSleep s).kept = s.kept := by
  unfold alarmSleep; split <;> simp
@[simp ↓] theorem crierActivated_kept (s : State) : (crierActivated s).kept = s.kept := by
  unfold crierActivated; dsimp only; (repeat' split) <;> simp
@[simp ↓] theorem alarmCame_kept (s : State) :
    (alarmCame s).kept = s.kept := by
  simp [alarmCame]
@[simp ↓] theorem crierStep_kept (f : Crier → Crier) (s : State) : (crierStep f s).kept = s.kept := by
  unfold crierStep; dsimp only; (repeat' split) <;> simp
@[simp ↓] theorem internalTrigger_kept (k : Internal) (s : State) : (internalTrigger k s).kept = s.kept := by
  unfold internalTrigger; (repeat' split) <;> simp
@[simp ↓] theorem dropPair_kept (s : State) :
    (dropPair s).kept = s.kept := by
  rfl
@[simp ↓] theorem becomeSingle_kept (s : State) : (becomeSingle s).kept = s.kept := by
  unfold becomeSingle; split <;> simp
@[simp ↓] theorem handoverLost_kept (s : State) : (handoverLost s).kept = s.kept := by
  simp [handoverLost]
@[simp ↓] theorem tailFrames_kept (d : Nat) (s : State) :
    (tailFrames d s).kept = s.kept := by
  simp [tailFrames, forEach_kept]
@[simp ↓] theorem dropFrames_kept (s : State) :
    (dropFrames s).kept = s.kept := by
  simp [dropFrames, forEach_kept]
@[simp ↓] theorem handOver_kept (d : Nat) (s : State) :
    (handOver d s).kept = s.kept := by
  simp [handOver]
@[simp ↓] theorem startHandover_kept (d : Option Nat) (s : State) : (startHandover d s).kept = s.kept := by
  unfold startHandover; (repeat' split) <;> simp
@[simp ↓] theorem takePlan_kept (s : State) : (takePlan s).kept = s.kept := by
  unfold takePlan; dsimp only; (repeat' split) <;> simp [foldl_kept, forEach_kept, ite_kept]
@[simp ↓] theorem takeover_kept (d : Nat) (byHandover : Bool) (s : State) :
    (takeover d byHandover s).kept = s.kept := by
  unfold takeover; dsimp only; (repeat' split) <;> simp
@[simp ↓] theorem outOfStep_kept (d : Nat) (b : BitVec 48) (s : State) : (outOfStep d b s).kept = s.kept := by
  simp [outOfStep]
@[simp ↓] theorem armFailed_kept (code : Nat) (s : State) (d : Nat) : (armFailed code s d).kept = s.kept := by
  unfold armFailed; split <;> simp
@[simp ↓] theorem haltQuerns_kept (s : State) : (haltQuerns s).kept = s.kept := by
  simp [haltQuerns, foldl_kept, forEach_kept, ite_kept]
@[simp ↓] theorem dropArmed_kept (s : State) : (dropArmed s).kept = s.kept := by
  simp [dropArmed, foldl_kept, forEach_kept, ite_kept, -modDom_eq, -modGate_eq, -modAon_eq, -modReeve_eq, -modFaults_eq, -modJex_eq]
@[simp ↓] theorem haltReeves_kept (halt : Bool) (s : State) : (haltReeves halt s).kept = s.kept := by
  unfold haltReeves; (repeat' split) <;> simp
@[simp ↓] theorem enterFallback_kept (halt : Bool) (s : State) : (enterFallback halt s).kept = s.kept := by
  unfold enterFallback; dsimp only; (repeat' split) <;> simp

/-! ### CmdVigil -/

@[simp ↓] theorem planAfter_kept (m : Nat) (s : State) : (planAfter m s).kept = s.kept := by
  unfold planAfter; extract_lets; simp
@[simp ↓] theorem planWriteRun_kept (m : Nat) (s : State) : (planWriteRun m s).kept = s.kept := by
  simp [planWriteRun]
@[simp ↓] theorem planReadRun_kept (m : Nat) (s : State) : (planReadRun m s).kept = s.kept := by
  unfold planReadRun; extract_lets; simp
@[simp ↓] theorem vigilStartRun_kept (m : Nat) (s : State) : (vigilStartRun m s).kept = s.kept := by
  unfold vigilStartRun; (repeat' split) <;> simp
@[simp ↓] theorem vigilAbortRun_kept (m since : Nat) (s : State) : (vigilAbortRun m since s).kept = s.kept := by
  unfold vigilAbortRun; (repeat' split) <;> simp
@[simp ↓] theorem vigilStatusRun_kept (m : Nat) (s : State) : (vigilStatusRun m s).kept = s.kept := by
  simp [vigilStatusRun]
@[simp ↓] theorem resultReadRun_kept (m : Nat) (s : State) : (resultReadRun m s).kept = s.kept := by
  unfold resultReadRun; (repeat' split) <;> simp
@[simp ↓] theorem baselineReadRun_kept (m : Nat) (s : State) : (baselineReadRun m s).kept = s.kept := by
  unfold baselineReadRun; extract_lets; simp
@[simp ↓] theorem baselineRun_kept (m : Nat) (s : State) : (baselineRun m s).kept = s.kept := by
  simp [baselineRun]
@[simp ↓] theorem baselineDone_kept (m : Nat) (s : State) : (baselineDone m s).kept = s.kept := by
  unfold baselineDone; extract_lets; simp

@[simp ↓] theorem journalDone_kept (s : State) :
    (journalDone s).kept = s.kept := by
  rfl
/-! ### CmdParam -/

@[simp ↓] theorem paramSetOpenRun_kept (m : Nat) (s : State) : (paramSetOpenRun m s).kept = s.kept := by
  unfold paramSetOpenRun; (repeat' split) <;> simp
@[simp ↓] theorem stageInto_kept (n : Nat) (vs : List StagedVal) (s : State) : (stageInto n vs s).kept = s.kept := by
  simp [stageInto, foldl_kept, forEach_kept, ite_kept]
@[simp ↓] theorem peerStage_kept (n : Nat) (v : StagedVal) (s : State) : (peerStage n v s).kept = s.kept := by
  simp [peerStage, foldl_kept, forEach_kept, ite_kept]
@[simp ↓] theorem peerGo_kept (s : State) : (peerGo s).kept = s.kept := by
  simp [peerGo, foldl_kept, forEach_kept, ite_kept]
@[simp ↓] theorem paramStageNow_kept (m : Nat) (s : State) : (paramStageNow m s).kept = s.kept := by
  unfold paramStageNow; (repeat' split) <;> simp
@[simp ↓] theorem paramStageRun_kept (m : Nat) (s : State) : (paramStageRun m s).kept = s.kept := by
  unfold paramStageRun; (repeat' split) <;> simp
@[simp ↓] theorem mergeOwn_kept (d k : Nat) (b : BitVec 48) (claims : List Nat) (s : State) :
    (mergeOwn d k b claims s).kept = s.kept := by
  simp [mergeOwn, forEach_kept, ite_kept]
@[simp ↓] theorem armSet_kept (n k : Nat) (next : Bool) (b : BitVec 48) (s : State) :
    (armSet n k next b s).kept = s.kept := by
  unfold armSet; dsimp only; split <;> simp
@[simp ↓] theorem paramCommitRun_kept (m since : Nat) (s : State) : (paramCommitRun m since s).kept = s.kept := by
  unfold paramCommitRun; extract_lets; (repeat' split) <;> simp
@[simp ↓] theorem commitAnswered_kept (n : Nat) (ok : Bool) (s : State) : (commitAnswered n ok s).kept = s.kept := by
  unfold commitAnswered; dsimp only; (repeat' split) <;> simp
@[simp ↓] theorem paramDiscardRun_kept (m : Nat) (s : State) : (paramDiscardRun m s).kept = s.kept := by
  simp [paramDiscardRun]
@[simp ↓] theorem paramReadRun_kept (m : Nat) (s : State) : (paramReadRun m s).kept = s.kept := by
  unfold paramReadRun; extract_lets; (repeat' split) <;> simp
@[simp ↓] theorem paramSetStatusRun_kept (m : Nat) (s : State) : (paramSetStatusRun m s).kept = s.kept := by
  unfold paramSetStatusRun; dsimp only; (repeat' split) <;> simp
@[simp ↓] theorem meterReadRun_kept (m : Nat) (s : State) : (meterReadRun m s).kept = s.kept := by
  unfold meterReadRun; extract_lets; simp

/-! ### Link -/

@[simp ↓] theorem keepDigest_kept (d : Nat) (s : State) : (keepDigest d s).kept = s.kept := by
  simp [keepDigest]
@[simp ↓] theorem putFrame_kept (d : Nat) (ws : List Word) (s : State) : (putFrame d ws s).kept = s.kept := by
  simp [putFrame]
@[simp ↓] theorem sendFrame_kept (d : Nat) (s : State) : (sendFrame d s).kept = s.kept := by
  unfold sendFrame; (repeat' split) <;> simp

/-! ### CmdRoute -/

@[simp ↓] theorem dropPending_kept (d : Nat) (s : State) : (dropPending d s).kept = s.kept := by
  simp [dropPending, foldl_kept, forEach_kept, ite_kept]
@[simp ↓] theorem dropSync_kept (d : Nat) (s : State) : (dropSync d s).kept = s.kept := by
  simp [dropSync]
@[simp ↓] theorem disableDomain_kept (d : Nat) (s : State) : (disableDomain d s).kept = s.kept := by
  simp [disableDomain, foldl_kept, forEach_kept, ite_kept]
@[simp ↓] theorem enableDomain_kept (d rate src grp : Nat) (s : State) :
    (enableDomain d rate src grp s).kept = s.kept := by
  simp [enableDomain]
@[simp ↓] theorem setDomCfg_kept (d : Nat) (w : Word) (s : State) : (setDomCfg d w s).kept = s.kept := by
  unfold setDomCfg; dsimp only; (repeat' split) <;> simp
@[simp ↓] theorem domainConfigRun_kept (m : Nat) (s : State) : (domainConfigRun m s).kept = s.kept := by
  simp [domainConfigRun]
@[simp ↓] theorem routeInputNow_kept (m : Nat) (s : State) : (routeInputNow m s).kept = s.kept := by
  simp [routeInputNow]
@[simp ↓] theorem routeOutputNow_kept (m : Nat) (s : State) : (routeOutputNow m s).kept = s.kept := by
  unfold routeOutputNow; extract_lets; simp
@[simp ↓] theorem stileWriteNow_kept (m : Nat) (s : State) : (stileWriteNow m s).kept = s.kept := by
  simp [stileWriteNow]
@[simp ↓] theorem detourWriteNow_kept (m : Nat) (s : State) : (detourWriteNow m s).kept = s.kept := by
  simp [detourWriteNow]
@[simp ↓] theorem routeSwapNow_kept (m : Nat) (h : HeldSwap) (s : State) :
    (routeSwapNow m h s).kept = s.kept := by
  unfold routeSwapNow; extract_lets; simp
@[simp ↓] theorem detourControlNow_kept (m : Nat) (s : State) : (detourControlNow m s).kept = s.kept := by
  unfold detourControlNow; dsimp only; (repeat' split) <;> simp
@[simp ↓] theorem detourReplies_kept (d : Nat) (s : State) : (detourReplies d s).kept = s.kept := by
  simp [detourReplies, foldl_kept, forEach_kept, ite_kept]
@[simp ↓] theorem routeNow_kept (m : Nat) (h : HeldSwap) (s : State) :
    (routeNow m h s).kept = s.kept := by
  unfold routeNow; dsimp only; (repeat' split) <;> simp
@[simp ↓] theorem routeRun_kept (m since : Nat) (s : State) : (routeRun m since s).kept = s.kept := by
  unfold routeRun; (repeat' split) <;> simp
@[simp ↓] theorem routeCopy_kept (d : Nat) (s : State) : (routeCopy d s).kept = s.kept := by
  unfold routeCopy; extract_lets; simp
/-! ### Twin -/

@[simp ↓] theorem modPeer_kept (s : State) (d : Nat) (f : Peer → Peer) : (modPeer s d f).kept = s.kept := by
  simp [modPeer]
@[simp ↓] theorem packetIn_kept (crcOk : Bool) (f : State → State) (s : State) (h : ∀ t, (f t).kept = t.kept) :
    (packetIn crcOk f s).kept = s.kept := by
  unfold packetIn; (repeat' split) <;> simp [h]
@[simp ↓] theorem framesLost_kept (d : Nat) (s : State) : (framesLost d s).kept = s.kept := by
  unfold framesLost; (repeat' split) <;> simp
@[simp ↓] theorem countMissing_kept (d n : Nat) (marker : Bool) (s : State) :
    (countMissing d n marker s).kept = s.kept := by
  unfold countMissing; dsimp only; (repeat' split) <;> simp
@[simp ↓] theorem handoverEdge_kept (h : Handover) (s : State) : (handoverEdge h s).kept = s.kept := by
  unfold handoverEdge; (repeat' split) <;> simp
@[simp ↓] theorem handoverBell_kept (d : Nat) (s : State) : (handoverBell d s).kept = s.kept := by
  unfold handoverBell; (repeat' split) <;> simp
@[simp ↓] theorem unmatched_kept (d : Nat) (b : BitVec 48) (s : State) : (unmatched d b s).kept = s.kept := by
  simp [unmatched, foldl_kept, forEach_kept, ite_kept]
@[simp ↓] theorem partnerCommit_kept (d since : Nat) (ws : List Word) (s : State) :
    (partnerCommit d since ws s).kept = s.kept := by
  unfold partnerCommit; extract_lets; (repeat' split) <;> simp
@[simp ↓] theorem partnerRoute_kept (d since : Nat) (ws : List Word) (s : State) :
    (partnerRoute d since ws s).kept = s.kept := by
  simp [partnerRoute, foldl_kept, forEach_kept, ite_kept]
@[simp ↓] theorem partnerStart_kept (d : Nat) (ws : List Word) (s : State) : (partnerStart d ws s).kept = s.kept := by
  simp [partnerStart, foldl_kept, forEach_kept, ite_kept]
@[simp ↓] theorem partnerSwap_kept (d : Nat) (ws : List Word) (s : State) : (partnerSwap d ws s).kept = s.kept := by
  unfold partnerSwap; dsimp only; (repeat' split) <;> simp [foldl_kept, forEach_kept, ite_kept]
@[simp ↓] theorem applyRecord_kept (d since kind : Nat) (ws : List Word) (s : State) :
    (applyRecord d since kind ws s).kept = s.kept := by
  unfold applyRecord; (repeat' split) <;> simp
theorem applyRecords_kept (d since n : Nat) (ws : List Word) (s : State) :
    (applyRecords d since n ws s).kept = s.kept := by
  induction n generalizing ws s with
  | zero => simp [applyRecords]
  | succ n ih => cases ws with
    | nil => simp [applyRecords]
    | cons h t => simp only [applyRecords]; rw [ih]; simp
@[simp ↓] theorem noteFrame_kept (d : Nat) (ws : List Word) (s : State) : (noteFrame d ws s).kept = s.kept := by
  unfold noteFrame; extract_lets; simp
@[simp ↓] theorem noteMirror_kept (d : Nat) (ws : List Word) (s : State) : (noteMirror d ws s).kept = s.kept := by
  unfold noteMirror; extract_lets; (repeat' split) <;> simp
@[simp ↓] theorem compareDigest_kept (d : Nat) (ws : List Word) (s : State) :
    (compareDigest d ws s).kept = s.kept := by
  unfold compareDigest; dsimp only; (repeat' split) <;> simp
@[simp ↓] theorem lateHandover_kept (d : Nat) (ws : List Word) (s : State) : (lateHandover d ws s).kept = s.kept := by
  unfold lateHandover; dsimp only; (repeat' split) <;> simp
@[simp ↓] theorem joined_kept (m : Nat) (s : State) : (joined m s).kept = s.kept := by
  simp [joined]
@[simp ↓] theorem armedDuty_kept (s : State) : (armedDuty s).kept = s.kept := by
  simp [armedDuty]
@[simp ↓] theorem armEnd_kept (d : Nat) (s : State) : (armEnd d s).kept = s.kept := by
  unfold armEnd; (repeat' split) <;> simp
@[simp ↓] theorem takeFrame_kept (d since : Nat) (ws : List Word) (s : State) :
    (takeFrame d since ws s).kept = s.kept := by
  unfold takeFrame; (try dsimp only); (repeat' split) <;> simp [applyRecords_kept]
@[simp ↓] theorem takeCopyBanks_kept (s : State) : (takeCopyBanks s).kept = s.kept := by
  simp [takeCopyBanks, foldl_kept, forEach_kept, ite_kept]
@[simp ↓] theorem pauseQuerns_kept (s : State) : (pauseQuerns s).kept = s.kept := by
  simp [pauseQuerns]
@[simp ↓] theorem beginCopy_kept (s : State) : (beginCopy s).kept = s.kept := by
  simp [beginCopy]
@[simp ↓] theorem startCopy_kept (s : State) : (startCopy s).kept = s.kept := by
  simp [startCopy, foldl_kept, forEach_kept, ite_kept]
@[simp ↓] theorem armSettle_kept (s : State) : (armSettle s).kept = s.kept := by
  unfold armSettle; (repeat' split) <;> simp
@[simp ↓] theorem attemptFailed_kept (s : State) : (attemptFailed s).kept = s.kept := by
  unfold attemptFailed; (repeat' split) <;> simp
@[simp ↓] theorem twinStatusRun_kept (m : Nat) (s : State) : (twinStatusRun m s).kept = s.kept := by
  unfold twinStatusRun; extract_lets; simp
@[simp ↓] theorem twinArmRun_kept (m : Nat) (s : State) : (twinArmRun m s).kept = s.kept := by
  simp [twinArmRun]
@[simp ↓] theorem twinDisarmRun_kept (m : Nat) (s : State) : (twinDisarmRun m s).kept = s.kept := by
  unfold twinDisarmRun; dsimp only; (repeat' split) <;> simp
@[simp ↓] theorem twinHandoverRun_kept (m : Nat) (s : State) : (twinHandoverRun m s).kept = s.kept := by
  simp [twinHandoverRun]
@[simp ↓] theorem twinConfigRun_kept (m : Nat) (s : State) : (twinConfigRun m s).kept = s.kept := by
  unfold twinConfigRun; dsimp only; (repeat' split) <;> simp [foldl_kept, forEach_kept, ite_kept]

end Sys2Proof.Machine
end

