-- ==== Sys2Proof/Laws/Kept3.lean ====
section
/-! SUPPORT. What the functions of Service, QuernCtl, QuernDelay, Pass, Bell, Image, CmdPorts, CmdService, SysCfg, Boot, CrierRows, Debug, System, Power, Fault, Recovery, Settle, Tick, Window, HostIf, RegRows, RegWrite leave alone: the waiting commands and the
fuse array (the lemmas of State.kept). -/

set_option linter.unusedSimpArgs false

namespace Sys2Proof.Machine

/-! ### Service -/

@[simp ↓] theorem modSvcZone_kept (s : State) (z : Nat) (f : Zone → Zone) : (modSvcZone s z f).kept = s.kept := by
  simp [modSvcZone]
@[simp ↓] theorem modSource_kept (s : State) (i : Nat) (f : Source → Source) : (modSource s i f).kept = s.kept := by
  simp [modSource]
@[simp ↓] theorem modAnn_kept (s : State) (id : Nat) (f : Ann → Ann) : (modAnn s id f).kept = s.kept := by
  simp [modAnn]
@[simp ↓] theorem putAhead_kept (e b : Nat) (v : Sample) (s : State) : (putAhead e b v s).kept = s.kept := by
  unfold putAhead; extract_lets; (repeat' split) <;> simp
@[simp ↓] theorem fillLine_kept (i done zeroTo : Nat) (a : Ann) (s : State) :
    (fillLine i done zeroTo a s).kept = s.kept := by
  simp [fillLine, foldl_kept, forEach_kept, ite_kept]
@[simp ↓] theorem noteStart_kept (id : Nat) (s : State) :
    (noteStart id s).kept = s.kept := by
  unfold noteStart; split <;> (try split) <;> simp [foldl_kept]
@[simp ↓] theorem muteBy_kept (b : BitVec 48) (prio : Nat) (p : VZone → Bool) (s : State) :
    (muteBy b prio p s).kept = s.kept := by
  unfold muteBy; dsimp only; split <;> simp
@[simp ↓] theorem abortFor_kept (z : Nat) (o : Option Nat) (b : BitVec 48) (s : State) :
    (abortFor z o b s).kept = s.kept := by
  unfold abortFor; (repeat' split) <;> simp
@[simp ↓] theorem armChimeEnd_kept (a : Ann) (z : Nat) (b : BitVec 48) (s : State) :
    (armChimeEnd a z b s).kept = s.kept := by
  simp [armChimeEnd]
@[simp ↓] theorem stateSecond_kept (z : Nat) (b : BitVec 48) (s : State) : (stateSecond z b s).kept = s.kept := by
  unfold stateSecond; dsimp only; rw [abortFor_kept]
  have h : ∀ (o : Option Nat) (t : State), (match o with | some id => noteStart id t | none => t).kept = t.kept := by
    intro o t; cases o <;> simp
  (repeat' split) <;> simp [h]
@[simp ↓] theorem startSwitch_kept (z : Nat) (o : Option Nat) (b : BitVec 48) (s : State) :
    (startSwitch z o b s).kept = s.kept := by
  unfold startSwitch; dsimp only; (repeat' split) <;> simp
@[simp ↓] theorem postPreempted_kept (id z : Nat) (winId : Option Nat) (s : State) :
    (postPreempted id z winId s).kept = s.kept := by
  simp [postPreempted]
@[simp ↓] theorem loseZone_kept (z : Nat) (o w : Option Nat) (s : State) : (loseZone z o w s).kept = s.kept := by
  unfold loseZone; (repeat' split) <;> simp
@[simp ↓] theorem dropSwitch_kept (z : Nat) (onlySecond : Bool) (s : State) :
    (dropSwitch z onlySecond s).kept = s.kept := by
  simp [dropSwitch]
@[simp ↓] theorem replaceSecond_kept (z : Nat) (w : Option Nat) (b : BitVec 48) (s : State) :
    (replaceSecond z w b s).kept = s.kept := by
  unfold replaceSecond; extract_lets; (repeat' split) <;> simp
@[simp ↓] theorem newBackground_kept (b : BitVec 48) (z : Nat) (s : State) :
    (newBackground b z s).kept = s.kept := by
  unfold newBackground; split <;> simp
@[simp ↓] theorem retarget_kept (b : BitVec 48) (z : Nat) (s : State) : (retarget b z s).kept = s.kept := by
  unfold retarget; dsimp only; (repeat' split) <;> simp
@[simp ↓] theorem freePlayer_kept (i : Nat) (s : State) :
    (freePlayer i s).kept = s.kept := by
  simp [freePlayer, forEach_kept]
@[simp ↓] theorem tidyAnns_kept (s : State) : (tidyAnns s).kept = s.kept := by
  unfold tidyAnns; extract_lets; split <;> simp [foldl_kept]
@[simp ↓] theorem markEnded_kept (id cause : Nat) (s : State) : (markEnded id cause s).kept = s.kept := by
  unfold markEnded; (repeat' split) <;> simp
@[simp ↓] theorem endEmpty_kept (s : State) : (endEmpty s).kept = s.kept := by
  simp [endEmpty, foldl_kept, forEach_kept, ite_kept]
@[simp ↓] theorem retargetAll_kept (first : Nat → BitVec 48) (s : State) : (retargetAll first s).kept = s.kept := by
  simp [retargetAll, foldl_kept, forEach_kept, ite_kept]
@[simp ↓] theorem endAnn_kept (first : Nat → BitVec 48) (id cause : Nat) (s : State) :
    (endAnn first id cause s).kept = s.kept := by
  simp [endAnn]
@[simp ↓] theorem dropChime_kept (d z : Nat) (o : Option Nat) (s : State) :
    (dropChime d z o s).kept = s.kept := by
  simp [dropChime]
@[simp ↓] theorem completeSwitch_kept (d z : Nat) (s : State) : (completeSwitch d z s).kept = s.kept := by
  unfold completeSwitch; dsimp only; (repeat' split) <;> simp
@[simp ↓] theorem firstFired_kept (d z : Nat) (s : State) : (firstFired d z s).kept = s.kept := by
  unfold firstFired; (repeat' split) <;> simp
@[simp ↓] theorem serviceFired_kept (d : Nat) (gs : List OwnGlide) (s : State) :
    (serviceFired d gs s).kept = s.kept := by
  simp [serviceFired, foldl_kept, forEach_kept, ite_kept]
@[simp ↓] theorem takePlayer_kept (i id : Nat) (s : State) : (takePlayer i id s).kept = s.kept := by
  unfold takePlayer; dsimp only; (repeat' split) <;> simp
@[simp ↓] theorem playersBell_kept (d : Nat) (s : State) : (playersBell d s).kept = s.kept := by
  simp [playersBell]
@[simp ↓] theorem chimeEnds_kept (i : Nat) (a : Ann) (s : State) : (chimeEnds i a s).kept = s.kept := by
  unfold chimeEnds; dsimp only; (repeat' split) <;> simp [foldl_kept]
@[simp ↓] theorem messageRead_kept (i : Nat) (a : Ann) (s : State) : (messageRead i a s).kept = s.kept := by
  unfold messageRead; dsimp only; (repeat' split) <;> simp [foldl_kept, forEach_kept, ite_kept]
@[simp ↓] theorem fillPlayer_kept (i : Nat) (s : State) : (fillPlayer i s).kept = s.kept := by
  unfold fillPlayer; dsimp only; (repeat' split) <;> simp
@[simp ↓] theorem takeFor_kept (i id : Nat) (s : State) :
    (takeFor i id s).kept = s.kept := by
  unfold takeFor; split <;> simp
@[simp ↓] theorem noteWait_kept (id : Nat) (s : State) :
    (noteWait id s).kept = s.kept := by
  unfold noteWait; dsimp only; (repeat' split) <;> simp
@[simp ↓] theorem announce_kept (ws : List Word) (b : BitVec 48) (s : State) : (announce ws b s).kept = s.kept := by
  unfold announce; dsimp only; (repeat' split) <;> simp
@[simp ↓] theorem ambientCommit_kept (z : Nat) (b : Nat → BitVec 48) (s : State) :
    (ambientCommit z b s).kept = s.kept := by
  unfold ambientCommit; extract_lets; simp

/-! ### QuernCtl -/

@[simp ↓] theorem repSlot_kept (q : Nat) (n : BitVec 13) (s : State) : (repSlot q n s).kept = s.kept := by
  simp [repSlot]

/-! ### QuernDelay -/

@[simp ↓] theorem tapWord_kept (q e j : Nat) (s : State) : (tapWord q e j s).2.kept = s.kept := by
  unfold tapWord; extract_lets; (repeat' split) <;> simp
@[simp ↓] theorem noteClamp_kept (q e : Nat) (c : Bool) (s : State) : (noteClamp q e c s).kept = s.kept := by
  unfold noteClamp; (repeat' split) <;> simp
@[simp ↓] theorem noteInvalid_kept (e : Nat) (s : State) : (noteInvalid e s).kept = s.kept := by
  simp [noteInvalid]
@[simp ↓] theorem opTap_kept (q : Nat) (dd : Fin 8) (win : Fin 32) (b : Opnd) (s : State) :
    (opTap q dd win b s).kept = s.kept := by
  unfold opTap; dsimp only; (repeat' split) <;> simp
@[simp ↓] theorem opTapf_kept (q : Nat) (dd : Fin 8) (win : Fin 32) (b : Opnd) (s : State) :
    (opTapf q dd win b s).kept = s.kept := by
  unfold opTapf; dsimp only; (repeat' split) <;> simp
@[simp ↓] theorem putWord_kept (q e j : Nat) (v : Sample) (s : State) : (putWord q e j v s).kept = s.kept := by
  unfold putWord; extract_lets; (repeat' split) <;> simp
@[simp ↓] theorem opPut_kept (q : Nat) (win : Fin 32) (src : Fin 8) (s : State) :
    (opPut q win src s).kept = s.kept := by
  unfold opPut; dsimp only; (repeat' split) <;> first | rfl | simp
/-! ### Pass -/

@[simp ↓] theorem runSlot_kept (i : Instr) (s : State) : (runSlot i s).kept = s.kept := by
  unfold runSlot; (repeat' split) <;> simp
@[simp ↓] theorem runRest_kept (q : Nat) (s : State) : (runRest q s).kept = s.kept := by
  unfold runRest; extract_lets; rw [foldl_kept]; intro t x; split <;> simp

/-! ### Bell -/

@[simp ↓] theorem endPass_kept (q dur : Nat) (s : State) : (endPass q dur s).kept = s.kept := by
  unfold endPass; dsimp only; (repeat' split) <;> simp
@[simp ↓] theorem takeSynth_kept (d : Nat) (s : State) : (takeSynth d s).kept = s.kept := by
  unfold takeSynth; dsimp only; (repeat' split) <;> simp
@[simp ↓] theorem switchingBell_kept (d code : Nat) (s : State) : (switchingBell d code s).kept = s.kept := by
  simp [switchingBell]
@[simp ↓] theorem reconfigBell_kept (d : Nat) (s : State) : (reconfigBell d s).kept = s.kept := by
  unfold reconfigBell; dsimp only; (repeat' split) <;> simp
@[simp ↓] theorem countBell_kept (d interval : Nat) (s : State) : (countBell d interval s).kept = s.kept := by
  unfold countBell; dsimp only; (repeat' split) <;> simp
@[simp ↓] theorem alignBell_kept (d : Nat) (s : State) :
    (alignBell d s).kept = s.kept := by
  simp [alignBell, foldl_kept, forEach_kept, ite_kept]
@[simp ↓] theorem judgeQuern_kept (d interval q : Nat) (s : State) : (judgeQuern d interval q s).kept = s.kept := by
  unfold judgeQuern; (repeat' split) <;> simp
@[simp ↓] theorem declareOverrun_kept (d : Nat) (s : State) : (declareOverrun d s).kept = s.kept := by
  simp [declareOverrun]
@[simp ↓] theorem postQuern_kept (d q : Nat) (s : State) : (postQuern d q s).kept = s.kept := by
  simp [postQuern]
@[simp ↓] theorem swapPages_kept (d : Nat) (s : State) : (swapPages d s).kept = s.kept := by
  simp [swapPages, foldl_kept, forEach_kept, ite_kept]
@[simp ↓] theorem lineWrite_kept (e j : Nat) (v : Sample) (s : State) : (lineWrite e j v s).kept = s.kept := by
  simp [lineWrite]
@[simp ↓] theorem lineBell_kept (e : Nat) (s : State) : (lineBell e s).kept = s.kept := by
  unfold lineBell; dsimp only; (repeat' split) <;> simp
@[simp ↓] theorem linesBell_kept (d : Nat) (s : State) : (linesBell d s).kept = s.kept := by
  simp [linesBell, foldl_kept, forEach_kept, ite_kept]
@[simp ↓] theorem answerCommits_kept (d : Nat) (s : State) : (answerCommits d s).kept = s.kept := by
  simp [answerCommits, foldl_kept, forEach_kept, ite_kept]
@[simp ↓] theorem commitAction_kept (d : Nat) (s : State) : (commitAction d s).kept = s.kept := by
  simp [commitAction, foldl_kept, forEach_kept, ite_kept]
@[simp ↓] theorem startPasses_kept (d : Nat) (s : State) : (startPasses d s).kept = s.kept := by
  simp [startPasses, foldl_kept, forEach_kept, ite_kept]
@[simp ↓] theorem paceBell_kept (d : Nat) (bad : List Nat) (s : State) : (paceBell d bad s).kept = s.kept := by
  simp [paceBell, foldl_kept, forEach_kept, ite_kept]
@[simp ↓] theorem slackBell_kept (d : Nat) (fin : List Nat) (s : State) : (slackBell d fin s).kept = s.kept := by
  unfold slackBell; dsimp only; (repeat' split) <;> simp
@[simp ↓] theorem stateJoin_kept (s : State) :
    (stateJoin s).kept = s.kept := by
  rfl
@[simp ↓] theorem takeJoinIdx_kept (d : Nat) (s : State) :
    (takeJoinIdx d s).kept = s.kept := by
  rfl
@[simp ↓] theorem lenderBell_kept (d : Nat) (s : State) :
    (lenderBell d s).kept = s.kept := by
  unfold lenderBell; dsimp only; (repeat' split) <;> first | rfl | simp
@[simp ↓] theorem sundryBell_kept (d : Nat) (s : State) : (sundryBell d s).kept = s.kept := by
  unfold sundryBell; (repeat' split) <;> simp
@[simp ↓] theorem verifyBell_kept (d : Nat) (s : State) : (verifyBell d s).kept = s.kept := by
  unfold verifyBell; (repeat' split) <;> simp
@[simp ↓] theorem bellBody_kept (d : Nat) (env : BellEnv) (s : State) : (bellBody d env s).kept = s.kept := by
  simp [bellBody, foldl_kept, forEach_kept, ite_kept]
@[simp ↓] theorem sendBuffered_kept (d : Nat) (env : BellEnv) (s : State) : (sendBuffered d env s).kept = s.kept := by
  simp [sendBuffered, foldl_kept, forEach_kept, ite_kept]
@[simp ↓] theorem bufferBell_kept (d : Nat) (env : BellEnv) (s : State) : (bufferBell d env s).kept = s.kept := by
  unfold bufferBell; extract_lets; simp

/-! ### Image -/

@[simp ↓] theorem readSlots_kept (s : State) : (readSlots s).kept = s.kept := by
  simp [readSlots, foldl_kept, forEach_kept, ite_kept]
@[simp ↓] theorem recordResult_kept (n res : Nat) (s : State) : (recordResult n res s).kept = s.kept := by
  simp [recordResult]
@[simp ↓] theorem imageVerified_kept (n : Nat) (s : State) :
    (imageVerified n s).kept = s.kept := by
  simp [imageVerified]
@[simp ↓] theorem doSteps_kept (l : List (Nat × FlashStep)) (s : State) :
    (doSteps l s).kept = s.kept := by
  simp [doSteps, foldl_kept]
@[simp ↓] theorem cutRun_kept (l : List (Nat × FlashStep)) (s : State) :
    (cutRun l s).kept = s.kept := by
  unfold cutRun; dsimp only; split <;> simp
@[simp ↓] theorem runOutFlash_kept (s : State) :
    (runOutFlash s).kept = s.kept := by
  unfold runOutFlash; refine foldl_kept _ _ _ (fun t e => ?_); split <;> simp
@[simp ↓] theorem cutFlash_kept (s : State) :
    (cutFlash s).kept = s.kept := by
  have h : ((s.flash.ops.filter (fun e => Tab.get false s.flash.busy e.1)).foldl (fun t e =>
      match e.2.steps with | st :: _ => cutStep e.1 st t | [] => t) s).kept = s.kept :=
    foldl_kept _ _ _ (fun t e => by split <;> simp)
  unfold cutFlash; dsimp only
  split
  · rw [cutRun_kept]; exact h
  · exact h
/-! ### CmdPorts -/

@[simp ↓] theorem restartPort_kept (p : Nat) (s : State) : (restartPort p s).kept = s.kept := by
  simp [restartPort]
@[simp ↓] theorem judgeCode_kept (g : Nat) (s : State) :
    (judgeCode g s).kept = s.kept := by
  unfold judgeCode; split <;> simp
@[simp ↓] theorem setGroupCfg_kept (g : Nat) (w : Word) (s : State) : (setGroupCfg g w s).kept = s.kept := by
  simp [setGroupCfg, foldl_kept, forEach_kept, ite_kept]
@[simp ↓] theorem clockGroupRun_kept (m : Nat) (s : State) : (clockGroupRun m s).kept = s.kept := by
  simp [clockGroupRun]
@[simp ↓] theorem noteAlign_kept (p : Nat) (s : State) :
    (noteAlign p s).kept = s.kept := by
  unfold noteAlign; (repeat' split) <;> simp
@[simp ↓] theorem setPortCfg_kept (p : Nat) (w : Word) (s : State) : (setPortCfg p w s).kept = s.kept := by
  unfold setPortCfg; (repeat' split) <;> simp
@[simp ↓] theorem portConfigRun_kept (m : Nat) (s : State) : (portConfigRun m s).kept = s.kept := by
  simp [portConfigRun]
@[simp ↓] theorem pdmConfigRun_kept (m : Nat) (s : State) : (pdmConfigRun m s).kept = s.kept := by
  unfold pdmConfigRun; extract_lets; (repeat' split) <;> simp
@[simp ↓] theorem mclkConfigRun_kept (m : Nat) (s : State) : (mclkConfigRun m s).kept = s.kept := by
  simp [mclkConfigRun]
@[simp ↓] theorem alignConfigRun_kept (m : Nat) (s : State) : (alignConfigRun m s).kept = s.kept := by
  unfold alignConfigRun; dsimp only; (repeat' split) <;> simp [foldl_kept, forEach_kept, ite_kept]
@[simp ↓] theorem alignStartRun_kept (m : Nat) (times : List Nat) (s : State) :
    (alignStartRun m times s).kept = s.kept := by
  simp [alignStartRun, foldl_kept, forEach_kept, ite_kept]
@[simp ↓] theorem syncStart_kept (d since : Nat) (s : State) :
    (syncStart d since s).kept = s.kept := by
  unfold syncStart; dsimp only; (repeat' split) <;> simp [foldl_kept]
@[simp ↓] theorem portStatusRun_kept (m : Nat) (s : State) : (portStatusRun m s).kept = s.kept := by
  simp [portStatusRun]

/-! ### CmdService -/

@[simp ↓] theorem zoneConfigRun_kept (m : Nat) (s : State) : (zoneConfigRun m s).kept = s.kept := by
  unfold zoneConfigRun; dsimp only; (repeat' split) <;> simp
@[simp ↓] theorem zoneStatusRun_kept (m : Nat) (s : State) : (zoneStatusRun m s).kept = s.kept := by
  unfold zoneStatusRun; extract_lets; simp
@[simp ↓] theorem sourceConfigRun_kept (m : Nat) (s : State) : (sourceConfigRun m s).kept = s.kept := by
  unfold sourceConfigRun; extract_lets; simp
@[simp ↓] theorem priorityConfigRun_kept (m : Nat) (s : State) : (priorityConfigRun m s).kept = s.kept := by
  unfold priorityConfigRun; extract_lets; simp
@[simp ↓] theorem announceStartRun_kept (m since : Nat) (s : State) : (announceStartRun m since s).kept = s.kept := by
  simp [announceStartRun]
@[simp ↓] theorem announceStopRun_kept (m since : Nat) (s : State) : (announceStopRun m since s).kept = s.kept := by
  simp [announceStopRun]
@[simp ↓] theorem announceStatusRun_kept (m : Nat) (s : State) : (announceStatusRun m s).kept = s.kept := by
  unfold announceStatusRun; (repeat' split) <;> simp
@[simp ↓] theorem ambientConfigRun_kept (m : Nat) (s : State) : (ambientConfigRun m s).kept = s.kept := by
  simp [ambientConfigRun]
@[simp ↓] theorem ambientStatusRun_kept (m : Nat) (s : State) : (ambientStatusRun m s).kept = s.kept := by
  unfold ambientStatusRun; extract_lets; simp
@[simp ↓] theorem takeBackground_kept (z : Nat) (b : BitVec 48) (s : State) :
    (takeBackground z b s).kept = s.kept := by
  unfold takeBackground; dsimp only; (repeat' split) <;> simp
@[simp ↓] theorem backgroundSetRun_kept (m since : Nat) (s : State) : (backgroundSetRun m since s).kept = s.kept := by
  unfold backgroundSetRun; dsimp only; (repeat' split) <;> simp

/-! ### SysCfg -/

@[simp ↓] theorem restoreDomain_kept (s : State) (e : Nat × Word) : (restoreDomain s e).kept = s.kept := by
  unfold restoreDomain; dsimp only; (repeat' split) <;> simp
@[simp ↓] theorem restoreCfg_kept (c : SavedCfg) (s : State) : (restoreCfg c s).kept = s.kept := by
  simp [restoreCfg, foldl_kept, forEach_kept, ite_kept]
@[simp ↓] theorem openCfg_kept (s : State) : (openCfg s).kept = s.kept := by
  unfold openCfg; (repeat' split) <;> simp
@[simp ↓] theorem resealed_kept (s : State) :
    (resealed s).kept = s.kept := by
  unfold resealed; split <;> simp
@[simp ↓] theorem bootTake_kept (slot : Nat) (s : State) :
    (bootTake slot s).kept = s.kept := by
  unfold bootTake; dsimp only; split <;> simp [foldl_kept]
@[simp ↓] theorem bootLoad_kept (slot : Nat) (s : State) : (bootLoad slot s).kept = s.kept := by
  simp [bootLoad, foldl_kept, forEach_kept, ite_kept]
@[simp ↓] theorem startZones_kept (s : State) : (startZones s).kept = s.kept := by
  simp [startZones, foldl_kept, forEach_kept, ite_kept]
@[simp ↓] theorem bootEnd_kept (s : State) : (bootEnd s).kept = s.kept := by
  unfold bootEnd; (repeat' split) <;> simp
@[simp ↓] theorem bootSettle_kept (s : State) : (bootSettle s).kept = s.kept := by
  unfold bootSettle; (repeat' split) <;> simp

/-! ### Boot -/

@[simp ↓] theorem isolate_kept (sleep : Bool) (s : State) : (isolate sleep s).kept = s.kept := id rfl
@[simp] theorem Gate.inReset_fuses (g : Gate) : g.inReset.fuses = g.fuses := rfl
@[simp ↓] theorem enterReset_kept (s : State) : (enterReset s).kept = s.kept := by
  unfold enterReset; extract_lets; rw [crierStep_kept, modAon_kept, modGate_kept, isolate_kept, cutFlash_kept]; rfl
@[simp ↓] theorem resetCore_kept (s : State) :
    (resetCore s).kept = s.kept := by
  exact id rfl
@[simp ↓] theorem powerOff_kept (s : State) : (powerOff s).kept = s.kept := cutFlash_kept s
@[simp ↓] theorem postBoot_kept (s : State) : (postBoot s).kept = s.kept := by
  unfold postBoot; dsimp only; (repeat' split) <;> simp
@[simp ↓] theorem retireOther_kept (s : State) : (retireOther s).kept = s.kept := by
  unfold retireOther; (repeat' split) <;> simp
@[simp ↓] theorem completeJournal_kept (s : State) :
    (completeJournal s).kept = s.kept := by
  unfold completeJournal; split <;> simp
@[simp ↓] theorem jexStart_kept (s : State) : (jexStart s).kept = s.kept := by
  unfold jexStart; dsimp only; (repeat' split) <;> simp [foldl_kept, forEach_kept, ite_kept]
@[simp ↓] theorem release_kept (s : State) : (release s).kept = s.kept := by
  simp [release, -modDom_eq, -modGate_eq, -modAon_eq, -modReeve_eq, -modFaults_eq, -modJex_eq]
@[simp ↓] theorem releaseWhenReady_kept (s : State) : (releaseWhenReady s).kept = s.kept := by
  unfold releaseWhenReady; (repeat' split) <;> simp
@[simp ↓] theorem loadSegment_kept (r : Rd) (s : State) : (loadSegment r s).kept = s.kept := by
  simp [loadSegment]
@[simp ↓] theorem bootImage_kept (src : Nat) (r : Rd) (s : State) : (bootImage src r s).kept = s.kept := by
  unfold bootImage; (repeat' split) <;> simp
@[simp ↓] theorem releaseCrier_kept (s : State) : (releaseCrier s).kept = s.kept := by
  simp [releaseCrier]
@[simp ↓] theorem failAttempt_kept (code : Nat) (s : State) : (failAttempt code s).kept = s.kept := by
  simp [failAttempt]
@[simp ↓] theorem haltBoot_kept (code : Nat) (s : State) : (haltBoot code s).kept = s.kept := by
  simp [haltBoot]
@[simp ↓] theorem failBoot_kept (code : Nat) (s : State) : (failBoot code s).kept = s.kept := by
  unfold failBoot; (repeat' split) <;> simp
theorem tryEach_kept (l r : List Nat) (s : State) : (tryEach l r s).kept = s.kept := by
  induction l generalizing r s with
  | nil => simp [tryEach]
  | cons n l ih => simp only [tryEach]; split <;> simp [ih]
@[simp ↓] theorem tryImages_kept (s : State) : (tryImages s).kept = s.kept := by
  unfold tryImages; (try dsimp only); rw [tryEach_kept]; simp
@[simp ↓] theorem afterCrier_kept (s : State) : (afterCrier s).kept = s.kept := by
  unfold afterCrier; (repeat' split) <;> simp
@[simp ↓] theorem readFlashes_kept (s : State) : (readFlashes s).kept = s.kept := by
  simp [readFlashes]
@[simp ↓] theorem readStores_kept (s : State) :
    (readStores s).kept = s.kept := by
  simp [readStores, forEach_kept]
@[simp ↓] theorem discoverFlash_kept (s : State) : (discoverFlash s).kept = s.kept := by
  unfold discoverFlash; (repeat' split) <;> simp
@[simp ↓] theorem bootFlash_kept (s : State) : (bootFlash s).kept = s.kept := by
  unfold bootFlash; (repeat' split) <;> simp
@[simp ↓] theorem bootFuses_kept (e : BootEnv) (s : State) : (bootFuses e s).kept = s.kept := by
  unfold bootFuses; dsimp only; (repeat' split) <;> simp
@[simp ↓] theorem senseBoard_kept (e : BootEnv) (s : State) : (senseBoard e s).kept = s.kept := by
  simp [senseBoard]
@[simp ↓] theorem countAttempt_kept (s : State) : (countAttempt s).kept = s.kept := by
  simp [countAttempt]
@[simp ↓] theorem startBoot_kept (e : BootEnv) (s : State) : (startBoot e s).kept = s.kept := by
  unfold startBoot; (repeat' split) <;> simp
@[simp ↓] theorem retryBoot_kept (e : BootEnv) (s : State) : (retryBoot e s).kept = s.kept := by
  unfold retryBoot; (repeat' split) <;> simp
@[simp ↓] theorem bootGoesOn_kept (s : State) : (bootGoesOn s).kept = s.kept := by
  unfold bootGoesOn; (repeat' split) <;> simp
@[simp ↓] theorem bootAfterReset_kept (e : BootEnv) (s : State) : (bootAfterReset e s).kept = s.kept := by
  simp [bootAfterReset]
@[simp ↓] theorem timerDue_kept (s : State) :
    (timerDue s).kept = s.kept := by
  unfold timerDue; split <;> simp
@[simp ↓] theorem wakeFast_kept (s : State) : (wakeFast s).kept = s.kept := by
  simp [wakeFast]
@[simp ↓] theorem wakeSlow_kept (e : BootEnv) (s : State) : (wakeSlow e s).kept = s.kept := by
  simp [wakeSlow]

/-! ### CrierRows -/

@[simp ↓] theorem startCrierFrames_kept (s : State) :
    (startCrierFrames s).kept = s.kept := by
  simp [startCrierFrames, forEach_kept, ite_kept]
@[simp ↓] theorem setWdog_kept (r : Nat) (s : State) : (setWdog r s).kept = s.kept := by
  simp [setWdog]
@[simp ↓] theorem expireWdog_kept (r : Nat) (s : State) : (expireWdog r s).kept = s.kept := by
  unfold expireWdog; (repeat' split) <;> simp
@[simp ↓] theorem wdogEnds_kept (r : Nat) (s : State) :
    (wdogEnds r s).kept = s.kept := by
  unfold wdogEnds; split <;> simp
@[simp ↓] theorem crierStatusRun_kept (m : Nat) (s : State) : (crierStatusRun m s).kept = s.kept := by
  unfold crierStatusRun; extract_lets; simp
@[simp ↓] theorem crierPlayRun_kept (m : Nat) (s : State) : (crierPlayRun m s).kept = s.kept := by
  simp [crierPlayRun]
@[simp ↓] theorem crierStopRun_kept (m : Nat) (s : State) : (crierStopRun m s).kept = s.kept := by
  simp [crierStopRun]
@[simp ↓] theorem crierVerifyRun_kept (m : Nat) (s : State) : (crierVerifyRun m s).kept = s.kept := by
  simp [crierVerifyRun]
@[simp ↓] theorem fallbackEnterRun_kept (m : Nat) (s : State) : (fallbackEnterRun m s).kept = s.kept := by
  simp [fallbackEnterRun]

/-! ### Debug -/

@[simp ↓] theorem lineReadRun_kept (m : Nat) (s : State) : (lineReadRun m s).kept = s.kept := by
  unfold lineReadRun; extract_lets; simp
@[simp ↓] theorem qstatReadRun_kept (m : Nat) (s : State) : (qstatReadRun m s).kept = s.kept := by
  unfold qstatReadRun; extract_lets; simp
@[simp ↓] theorem bankReadRun_kept (m : Nat) (s : State) : (bankReadRun m s).kept = s.kept := by
  unfold bankReadRun; extract_lets; simp

/-! ### System -/

@[simp ↓] theorem systemStatusRun_kept (m : Nat) (s : State) : (systemStatusRun m s).kept = s.kept := by
  unfold systemStatusRun; extract_lets; simp
@[simp ↓] theorem serviceStartRun_kept (m : Nat) (s : State) : (serviceStartRun m s).kept = s.kept := by
  simp [serviceStartRun]
@[simp ↓] theorem stopService_kept (m : Nat) (s : State) : (stopService m s).kept = s.kept := by
  unfold stopService; dsimp only; (repeat' split) <;> simp
@[simp ↓] theorem serviceStopRun_kept (m : Nat) (s : State) : (serviceStopRun m s).kept = s.kept := by
  unfold serviceStopRun; dsimp only; (repeat' split) <;> simp
@[simp ↓] theorem deviceResetRun_kept (s : State) : (deviceResetRun s).kept = s.kept := by
  simp [deviceResetRun]
@[simp ↓] theorem timeSetRun_kept (m : Nat) (s : State) : (timeSetRun m s).kept = s.kept := by
  simp [timeSetRun]
@[simp ↓] theorem countersClearRun_kept (m : Nat) (s : State) : (countersClearRun m s).kept = s.kept := by
  simp [countersClearRun, foldl_kept, forEach_kept, ite_kept]
@[simp ↓] theorem configSaved_kept (m : Nat) (s : State) : (configSaved m s).kept = s.kept := by
  simp [configSaved]
@[simp ↓] theorem configErased_kept (s : State) :
    (configErased s).kept = s.kept := by
  simp [configErased]
@[simp ↓] theorem imageNext_kept (m part n : Nat) (s : State) :
    (imageNext m part n s).kept = s.kept := by
  unfold imageNext; dsimp only; (repeat' split) <;> simp
@[simp ↓] theorem imageCommitted_kept (m n : Nat) (s : State) :
    (imageCommitted m n s).kept = s.kept := by
  unfold imageCommitted; (repeat' split) <;> simp
@[simp ↓] theorem imageStatusRun_kept (m : Nat) (s : State) : (imageStatusRun m s).kept = s.kept := by
  unfold imageStatusRun; extract_lets; simp
@[simp ↓] theorem acceptUntestedRun_kept (m : Nat) (s : State) : (acceptUntestedRun m s).kept = s.kept := by
  unfold acceptUntestedRun; (repeat' split) <;> simp
@[simp ↓] theorem acceptPersisted_kept (s : State) :
    (acceptPersisted s).kept = s.kept := by
  unfold acceptPersisted; extract_lets; simp
@[simp ↓] theorem revokeStores_kept (s : State) :
    (revokeStores s).kept = s.kept := by
  unfold revokeStores; split <;> simp
@[simp ↓] theorem lcReply_kept (m nonce : Nat) (s : State) : (lcReply m nonce s).kept = s.kept := by
  simp [lcReply]

/-! ### Power -/

@[simp ↓] theorem leaveStatusRun_kept (m : Nat) (s : State) : (leaveStatusRun m s).kept = s.kept := by
  unfold leaveStatusRun; extract_lets; simp
@[simp ↓] theorem leaveConfigRun_kept (m : Nat) (s : State) : (leaveConfigRun m s).kept = s.kept := by
  unfold leaveConfigRun; extract_lets; simp
@[simp ↓] theorem leaveCostRun_kept (m : Nat) (s : State) : (leaveCostRun m s).kept = s.kept := by
  unfold leaveCostRun; extract_lets; simp
@[simp ↓] theorem lowSlack_kept (s : State) : (lowSlack s).2.kept = s.kept := by
  unfold lowSlack; (repeat' split) <;> simp
@[simp ↓] theorem powerStatusRun_kept (m : Nat) (s : State) : (powerStatusRun m s).kept = s.kept := by
  simp [powerStatusRun]
@[simp ↓] theorem wardenConfigRun_kept (m : Nat) (s : State) : (wardenConfigRun m s).kept = s.kept := by
  unfold wardenConfigRun; extract_lets; simp
@[simp ↓] theorem sleepRamp_kept (s : State) :
    (sleepRamp s).kept = s.kept := by
  simp [sleepRamp]
@[simp ↓] theorem sleepSeal_kept (m : Nat) (s : State) : (sleepSeal m s).kept = s.kept := by
  simp [sleepSeal, -modDom_eq, -modGate_eq, -modAon_eq, -modReeve_eq, -modFaults_eq, -modJex_eq]
@[simp ↓] theorem sleepRun_kept (s : State) :
    (sleepRun s).kept = s.kept := by
  unfold sleepRun; dsimp only; (repeat' split) <;> simp
@[simp ↓] theorem sleepSettle_kept (m : Nat) (s : State) :
    (sleepSettle m s).kept = s.kept := by
  unfold sleepSettle; (repeat' split) <;> simp
@[simp ↓] theorem sleepMode_kept (s : State) :
    (sleepMode s).kept = s.kept := by
  rfl
@[simp ↓] theorem fallAsleep_kept (s : State) : (fallAsleep s).kept = s.kept := by
  unfold fallAsleep; dsimp only; (repeat' split) <;> simp [-modDom_eq, -modGate_eq, -modAon_eq, -modReeve_eq, -modFaults_eq, -modJex_eq]

/-! ### Fault -/

@[simp ↓] theorem noteRaised_kept (code : Nat) (w4 : Word) (s : State) : (noteRaised code w4 s).kept = s.kept := by
  simp [noteRaised, foldl_kept, forEach_kept, ite_kept]
@[simp ↓] theorem recordLogged_kept (s : State) : (recordLogged s).kept = s.kept := by
  simp [recordLogged]
@[simp ↓] theorem faultWrite_kept (i : Nat) (v : Word) (s : State) : (faultWrite i v s).kept = s.kept := by
  unfold faultWrite; (repeat' split) <;> simp
@[simp ↓] theorem faultStatusRun_kept (m : Nat) (s : State) : (faultStatusRun m s).kept = s.kept := by
  unfold faultStatusRun; extract_lets; simp
@[simp ↓] theorem faultLogRun_kept (m : Nat) (s : State) : (faultLogRun m s).kept = s.kept := by
  unfold faultLogRun; extract_lets; simp
@[simp ↓] theorem faultAckRun_kept (m : Nat) (s : State) : (faultAckRun m s).kept = s.kept := by
  simp [faultAckRun]
@[simp ↓] theorem logErased_kept (s : State) :
    (logErased s).kept = s.kept := by
  simp [logErased]

/-! ### Recovery -/

@[simp ↓] theorem rcvEnd_kept (res : Nat) (s : State) : (rcvEnd res s).kept = s.kept := by
  simp [rcvEnd]
@[simp ↓] theorem dueStarts_kept (e : BootEnv) (s : State) : (dueStarts e s).kept = s.kept := by
  unfold dueStarts; (repeat' split) <;> simp
@[simp ↓] theorem rcvFrames_kept (op : Nat) (s : State) : (rcvFrames op s).kept = s.kept := by
  unfold rcvFrames; split <;> simp
@[simp ↓] theorem rcvGo_kept (e : BootEnv) (s : State) : (rcvGo e s).kept = s.kept := by
  simp [rcvGo, foldl_kept, forEach_kept, ite_kept]
@[simp ↓] theorem rcvCtl_kept (e : BootEnv) (go hold : Bool) (op slot length : Nat) (s : State) :
    (rcvCtl e go hold op slot length s).kept = s.kept := by
  unfold rcvCtl; (repeat' split) <;> simp
@[simp ↓] theorem rcvAddr_kept (off : Nat) (s : State) : (rcvAddr off s).kept = s.kept := by
  simp [rcvAddr]
@[simp ↓] theorem rcvRow_kept (e : BootEnv) (op : Nat) (slot len : Option Nat) (off : Option Word) (hold : Bool) (s : State) : (rcvRow e op slot len off hold s).kept = s.kept := by
  unfold rcvRow; (repeat' split) <;> simp
@[simp ↓] theorem gateWrite_kept (e : BootEnv) (i : Nat) (v : Word) (s : State) :
    (gateWrite e i v s).kept = s.kept := by
  unfold gateWrite; (repeat' split) <;> simp

/-! ### Settle -/

@[simp ↓] theorem dutySettle_kept (s : State) : (dutySettle s).kept = s.kept := by
  unfold dutySettle; dsimp only; (repeat' split) <;> simp
@[simp ↓] theorem settle_kept (s : State) : (settle s).kept = s.kept := by
  simp [settle]
@[simp ↓] theorem flashNoLeave_kept (sel : Nat) (s : State) : (flashNoLeave sel s).kept = s.kept := by
  unfold flashNoLeave; (repeat' split) <;> simp
@[simp ↓] theorem noLeave_kept (cls key : Nat) (s : State) : (noLeave cls key s).kept = s.kept := by
  unfold noLeave; (repeat' split) <;> simp
@[simp ↓] theorem commandWritten_kept (m : Nat) (s : State) : (commandWritten m s).kept = s.kept := by
  unfold commandWritten; (repeat' split) <;> simp
@[simp ↓] theorem commandReply_kept (m k : Nat) (s : State) :
    (commandReply m k s).kept = s.kept := by
  unfold commandReply; split <;> simp
@[simp ↓] theorem partWritten_kept (m n k : Nat) (s : State) :
    (partWritten m n k s).kept = s.kept := by
  unfold partWritten; (repeat' split) <;> simp
@[simp ↓] theorem partNext_kept (m n k : Nat) (s : State) :
    (partNext m n k s).kept = s.kept := by
  unfold partNext; (repeat' split) <;> simp
@[simp ↓] theorem flashWork_kept (w : FlashWork) (k : Nat) (ok : Bool) (s : State) :
    (flashWork w k ok s).kept = s.kept := by
  unfold flashWork; (repeat' split) <;> simp

@[simp ↓] theorem flashLeft_kept (w : FlashWork) (k : Nat) (s : State) :
    (flashLeft w k s).kept = s.kept := by
  unfold flashLeft; split <;> simp
@[simp ↓] theorem eraseNoted_kept (o : FlashOp) (s : State) :
    (eraseNoted o s).kept = s.kept := by
  unfold eraseNoted; (repeat' split) <;> simp
@[simp ↓] theorem journalNoted_kept (o : FlashOp) (s : State) :
    (journalNoted o s).kept = s.kept := by
  unfold journalNoted; (repeat' split) <;> simp
@[simp ↓] theorem stepEnds_kept (k : Nat) (o : FlashOp) (ok : Bool) (s : State) :
    (stepEnds k o ok s).kept = s.kept := by
  unfold stepEnds; (repeat' split) <;> simp
@[simp ↓] theorem stepNext_kept (k : Nat) (o : FlashOp) (ok : Bool) (s : State) :
    (stepNext k o ok s).kept = s.kept := by
  unfold stepNext; (repeat' split) <;> simp
/-! ### Tick -/

@[simp ↓] theorem tickClock_kept (s : State) : (tickClock s).kept = s.kept := by
  unfold tickClock; (repeat' split) <;> simp
@[simp ↓] theorem tickWatchdog_kept (s : State) : (tickWatchdog s).kept = s.kept := by
  simp [tickWatchdog, foldl_kept, forEach_kept, ite_kept]
@[simp ↓] theorem tickBackoff_kept (s : State) : (tickBackoff s).kept = s.kept := by
  unfold tickBackoff; (repeat' split) <;> simp
@[simp ↓] theorem tickTasks_kept (s : State) : (tickTasks s).kept = s.kept := by
  simp [tickTasks]
@[simp ↓] theorem tickFaults_kept (s : State) : (tickFaults s).kept = s.kept := by
  unfold tickFaults; (repeat' split) <;> simp
@[simp ↓] theorem tickFlash_kept (s : State) : (tickFlash s).kept = s.kept := by
  simp [tickFlash]
@[simp ↓] theorem tickEnds_kept (s : State) :
    (tickEnds s).kept = s.kept := by
  unfold tickEnds; split <;> simp
@[simp ↓] theorem countTick_kept (s : State) :
    (countTick s).kept = s.kept := by
  rfl
@[simp ↓] theorem aonTick_kept (s : State) : (aonTick s).kept = s.kept := by
  unfold aonTick; dsimp only; (repeat' split) <;> simp

/-! ### Window -/

@[simp ↓] theorem countDiscard_kept (s : State) : (countDiscard s).kept = s.kept := by
  simp [countDiscard]
@[simp ↓] theorem releaseMbs_kept (v : Word) (s : State) : (releaseMbs v s).kept = s.kept := by
  simp [releaseMbs, foldl_kept, forEach_kept, ite_kept]
@[simp ↓] theorem clearCounts_kept (v : Word) (s : State) : (clearCounts v s).kept = s.kept := by
  unfold clearCounts; (repeat' split) <;> simp
@[simp ↓] theorem hostWrite_kept (a : Nat) (v : Word) (s : State) : (hostWrite a v s).kept = s.kept := by
  unfold hostWrite; (repeat' split) <;> simp
@[simp ↓] theorem mailWrite_kept (i : Nat) (v : Word) (s : State) : (mailWrite i v s).kept = s.kept := by
  unfold mailWrite; extract_lets; (repeat' split) <;> simp
@[simp ↓] theorem fullWrite_kept (a : Nat) (v : Word) (s : State) : (fullWrite a v s).kept = s.kept := by
  unfold fullWrite; (repeat' split) <;> simp
@[simp ↓] theorem windowWrite_kept (a : Nat) (v : Word) (s : State) : (windowWrite a v s).kept = s.kept := by
  unfold windowWrite; (repeat' split) <;> simp

/-! ### HostIf -/

@[simp ↓] theorem endFrame_kept (reason nbits : Nat) (under past : Bool) (miso : List Word) (s : State) :
    (endFrame reason nbits under past miso s).kept = s.kept := by
  simp [endFrame]
@[simp ↓] theorem frame_kept (code addr nbits : Nat) (under : Bool) (words : List Word) (act : State → State) (s : State)
    (h : ∀ t, (act t).kept = t.kept) : (frame code addr nbits under words act s).kept = s.kept := by
  unfold frame; (try dsimp only); (repeat' split) <;> simp [h]
@[simp ↓] theorem markRead_kept (m : Nat) (s : State) : (markRead m s).kept = s.kept := by
  unfold markRead; (repeat' split) <;> simp
@[simp ↓] theorem popEvent_kept (s : State) : (popEvent s).kept = s.kept := by
  simp [popEvent]
@[simp ↓] theorem readAct_kept (addr n : Nat) (s : State) : (readAct addr n s).kept = s.kept := by
  simp [readAct, foldl_kept, forEach_kept, ite_kept]
@[simp ↓] theorem readFrame_kept (addr nbits : Nat) (slow : Bool) (s : State) :
    (readFrame addr nbits slow s).kept = s.kept := by
  unfold readFrame; extract_lets; simp
@[simp ↓] theorem applyWrites_kept (addr : Nat) (ws : List Word) (s : State) :
    (applyWrites addr ws s).kept = s.kept := by
  simp [applyWrites, foldl_kept, forEach_kept, ite_kept]
@[simp ↓] theorem writeFrame_kept (addr : Nat) (data : List Word) (nbits : Nat) (s : State) :
    (writeFrame addr data nbits s).kept = s.kept := by
  simp [writeFrame]
@[simp ↓] theorem ringMail_kept (addr : Nat) (ws : List Word) (s : State) : (ringMail addr ws s).kept = s.kept := by
  unfold ringMail; (repeat' split) <;> simp
@[simp ↓] theorem ringFrame_kept (addr : Nat) (data : List Word) (nbits : Nat) (s : State) :
    (ringFrame addr data nbits s).kept = s.kept := by
  simp [ringFrame]
@[simp ↓] theorem latchDoorbell_kept (m : Nat) (s : State) : (latchDoorbell m s).kept = s.kept := by
  unfold latchDoorbell; (repeat' split) <;> simp
@[simp ↓] theorem hostRegWrite_kept (a : Nat) (v : Word) (s : State) : (hostRegWrite a v s).kept = s.kept := by
  unfold hostRegWrite; (repeat' split) <;> simp

/-! ### RegRows -/

theorem byReeve_kept (r a : Nat) (f : State → State) (h : ∀ t : State, (f t).kept = t.kept) (s : State) :
    (byReeve r a f s).kept = s.kept := by
  unfold byReeve; split <;> simp [h]
@[simp ↓] theorem missSet_kept (d k n : Nat) (s : State) : (missSet d k n s).kept = s.kept := by
  simp [missSet]
@[simp ↓] theorem commitWrite_kept (d k i : Nat) (v : Word) (s : State) : (commitWrite d k i v s).kept = s.kept := by
  unfold commitWrite; (repeat' split) <;> simp [foldl_kept, forEach_kept, ite_kept]
@[simp ↓] theorem routeWrite_kept (d i : Nat) (v : Word) (s : State) : (routeWrite d i v s).kept = s.kept := by
  simp [routeWrite]

/-! ### RegWrite -/

@[simp ↓] theorem quernReg_kept (q off : Nat) (v : Word) (s : State) : (quernReg q off v s).kept = s.kept := by
  unfold quernReg; (repeat' split) <;> simp
@[simp ↓] theorem boardReg_kept (q w : Nat) (v : Word) (s : State) : (boardReg q w v s).kept = s.kept := by
  unfold boardReg; (repeat' split) <;> simp
@[simp ↓] theorem bankReg_kept (b off : Nat) (v : Word) (s : State) : (bankReg b off v s).kept = s.kept := by
  unfold bankReg; (repeat' split) <;> simp
@[simp ↓] theorem sextonReg_kept (i : Nat) (v : Word) (s : State) : (sextonReg i v s).kept = s.kept := by
  simp [sextonReg]
@[simp ↓] theorem commitReg_kept (off : Nat) (v : Word) (s : State) : (commitReg off v s).kept = s.kept := by
  unfold commitReg; (repeat' split) <;> simp
@[simp ↓] theorem xformReg_kept (v : Word) (s : State) : (xformReg v s).kept = s.kept := by
  unfold xformReg; (repeat' split) <;> simp
@[simp ↓] theorem tallyReg_kept (off : Nat) (v : Word) (s : State) : (tallyReg off v s).kept = s.kept := by
  unfold tallyReg; (repeat' split) <;> simp
@[simp ↓] theorem twinReg_kept (i : Nat) (v : Word) (s : State) : (twinReg i v s).kept = s.kept := by
  unfold twinReg; dsimp only; (repeat' split) <;> simp
@[simp ↓] theorem wdogReg_kept (r n : Nat) (v : Word) (s : State) : (wdogReg r n v s).kept = s.kept := by
  unfold wdogReg; (repeat' split) <;> simp
@[simp ↓] theorem faultFwReg_kept (v : Word) (s : State) : (faultFwReg v s).kept = s.kept := by
  simp [faultFwReg]
@[simp ↓] theorem reeveWindow_kept (a : Nat) (v : Word) (s : State) : (reeveWindow a v s).kept = s.kept := by
  unfold reeveWindow; (repeat' split) <;> simp
@[simp ↓] theorem stewOp_kept (r : Nat) (v : Word) (s : State) : (stewOp r v s).kept = s.kept := by
  unfold stewOp; extract_lets; (repeat' split) <;> simp
@[simp ↓] theorem stewReg_kept (r off : Nat) (v : Word) (s : State) : (stewReg r off v s).kept = s.kept := by
  unfold stewReg; (repeat' split) <;> simp
@[simp ↓] theorem dmaReg_kept (r off : Nat) (v : Word) (s : State) : (dmaReg r off v s).kept = s.kept := by
  unfold dmaReg; split <;> simp
@[simp ↓] theorem blockWrite_kept (r a : Nat) (v : Word) (s : State) : (blockWrite r a v s).kept = s.kept := by
  simp [blockWrite, foldl_kept, forEach_kept, ite_kept]
@[simp ↓] theorem mapWrite_kept (r a : Nat) (v : Word) (s : State) : (mapWrite r a v s).kept = s.kept := by
  unfold mapWrite; (repeat' split) <;> simp
@[simp ↓] theorem reeveWrite_kept (r : Nat) (user : Bool) (a : Nat) (v : Word) (s : State) :
    (reeveWrite r user a v s).kept = s.kept := by
  unfold reeveWrite; split
  · rfl
  · exact byReeve_kept _ _ _ (fun t => by simp) s
end Sys2Proof.Machine
end

