-- ==== Sys2Proof/Laws/Kept4.lean ====
section
/-! SUPPORT. What the functions of TwinMsg leave alone: the waiting commands and the
fuse array (the lemmas of State.kept). -/

set_option linter.unusedSimpArgs false

namespace Sys2Proof.Machine

/-! ### TwinMsg -/

@[simp ↓] theorem armGoesOn_kept (s : State) : (armGoesOn s).kept = s.kept := by
  simp [armGoesOn]
@[simp ↓] theorem armRequested_kept (fromJoiner : Bool) (mode : Nat) (bundles : List (BitVec 384)) (busy : Bool) (doms : List Word) (tx rx : List Nat) (s : State) : (armRequested fromJoiner mode bundles busy doms tx rx s).kept = s.kept := by
  unfold armRequested; dsimp only; (repeat' split) <;> first | rfl | simp
@[simp ↓] theorem peerArmed_kept (a : Nat) (s : State) : (peerArmed a s).kept = s.kept := by
  unfold peerArmed; dsimp only; (repeat' split) <;> simp
@[simp ↓] theorem peerCampaign_kept (what : Nat) (b : BitVec 48) (s : State) :
    (peerCampaign what b s).kept = s.kept := by
  unfold peerCampaign; (repeat' split) <;> simp
@[simp ↓] theorem peerPlan_kept (off : Nat) (w : Word) (s : State) : (peerPlan off w s).kept = s.kept := by
  simp [peerPlan]
@[simp ↓] theorem peerZone_kept (n phase verdict tries : Nat) (reasons : Word) (counts : List Nat) (s : State) :
    (peerZone n phase verdict tries reasons counts s).kept = s.kept := by
  simp [peerZone]
@[simp ↓] theorem peerService_kept (ws crcs : List Word) (c1 : BitVec 48) (s : State) :
    (peerService ws crcs c1 s).kept = s.kept := by
  unfold peerService; (repeat' split) <;> simp
@[simp ↓] theorem swapAnswered_kept (d : Nat) (ok : Bool) (s : State) : (swapAnswered d ok s).kept = s.kept := by
  unfold swapAnswered; dsimp only; (repeat' split) <;> simp [foldl_kept, forEach_kept, ite_kept]
@[simp ↓] theorem peerPlay_kept (w : Word) (s : State) : (peerPlay w s).kept = s.kept := by
  unfold peerPlay; extract_lets; (repeat' split) <;> simp
@[simp ↓] theorem peerStop_kept (s : State) : (peerStop s).kept = s.kept := by
  unfold peerStop; (repeat' split) <;> simp
@[simp ↓] theorem peerOwn_kept (d : Nat) (b : BitVec 48) (gs : List (Nat × Nat × Sample × Nat)) (s : State) :
    (peerOwn d b gs s).kept = s.kept := by
  simp [peerOwn]
theorem followMsg_kept (msg : TwinMsg) (s : State) : (followMsg msg s).kept = s.kept := by
  unfold followMsg; (repeat' split) <;> simp [foldl_kept, forEach_kept, ite_kept]
theorem followIf_kept (msg : TwinMsg) (s : State) : (if follows s then followMsg msg s else s).kept = s.kept := by
  split
  · exact followMsg_kept _ _
  · rfl
@[simp ↓] theorem twinMessage_kept (msg : TwinMsg) (s : State) : (twinMessage msg s).kept = s.kept := by
  cases msg with
  | ack swap n ok => cases swap
                     · exact commitAnswered_kept _ _ _
                     · exact swapAnswered_kept _ _ _
  | _ => dsimp only [twinMessage]; (try split) <;> first | rfl | simp [followMsg_kept]
@[simp ↓] theorem copyRows_kept (addr : Nat) (ws : List Sample) (s : State) : (copyRows addr ws s).kept = s.kept := by
  simp [copyRows, foldl_kept, forEach_kept, ite_kept]
@[simp ↓] theorem takeCapture_kept (q : Nat) (scratch nb slots : List Sample) (glides : List (Sample × Sample × Nat)) (s : State) : (takeCapture q scratch nb slots glides s).kept = s.kept := by
  unfold takeCapture; dsimp only; (repeat' split) <;> simp
@[simp ↓] theorem replayBell_kept (r : ReplayBell) (s : State) : (replayBell r s).kept = s.kept := by
  simp [replayBell, foldl_kept, forEach_kept, ite_kept]
@[simp ↓] theorem catchUp_kept (s : State) : (catchUp s).kept = s.kept := by
  simp [catchUp, foldl_kept, forEach_kept, ite_kept]
@[simp ↓] theorem copyPacket_kept (p : CopyPacket) (s : State) : (copyPacket p s).kept = s.kept := by
  unfold copyPacket; dsimp only; (repeat' split) <;> simp

end Sys2Proof.Machine
end

