-- ==== Sys2Proof/Laws/Leave.lean ====
section
/-! SUPPORT. What asking for leave, returning it and granting it can change (R313 to R318). -/

namespace Sys2Proof.Machine

open Sys2Proof.Safety

theorem leaveOnly_refl (s : State) : leaveOnly s s := ⟨by simp, rfl, rfl, rfl⟩

theorem leaveOnly_trans {s t u : State} (h : leaveOnly s t) (k : leaveOnly t u) : leaveOnly s u := by
  refine ⟨same_trans h.1 k.1, ?_, ?_, ?_⟩
  · rw [k.2.1, h.2.1]
  · rw [k.2.2.1, h.2.2.1]
  · rw [k.2.2.2, h.2.2.2]

/-- A change of the books alone. -/
theorem leaveOnly_setWarden (s : State) (w : Warden) : leaveOnly s (s.setWarden w) := ⟨by simp, rfl, rfl, rfl⟩

/-- Only the selects under way and the frames of two ports differ. -/
def portOnly (f g : Flash) : Prop := g = { f with busy := g.busy, frame := g.frame, frames := g.frames }

theorem portOnly_trans {f g h : Flash} (a : portOnly f g) (b : portOnly g h) : portOnly f h := by
  unfold portOnly at *
  rw [b, a]

theorem portOnly_begin (f : Flash) : portOnly f f.begin := by
  unfold Flash.begin portOnly
  split
  · rfl
  · split <;> rfl

theorem portOnly_submit (x : Frame) (f : Flash) : portOnly f (f.submit x) :=
  portOnly_trans (g := { f with frames := f.frames ++ [x] }) rfl (portOnly_begin _)

theorem portOnly_operate (r k : Nat) (st : FlashStep) (f : Flash) : portOnly f (f.operate r k st) :=
  portOnly_trans (portOnly_submit _ _) (portOnly_submit _ _)

theorem leaveOnly_onGrant (cls key : Nat) (s : State) : leaveOnly s (onGrant cls key s) := by
  unfold onGrant
  split <;> first
    | exact ⟨by simp, rfl, rfl, rfl⟩
    | exact ⟨by simp, portOnly_trans (g := { s.flash with busy := Tab.set false s.flash.busy key true }) rfl
        (portOnly_operate _ _ _ _), rfl, rfl⟩

theorem leaveOnly_grantNow (g : Grant) (s : State) : leaveOnly s (grantNow g s) :=
  leaveOnly_trans (leaveOnly_setWarden s _) (leaveOnly_onGrant _ _ _)

theorem leaveOnly_grantHead (s : State) : leaveOnly s (grantHead s) := by
  unfold grantHead
  split
  · exact leaveOnly_refl _
  · split
    · exact leaveOnly_trans (leaveOnly_setWarden s _) (leaveOnly_grantNow _ _)
    · exact leaveOnly_refl _

theorem leaveOnly_grantAll (s : State) : leaveOnly s (grantAll s) := by
  have key : ∀ (l : List Nat) (t : State), leaveOnly t (forEach l (fun t _ => grantHead t) t) := by
    intro l
    induction l with
    | nil => intro t; exact leaveOnly_refl _
    | cons a l ih => intro t; exact leaveOnly_trans (leaveOnly_grantHead t) (ih _)
  exact key _ s

/-- Asking for leave. -/
theorem leaveOnly_requestLeave (cls key : Nat) (s : State) : leaveOnly s (requestLeave cls key s) := by
  unfold requestLeave
  split
  · exact leaveOnly_refl _
  · dsimp only
    split
    · exact leaveOnly_setWarden s _
    · split
      · split
        · exact leaveOnly_grantNow _ _
        · exact leaveOnly_refl _
      · exact leaveOnly_trans (leaveOnly_setWarden s _) (leaveOnly_grantAll _)

/-- Returning leave. -/
theorem leaveOnly_returnLeave (cls key : Nat) (s : State) : leaveOnly s (returnLeave cls key s) := by
  unfold returnLeave
  split
  · exact leaveOnly_trans (leaveOnly_setWarden s _) (leaveOnly_grantAll _)
  · exact leaveOnly_refl _

/-- Withdrawing a request. -/
theorem leaveOnly_dropRequest (cls key : Nat) (s : State) : leaveOnly s (dropRequest cls key s) :=
  leaveOnly_trans (leaveOnly_setWarden s _) (leaveOnly_grantAll _)

/-- Either. -/
theorem leaveOnly_releaseLeave (cls key : Nat) (s : State) : leaveOnly s (releaseLeave cls key s) :=
  leaveOnly_trans (leaveOnly_dropRequest _ _ _) (leaveOnly_returnLeave _ _ _)

end Sys2Proof.Machine
end

