-- ==== Sys2Proof/Laws/Memory.lean ====
section
/-! SUPPORT. Every operation on granary memory and control RAM keeps their canonical form (R135, R372), and what a read
finds after a write. -/

namespace Sys2Proof.Machine

open Sys2Proof.Safety

/-- Leaving entries out of a rising table leaves a rising table. -/
theorem Tab.rising_keep {α : Type} (p : Nat → Bool) (lo : Option Nat) (t : Tab α) (h : Tab.rising lo t = true) :
    Tab.rising lo (Tab.keep p t) = true := by
  induction t generalizing lo with
  | nil => exact rfl
  | cons e t ih =>
    obtain ⟨j, v⟩ := e
    simp only [Tab.rising, Bool.and_eq_true] at h
    unfold Tab.keep at ih ⊢
    rw [List.filter_cons]
    split
    · simp only [Tab.rising, Bool.and_eq_true]
      exact ⟨h.1, ih _ h.2⟩
    · cases lo with
      | none => exact ih _ (Tab.rising_forget _ h.2)
      | some l =>
        have hl : l < j := by simpa using h.1
        exact ih _ (Tab.rising_weaken _ (Nat.le_of_lt hl) h.2)

/-- Leaving entries out keeps the canonical form. -/
theorem Tab.wf_keep {α : Type} [DecidableEq α] (d : α) (p : Nat → Bool) (t : Tab α) (h : Tab.wf d t = true) :
    Tab.wf d (Tab.keep p t) = true := by
  simp only [Tab.wf, Bool.and_eq_true] at h ⊢
  refine ⟨Tab.rising_keep p none t h.1, ?_⟩
  simp only [Tab.keep, List.all_eq_true, List.mem_filter] at h ⊢
  exact fun e he => h.2 e he.1

/-- Reading where nothing was left out. -/
theorem Tab.get_keep {α : Type} (d : α) (p : Nat → Bool) (t : Tab α) (k : Nat) :
    Tab.get d (Tab.keep p t) k = if p k then Tab.get d t k else d := by
  induction t with
  | nil => simp [Tab.keep, Tab.get]
  | cons e t ih =>
    obtain ⟨j, v⟩ := e
    unfold Tab.keep at ih ⊢
    rw [List.filter_cons]
    by_cases hk : j = k
    · subst hk
      by_cases hp : p j = true
      · simp [hp, Tab.get]
      · simp only [Bool.not_eq_true] at hp
        simp [hp, ih]
    · split <;> simp [Tab.get, hk, ih]

theorem memoryOk_reset : memoryOk State.reset = true := by decide

theorem memoryOk_granPut (h p : Nat) (v : Sample) (s : State) (hs : memoryOk s = true) :
    memoryOk (granPut s h p v) = true := by
  simp only [memoryOk, Bool.and_eq_true] at hs ⊢
  exact ⟨Tab.wf_set _ _ _ _ hs.1, hs.2⟩

theorem memoryOk_cellPut (h c : Nat) (v : Sample) (s : State) (hs : memoryOk s = true) :
    memoryOk (cellPut s h c v) = true := by
  simp only [memoryOk, Bool.and_eq_true] at hs ⊢
  exact ⟨Tab.wf_set _ _ _ _ hs.1, hs.2⟩

theorem memoryOk_granZero (h p n : Nat) (s : State) (hs : memoryOk s = true) : memoryOk (granZero h p n s) = true := by
  simp only [memoryOk, Bool.and_eq_true, granZero, State.setGranary] at hs ⊢
  exact ⟨Tab.wf_keep _ _ _ hs.1, hs.2⟩

theorem memoryOk_ctrlPut (a : Nat) (v : Word) (s : State) (hs : memoryOk s = true) : memoryOk (ctrlPut a v s) = true := by
  unfold ctrlPut
  split
  · simp only [memoryOk, Bool.and_eq_true] at hs ⊢
    exact ⟨hs.1, Tab.wf_set _ _ _ _ hs.2⟩
  · exact hs

theorem memoryOk_ctrlPutByte (a : Nat) (v : BitVec 8) (s : State) (hs : memoryOk s = true) :
    memoryOk (ctrlPutByte a v s) = true := memoryOk_ctrlPut _ _ _ hs

theorem memoryOk_ctrlPutBytes (a : Nat) (bs : List (BitVec 8)) (s : State) (hs : memoryOk s = true) :
    memoryOk (ctrlPutBytes a bs s) = true := by
  unfold ctrlPutBytes
  generalize bs.zipIdx = l
  induction l generalizing s with
  | nil => exact hs
  | cons e l ih => exact ih _ (memoryOk_ctrlPutByte _ _ _ hs)

theorem memoryOk_isolate (sleep : Bool) (s : State) (hs : memoryOk s = true) : memoryOk (isolate sleep s) = true := by
  simp only [memoryOk, Bool.and_eq_true] at hs ⊢
  have e : (isolate sleep s).ctrlRam = Tab.keep (fun k => k < retainedWords) s.ctrlRam := by cases sleep <;> exact id rfl
  have g : (isolate sleep s).granary = [] := by cases sleep <;> exact id rfl
  rw [e, g]
  exact ⟨rfl, Tab.wf_keep _ _ _ hs.2⟩

/-- A write moves no word: the cells are where they were. -/
@[simp] theorem granCell_granPut (s : State) (h p h' p' : Nat) (v : Sample) :
    granCell (granPut s h p v) h' p' = granCell s h' p' := rfl

/-- The granary word read after a write, where both cells lie in a hamlet. -/
theorem granGet_granPut (s : State) (h p h' p' : Nat) (v : Sample) (hp : granCell s h p < 4194304)
    (hp' : granCell s h' p' < 4194304) :
    granGet (granPut s h p v) h' p' = if h' = h ∧ granCell s h' p' = granCell s h p then v else granGet s h' p' := by
  have e : (granKey h' (granCell s h' p') = granKey h (granCell s h p)) ↔ (h' = h ∧ granCell s h' p' = granCell s h p) := by
    simp only [granKey]
    constructor
    · intro x; omega
    · rintro ⟨rfl, y⟩; rw [y]
  have k : granGet (granPut s h p v) h' p' =
      Tab.get 0 (Tab.set 0 s.granary (granKey h (granCell s h p)) v) (granKey h' (granCell s h' p')) := rfl
  rw [k, Tab.get_set]
  simp only [e, granGet, cellGet]

/-- A word in a row that is neither repaired nor redirected lies in its own cell. -/
theorem granCell_plain (s : State) (h p : Nat) (hs : (bank s (posBank h p)).savedAt (p % bankWords / 16) (p % 16) = none)
    (hr : (bank s (posBank h p)).repairOf (p % bankWords / 16) = none) : granCell s h p = p := by
  simp only [granCell, hs, hr]

/-- The control-RAM word read after a write. -/
theorem ctrlWord_ctrlPut (a b : Nat) (v : Word) (s : State) (ha : inCtrl a = true) (hb : inCtrl b = true) :
    ctrlWord (ctrlPut a v s) b = if ctrlIdx b = ctrlIdx a then v else ctrlWord s b := by
  simp only [ctrlWord, ctrlPut, ha, hb, if_true, State.setCtrlRam, Tab.get_set]

end Sys2Proof.Machine
end

