-- ==== Sys2Proof/Laws/Quern.lean ====
section
/-! SUPPORT. What a Quern row does: one slot of an operation on the Quern's own record, and the arithmetic behind it. -/

namespace Sys2Proof.Machine

open Sys2Proof.Safety

/-- An accepted row runs its slot. -/
theorem quernStep_next (i : Instr) (q : Nat) (op : State → State) (s : State) (h : WellFormed i = true) :
    quernStep i q op s = .next (quernSlot q op s) := by
  simp only [WellFormed, Option.isNone_iff_eq_none] at h
  simp only [quernStep, h]

/-- With no repetition waiting a slot runs its operation once. -/
theorem quernSlot_once (q : Nat) (op : State → State) (s : State) (h : (quern s q).rep ≤ 1) :
    quernSlot q op s = modQuern (op s) q (fun u => { u with pc := u.pc + 1, rep := 0 }) := by
  have : Nat.max 1 (quern s q).rep = 1 := Nat.max_eq_left h
  simp only [quernSlot, this]
  rfl

@[simp] theorem quern_modQuern (s : State) (q r : Nat) (f : Quern → Quern) :
    quern (modQuern s q f) r = if r = q then f (quern s q) else quern s r := by
  simp only [modQuern_eq, quern_setQuerns, Tab.get_mod]
  rfl

/-- An update of one Quern touches nothing else. -/
theorem onlyQuern_modQuern (s : State) (q : Nat) (f : Quern → Quern) : onlyQuern q s (modQuern s q f) := by
  refine ⟨by simp, fun r hr => ?_⟩
  rw [quern_modQuern, if_neg hr]

/-- Two updates of one Quern, one after the other. -/
theorem onlyQuern_trans {q : Nat} {s t u : State} (h : onlyQuern q s t) (k : onlyQuern q t u) : onlyQuern q s u :=
  ⟨same_trans h.1 k.1, fun r hr => (k.2 r hr).trans (h.2 r hr)⟩

/-- A slot of an operation on the Quern's record, with no repetition waiting. -/
theorem quernSlot_onQuern (q : Nat) (f : State → Quern → Quern) (s : State) (h : (quern s q).rep ≤ 1) :
    onlyQuern q s (quernSlot q (onQuern q f) s) ∧
      quern (quernSlot q (onQuern q f) s) q =
        { f s (quern s q) with pc := (f s (quern s q)).pc + 1, rep := 0 } := by
  rw [quernSlot_once q _ s h]
  refine ⟨onlyQuern_trans (onlyQuern_modQuern s q (f s)) (onlyQuern_modQuern _ q _), ?_⟩
  simp only [onQuern, quern_modQuern, if_true]

/-! ### Saturation and rounding -/

/-- sat20 as a number. -/
theorem sat20_toInt (x : Int) : (sat20 x).1.toInt = clamp20 x := by
  unfold sat20 clamp20 smp
  split
  · rw [BitVec.toInt_ofInt]
    simp only [Int.bmod_def]
    omega
  · split
    · rw [BitVec.toInt_ofInt]
      simp only [Int.bmod_def]
      omega
    · rw [BitVec.toInt_ofInt]
      simp only [Int.bmod_def]
      omega

/-- sat20 as a word. -/
theorem sat20_word (x : Int) : (sat20 x).1 = BitVec.ofInt 20 (clamp20 x) := by
  rw [← sat20_toInt, BitVec.ofInt_toInt]

/-- When sat20 clips. -/
theorem sat20_clips (x : Int) : (sat20 x).2 = outside20 x := by
  unfold sat20 outside20
  split
  · simp; omega
  · split
    · simp; omega
    · simp; omega

/-- sat52 as a number. -/
theorem sat52_toInt (x : Int) : (sat52 x).1.toInt = clamp52 x := by
  unfold sat52 clamp52
  split
  · rw [BitVec.toInt_ofInt]
    simp only [Int.bmod_def]
    omega
  · split
    · rw [BitVec.toInt_ofInt]
      simp only [Int.bmod_def]
      omega
    · rw [BitVec.toInt_ofInt]
      simp only [Int.bmod_def]
      omega

/-- When sat52 clips. -/
theorem sat52_clips (x : Int) : (sat52 x).2 = outside52 x := by
  unfold sat52 outside52
  split
  · simp; omega
  · split
    · simp; omega
    · simp; omega

/-- Rounding division is to the nearest, ties to even. -/
theorem rneDiv_isRounded (x : Int) (r : Nat) : isRounded x r (rneDiv x (2 ^ r)) := by
  have hp : (0 : Int) < 2 ^ r := by positivity
  unfold isRounded rneDiv
  simp only [Nat.cast_pow, Nat.cast_ofNat]
  have hd := Int.emod_add_mul_ediv x (2 ^ r)
  have h0 := Int.emod_nonneg x (ne_of_gt hp)
  have h1 := Int.emod_lt_of_pos x hp
  have hm : x - x / 2 ^ r * 2 ^ r = x % 2 ^ r := by linarith
  rw [hm]
  generalize hq : x / 2 ^ r = k at *
  generalize hn : (2 : Int) ^ r = n at *
  generalize hrr : x % n = m at *
  have e1 : x - (k + 1) * n = m - n := by linarith
  have e0 : x - k * n = m := hm
  split
  · rw [e1, abs_of_nonpos (by omega)]
    omega
  · split
    · rw [e1, abs_of_nonpos (by omega)]
      omega
    · rw [e0, abs_of_nonneg h0]
      omega

/-- Dropping bits is convergent rounding. -/
theorem conv_isRounded (x : Int) (r : Nat) : isRounded x r (conv x r) := by
  unfold conv
  split
  · rename_i h
    subst h
    simp [isRounded]
  · exact rneDiv_isRounded x r

/-- A shift is as R85 and R86 say. -/
theorem shiftBy_isShifted (x b : Int) : isShifted x b (shiftBy x b) := by
  unfold isShifted shiftBy
  split
  · rfl
  · exact conv_isRounded x _

/-- The store conversion. -/
theorem storeConv_eq (a : BitVec 52) (s : Int) : storeConv a s = sat20 (conv a.toInt (19 - s).toNat) := rfl

/-! ### The post-modify -/

/-- What the post-modify of one operand leaves. -/
theorem advance_ptr (u : Quern) (a : Opnd) (p : Fin 4) : (u.advance a).ptr p = steppedPtr u [a] p := by
  cases a with
  | ind t k r =>
    simp only [Quern.advance, Quern.ptr, steppedPtr, Tab.get_mod, Fin.val_inj]
    by_cases h : p = r
    · subst h
      simp
    · rw [if_neg h, if_neg (fun e => h e.symm)]
  | _ => rfl

/-- The post-modify writes the pointers only. -/
theorem advance_only (u : Quern) (a : Opnd) : u.advance a = { u with p := (u.advance a).p } := by
  cases a <;> rfl

/-- What the post-modify of two operands leaves, where they do not name one pointer twice. -/
theorem advance_advance_ptr (u : Quern) (a b : Opnd) (h : clash a b = false) (p : Fin 4) :
    ((u.advance a).advance b).ptr p = steppedPtr u [a, b] p := by
  rw [advance_ptr]
  cases b with
  | ind t k r =>
    cases a with
    | ind t' k' r' =>
      have hr : r' ≠ r := by
        simp [clash, Opnd.pointer] at h
        exact h.2
      simp only [steppedPtr, advance_ptr]
      by_cases h1 : r = p
      · subst h1
        simp [hr]
      · simp [h1]
    | _ => rfl
  | _ =>
    cases a with
    | ind t' k' r' => simp only [steppedPtr, advance_ptr]
    | _ => rfl

/-- The post-modify depends on the pointers only. -/
theorem steppedPtr_congr (u w : Quern) (h : w.p = u.p) (ops : List Opnd) (p : Fin 4) :
    steppedPtr w ops p = steppedPtr u ops p := by
  have hp : ∀ r : Nat, w.ptr r = u.ptr r := fun r => by simp only [Quern.ptr, h]
  induction ops with
  | nil => exact hp p
  | cons a l ih =>
    cases a with
    | ind t k r => simp only [steppedPtr, hp, ih]
    | _ => exact ih

/-- The post-modify of two operands writes the pointers only. -/
theorem advance_advance_only (u : Quern) (a b : Opnd) :
    (u.advance a).advance b = { u with p := ((u.advance a).advance b).p } := by
  cases a <;> cases b <;> rfl

/-- A list with an element has a lowest one. -/
theorem lowest_ne_none (l : List Nat) (c : Nat) (h : c ∈ l) : lowest l ≠ none := by
  cases l with
  | nil => simp at h
  | cons d ds =>
    simp only [lowest]
    split <;> simp

/-- A well-formed instruction passes each of its checks. -/
theorem wf_check {i : Instr} (h : WellFormed i = true) {c : Nat × Bool} (hc : c ∈ loaderChecks i) : c.2 = true := by
  by_contra hn
  have hm : c.1 ∈ failing (loaderChecks i) := by
    simp only [failing, List.mem_map, List.mem_filter]
    exact ⟨c, ⟨hc, by simpa using hn⟩, rfl⟩
  simp only [WellFormed, Option.isNone_iff_eq_none, loaderCode] at h
  exact lowest_ne_none _ _ hm h

/-- Operands that pass the loader's checks do not clash. -/
theorem clash_of_wf (a b : Opnd) (i : Instr) (h : WellFormed i = true) (hi : (0x05, !clash a b) ∈ loaderChecks i) :
    clash a b = false := by
  have := wf_check h hi
  simpa using this

end Sys2Proof.Machine
end

