-- ==== Sys2Proof/Laws/QuernRows.lean ====
section
/-! SUPPORT. The spec lemma of each shared Quern operation: what one slot of it writes. -/

namespace Sys2Proof.Machine

open Sys2Proof.Safety

@[simp] theorem dreg_setD (u : Quern) (n r : Nat) (v : Sample) :
    (u.setD n v).dreg r = if r = n then v else u.dreg r := by
  simp only [Quern.dreg, Quern.setD, Tab.get_set]

@[simp] theorem accu_setAcc (u : Quern) (n r : Nat) (v : BitVec 52) :
    (u.setAcc n v).accu r = if r = n then v else u.accu r := by
  simp only [Quern.accu, Quern.setAcc, Tab.get_set]

/-- A slot of an operation on the Quern's own record that leaves the program counter alone. -/
theorem slotRan_onQuern (q : Nat) (f : State → Quern → Quern) (ops : List Opnd) (s : State) (h : (quern s q).rep ≤ 1)
    (hpc : (f s (quern s q)).pc = (quern s q).pc)
    (hp : ∀ p : Fin 4, (f s (quern s q)).ptr p = steppedPtr (quern s q) ops p) :
    slotRan q ops s (quernSlot q (onQuern q f) s) := by
  have k := quernSlot_onQuern q f s h
  refine ⟨k.1, ?_, ?_, fun p => ?_⟩
  · rw [k.2]
    simp only [hpc]
  · rw [k.2]
  · rw [k.2, ← hp p]
    rfl

/-- The result of an operation that writes one data register. -/
theorem wroteD_of (q : Nat) (dd : Fin 8) (ops : List Opnd) (f : State → Quern → Quern) (s : State) (v : Sample) (c : Bool)
    (h : (quern s q).rep ≤ 1)
    (hf : f s (quern s q) = { ((quern s q).setD dd v).orSat c with p := (f s (quern s q)).p })
    (hp : ∀ p : Fin 4, (f s (quern s q)).ptr p = steppedPtr (quern s q) ops p) :
    wroteD q dd ops s (quernSlot q (onQuern q f) s) v.toInt c := by
  have k := quernSlot_onQuern q f s h
  refine ⟨slotRan_onQuern q f ops s h ?_ hp, ?_, ?_, fun r hr => ?_⟩
  · rw [hf]; rfl
  · rw [k.2, hf]; rfl
  · rw [k.2, hf]
    show (((quern s q).setD dd v).dreg dd).toInt = v.toInt
    rw [dreg_setD, if_pos rfl]
  · rw [k.2, hf]
    show ((quern s q).setD dd v).dreg r = (quern s q).dreg r
    rw [dreg_setD, if_neg (fun e => hr (Fin.ext e))]

/-- Dd := f a. -/
theorem dataOne_slot (q : Nat) (dd : Fin 8) (a : Opnd) (f : Sample → Sample × Bool) (s : State) (h : (quern s q).rep ≤ 1) :
    wroteD q dd [a] s (quernSlot q (onQuern q (dataOne dd a f)) s) (f (readOp s (quern s q) a)).1.toInt
      (f (readOp s (quern s q) a)).2 := by
  apply wroteD_of q dd [a] _ s _ _ h
  · exact advance_only _ a
  · intro p
    rw [dataOne, advance_ptr]
    refine steppedPtr_congr _ _ ?_ _ _
    rfl

/-- Dd := f a b. -/
theorem dataTwo_slot (q : Nat) (dd : Fin 8) (a b : Opnd) (f : Sample → Sample → Sample × Bool) (s : State)
    (h : (quern s q).rep ≤ 1) (hc : clash a b = false) :
    wroteD q dd [a, b] s (quernSlot q (onQuern q (dataTwo dd a b f)) s)
      (f (readOp s (quern s q) a) (readOp s (quern s q) b)).1.toInt
      (f (readOp s (quern s q) a) (readOp s (quern s q) b)).2 := by
  apply wroteD_of q dd [a, b] _ s _ _ h
  · exact advance_advance_only _ a b
  · intro p
    rw [dataTwo, advance_advance_ptr _ _ _ hc]
    refine steppedPtr_congr _ _ ?_ _ _
    rfl

/-- The result of an operation that writes accumulators. -/
theorem wroteAcc_of (q : Nat) (vs : List (Fin 4 × Int)) (ops : List Opnd) (f : State → Quern → Quern) (s : State) (c : Bool)
    (h : (quern s q).rep ≤ 1)
    (hf : f s (quern s q) =
      { quern s q with acc := (f s (quern s q)).acc, ova := (quern s q).ova || c, p := (f s (quern s q)).p })
    (hv : ∀ e ∈ vs, ((f s (quern s q)).accu e.1).toInt = e.2)
    (hr : ∀ r : Fin 4, r ∉ vs.map (·.1) → (f s (quern s q)).accu r = (quern s q).accu r)
    (hp : ∀ p : Fin 4, (f s (quern s q)).ptr p = steppedPtr (quern s q) ops p) :
    wroteAcc q vs ops s (quernSlot q (onQuern q f) s) c := by
  have k := quernSlot_onQuern q f s h
  have hpc : (f s (quern s q)).pc = (quern s q).pc := by rw [hf]
  refine ⟨slotRan_onQuern q f ops s h hpc hp, ?_, fun e he => ?_, fun r hrv => ?_⟩
  · rw [k.2]
    show ({ f s (quern s q) with pc := (f s (quern s q)).pc + 1, rep := 0 } : Quern) =
      { quern s q with acc := (f s (quern s q)).acc, ova := (quern s q).ova || c, p := (f s (quern s q)).p,
                       pc := (f s (quern s q)).pc + 1, rep := 0 }
    rw [hpc]
    generalize f s (quern s q) = w at hf
    rw [hf]
  · rw [k.2, ← hv e he]; rfl
  · rw [k.2, ← hr r hrv]; rfl

@[simp] theorem accu_advance (u : Quern) (a : Opnd) (r : Nat) : (u.advance a).accu r = u.accu r := by
  cases a <;> rfl

@[simp] theorem accu_orOva (u : Quern) (c : Bool) (r : Nat) : (u.orOva c).accu r = u.accu r := rfl

/-- Writing an accumulator with the one saturation of R77. -/
theorem accu_accPut (u : Quern) (n r : Nat) (x : Int) :
    ((u.accPut n x).accu r).toInt = if r = n then clamp52 x else (u.accu r).toInt := by
  simp only [Quern.accPut, accu_orOva, accu_setAcc]
  split
  · exact sat52_toInt x
  · rfl

/-- Another accumulator. -/
theorem accu_accPut_ne (u : Quern) (n r : Nat) (x : Int) (h : r ≠ n) : (u.accPut n x).accu r = u.accu r := by
  simp only [Quern.accPut, accu_orOva, accu_setAcc, if_neg h]

/-- Writing an accumulator changes it and OVA only. -/
theorem accPut_only (u : Quern) (n : Nat) (x : Int) :
    u.accPut n x = { u with acc := (u.accPut n x).acc, ova := u.ova || outside52 x } := by
  rw [← sat52_clips]; rfl

/-- Two accumulators and OVA written twice. -/
theorem setAcc_twice_only (u : Quern) (n m : Nat) (v w : BitVec 52) (a b : Bool) :
    (((u.setAcc n v).orOva a).setAcc m w).orOva b =
      { u with acc := ((u.setAcc n v).setAcc m w).acc, ova := u.ova || (a || b) } := by
  rw [← Bool.or_assoc]; rfl

/-- The same for two. -/
theorem accPut_accPut_only (u : Quern) (n m : Nat) (x y : Int) :
    (u.accPut n x).accPut m y =
      { u with acc := ((u.accPut n x).accPut m y).acc, ova := u.ova || (outside52 x || outside52 y) } := by
  simp only [Quern.accPut, sat52_clips]
  generalize (sat52 x).1 = v
  generalize (sat52 y).1 = w
  generalize outside52 x = a
  generalize outside52 y = b
  exact setAcc_twice_only u n m v w a b

/-- One accumulator written, then the operands post-modified. -/
theorem accOne_slot (q : Nat) (c : Fin 4) (ops : List Opnd) (f : State → Quern → Quern) (s : State) (x : Int)
    (h : (quern s q).rep ≤ 1)
    (hf : f s (quern s q) = { (quern s q).accPut c x with p := (f s (quern s q)).p })
    (hp : ∀ p : Fin 4, (f s (quern s q)).ptr p = steppedPtr (quern s q) ops p) :
    wroteAcc q [(c, clamp52 x)] ops s (quernSlot q (onQuern q f) s) (outside52 x) := by
  apply wroteAcc_of q _ ops f s _ h
  · rw [hf, accPut_only]
  · intro e he
    simp only [List.mem_singleton] at he
    subst he
    rw [hf]
    show (((quern s q).accPut c x).accu c).toInt = _
    rw [accu_accPut, if_pos rfl]
  · intro r hr
    simp only [List.map_cons, List.map_nil, List.mem_singleton] at hr
    rw [hf]
    show ((quern s q).accPut c x).accu r = _
    rw [accu_accPut_ne _ _ _ _ (fun e => hr (Fin.ext e))]
  · exact hp

/-- ACC1 := f (old) (a * b). -/
theorem mulOp_slot (q : Nat) (c : Fin 4) (cf : Bool) (a b : Opnd) (f : Int → Int → Int) (s : State)
    (h : (quern s q).rep ≤ 1) (hc : clash a b = false) :
    let x := f ((quern s q).accu c).toInt (product cf (readOp s (quern s q) a) (readOp s (quern s q) b))
    wroteAcc q [(c, clamp52 x)] [a, b] s (quernSlot q (onQuern q (mulOp c cf a b f)) s) (outside52 x) := by
  apply accOne_slot q c [a, b] _ s _ h
  · exact advance_advance_only _ a b
  · intro p
    rw [mulOp, advance_advance_ptr _ _ _ hc]
    refine steppedPtr_congr _ _ ?_ _ _
    rfl

/-- ACC1 := f (old) (a0 * b0 + a1 * b1). -/
theorem dualOp_slot (q : Nat) (c : Fin 4) (cf : Bool) (a b : Opnd) (f : Int → Int → Int) (s : State)
    (h : (quern s q).rep ≤ 1) (hc : clash a b = false) :
    let x := f ((quern s q).accu c).toInt
      (product cf (readPair s (quern s q) a).1 (readPair s (quern s q) b).1 +
        product cf (readPair s (quern s q) a).2 (readPair s (quern s q) b).2)
    wroteAcc q [(c, clamp52 x)] [a, b] s (quernSlot q (onQuern q (dualOp c cf a b f)) s) (outside52 x) := by
  apply accOne_slot q c [a, b] _ s _ h
  · exact advance_advance_only _ a b
  · intro p
    rw [dualOp, advance_advance_ptr _ _ _ hc]
    refine steppedPtr_congr _ _ ?_ _ _
    rfl

/-- ACC1 := f (old) (a, aligned). -/
theorem loadOp_slot (q : Nat) (c : Fin 4) (cf : Bool) (a : Opnd) (f : Int → Int → Int) (s : State)
    (h : (quern s q).rep ≤ 1) :
    let x := f ((quern s q).accu c).toInt (aligned cf (readOp s (quern s q) a))
    wroteAcc q [(c, clamp52 x)] [a] s (quernSlot q (onQuern q (loadOp c cf a f)) s) (outside52 x) := by
  apply accOne_slot q c [a] _ s _ h
  · exact advance_only _ a
  · intro p
    rw [loadOp, advance_ptr]
    refine steppedPtr_congr _ _ ?_ _ _
    rfl

/-- ACC1 := f ACC1 ACC2. -/
theorem accOp_slot (q : Nat) (c d : Fin 4) (f : Int → Int → Int) (s : State) (h : (quern s q).rep ≤ 1) :
    let x := f ((quern s q).accu c).toInt ((quern s q).accu d).toInt
    wroteAcc q [(c, clamp52 x)] [] s (quernSlot q (onQuern q (accOp c d f)) s) (outside52 x) := by
  apply accOne_slot q c [] _ s _ h
  · rfl
  · intro p
    rfl

/-- ACC1 and ACC2 take the products of the halves. -/
theorem pairOp_slot (q : Nat) (c d : Fin 4) (cf : Bool) (a b : Opnd) (f : Int → Int → Int) (s : State)
    (h : (quern s q).rep ≤ 1) (hc : clash a b = false) (hcd : c ≠ d) :
    let x := f ((quern s q).accu c).toInt (product cf (readPair s (quern s q) a).1 (readPair s (quern s q) b).1)
    let y := f ((quern s q).accu d).toInt (product cf (readPair s (quern s q) a).2 (readPair s (quern s q) b).2)
    wroteAcc q [(c, clamp52 x), (d, clamp52 y)] [a, b] s (quernSlot q (onQuern q (pairOp c d cf a b f)) s)
      (outside52 x || outside52 y) := by
  intro x y
  have hv : (d : Nat) ≠ c := fun e => hcd (Fin.ext e.symm)
  have hf : pairOp c d cf a b f s (quern s q) =
      { ((quern s q).accPut c x).accPut d y with p := (pairOp c d cf a b f s (quern s q)).p } := by
    exact advance_advance_only _ a b
  have hacc : ∀ r : Nat, (pairOp c d cf a b f s (quern s q)).accu r = (((quern s q).accPut c x).accPut d y).accu r := by
    intro r
    rw [hf]; rfl
  apply wroteAcc_of q _ [a, b] _ s _ h
  · generalize pairOp c d cf a b f s (quern s q) = w at hf
    rw [hf]
    conv => lhs; rw [accPut_accPut_only]
  · intro e he
    simp only [List.mem_cons, List.not_mem_nil, or_false] at he
    rw [hacc]
    rcases he with rfl | rfl
    · rw [accu_accPut, if_neg (fun e => hv e.symm), accu_accPut, if_pos rfl]
    · rw [accu_accPut, if_pos rfl]
  · intro r hr
    simp only [List.map_cons, List.map_nil, List.mem_cons, List.not_mem_nil, or_false, not_or] at hr
    rw [hacc, accu_accPut_ne _ _ _ _ (fun e => hr.2 (Fin.ext e)), accu_accPut_ne _ _ _ _ (fun e => hr.1 (Fin.ext e))]
  · intro p
    rw [pairOp, advance_advance_ptr _ _ _ hc]
    refine steppedPtr_congr _ _ ?_ _ _
    rfl

end Sys2Proof.Machine
end

