-- ==== Sys2Proof/Laws/Words.lean ====
section
/-! SUPPORT. Reading the fields of a packed word. -/

namespace Sys2Proof.Machine

/-- A field of a word given as a number. -/
theorem fld_wrd (n lo len : Nat) (h : lo + len ≤ 32) : fld (wrd n) lo len = n / 2 ^ lo % 2 ^ len := by
  simp only [fld, wrd, BitVec.toNat_ofNat, Nat.shiftRight_eq_div_pow]
  have e : (2 : Nat) ^ 32 = 2 ^ lo * (2 ^ len * 2 ^ (32 - lo - len)) := by
    rw [← pow_add, ← pow_add]
    congr 1
    omega
  rw [e, Nat.mod_mul_right_div_self, Nat.mod_mul_right_mod]

/-- A flag is 0 or 1. -/
theorem b2n_le (b : Bool) : b2n b ≤ 1 := by
  cases b <;> decide

/-- A bit of a word given as a number. -/
theorem bit_wrd (n i : Nat) (h : i < 32) : bit (wrd n) i = decide (n / 2 ^ i % 2 = 1) := by
  simp only [bit, wrd, BitVec.getLsbD_ofNat, h, decide_true, Bool.true_and, Nat.testBit_eq_decide_div_mod_eq]

end Sys2Proof.Machine
end

