-- ==== Sys2Proof/Tests/Slice0.lean ====
section
/-! SUPPORT. Tests: the loader's refusals, worked examples of the spec, and for each statement with hypotheses a
state and operands that meet them, clause by clause. -/

namespace Sys2Proof.Tests

open Sys2Proof Sys2Proof.Machine Sys2Proof.Safety

set_option Elab.async false

/-- The state s with a command of opcode op and words ws at the head in mailbox 0, in a mode. -/
def cmd (mode : Mode) (op : Nat) (ws : List Nat) (s : State := {}) : State :=
  { s with
    aon := { s.aon with mode := mode }
    jex := { s.jex with started := true }
    host := { s.host with
      served := true, doorbells := [0]
      mbs := Tab.set {} s.host.mbs 0
        { state := .queued, words := Tab.setRun 0 [] 0 (wrd (op * 16777216 + (ws.length + 1) * 256) :: ws.map wrd) } } }

/-- A state whose two flashes have 256 MiB each. -/
def flashed : State := { flash := { size := [(0, 0x10000000), (1, 0x10000000)] } }


/-- Quern 0 has window 0 bound to entry 4, a line of length n that it owns. -/
def delayed (n late : Nat) : State :=
  { querns := [(0, { lateBells := late, active := some { windows := [{ entry := 4, bound := true }] } })]
    lines := [(4, { valid := true, length := n })] }
/-- Select 0 is busy with the command in mailbox 0, which is accepted. -/
def writing (op : Nat) (ws : List Nat) (s : State := {}) : State :=
  let t := acceptHead 0 (cmd .maintenance op ws s)
  { t with flash := { t.flash with busy := [(0, true)], ops := [(0, { sel := 0, mb := 1, cls := 3, steps := [.program 0 []], work := .cmd 0 })] } }

theorem test_witness_DataOneOperand :
    ((quern ({} : State) 0).rep ≤ 1) ∧
    (WellFormed (.mov 0 0 (.nb 255)) = true) ∧
    (WellFormed (.abs 0 0 (.imm 4096)) = true) ∧
    (WellFormed (.neg 127 7 (.led 4095)) = true) ∧
    (WellFormed (.shf 0 0 (.reg 7) 19) = true) ∧
    (WellFormed (.peak 0 0 (.ind .sqr 0 3)) = true) := by and_intros <;> decide +kernel

theorem test_witness_DataTwoOperands :
    ((quern ({} : State) 0).rep ≤ 1) ∧
    (WellFormed (.add 0 0 (.led 0) (.scr 1023)) = true) ∧
    (WellFormed (.sub 0 0 (.reg 0) (.reg 0)) = true) ∧
    (WellFormed (.min 0 0 (.imm 1) (.imm 2)) = true) ∧
    (WellFormed (.max 0 0 (.nb 0) (.sqr 8191)) = true) ∧
    (WellFormed (.sel 0 9 0 (.reg 1) (.reg 2)) = true) ∧
    (WellFormed (.env 0 true 0 (.reg 1) (.led 4094)) = true) := by and_intros <;> decide +kernel

theorem test_witness_LogarithmAndPower :
    ((quern ({} : State) 0).rep ≤ 1) ∧
    (WellFormed (.log2 0 0 (.imm 0)) = true) ∧
    (WellFormed (.exp2 0 0 (.gld 63)) = true) := by and_intros <;> decide +kernel

theorem test_witness_MultiplyRows :
    ((quern ({} : State) 0).rep ≤ 1) ∧
    (WellFormed (.mpy 0 0 false (.reg 7) (.gld 63)) = true) ∧
    (WellFormed (.mac 0 3 true (.led 4095) (.scr 1023)) = true) ∧
    (WellFormed (.msu 0 0 true (.imm 1) (.imm 1)) = true) ∧
    (WellFormed (.dmpy 0 0 true (.reg 6) (.led 4094)) = true) ∧
    (WellFormed (.dmac 0 0 true (.reg 6) (.led 4094)) = true) ∧
    (WellFormed (.dmsu 0 0 false (.scr 1022) (.gld 62)) = true) := by and_intros <;> decide +kernel

theorem test_witness_PairMultiplyRows :
    ((quern ({} : State) 0).rep ≤ 1) ∧
    (WellFormed (.pmpy 0 0 1 true (.reg 6) (.led 4094)) = true) ∧
    (WellFormed (.pmac 0 3 2 false (.scr 1022) (.gld 62)) = true) ∧
    (WellFormed (.pmsu 0 1 0 true (.imm 1) (.reg 0)) = true) := by and_intros <;> decide +kernel

theorem test_witness_AccumulatorRows :
    ((quern ({} : State) 0).rep ≤ 1) ∧
    (WellFormed (.lda 0 0 true (.gld 0)) = true) ∧
    (WellFormed (.adda 0 0 false (.nb 255)) = true) ∧
    (WellFormed (.suba 0 3 true (.imm 4095)) = true) ∧
    (WellFormed (.sha 0 0 24) = true) ∧
    (WellFormed (.sha 0 3 (-24)) = true) ∧
    (WellFormed (.sela 0 0 1 9) = true) := by and_intros <;> decide +kernel

theorem test_witness_StoreConversion :
    ((quern ({} : State) 0).rep ≤ 1) ∧
    (WellFormed (.sta 0 0 0 18) = true) ∧
    (WellFormed (.sta 0 0 0 (-12)) = true) ∧
    (WellFormed (.stam 0 0 (.nb 191) 18) = true) ∧
    (WellFormed (.stam 0 0 (.sqr 8191) (-12)) = true) ∧
    (WellFormed (.st 0 (.led 4095) (.reg 7)) = true) := by and_intros <;> decide +kernel

theorem test_witness_ConditionRows :
    ((quern ({} : State) 0).rep ≤ 1) ∧
    (WellFormed (.cmp 0 (.reg 0) (.imm 0)) = true) ∧
    (WellFormed (.tstf 0 (.sqr 8191)) = true) ∧
    (WellFormed (.tstf 0 (.ind .sqr 1 0)) = true) ∧
    (quernDom { active := some { domain := 3 } } = some 3) := by and_intros <;> decide +kernel

theorem test_witness_ControlRows :
    ((quern ({} : State) 0).rep ≤ 1) ∧
    (WellFormed (.rep 0 1) = true) ∧
    (WellFormed (.rep 0 1024) = true) ∧
    (WellFormed (.setp 0 3 3 (.imm 8191)) = true) ∧
    (WellFormed (.setp 0 0 0 (.reg 7)) = true) := by and_intros <;> decide +kernel

theorem test_witness_DelayReads :
    ((quern ({} : State) 0).rep ≤ 1) ∧
    (WellFormed (.tap 0 0 31 (.imm 8191)) = true) ∧
    (WellFormed (.tapf 0 7 0 (.reg 0)) = true) ∧
    (let s := delayed 1 0
    let t := line s 4
    ((quern s 0).window 0).bound = true ∧ (quern s 0).rep ≤ 1 ∧ (quern s 0).lateBells = 0 ∧ t.valid = true ∧ 1 ≤ t.length ∧ t.owner = 0 ∧ t.stored = false ∧ (∀ j, j < t.length → (bank s (posBank t.hamlet (t.pos j))).owner = 0) ∧ passIdx (quern s 0) 0 t < t.length) := by and_intros <;> decide +kernel

theorem test_witness_DelayWrite :
    (let s := delayed 1 0
    let t := line s 4
    ((quern s 0).window 0).bound = true ∧ (quern s 0).rep ≤ 1 ∧ (quern s 0).lateBells = 0 ∧ t.valid = true ∧ 1 ≤ t.length ∧ t.owner = 0 ∧ t.stored = false ∧ (∀ j, j < t.length → (bank s (posBank t.hamlet (t.pos j))).owner = 0) ∧ passIdx (quern s 0) 0 t < t.length) ∧
    (let s := delayed 2 1
    let t := line s 4
    ((quern s 0).window 0).bound = true ∧ (quern s 0).rep ≤ 1 ∧ (quern s 0).lateBells = 1 ∧ t.valid = true ∧ 1 ≤ t.length ∧ t.owner = 0 ∧ t.stored = false ∧ (∀ j, j < t.length → (bank s (posBank t.hamlet (t.pos j))).owner = 0) ∧ passIdx (quern s 0) 0 t < t.length) ∧
    (let s := { delayed 1 0 with twin := { arm := .join, joinBell := [(0, 1)] } }
    let t := line s 4
    ((quern s 0).window 0).bound = true ∧ (quern s 0).rep ≤ 1 ∧ (quern s 0).lateBells = 0 ∧ (quernDom (quern s 0)).any (captures s) = true ∧ t.valid = true ∧ t.owner = 0 ∧ t.stored = false ∧ (bank s (posBank t.hamlet (t.pos (passIdx (quern s 0) 0 t)))).owner = 0) := by and_intros <;> decide +kernel

theorem test_witness_RefusedByLoader :
    (loaderCode (.mov 0 0 (.led 4096)) = some 0x02) ∧
    (loaderCode (.tap 0 0 0 (.sqr 0)) = some 0x03) ∧
    (loaderCode (.dmpy 0 0 false (.scr 1023) (.reg 0)) = some 0x04) ∧
    (loaderCode (.add 0 0 (.led 0) (.led 1)) = some 0x05) ∧
    (loaderCode (.rep 0 1025) = some 0x06) ∧
    (loaderCode (.pmpy 0 0 1 false (.reg 1) (.imm 0)) = some 0x08) ∧
    (loaderCode (.pmac 0 2 2 false (.reg 0) (.imm 0)) = some 0x09) ∧
    (loaderCode (.sela 0 0 1 10) = some 0x0A) ∧
    (loaderCode (.st 0 (.nb 192) (.reg 0)) = some 0x0B) ∧
    (loaderCode (.sta 0 0 0 19) = some 0x0D) := by and_intros <;> decide +kernel

/-- Quern 0 with a line of its own at window 0 and a repetition count of 2. -/
def repeating : State := { delayed 2 0 with
  querns := [(0, { rep := 2, active := some { windows := [{ entry := 4, bound := true }] } })] }

theorem test_witness_RepeatRunsTheSlotAgain :
    ((quern repeating 0).rep = 1 + 1) ∧
    (∀ i ∈ [Instr.nop 0, .mpy 0 0 true (.reg 6) (.led 4094), .mac 0 3 true (.led 4095) (.scr 1023), .msu 0 0 true (.imm 1) (.imm 1),
        .pmpy 0 0 1 true (.reg 6) (.led 4094), .pmac 0 3 2 false (.scr 1022) (.gld 62), .pmsu 0 1 0 true (.imm 1) (.reg 0),
        .dmpy 0 0 true (.reg 6) (.led 4094), .dmac 0 0 true (.reg 6) (.led 4094), .dmsu 0 0 false (.scr 1022) (.gld 62),
        .lda 0 0 true (.gld 0), .adda 0 0 false (.nb 255), .suba 0 3 true (.imm 4095), .clra 0 0, .mova 0 0 1, .addaa 0 0 1, .subaa 0 0 1,
        .sha 0 0 24, .sta 0 0 0 18, .stam 0 0 (.nb 191) 18],
      (runTimes i 2 (modQuern repeating 0 (fun u => { u with rep := 0 }))).isSome = true) ∧
    (∀ i ∈ [Instr.mov 0 0 (.nb 255), .add 0 0 (.led 0) (.scr 1023), .sub 0 0 (.reg 0) (.reg 0), .abs 0 0 (.imm 4096), .neg 0 7 (.led 4095),
        .min 0 0 (.imm 1) (.imm 2), .max 0 0 (.nb 0) (.sqr 8191), .shf 0 0 (.reg 7) 19, .st 0 (.led 4095) (.reg 7), .setp 0 3 3 (.imm 8191),
        .cmp 0 (.reg 0) (.imm 0), .cmpa 0 0 1, .tstf 0 (.sqr 8191), .sel 0 9 0 (.reg 1) (.reg 2), .sela 0 0 1 9, .log2 0 0 (.imm 0),
        .exp2 0 0 (.gld 63), .env 0 true 0 (.reg 1) (.led 4094), .peak 0 0 (.ind .sqr 0 3), .tap 0 0 0 (.imm 0), .tapf 0 0 0 (.reg 0), .put 0 0 0],
      (runTimes i 2 (modQuern repeating 0 (fun u => { u with rep := 0 }))).isSome = true) := by and_intros <;> decide +kernel

theorem test_witness_IdleStepIsAnAonTick :
    (({} : State).pending = [] ∧ ({} : State).aon.vddAon = false) ∧
    (let s : State := { aon := { vddAon := true }, gate := { phase := .asleep } }
    s.pending = [] ∧ s.aon.vddAon = true ∧ s.aon.sleeping = false ∧ s.gate.phase = .asleep ∧ s.aon.timer ≠ some 0) ∧
    (let s : State := { aon := { vddAon := true, mode := .sleep, timer := some 0 }, gate := { phase := .asleep } }
    s.pending = [] ∧ s.aon.vddAon = true ∧ s.aon.sleeping = false ∧ s.gate.phase = .asleep ∧ s.aon.timer = some 0 ∧ s.aon.mode = .sleep) := by and_intros <;> decide +kernel

theorem test_witness_SystemReportsAndClock :
    (taken (cmd .maintenance 0x00 []) 0 0x00 noChecks = true) ∧
    (taken (cmd .fallback 0x12 []) 0 0x12 noChecks = true) ∧
    (taken (cmd .vigil 0x06 [0x4d]) 0 0x06 noChecks = true) ∧
    (taken (cmd .service 0x07 [5]) 0 0x07 noChecks = true) ∧
    (taken (cmd .service 0x07 [0xa]) 0 0x07 noChecks = true) := by and_intros <;> decide +kernel

theorem test_witness_FlashCommandsBegin :
    (let s := cmd .service 0x04 [1] flashed
    taken s 0 0x04 (configChecks 0) = true ∧ flashOp s 0 = none) ∧
    (let s := cmd .maintenance 0x05 [0x5a5a] flashed
    taken s 0 0x05 (configEraseChecks 0) = true ∧ flashOp s 0 = none) ∧
    (let s := cmd .maintenance 0x11 [] flashed
    taken s 0 0x11 (imageCommitChecks 0) = true ∧ flashOp s (idleSlot s) = none) ∧
    (let s := cmd .maintenance 0x13 [1] { flashed with gate := { untested := true } }
    taken s 0 0x13 (acceptUntestedChecks 0) = true ∧ bit (arg s 0 1) 0 = true ∧ flashOp s 0 = none) ∧
    (let s := cmd .maintenance 0x59 [0xfe] flashed
    taken s 0 0x59 (messageEraseChecks 0) = true ∧ flashOp s 0 = none) ∧
    (let s := cmd .maintenance 0x10 [0x80000000, 0, 1] flashed
    taken s 0 0x10 (imageWriteChecks 0) = true ∧ (segPlace s 0x10 (segTarget s 0)).map (·.1) = some 0 ∧ flashOp s 0 = none) ∧
    (let s := cmd .maintenance 0x20 [0x80070000, 0, 1] flashed
    taken s 0 0x20 (bundleWriteChecks 0) = true ∧ (segPlace s 0x20 (segTarget s 0)).map (·.1) = some 0 ∧ flashOp s 0 = none) ∧
    (let s := cmd .maintenance 0x57 [0x80fe0700, 0, 1] flashed
    taken s 0 0x57 (soleChecks 0x57 0) = true ∧ (segPlace s 0x57 (segTarget s 0)).map (·.1) = some 0 ∧ flashOp s 0 = none) ∧
    (let s := cmd .maintenance 0xD3 [0x80000000, 0, 1] flashed
    taken s 0 0xD3 (soleChecks 0xD3 0) = true ∧ (segPlace s 0xD3 (segTarget s 0)).map (·.1) = some 0 ∧ flashOp s 0 = none) ∧
    (let s := cmd .maintenance 0xC0 [0x803f0000, 0, 1] flashed
    taken s 0 0xC0 (taskInstallChecks 0) = true ∧ (segPlace s 0xC0 (segTarget s 0)).map (·.1) = some 0 ∧ flashOp s 0 = none) ∧
    (let s := cmd .maintenance 0xC3 [9] { jex := { tasks := [(63, { id := 9 })] } }
    taken s 0 0xC3 (taskRemoveChecks 0) = true ∧ flashOp s 0 = none) ∧
    (let s := cmd .maintenance 0x77 [0x7ff, 0x100, 0, 0, 0, 0, 0, 0, 0, 0, 0, 0, 0, 0, 0, 0, 0, 0, 0, 0] flashed
    taken s 0 0x77 (baselineWriteChecks 0) = true ∧ flashOp s 0 = none) ∧
    (let s := cmd .service 0x78 [0] { flashed with vigil := { results := [{ words := [0x100] }] } }
    taken s 0 0x78 (baselineAcceptChecks 0) = true ∧ flashOp s 0 = none) ∧
    (let s := cmd .maintenance 0xA3 [0x5a5a] flashed
    taken s 0 0xA3 (logEraseChecks 0) = true ∧ flashOp s 0 = none) ∧
    (let s := cmd .service 0x04 [1] { flashed with flash := { flashed.flash with ops := [(0, {})] } }
    taken s 0 0x04 (configChecks 0) = true ∧ flashOp s 0 ≠ none) ∧
    (let s := cmd .maintenance 0x13 [0] { flashed with gate := { untested := true } }
    taken s 0 0x13 (acceptUntestedChecks 0) = true ∧ bit (arg s 0 1) 0 = false) ∧
    (let s := cmd .maintenance 0x10 [0, 0, 1] { flashed with jex := { files := [(0, { erased := true })] } }
    taken s 0 0x10 (imageWriteChecks 0) = true ∧ (segPlace s 0x10 (segTarget s 0)).isSome = true ∧ segErase s 0 = false) := by and_intros <;> decide +kernel

theorem test_witness_FlashOperationEnds :
    (let s := writing 0x05 [23130]
    (flashOp s 0).map (fun o => (o.work, o.steps.map FlashStep.data, o.stop)) = some (.cmd 0, [[]], none) ∧ Tab.get false s.flash.busy 0 = true ∧ cmdOp s 0 = 0x05 ∧ quiet s ∧ s.flash.waiting = []) ∧
    (let s := writing 0x59 [254]
    (flashOp s 0).map (fun o => (o.work, o.steps.map FlashStep.data, o.stop)) = some (.cmd 0, [[]], none) ∧ Tab.get false s.flash.busy 0 = true ∧ cmdOp s 0 = 0x59 ∧ quiet s ∧ s.flash.waiting = []) ∧
    (let s := writing 0xA3 [23130]
    (flashOp s 0).map (fun o => (o.work, o.steps.map FlashStep.data, o.stop)) = some (.cmd 0, [[]], none) ∧ Tab.get false s.flash.busy 0 = true ∧ cmdOp s 0 = 0xA3 ∧ quiet s ∧ s.flash.waiting = []) ∧
    (let s := writing 0x77 [2047, 256, 0, 0, 0, 0, 0, 0, 0, 0, 0, 0, 0, 0, 0, 0, 0, 0, 0, 0]
    (flashOp s 0).map (fun o => (o.work, o.steps.map FlashStep.data, o.stop)) = some (.cmd 0, [[]], none) ∧ Tab.get false s.flash.busy 0 = true ∧ cmdOp s 0 = 0x77 ∧ quiet s ∧ s.flash.waiting = []) ∧
    (let s := writing 0x78 [0] { vigil := { results := [{ words := [0x100] }] } }
    (flashOp s 0).map (fun o => (o.work, o.steps.map FlashStep.data, o.stop)) = some (.cmd 0, [[]], none) ∧ Tab.get false s.flash.busy 0 = true ∧ cmdOp s 0 = 0x78 ∧ quiet s ∧ s.flash.waiting = []) ∧
    (let s := writing 0xC3 [9] { jex := { tasks := [(63, { id := 9 })] } }
    (flashOp s 0).map (fun o => (o.work, o.steps.map FlashStep.data, o.stop)) = some (.cmd 0, [[]], none) ∧ Tab.get false s.flash.busy 0 = true ∧ cmdOp s 0 = 0xC3 ∧ quiet s ∧ s.flash.waiting = [] ∧ namedTask s 0 = some 63) ∧
    (let s := writing 0x10 [0, 0, 1] flashed
    (flashOp s 0).map (fun o => (o.work, o.steps.map FlashStep.data, o.stop)) = some (.cmd 0, [[]], none) ∧ Tab.get false s.flash.busy 0 = true ∧ cmdOp s 0 = 0x10 ∧ quiet s ∧ s.flash.waiting = []) ∧
    (let s := writing 0x20 [0, 0, 1] flashed
    (flashOp s 0).map (fun o => (o.work, o.steps.map FlashStep.data, o.stop)) = some (.cmd 0, [[]], none) ∧ Tab.get false s.flash.busy 0 = true ∧ cmdOp s 0 = 0x20 ∧ quiet s ∧ s.flash.waiting = []) ∧
    (let s := writing 0x57 [0, 0, 1] flashed
    (flashOp s 0).map (fun o => (o.work, o.steps.map FlashStep.data, o.stop)) = some (.cmd 0, [[]], none) ∧ Tab.get false s.flash.busy 0 = true ∧ cmdOp s 0 = 0x57 ∧ quiet s ∧ s.flash.waiting = []) ∧
    (let s := writing 0xC0 [0, 0, 1] flashed
    (flashOp s 0).map (fun o => (o.work, o.steps.map FlashStep.data, o.stop)) = some (.cmd 0, [[]], none) ∧ Tab.get false s.flash.busy 0 = true ∧ cmdOp s 0 = 0xC0 ∧ quiet s ∧ s.flash.waiting = []) ∧
    (let s := writing 0xD3 [0, 0, 1] flashed
    (flashOp s 0).map (fun o => (o.work, o.steps.map FlashStep.data, o.stop)) = some (.cmd 0, [[]], none) ∧ Tab.get false s.flash.busy 0 = true ∧ cmdOp s 0 = 0xD3 ∧ quiet s ∧ s.flash.waiting = []) ∧
    (let s0 := writing 0x10 [0, 0, 1] flashed
    let s := { s0 with flash := { s0.flash with bytes := [(0, 0xFF)], ops := [(0, { sel := 0, mb := 1, cls := 3, steps := [.program 0 [0x55]], work := .cmd 0 })] } }
    (flashOp s 0).map (fun o => (o.work.mailbox, o.stop, (true && readsBack 0 o.now (stepEnds 0 o true s)))) = some (some 0, none, false) ∧
      Tab.get false s.flash.busy 0 = true ∧ cmdOp s 0 = 0x10 ∧ quiet s ∧ s.flash.waiting = []) := by unfold quiet; and_intros <;> decide +kernel

theorem test_witness_FuseCommands :
    (let s := cmd .maintenance 0x14 [0x20, 0, 1, 2, 3, 4, 5, 6, 7, 8, 9, 0xa, 0xb, 0xc]
    taken s 0 0x14 (fuseWriteChecks 0) = true ∧ fld (arg s 0 1) 0 2 = 0) ∧
    (let s := cmd .maintenance 0x14 [0x11]
    taken s 0 0x14 (fuseWriteChecks 0) = true ∧ fld (arg s 0 1) 0 2 = 1) ∧
    (let s := cmd .maintenance 0x14 [2, 0x3f] { gate := { svn := 63 } }
    taken s 0 0x14 (fuseWriteChecks 0) = true ∧ fld (arg s 0 1) 0 2 = 2) ∧
    (let s := cmd .maintenance 0x15 [5]
    taken s 0 0x15 (lifecycleChecks 0) = true ∧ fld (arg s 0 1) 0 3 ≠ 4) ∧
    (let s := cmd .maintenance 0x15 [4] { gate := { lc := 3 } }
    taken s 0 0x15 (lifecycleChecks 0) = true ∧ fld (arg s 0 1) 0 3 = 4 ∧ bit (arg s 0 1) 31 = false) ∧
    (let s := cmd .maintenance 0x13 [0] { flashed with gate := { untested := true } }
    taken s 0 0x13 (acceptUntestedChecks 0) = true ∧ bit (arg s 0 1) 0 = false) ∧
    (let s := cmd .maintenance 0x15 (0x80000004 :: List.replicate 24 0) { gate := { lc := 3 } }
    taken s 0 0x15 (lifecycleChecks 0) = true ∧ fld (arg s 0 1) 0 3 = 4 ∧ bit (arg s 0 1) 31 = true ∧ rmaOk s 0 = false) ∧
    (let s := cmd .maintenance 0x14 [0x11] { gate := { fuses := 7 <<< 1539 }, crier := { playOk := true } }
    taken s 0 0x14 (fuseWriteChecks 0) = true ∧ revoked s 1 = true ∧ s.crier.playOk = true) := by and_intros <;> decide +kernel

theorem test_witness_ModeCommands :
    (taken (cmd .maintenance 0x01 [] { jex := { bundles := [{ state := .active }] } }) 0 0x01 serviceStartChecks = true) ∧
    (let s := cmd .service 0x02 []
    taken s 0 0x02 noChecks = true ∧ s.twin.role = .single) ∧
    (let s := cmd .service 0x02 [] { domains := [(3, { enable := true, state := .locked })], twin := { role := .duty } }
    taken s 0 0x02 noChecks = true ∧ s.twin.role = .duty ∧ s.twin.handover = none ∧ faultDomain s = some 3) := by and_intros <;> decide +kernel

/-- A bundle with identifier 7 that has one handle of kind k in Quern 5. -/
def bundled (k : Nat) (st : BState) : Bundle :=
  { id := 7, state := st, handles := [{ id := 9, kind := k, first := 192, count := 4, quern := 5, min := -524288, max := 524287 }] }

/-- That bundle is loaded, its program runs in Quern 5 in domain 1, which is locked at 48 kHz, and set 2 is open. -/
def params (k : Nat) (st : SetState := .opened) (h : HostSet := {}) : State :=
  { jex := { bundles := [bundled k .active], sets := [(2, { h with state := st })] }
    querns := [(5, { active := some { quern := 5, domain := 1, bundle := 7 } })]
    domains := [(1, { enable := true, state := .locked, bell := 5000, bellRate := 4800000 })] }

theorem test_witness_StatusCommandsReport :
    (taken (cmd .fallback 0x80 []) 0 0x80 noChecks = true) ∧
    (taken (cmd .vigil 0x90 []) 0 0x90 noChecks = true) ∧
    (taken (cmd .service 0xD0 []) 0 0xD0 noChecks = true) ∧
    (taken (cmd .maintenance 0x7A [0x3f]) 0 0x7A noChecks = true) ∧
    (taken (cmd .maintenance 0x4E [7]) 0 0x4E noChecks = true) ∧
    (taken (cmd .maintenance 0x47 [0x1f]) 0 0x47 noChecks = true) ∧
    (taken (cmd .maintenance 0x51 [0xff]) 0 0x51 noChecks = true) ∧
    (taken (cmd .vigil 0x5B [0]) 0 0x5B noChecks = true) ∧
    (taken (cmd .vigil 0x58 [0xfe]) 0 0x58 (msgNumChecks 0) = true) ∧
    (taken (cmd .maintenance 0x74 []) 0 0x74 noChecks = true) ∧
    (taken (cmd .fallback 0xC4 [0x3f]) 0 0xC4 noChecks = true) ∧
    (taken (cmd .fallback 0xA0 []) 0 0xA0 noChecks = true) ∧
    (taken (cmd .fallback 0xE3 [0x3e42]) 0 0xE3 (qstatReadChecks 0) = true) ∧
    (taken (cmd .fallback 0xE4 [0x1f61]) 0 0xE4 (bankReadChecks 0) = true) ∧
    (taken (cmd .fallback 0xE2 [0xFFF1]) 0 0xE2 (lineReadChecks 0) = true) := by and_intros <;> decide +kernel

theorem test_witness_RecordReadsReport :
    (taken (cmd .vigil 0x71 [0x3c0834]) 0 0x71 (planReadChecks 0) = true) ∧
    (let s := cmd .fallback 0x75 [0] { vigil := { results := [{ words := [1] }] } }
    taken s 0 0x75 (resultReadChecks 0) = true ∧ s.vigil.results[fld (arg s 0 1) 0 12]? = some { words := [1] }) ∧
    (let s := cmd .vigil 0x76 [0x7ff] { vigil := { baselines := [(2047, { words := [5] })] } }
    taken s 0 0x76 (baselineReadChecks 0) = true ∧ baselineOf s (baseArgs s 0).1 (baseArgs s 0).2 = some [5]) ∧
    (let s := cmd .vigil 0xA1 [0x40000] { faults := { log := [{}, {}, {}, {}] } }
    taken s 0 0xA1 (faultLogChecks 0) = true ∧ (((s.faults.log.drop (logArgs s 0).1).take (logArgs s 0).2).flatMap LogRec.words).length ≤ 60) ∧
    (taken (cmd .vigil 0xE1 [0xfff001f]) 0 0xE1 (traceReadChecks 0) = true) ∧
    (let s := cmd .vigil 0x24 [7] (params 1)
    taken s 0 0x24 (bundleStatusChecks 0) = true ∧ statusBundle s 0 = some (bundled 1 .active)) ∧
    (let s := cmd .vigil 0x56 [3] { jex := { anns := [{ id := 3 }] } }
    taken s 0 0x56 (announceStatusChecks 0) = true ∧ ann s (fld (arg s 0 1) 0 16) = some { id := 3 }) ∧
    (let s := cmd .service 0x34 [0x80000002, 7, 9, 0x1000] (params 1)
    taken s 0 0x34 (paramReadChecks 0) = true ∧ namedHandles s 0 = (bundled 1 .active).handles) ∧
    (taken (cmd .service 0x36 [0x7f, 0xbf01]) 0 0x36 (meterReadChecks 0) = true) ∧
    (let s := cmd .service 0xB2 [4] { per := { tickets := [{ num := 4 }] } }
    taken s 0 0xB2 (ticketKnown 0) = true ∧ namedTicket s 0 = some { num := 4 }) ∧
    (taken (cmd .fallback 0x94 []) 0 0x94 noChecks = true) := by and_intros <;> decide +kernel

theorem test_witness_ParameterSets :
    (let s := cmd .vigil 0x30 [] { jex := { sets := [(0, { state := .opened })] } }
    taken s 0 0x30 paramSetOpenChecks = true ∧ (hostSet s 1).state = .free ∧ ∀ j, j < 1 → (hostSet s j).state ≠ .free) ∧
    (let s := cmd .service 0x31 [2, 7, 9, 0x640403, 0x7ffff] (params 1)
    taken s 0 0x31 noChecks = true ∧ stageHeld s 0 = false ∧ paramStageChecks 0 s = none ∧ namedHandles s 0 = (bundled 1 .active).handles) ∧
    (let s := cmd .service 0x31 [2, 7, 9, 0x1000, 0xfff80000, 1, 2, 3] (params 0)
    taken s 0 0x31 noChecks = true ∧ stageHeld s 0 = false ∧ paramStageChecks 0 s = none ∧ namedHandles s 0 = (bundled 0 .active).handles) ∧
    (let s := cmd .service 0x31 [2, 7, 9, 0x1000, 0xfff80000, 1, 2, 3] (params 2)
    taken s 0 0x31 noChecks = true ∧ stageHeld s 0 = false ∧ paramStageChecks 0 s = none ∧ namedHandles s 0 = (bundled 2 .active).handles) ∧
    (let s := cmd .service 0x32 [0x80000002, 0, 0] (params 1 .opened { domain := 1, hasDomain := true, claims := [5], staged := [⟨5, 1, 192, 7, 100⟩] })
    taken s 0 0x32 (paramCommitChecks 0 0) = true ∧ s.twin.role = .single ∧ (slotOf s 1 0).armed = false) ∧
    (let s := cmd .service 0x32 [2, 0, 0x13e8] (params 1 .opened { domain := 1, hasDomain := true, claims := [5], staged := [⟨5, 1, 192, 7, 100⟩] })
    taken s 0 0x32 (paramCommitChecks 0 0) = true ∧ s.twin.role = .single ∧ (slotOf s 1 0).armed = false) ∧
    (let s := cmd .service 0x32 [2, 0, 0x1448] { params 1 .opened { domain := 1, hasDomain := true, claims := [5], staged := [⟨5, 1, 192, 7, 100⟩] } with twin := { role := .duty } }
    taken s 0 0x32 (paramCommitChecks 0 0) = true ∧ s.twin.role ≠ .single) ∧
    (taken (cmd .service 0x33 [2] (params 1 .opened)) 0 0x33 (paramDiscardChecks 0) = true) ∧
    (taken (cmd .service 0x33 [2] (params 1 .armed)) 0 0x33 (paramDiscardChecks 0) = true) ∧
    (taken (cmd .service 0x35 [7]) 0 0x35 noChecks = true) ∧
    (let s : State := cmd .service 0 [] { querns := [(5, { resync := true, active := some { domain := 3 } })] }
    jexOn s = true ∧ s.jex.held = [] ∧ s.jex.peerHeld = [] ∧ (quern s 5).resync = true ∧ quernDom (quern s 5) = some 3 ∧ (∀ n, n < 8 → (hostSet s n).awaits s 5 = false) ∧ ∀ k, k < 8 → (slotOf s 3 k).armed = false) := by and_intros <;> decide +kernel

/-- Bundle 7 is staged with a program for Quern 5 in domain 1, which runs. -/
def loaded : State :=
  { jex := { bundles := [{ id := 7, progs := [{ quern := 5, domain := 1, l := 1, wordCount := 1, words := [0] }] }] }
    domains := [(1, { enable := true, state := .locked, bell := 5000, bellRate := 4800000 })] }

/-- Clock group 2 runs in domain 1 at 48 kHz, and ports 3 and 4 belong to it. -/
def clocked : State :=
  { audio := { groups := [(2, { enable := true, domain := 1, slots := 2, state := 1 })]
               ports := [(3, { group := 2, aligned := true, align := 6 }), (4, { group := 2 })]
               aligns := [(6, { domain := 1 })] }
    domains := [(1, { enable := true, state := .locked, bell := 5000, bellRate := 4800000, rate := 1 })] }

theorem test_witness_BundleCommands :
    (let s : State := acceptHead 0 (cmd .service 0x21 [0] { jex := { load := some { mb := 0, granted := true } } })
    let b : Bundle := { id := 7, progs := [{ quern := 5, domain := 1, l := 1, wordCount := 1, stallHs := 1536, rateMask := 1, words := [0] }] }
    s.jex.load = some { mb := 0, granted := true } ∧ s.jex.fullLeft = 0 ∧
      fitRefusal (modJex s (fun j => { j with load := none, loads := [] })) b = none ∧ programsFail s b = none ∧ (b.normal.map (·.quern)).Nodup) ∧
    (let s := cmd .service 0x22 [7, 0x90000000, 0] loaded
    taken s 0 0x22 (programSwapChecks 0 0) = true ∧ s.twin.role = .single ∧ s.twin.arm = .idle ∧ (namedBundle s 0).map (·.id) = some 7) ∧
    (let s := cmd .service 0x23 [7] loaded
    taken s 0 0x23 (bundleUnloadChecks 0) = true ∧ (namedBundle s 0).map (·.state) = some .staged) ∧
    (taken (cmd .vigil 0x25 [0x7f]) 0 0x25 noChecks = true) ∧
    (let s : State := cmd .service 0 [] { querns := [(127, { muted := true, timely := 48000, active := some { domain := 1 } })], domains := [(1, { bellRate := 4800000 })] }
    jexOn s = true ∧ (quern s 127).muted = true ∧ quernDom (quern s 127) = some 1 ∧ secondBells s 1 ≤ (quern s 127).timely) ∧
    (taken (cmd .service 0x21 [0]) 0 0x21 (bundleLoadChecks 0) = true) := by and_intros <;> decide +kernel

theorem test_witness_PortCommands :
    (taken (cmd .maintenance 0x48 [0xd0000007] clocked) 0 0x48 (clockGroupChecks 0) = true) ∧
    (taken (cmd .service 0x49 [0x9000001f] clocked) 0 0x49 (portConfigChecks 0) = true) ∧
    (let s := cmd .maintenance 0x4A [0x1000001f, 0x80000000]
    taken s 0 0x4A (pdmConfigChecks 0) = true ∧ bit (arg s 0 1) 28 = true) ∧
    (let s := cmd .maintenance 0x4A [3, 0]
    taken s 0 0x4A (pdmConfigChecks 0) = true ∧ bit (arg s 0 1) 28 = false) ∧
    (taken (cmd .maintenance 0x4B [3, 0]) 0 0x4B (mclkConfigChecks 0) = true) ∧
    (taken (cmd .service 0x4C [7, 0x18] clocked) 0 0x4C (alignConfigChecks 0) = true) ∧
    (let s := cmd .service 0x4D [0x40, 0, 0] clocked
    taken s 0 0x4D (alignStartChecks 0 []) = true ∧ fld (arg s 0 1) 30 2 = 0) ∧
    (let s := cmd .service 0x4D [0x80000040, 0, 0] clocked
    taken s 0 0x4D (alignStartChecks 0 []) = true ∧ fld (arg s 0 1) 30 2 ≠ 0 ∧ s.twin.role = .single ∧ s.twin.arm = .idle) ∧
    (let s := cmd .service 0x4D [0x40000040, 0, 0x13e8] clocked
    taken s 0 0x4D (alignStartChecks 0 []) = true ∧ fld (arg s 0 1) 30 2 = 1 ∧ s.twin.role = .single ∧ s.twin.arm = .idle) := by and_intros <;> decide +kernel

theorem test_witness_RouteCommands :
    (let s := cmd .service 0x41 [0x80001fe, 0, 0x40000000]
    taken s 0 0x41 noChecks = true ∧ routeHeld s 0 = false ∧ routeInputChecks 0 s = none) ∧
    (let s := cmd .service 0x42 [0x80001fe, 0, 0x80001ddf]
    taken s 0 0x42 noChecks = true ∧ routeHeld s 0 = false ∧ routeOutputChecks 0 s = none) ∧
    (let s := cmd .service 0x43 [0x3f, 0x80001fff]
    taken s 0 0x43 noChecks = true ∧ routeHeld s 0 = false ∧ stileWriteChecks 0 s = none) ∧
    (let s := cmd .fallback 0x44 [0x2001ff, 0, 0]
    taken s 0 0x44 noChecks = true ∧ routeHeld s 0 = false ∧ detourWriteChecks 0 s = none) ∧
    (let s := cmd .fallback 0x45 [0x90000000, 0] clocked
    taken s 0 0x45 noChecks = true ∧ routeHeld s 0 = false ∧ routeSwapChecks 0 (swapAsked s 0 0) s = none ∧ s.twin.role = .single ∧ s.twin.arm = .idle) ∧
    (let s := cmd .fallback 0x45 [0x10000000, 0x13e8] clocked
    taken s 0 0x45 noChecks = true ∧ routeHeld s 0 = false ∧ routeSwapChecks 0 (swapAsked s 0 0) s = none ∧ s.twin.role = .single ∧ s.twin.arm = .idle) ∧
    (let s := cmd .fallback 0x46 [0x30] clocked
    taken s 0 0x46 noChecks = true ∧ routeHeld s 0 = false ∧ detourControlChecks 0 s = none ∧ (chanDomain s (fld (arg s 0 1) 0 9)).isSome = true) ∧
    (let s := cmd .fallback 0x46 [0x400001ff] {}
    taken s 0 0x46 noChecks = true ∧ routeHeld s 0 = false ∧ detourControlChecks 0 s = none ∧ chanDomain s 511 = none) ∧
    (let s : State := cmd .service 0 [] { clocked with domains := [(3, { routeBusy := true, copyChans := [511], copyStiles := [63] })] }
    jexOn s = true ∧ (dom s 3).routeBusy = true ∧ s.jex.held = [] ∧ 511 ∈ (dom s 3).copyChans ∧ 510 ∉ (dom s 3).copyChans ∧ 63 ∈ (dom s 3).copyStiles) := by and_intros <;> decide +kernel

theorem test_witness_DomainConfigCommand :
    (let s := cmd .maintenance 0x40 [0xb0000105]
    taken s 0 0x40 (domainConfigChecks 0) = true ∧ (dom s 3).enable = false) ∧
    (let s := cmd .maintenance 0x40 [0x30000000] { domains := [(3, { enable := true })] }
    taken s 0 0x40 (domainConfigChecks 0) = true ∧ (dom s 3).enable = true) ∧
    (let s := cmd .maintenance 0x40 [0xb0000724] { domains := [(3, { enable := true, src := 4, srcGroup := 2, state := .locked })] }
    taken s 0 0x40 (domainConfigChecks 0) = true ∧ (dom s 3).enable = true ∧ (dom s 3).runs = true ∧ (dom s 3).src = fld (arg s 0 1) 0 4 ∧ (dom s 3).srcGroup = fld (arg s 0 1) 4 3 ∧ (dom s 3).rate ≠ 7) ∧
    (let s := cmd .maintenance 0x40 [0x30000105]
    taken s 0 0x40 (domainConfigChecks 0) = true ∧ (dom s 3).enable = false ∧ bit (arg s 0 1) 31 = false) := by and_intros <;> decide +kernel

theorem test_witness_ServiceSettings :
    (taken (cmd .maintenance 0x50 [0x800000ff, 7, 9, 9, 9, 2, 0x7ffff, 0xfff80000] { params 1 with jex := { (params 1).jex with zones := [(255, { enable := true, ambEn := true, bundle := 7, select := 9, gain := 9, ambient := 9, readings := [5] })], sources := [(2, { kind := 2, domain := 1 })] } }) 0 0x50 (zoneConfigChecks 0) = true) ∧
    (taken (cmd .maintenance 0x52 [0xfe, 0x1fff, 0xfff]) 0 0x52 (sourceConfigChecks 0) = true) ∧
    (taken (cmd .maintenance 0x52 [0x500000fe, 0x1e30, 0] clocked) 0 0x52 (sourceConfigChecks 0) = true) ∧
    (taken (cmd .maintenance 0x53 [0xff0f, 0x10001]) 0 0x53 (priorityConfigChecks 0) = true) ∧
    (taken (cmd .service 0x5A [0x800000ff, 0xbf7f, 0, 0x3e8, 0x3c0000] { params 1 with jex := { (params 1).jex with zones := [(255, { enable := true, ambEn := true, bundle := 7, select := 9, gain := 9, ambient := 9, readings := [5] })], sources := [(2, { kind := 2, domain := 1 })] } }) 0 0x5A (ambientConfigChecks 0) = true) ∧
    (taken (cmd .vigil 0x5C [0x2ff, 0] { params 1 with jex := { (params 1).jex with zones := [(255, { enable := true, ambEn := true, bundle := 7, select := 9, gain := 9, ambient := 9, readings := [5] })], sources := [(2, { kind := 2, domain := 1 })] } }) 0 0x5C (backgroundSetChecks 0) = true) ∧
    (let s : State := cmd .service 0 [] { params 1 with jex := { (params 1).jex with zones := [(255, { enable := true, ambEn := true, bundle := 7, select := 9, gain := 9, ambient := 9, readings := [5] })], sources := [(2, { kind := 2, domain := 1 })] } }
    ambientRuns s 255 = true ∧ (svcZone s 255).carries = none ∧ (svcZone s 255).readings ≠ []) ∧
    (let s : State := cmd .service 0 [] { params 1 with jex := { (params 1).jex with zones := [(255, { enable := true, ambEn := true, bundle := 7, select := 9, gain := 9, ambient := 9, readings := [5] })], sources := [(2, { kind := 2, domain := 1 })] } }
    ambientRuns s 255 = true ∧ (svcZone s 255).readings ≠ []) ∧
    (let s : State := cmd .service 0 [] { params 1 with jex := { (params 1).jex with zones := [(255, { enable := true, ambEn := true, bundle := 7, carries := some 3, readings := [5] })] } }
    ambientRuns s 255 = true ∧ (svcZone s 255).readings ≠ [] ∧ (svcZone s 255).quiet = false) := by and_intros <;> decide +kernel

/-- Zone 255 takes announcements in domain 1, from player 2 with a line of 48,000 samples. -/
def announcing (a : List Ann) (user : Option Nat) (lead : Nat) : State :=
  { params 1 with
    jex := { (params 1).jex with
             zones := [(255, { enable := true, bundle := 7, select := 9, gain := 9 })]
             sources := [(1, { kind := 1, domain := 1 }), (2, { kind := 2, domain := 1, line := 4, user := user, lead := lead })]
             anns := a }
    lines := [(4, { valid := true, length := 48000, domain := 1, stored := true })]
    domains := [(1, { enable := true, state := .locked, bell := 5000, bellRate := 4800000, rate := 5 })] }

/-- A plan of one zone for domain 1 at 48 kHz, from second 500 to second 1000, with its bundle and microphone. -/
def planned (v : Vigil) (clock : Nat) : State :=
  { clocked with
    domains := [(1, { enable := true, state := .locked, bell := 5000, bellRate := 4800000, rate := 5 })]
    jex := { clock := clock, clockSet := true
             bundles := [{ bundled 1 .active with
                           progs := [{ quern := 6, domain := 1, variant := true, windows := [{ entry := 4, bound := true }] }]
                           lineRecs := [{ entry := 4, length := 65535, stored := true }] }] }
    vigil := { v with
               planLen := 120, planLast := true
               plan := [(0, 7), (1, 0x10010004), (2, 1000), (6, 1), (7, 500), (80, 0xF1800000), (112, 0x100), (113, 0xFFFFFF00),
                        (114, 0xFFFFFFFF), (115, 9), (116, 61440), (117, 26214400), (118, 1024)] } }

theorem test_witness_Announcements :
    (let s := cmd .service 0x54 [0x101, 0, 0, 0, 0, 0, 0, 0, 0, 0, 0, 0x80000000] (announcing [] none 0)
    taken s 0 0x54 (announceStartChecks 0) = true ∧ ann s 1 = none ∧ (svcZone s 255).carries ≠ some 1 ∧ (svcZone s 255).next ≠ some 1) ∧
    (taken (cmd .vigil 0x55 [3] (announcing [{ id := 3, source := 1, prio := 4 }] none 0)) 0 0x55 (announceStopChecks 0) = true) ∧
    (let s : State := cmd .service 0 [] (announcing [{ id := 3, source := 2, start := 5001, seq := [0] }] (some 3) 960)
    addrPos (line s 4).base + (line s 4).length ≤ hamletWords ∧ jexOn s = true ∧ (source s 2).kind = 2 ∧ (line s 4).valid = true ∧ ((source s 2).user.bind (ann s)).map (·.source) = some 2 ∧ leadLow (nominalRate (dom s 1).rate) ≤ (source s 2).lead ∧ (dom s 1).bell.toNat < 5001 ∧ leadFull (nominalRate (dom s 1).rate) < (line s 4).length) := by and_intros <;> decide +kernel

theorem test_witness_VigilCampaigns :
    (taken (cmd .service 0x70 [0x8000086f, 5]) 0 0x70 (planWriteChecks 0) = true) ∧
    (taken (cmd .service 0x70 [0x40000000, 7] (planned {} 100)) 0 0x70 (planWriteChecks 0) = true) ∧
    (let s := cmd .service 0x72 [] (planned {} 100)
    taken s 0 0x72 (fun t => startRefusal t false (!vigilBusy t)) = true ∧ planStart s ≠ 0) ∧
    (let s := cmd .vigil 0x73 [] (planned { state := .armed } 100)
    taken s 0 0x73 noChecks = true ∧ s.vigil.state = .armed ∧ s.vigil.step = 0) ∧
    (let s : State := { planned { state := .armed } 500 with aon := { mode := .service } }
    s.vigil.state = .armed ∧ s.vigil.step = 0 ∧ planStart s ≤ s.jex.clock ∧ s.twin.role ≠ .standby ∧ s.aon.mode = .service ∧ s.aon.sleeping = false ∧ startRefusal s true true = none) ∧
    (let s : State := planned { state := .running } 1000
    s.vigil.state = .running ∧ planEnd s ≤ s.jex.clock) ∧
    (let s : State := planned { state := .running, step := 6, zones := [{ verdict := 1 }] } 600
    roundOver s = true ∧ nextRound s = none) ∧
    (let s : State := planned { state := .running, step := 6, zones := [{ round := 63 }] } 600
    roundOver s = true ∧ nextRound s = some 63 ∧ s.vigil.windowOver = false ∧ s.jex.clock + roundSecs s 63 ≤ planEnd s) := by and_intros <;> decide +kernel

theorem test_witness_TallyUnit :
    (let s : State := { tally := { xBusy := true, xRun := 31 } }
    s.tally.xBusy = true ∧ (bank s (lane s s.tally.xRun).bank).owner = 0) ∧
    (let s : State := { tally := { xBusy := true, xRun := 31, lanes := [(31, { bank := 127 })] }, banks := [(127, { owner := 3 })] }
    s.tally.xBusy = true ∧ (bank s (lane s s.tally.xRun).bank).owner = 3) ∧
    (let s : State := { tally := { xBusy := true, xRun := 31, lanes := [(31, { bank := 127 })] }, banks := [(127, { owner := 4 })] }
    s.tally.xBusy = true ∧ (bank s (lane s s.tally.xRun).bank).owner ≠ 0 ∧ (bank s (lane s s.tally.xRun).bank).owner ≠ 3) ∧
    ((detector ({ tally := { dets := [(0, { enable := true, state := 1 })] } } : State) 0).enable = true) ∧
    (let s : State := { tally := { dets := [(63, { enable := true, inBlock := true, block := 2, xs := [5, 6], state := 1 })] } }
    (detector s 63).enable = true ∧ (detector s 63).inBlock = true ∧ (detector s 63).xs.length = (detector s 63).block ∧ (detector s 63).state = 1) ∧
    (let s : State := { tally := { dets := [(0, { enable := true, inBlock := true, block := 1, xs := [5], state := 2, bad := true })] } }
    (detector s 0).enable = true ∧ (detector s 0).inBlock = true ∧ (detector s 0).xs.length = (detector s 0).block ∧ (detector s 0).state = 2) ∧
    (let s : State := { tally := { dets := [(0, { enable := true, inBlock := true, block := 1, xs := [5], state := 3, run := 2 })] } }
    (detector s 0).enable = true ∧ (detector s 0).inBlock = true ∧ (detector s 0).xs.length = (detector s 0).block ∧ (detector s 0).state = 3) ∧
    (taken (cmd .vigil 0x79 [0x3f, 0xE0004650, 0xFFC40000] { domains := [(3, { enable := true, rate := 5 })] }) 0 0x79 (pilotConfigChecks 0) = true) := by and_intros <;> decide +kernel

theorem test_witness_BanksAndSexton :
    (let s : State := { reeves := [(1, { run := .running })] }
    reeveCtl s 1 = true ∧ ownerRefused s 127 (fld 0x30 3 3) = true) ∧
    (let s : State := { reeves := [(1, { run := .running })] }
    reeveCtl s 1 = true ∧ ownerRefused s 127 (fld 0x0C 3 3) = false ∧ (bank s 127).visiting = false) ∧
    (let s : State := { banks := [(127, { visiting := true, phase := .save, save := some 15, rowPtr := 12286 })] }
    (bank s 127).visiting = true ∧ (bank s 127).ownerNext = none ∧ (bank s 127).again = false ∧ (bank s 127).rowPtr + 1 < 12288 ∧ marchFails ((bank s 127).sweeps % 2 == 1) [] = false ∧ marchFails ((bank s 127).sweeps % 2 == 1) [(16, 1)] = true) ∧
    (let s : State := { banks := [(127, { visiting := true, again := true, phase := .march, save := some 15, rowPtr := 12286, sweeps := 1 })] }
    (bank s 127).visiting = true ∧ (bank s 127).ownerNext = none ∧ (bank s 127).again = true ∧ (bank s 127).rowPtr + 1 < 12288 ∧ (bank s 127).save = some 15 ∧ marchFails ((bank s 127).sweeps % 2 == 1) [] = false ∧ marchFails ((bank s 127).sweeps % 2 == 1) [(159, 0x55554)] = true) ∧
    (let s : State := { banks := [(127, { owner := 2 })], warden := { grants := [{ cls := 9, key := 127 }] }, jex := { started := true, fullLeft := 8 } }
    jexOn s = true ∧ (bank s 127).owner = 2 ∧ hasGrant s 9 127 = true ∧ s.jex.fullLeft ≤ 8) := by and_intros <;> decide +kernel

theorem test_witness_ReferenceEvents :
    ((dom ({ domains := [(3, { enable := true, src := 4, state := .locked })] } : State) 3).src = 4) ∧
    (let s : State := { domains := [(3, { enable := true, src := 1, state := .holdover })] }
    (dom s 3).src ≠ 4 ∧ (dom s 3).state = .holdover) ∧
    (let s : State := { domains := [(3, { enable := true, state := .locked })] }
    (dom s 3).src ≠ 4 ∧ (dom s 3).state = .locked ∧ (dom s 3).target = none) ∧
    (let s : State := { domains := [(3, { enable := true, state := .slew })] }
    (dom s 3).src ≠ 4 ∧ (dom s 3).state = .slew ∧ (dom s 3).target = none) ∧
    (let s : State := { domains := [(3, { enable := true, state := .switching })] }
    (dom s 3).src ≠ 4 ∧ (dom s 3).state = .switching ∧ (dom s 3).target = none) ∧
    (let s : State := { domains := [(3, { enable := true, src := 1, state := .switching, step := .muted, target := some 7 })] }
    (dom s 3).step = .muted ∧ (dom s 3).switchIn = none ∧ (dom s 3).target = some 7 ∧ 9900000000000000 ≤ 100 * 10312500 * nominalRate 7 ∧ 100 * 10312499 * nominalRate 7 < 9900000000000000) ∧
    (let s : State := { domains := [(3, { enable := true, src := 5, state := .locked, edgeSeen := true, rate := 5, glitchBells := [1, 2, 3] })], twin := { link := .up } }
    (dom s 3).enable = true ∧ (dom s 3).src = 5 ∧ s.twin.link = .up ∧ (dom s 3).edgeSeen = true ∧ 4 * 15624999 * nominalRate (dom s 3).rate < 300000000000000) ∧
    (let s : State := { domains := [(3, { enable := true, src := 1, state := .slew, edgeSeen := true, rate := 5 })] }
    300000000000000 ≤ 4 * 15625000 * nominalRate (dom s 3).rate ∧ 2 * 31250000 * nominalRate (dom s 3).rate ≤ 300000000000000 ∧ phaseLost (dom s 3) 162760 = false ∧ 128 * (162760 : Int).natAbs * nominalRate (dom s 3).rate ≤ 100000000000000) ∧
    (let s : State := { domains := [(3, { enable := true, src := 1, state := .slew, edgeSeen := true, rate := 5 })] }
    phaseLost (dom s 3) 162761 = false ∧ 100000000000000 < 128 * (162761 : Int).natAbs * nominalRate (dom s 3).rate) ∧
    (let s : State := { domains := [(3, { enable := true, src := 2, state := .acquire, rate := 5, bellRate := 4800000, runEdges := some 256 })] }
    (dom s 3).runEdges = some 256 ∧ inBand (runRate 1048576) (nominalRate 5) = true ∧ inBand (runRate 1048576) (dom s 3).rateNow = true) ∧
    (let s : State := { domains := [(3, { enable := true, src := 2, state := .locked, rate := 5, bellRate := 4800000, runEdges := some 256 })] }
    (dom s 3).runEdges = some 256 ∧ inBand (runRate 1048576) (nominalRate 5) = true ∧ inBand (runRate 1048576) (dom s 3).rateNow = true) ∧
    (let s : State := { domains := [(3, { enable := true, src := 2, state := .locked, rate := 5, bellRate := 4800000, runEdges := some 256 })] }
    (dom s 3).runEdges = some 256 ∧ inBand (runRate 1000000) (nominalRate 5) = false ∧ inBand (runRate 1000000) (dom s 3).rateNow = false) ∧
    (let s : State := { domains := [(3, { enable := true, src := 2, state := .slew, rate := 5, bellRate := 4800000, runEdges := some 256 })] }
    (dom s 3).runEdges = some 256 ∧ inBand (runRate 1048576) (nominalRate 5) = true ∧ inBand (runRate 1048576) (dom s 3).rateNow = true) ∧
    (let s : State := { domains := [(3, { enable := true, src := 2, state := .slew, rate := 5, bellRate := 4800000, runEdges := some 256 })] }
    (dom s 3).runEdges = some 256 ∧ inBand (runRate 1000000) (nominalRate 5) = false ∧ inBand (runRate 1000000) (dom s 3).rateNow = false) ∧
    (let s : State := { domains := [(3, { enable := true, src := 2, state := .holdover, rate := 5, bellRate := 4800000, runEdges := some 256 })] }
    (dom s 3).runEdges = some 256 ∧ inBand (runRate 1048576) (nominalRate 5) = true ∧ inBand (runRate 1048576) (dom s 3).rateNow = true) ∧
    (let s : State := { domains := [(3, { enable := true, src := 2, state := .holdover, rate := 5, bellRate := 4800000, runEdges := some 256 })] }
    (dom s 3).runEdges = some 256 ∧ inBand (runRate 1000000) (nominalRate 5) = false ∧ inBand (runRate 1000000) (dom s 3).rateNow = false) ∧
    (let s : State := { domains := [(3, { enable := true, src := 4, state := .slew, rate := 5, bellRate := 4800000 })] }
    (dom s 3).state = .slew ∧ (dom s 3).src = 4 ∧ (dom s 3).rateNow = nominalRate (dom s 3).rate) ∧
    (let s : State := { domains := [(3, { enable := true, src := 1, state := .slew, lockRun := 256 })] }
    (dom s 3).state = .slew ∧ (dom s 3).src ≠ 4 ∧ (dom s 3).lockRun = 256) ∧
    (let s : State := { domains := [(3, { enable := true, src := 3, state := .acquire })] }
    (dom s 3).enable = true ∧ (dom s 3).src = 3 ∧ (dom s 3).state = .acquire ∧ (dom s 3).acqOk = false) := by and_intros <;> decide +kernel

/-- What a boot sees with pins sel, without a crystal or flash. -/
def bare (sel : BitVec 2) : BootEnv := { selfTest := true, fuseDiff := 0, bootsel := sel, pos := false, size0 := 0, size1 := 0, crystal := false }

theorem test_witness_RateReconfiguration :
    (let s : State := { domains := [(3, { step := .rampDown })] }
    (dom s 3).step = .rampDown) ∧
    (let s : State := { domains := [(3, { step := .muted, commanded := true, target := some 7 })] }
    (dom s 3).commanded = true ∧ (dom s 3).step = .muted ∧ (dom s 3).target.isSome = true ∧ (dom s 3).switchIn = none) ∧
    (let s : State := cmd .service 0 [] { domains := [(3, { step := .muted })] }
    jexOn s = true ∧ (dom s 3).step = .muted ∧ (dom s 3).target = none ∧ changedImages s 3 0 0 = []) ∧
    (let s : State := cmd .service 0 [] { domains := [(3, { step := .muted, rate := 5, bellRate := 4800000, enable := true, state := .switching })], querns := [(5, { active := some { bundle := 7, domain := 3 } })], jex := { bundles := [{ id := 7, images := [⟨5, 5, [1]⟩] }] } }
    jexOn s = true ∧ (dom s 3).step = .muted ∧ (dom s 3).target = none ∧ changedImages s 3 (dom s 3).fromRate (dom s 3).rate ≠ [] ∧ (∀ k : Fin 8, (slotOf s 3 k).images = []) ∧ imagesWait s 3 = false ∧ ∃ k : Fin 8, (slotOf s 3 k).armed = false) ∧
    (let s : State := { domains := [(3, { step := .rampUp, state := .switching })] }
    (dom s 3).step = .rampUp ∧ (dom s 3).src ≠ 4) ∧
    (let s : State := { domains := [(3, { step := .rampUp, state := .switching, src := 4, rate := 5, bellRate := 4799999 })] }
    (dom s 3).step = .rampUp ∧ (dom s 3).src = 4 ∧ (dom s 3).rateNow ≠ nominalRate (dom s 3).rate) ∧
    (let s : State := { domains := [(3, { enable := true, step := .muted, state := .switching, target := some 7, switchIn := some 0, timedOut := true })] }
    (dom s 3).enable = true ∧ (dom s 3).state = .switching ∧ (dom s 3).step = .muted ∧ (dom s 3).target = some 7 ∧ (dom s 3).switchIn = some 0 ∧ (dom s 3).toSynth = false ∧ s.twin.armMb = none ∧ (dom s 3).timedOut = true) ∧
    (let s : State := { domains := [(3, { enable := true, step := .muted, state := .switching, target := some 7, switchIn := some 0, refRate := 9600001, src := 1 })] }
    (dom s 3).enable = true ∧ (dom s 3).state = .switching ∧ (dom s 3).step = .muted ∧ (dom s 3).target = some 7 ∧ (dom s 3).switchIn = some 0 ∧ (dom s 3).toSynth = false ∧ s.twin.armMb = none ∧ (dom s 3).timedOut = false ∧ (dom s 3).refRate ≠ 0 ∧ inBand (dom s 3).refRate (nominalRate 7) = true) ∧
    (let s : State := cmd .service 0 [] { domains := [(3, { step := .muted, rate := 5, bellRate := 4800000, enable := true, state := .switching, slots := [(0, { armed := true, images := [⟨5, 5, [1]⟩] })] })], querns := [(5, { active := some { bundle := 7, domain := 3 } })], jex := { bundles := [{ id := 7, images := [⟨5, 5, [1]⟩] }] } }
    jexOn s = true ∧ (dom s 3).step = .muted ∧ (dom s 3).target = none ∧ changedImages s 3 (dom s 3).fromRate (dom s 3).rate ≠ [] ∧ imagesWait s 3 = true) ∧
    (let s : State := { domains := [(3, { enable := true, step := .muted, state := .switching, target := some 7, switchIn := some 0, refRate := 4800000, src := 1 })] }
    (dom s 3).enable = true ∧ (dom s 3).state = .switching ∧ (dom s 3).step = .muted ∧ (dom s 3).target = some 7 ∧ (dom s 3).switchIn = some 0 ∧ (dom s 3).toSynth = false ∧ s.twin.armMb = none ∧ (dom s 3).timedOut = false ∧ inBand (dom s 3).refRate (nominalRate 7) = false) := by and_intros <;> decide +kernel

theorem test_witness_BellsAndPasses :
    (let s : State := { domains := [(3, { enable := true, state := .locked })] }
    (dom s 3).enable = true ∧ (dom s 3).state = .locked ∧ s.twin.armMb.isSome = false) ∧
    (let s : State := { domains := [(3, { enable := true, state := .holdover, bell := 98 })], twin := { arm := .copy, armMb := some 0, joinBell := [(3, 100)] } }
    (dom s 3).enable = true ∧ (dom s 3).state = .holdover ∧ ¬ (Tab.get 0 s.twin.joinBell 3 : BitVec 48).toNat ≤ (dom s 3).bell.toNat + 1) ∧
    (let s : State := { domains := [(3, { enable := true, state := .locked, bell := 99 })], twin := { arm := .copy, armMb := some 0, joinBell := [(3, 100)] } }
    (dom s 3).enable = true ∧ (dom s 3).state = .locked ∧ s.twin.armMb.isSome = true ∧ s.twin.arm = .copy ∧ (Tab.get 0 s.twin.joinBell 3 : BitVec 48) ≠ 0 ∧ (Tab.get 0 s.twin.joinBell 3 : BitVec 48).toNat ≤ (dom s 3).bell.toNat + 1) ∧
    (let s : State := { domains := [(3, { enable := true, src := 4, state := .acquire })] }
    (dom s 3).enable = true ∧ (dom s 3).state = .acquire ∧ (dom s 3).src = 4 ∧ s.twin.armMb.isSome = false ∧ (dom s 3).toSynth = false ∧ (dom s 3).step = .none) ∧
    (let s : State := { domains := [(3, { enable := true, src := 1, state := .acquire, acqOk := true })] }
    (dom s 3).enable = true ∧ (dom s 3).state = .acquire ∧ (dom s 3).acqOk = true) ∧
    (let s : State := { querns := [(5, { active := some { domain := 3, owned := [8] } })] }
    5 ∈ domQuerns s 3 ∧ quernsPaused s = false ∧ (quern s 5).lateNow = false ∧ ∀ q ∈ domQuerns s 3, 9 ∉ (quern s q).ownedSlots) ∧
    (let s : State := { lines := [(4095, { valid := true, length := 1, freeze := true })], querns := [(0, { active := some {} })] }
    (line s 4095).length ≠ 0 ∧ lineFrozen s (line s 4095) = false) ∧
    (let s : State := { querns := [(5, { running := true, active := some { domain := 3, owned := [8] } })] }
    (quern s 5).running = true ∧ (quern (runRest 5 s) 5).lateBells = 0) ∧
    (let s : State := { querns := [(5, { running := true, lateBells := 1, active := some { domain := 3, owned := [8] } })] }
    (quern s 5).running = true ∧ (quern (runRest 5 s) 5).lateBells ≠ 0) ∧
    ((quern ({} : State) 0).running = false) ∧
    (let s : State := { querns := [(5, { running := true, active := some { domain := 3 } })], twin := { arm := .join, joinBell := [(3, 1)] } }
    (quern s 5).running = true ∧ (quern (runRest 5 s) 5).lateBells = 0 ∧ (quernDom (quern (runRest 5 s) 5)).any (captures s) = true) := by and_intros <;> decide +kernel

theorem test_witness_PortEvents :
    (let s : State := { audio := { groups := [(7, { enable := true, domain := 3, state := 1, good := 0, rateCode := 5, slots := 2 })] }, domains := [(3, { enable := true, state := .locked, rate := 5 })] }
    (group s 7).slave = true ∧ (group s 7).seen = false ∧ ¬ ((dom s 3).runs = true ∧ inWindow (nominalRate (dom s 3).rate) 325521 = false) ∧ (dom s 3).runs = true ∧ inWindow (nominalRate (dom s 3).rate) 325520 = false) ∧
    (let s : State := { audio := { groups := [(7, { enable := true, domain := 3, state := 2, good := 15, seen := true, startOk := true, rateCode := 5, slots := 2 })] }, domains := [(3, { enable := true, state := .locked, rate := 5 })] }
    (group s 7).slave = true ∧ (group s 7).seen = true ∧ 65 ≠ 32 * (group s 7).tdm ∧ 64 = 32 * (group s 7).tdm ∧ ¬ 300000000000000 < 2 * 20833333 * nominalRate (dom s 3).rate ∧ (group s 7).startOk = true ∧ (group s 7).state = 2 ∧ (group s 7).rateCode = (dom s 3).rate) ∧
    (let s : State := { audio := { groups := [(7, { domain := 3 })] } }
    (group s 7).enable = false ∧ (group s 7).master = false) ∧
    (let s : State := { audio := { groups := [(7, { enable := true, domain := 3, state := 2, good := 16, rateCode := 5, slots := 2 })] }, domains := [(3, { enable := true, state := .locked, rate := 5 })] }
    (group s 7).slave = true ∧ (group s 7).state = 2 ∧ (group s 7).good = 16 ∧ suppliesBell s 7 = false ∧ (group s 7).rateCode = (dom s (group s 7).domain).rate ∧ (group s 7).master = false) ∧
    (let s : State := { audio := { detA := [(511, { returnAuto := true })], detStat := [(511, { detoured := true })] } }
    (Tab.get {} s.audio.detA 511).returnAuto = true ∧ (Tab.get {} s.audio.detStat 511).detoured = true ∧ (Tab.get {} s.audio.detStat 511).forced = false ∧ detourTrigs s 511 = 0) ∧
    (let s : State := { audio := { groups := [(7, { enable := true, domain := 3, state := 2, good := 16, rateCode := 5, slots := 2 })] }, domains := [(3, { enable := true, src := 1, srcGroup := 7, state := .slew, rate := 5 })] }
    (group s 7).slave = true ∧ (group s 7).state = 2 ∧ (group s 7).good = 16 ∧ (group s 7).rateCode = (dom s 3).rate ∧ suppliesBell s 7 = true ∧ (dom s 3).state ≠ .locked) ∧
    (let s : State := { audio := { aligns := [(7, { domain := 3, state := 1, onSync := true })] }, domains := [(3, { enable := true, state := .locked, bellRate := 4800000, rate := 5 })] }
    (align s 7).domain < 4 ∧ (align s 7).state = 1 ∧ (align s 7).onSync = true ∧ s.twin.role = .single ∧ s.twin.arm = .idle) := by and_intros <;> decide +kernel

theorem test_witness_LeaveBooks :
    (let s : State := { warden := { grants := [{ cls := 2, key := 1 }] } }
    (hasGrant s 2 1 || hasRequest s 2 1) = true ∧ hasGrant s 9 0 = false ∧ hasRequest s 9 0 = false ∧ s.warden.queue = [] ∧ quiet s) ∧
    (let s : State := { warden := { queue := [{ cls := 1, key := 1, cost := 4000 }] } }
    hasGrant s 9 0 = false ∧ hasRequest s 9 0 = false ∧ s.warden.fits 1 (priceAt s.warden.setpoint 4000) = false ∧ classRank 1 ≤ classRank 9 ∧ quiet s ∧ hasGrant s 0 0 = false ∧ hasRequest s 0 0 = false ∧ hasGrant s 8 0 = false ∧ hasRequest s 8 0 = false) ∧
    (let s : State := { warden := { freePending := true } }
    s.warden.freePending = true ∧ (dom s 0).state = .off ∧ s.warden.queue = []) ∧
    (let s := cmd .maintenance 0x91 [0x3e8fff]
    taken s 0 0x91 (leaveConfigChecks 0) = true ∧ s.warden.queue = []) ∧
    (taken (cmd .maintenance 0x92 [0xfff0009]) 0 0x92 (leaveCostChecks 0) = true) := by unfold quiet; and_intros <;> decide +kernel

theorem test_witness_WardenRail :
    (let s : State := { warden := { inControl := true, setpoint := 555 } }
    s.warden.inControl = true ∧ s.warden.avsBad = false ∧ s.warden.frame = none ∧ agoOk s s.warden.stepTick s.warden.dwell = true ∧ 555 ≤ s.warden.setpoint ∧ floorMv s ≤ s.warden.setpoint - 5 ∧ holdMv s ≤ s.warden.setpoint - 5 ∧ allFit s (s.warden.setpoint - 5) = true ∧ agoOk s s.warden.slackTick s.warden.dwell = true ∧ agoOk s s.warden.lateTick 1000 = true) ∧
    ((({ warden := { inControl := true, setpoint := 550 } } : State).warden.setpoint < 555) ∧ (({} : State).warden.inControl = false)) ∧
    (let s : State := { warden := { frame := some 850, fails := 2 }, gate := { phase := .running } }
    s.warden.frame = some 850 ∧ s.gate.phase = .running ∧ 865 < 1024 ∧ 865 ≤ 850 + 15 ∧ 850 ≤ 865 + 15 ∧ 850 + 15 < 866 ∧ 2 ≤ s.warden.fails) ∧
    (let s : State := {}
    s.warden.frame = none ∧ s.warden.queue = []) ∧
    (let s : State := { warden := { inControl := true } }
    s.warden.frame = none ∧ s.warden.inControl = true ∧ s.warden.setpoint < 850) ∧
    (let s : State := { warden := { warm := 95 } }
    s.warden.queue = [] ∧ s.warden.thermWarn = false ∧ 4 * s.warden.warm ≤ (380 : BitVec 10).toInt ∧ (379 : BitVec 10).toInt < 4 * s.warden.warm) ∧
    (taken (cmd .maintenance 0x95 [0x8000002e, 0x1964, 0x6e69]) 0 0x95 (wardenConfigChecks 0) = true) ∧
    (let s : State := { warden := { frame := some 850, fails := 1 }, gate := { phase := .running } }
    s.warden.frame = some 850 ∧ s.gate.phase ≠ .waitCrystal ∧ s.gate.phase ≠ .waitSetpoint ∧ s.warden.fails < 2) ∧
    (let s : State := { warden := { readback := some 850 }, gate := { phase := .running } }
    s.warden.frame = none ∧ s.warden.readback = some 850 ∧ s.gate.phase ≠ .waitCrystal ∧ s.gate.phase ≠ .waitSetpoint ∧ 865 % 1024 ≤ 850 + 15 ∧ 850 + 15 < 866 % 1024) ∧
    (let s : State := { gate := { phase := .running } }
    s.warden.frame = none ∧ s.warden.readback = none ∧ s.gate.phase ≠ .waitCrystal ∧ s.gate.phase ≠ .waitSetpoint) := by and_intros <;> decide +kernel

theorem test_witness_PowerAndReset :
    (let s : State := { gate := { fuses := lcFuses 3 } }
    s.aon.vddAon = false ∧ (bare 1).selfTest = true ∧ (bare 1).fuseDiff = 0 ∧ lcOf s.gate.fuses ≠ 0 ∧ lcOf s.gate.fuses ≠ 5 ∧ (bare 1).bootsel.toNat < 2 ∧ (bare 1).crystal = false) ∧
    (let s : State := { aon := { vddAon := true }, gate := { phase := .running } }
    (s.crier.state = .active ∨ s.crier.triggered = false) ∧ s.aon.vddAon = true ∧ s.aon.resetN = true) ∧
    (let s : State := { aon := { vddAon := true, resetN := false } }
    s.aon.vddAon = false ∨ s.aon.resetN = false) ∧
    (let s : State := { aon := { vddAon := true, resetN := false }, gate := { fuses := lcFuses 3, attempts := 65535 } }
    s.aon.vddAon = true ∧ s.aon.resetN = false ∧ anyRail s.aon.railLost = false ∧ (bare 1).selfTest = true ∧ (bare 1).fuseDiff = 0 ∧ lcOf s.gate.fuses ≠ 0 ∧ lcOf s.gate.fuses ≠ 5 ∧ (bare 1).bootsel.toNat < 2 ∧ (bare 1).crystal = false) ∧
    (let s : State := { aon := { vddAon := true, rails := true }, gate := { phase := .running } }
    (s.crier.state = .active ∨ s.crier.triggered = false) ∧ anyRail (s.aon.good { core := true }) = true ∧ s.gate.phase ≠ .off ∧ s.gate.phase ≠ .asleep ∧ s.gate.phase ≠ .waking) ∧
    (let s : State := { gate := { phase := .asleep } }
    s.gate.phase = .asleep) ∧
    (let s : State := { aon := { vddAon := true, vddioA := false }, gate := { phase := .running } }
    anyRail (s.aon.good { audio := true }) = false) ∧
    (let s : State := { aon := { vddAon := true, railLost := { osc := true, host := true } }, gate := { fuses := lcFuses 3 } }
    anyRail s.aon.railLost = true ∧ anyRail (railsLeft s.aon.railLost { osc := true, host := true }) = false ∧ anyRail (railsLeft s.aon.railLost { osc := true }) = true ∧ s.aon.resetN = true ∧ (bare 1).selfTest = true ∧ (bare 1).fuseDiff = 0 ∧ lcOf s.gate.fuses ≠ 0 ∧ lcOf s.gate.fuses ≠ 5 ∧ (bare 1).bootsel.toNat < 2 ∧ (bare 1).crystal = false) ∧
    (let s : State := { aon := { vddAon := true } }
    anyRail s.aon.railLost = false ∧ s.gate.phase ≠ .waitCrystal ∧ s.gate.phase ≠ .waitSetpoint) ∧
    (let s := cmd .maintenance 0x03 [0x5a5a] { aon := { vddAon := true, exact := true, vddioH := true, vddOsc := true, bootselPins := 1 }, flash := { size := [(0, 4096)] }, gate := { fuses := lcFuses 3 } }
    taken s 0 0x03 (fun t => confirmOk t 0) = true ∧ (s.crier.state = .active ∨ s.crier.triggered = false) ∧ lcOf s.gate.fuses ≠ 0 ∧ lcOf s.gate.fuses ≠ 5 ∧ s.aon.bootselPins < 2 ∧ s.aon.exact = true ∧ s.aon.vddioH = true ∧ s.aon.vddOsc = true ∧ usableBytes (Tab.get {} s.flash.sfdp 0) (Tab.get 0 s.flash.size 0) ≠ 0) := by and_intros <;> decide +kernel

theorem test_witness_BootProgress :
    (let s : State := {}
    s.gate.phase ≠ .waitCrystal ∧ s.gate.phase ≠ .waitSetpoint) ∧
    (let s : State := { aon := { vddioH := true, vddOsc := true }, gate := { phase := .waitCrystal, coldBoot := true } }
    s.gate.phase = .waitCrystal ∧ s.aon.vddioH = true ∧ s.aon.vddOsc = true ∧ usableBytes ({ bare 1 with size0 := 4096 } : BootEnv).sfdp0 ({ bare 1 with size0 := 4096 } : BootEnv).size0 ≠ 0 ∧ s.gate.coldBoot = true ∧ s.gate.tries = 0) ∧
    (let s : State := { gate := { phase := .waitCrier, bootsel := 1, lc := 3, lcKnown := true, sampled := true } }
    s.gate.phase = .waitCrier ∧ s.gate.bootsel = 1 ∧ s.gate.sampled = true ∧ lcNow s ≠ 5 ∧ s.gate.crierReleased = false ∧ s.crier.state = .off ∧ s.crier.triggered = false) ∧
    (let s : State := { gate := { phase := .hostLoad, lc := 3 } }
    s.gate.phase = .hostLoad ∧ candidates s = [] ∧ s.gate.lc = 3) ∧
    (let s : State := { gate := { phase := .hostLoad, lc := 2 } }
    s.gate.phase = .hostLoad ∧ candidates s = [] ∧ s.gate.lc = 2) ∧
    (let s : State := { gate := { phase := .backoff, backEnd := some 1, busy := true } }
    s.gate.phase = .backoff ∧ s.gate.backEnd.isSome = true ∧ (s.gate.hold = true ∨ s.gate.busy = true)) ∧
    (let s : State := { gate := { phase := .backoff, backEnd := some 1, lc := 3 } }
    s.gate.phase = .backoff ∧ s.gate.backEnd.isSome = true ∧ s.gate.hold = false ∧ s.gate.busy = false ∧ s.gate.failCode ≠ 15 ∧ s.gate.failCode ≠ 8 ∧ s.gate.lc ≠ 0 ∧ (bare 0).crystal = false) ∧
    (let s : State := { gate := { hold := true } }
    s.gate.dueHeld = false) ∧
    (let s : State := { gate := { phase := .backoff, dueHeld := true, lc := 3 } }
    s.gate.dueHeld = true ∧ s.gate.busy = false ∧ s.gate.phase = .backoff ∧ s.gate.failCode ≠ 15 ∧ s.gate.failCode ≠ 8 ∧ s.gate.lc ≠ 0) ∧
    (let s : State := { aon := { mode := .sleep, timer := some 0 }, gate := { phase := .asleep } }
    s.aon.mode = .sleep ∧ s.gate.phase = .asleep ∧ s.aon.timer = some 0) ∧
    (let s : State := { gate := { phase := .waking, fuses := lcFuses 3 } }
    s.gate.phase = .waking ∧ s.gate.sealHeld = false ∧ (bare 0).fuseDiff = 0 ∧ lcOf s.gate.fuses ≠ 0 ∧ lcOf s.gate.fuses ≠ 5 ∧ (bare 0).bootsel.toNat < 2 ∧ (bare 0).crystal = false) := by and_intros <;> decide +kernel

theorem test_witness_RecoveryOperations :
    (let s : State := { gate := { phase := .halted } }
    s.gate.busy = false) ∧
    (let s : State := { gate := { phase := .halted, lc := 3, lcKnown := true } }
    s.gate.busy = false ∧ rcvOpen s 6 = true ∧ s.gate.failCode ≠ 15 ∧ s.gate.failCode ≠ 8 ∧ s.gate.lc ≠ 0 ∧ (bare 0).crystal = false) ∧
    (let s : State := { gate := { busy := true } }
    s.gate.busy = true ∧ s.gate.dueHeld = false ∧ s.gate.rcvJob = []) ∧
    (let s : State := { gate := { phase := .halted, lc := 3, lcKnown := true, busy := true, rcvJob := [1, 1, 0, 0] } }
    s.gate.busy = true ∧ s.gate.dueHeld = false ∧ s.gate.rcvJob = [1, 1, 0, 0] ∧ rcvOpen s 1 = true) ∧
    (let s : State := { gate := { phase := .halted, lc := 3, lcKnown := true, busy := true, rcvJob := [2, 0, 512, 1046528] } }
    s.gate.busy = true ∧ s.gate.dueHeld = false ∧ s.gate.rcvJob = [2, 0, 512, 1046528] ∧ rcvOpen s 2 = true ∧ rcvArgs 512 0xFF800 = true) ∧
    (let s : State := { gate := { phase := .halted, lc := 3, lcKnown := true, busy := true, rcvJob := [2, 0, 513, 0] } }
    s.gate.busy = true ∧ s.gate.dueHeld = false ∧ s.gate.rcvJob = [2, 0, 513, 0] ∧ rcvOpen s 2 = true ∧ rcvArgs 513 0 = false) ∧
    (let s : State := { gate := { phase := .halted, lc := 3, lcKnown := true, busy := true, rcvJob := [4, 0, 1, 1048573] } }
    s.gate.busy = true ∧ s.gate.dueHeld = false ∧ s.gate.rcvJob = [4, 0, 1, 1048573] ∧ rcvOpen s 4 = true ∧ rcvArgs 1 0xFFFFD = false) ∧
    (let s : State := { gate := { phase := .halted, lc := 3, lcKnown := true, busy := true, rcvJob := [3, 1, 0, 0] } }
    s.gate.busy = true ∧ s.gate.dueHeld = false ∧ s.gate.rcvJob = [3, 1, 0, 0] ∧ rcvOpen s 3 = true) ∧
    (let s : State := { gate := { phase := .halted, lc := 3, lcKnown := true, busy := true, rcvJob := [4, 0, 1, 1048572] } }
    s.gate.busy = true ∧ s.gate.dueHeld = false ∧ s.gate.rcvJob = [4, 0, 1, 1048572] ∧ rcvOpen s 4 = true ∧ rcvArgs 1 0xFFFFC = true) ∧
    (let s : State := { gate := { phase := .halted, lc := 3, lcKnown := true, busy := true, rcvJob := [5, 0, 0, 0] } }
    s.gate.busy = true ∧ s.gate.dueHeld = false ∧ s.gate.rcvJob = [5, 0, 0, 0] ∧ rcvOpen s 5 = true ∧ imageResult s (ramFile s) 0x100000 ≠ 1) ∧
    (let s : State := { gate := { phase := .halted, lc := 3, lcKnown := true, busy := true, rcvJob := [7, 0, 0, 2] } }
    s.gate.busy = true ∧ s.gate.dueHeld = false ∧ s.gate.rcvJob = [7, 0, 0, 2] ∧ rcvOpen s 7 = true ∧ lcNow s ≠ 0) ∧
    (let s : State := { gate := { phase := .halted, lc := 3, lcKnown := true, busy := true, rcvJob := [8, 0, 0, 1] } }
    s.gate.busy = true ∧ s.gate.dueHeld = false ∧ s.gate.rcvJob = [8, 0, 0, 1] ∧ rcvOpen s 8 = true ∧ lcNow s ≠ 0) ∧
    (let s : State := { gate := { phase := .halted, lc := 0, busy := true, rcvJob := [7, 0, 0, 2] } }
    s.gate.busy = true ∧ s.gate.dueHeld = false ∧ s.gate.rcvJob = [7, 0, 0, 2] ∧ rcvOpen s 7 = true ∧ lcNow s = 0) ∧
    (let s : State := { gate := { phase := .halted, lc := 0, busy := true, rcvJob := [8, 0, 0, 1] } }
    s.gate.busy = true ∧ s.gate.dueHeld = false ∧ s.gate.rcvJob = [8, 0, 0, 1] ∧ rcvOpen s 8 = true ∧ lcNow s = 0) ∧
    (let s : State := { gate := { phase := .backoff, lc := 3, lcKnown := true } }
    s.gate.busy = false ∧ rcvOpen s 6 = true ∧ s.gate.phase = .backoff ∧ s.gate.failCode ≠ 15 ∧ s.gate.failCode ≠ 8 ∧ s.gate.lc ≠ 0) := by and_intros <;> decide +kernel

/-- The words of a Bell frame of domain d with Bell number b and no optional part, with its check word. -/
def bellFrame (d b : Nat) : List Word :=
  let body := [wrd (0x100000A0 + d * 0x4000000), wrd b, 0, 0, 0, 0]
  body ++ [crc32c (body.flatMap wordBytes)]

/-- An armed pair member of a role, in step, with the link up. -/
def paired (r : Role) (t : Twin := {}) : State := { twin := { t with role := r, inStep := true, linkEn := true, link := .up } }

/-- A host port that serves the host: Jexolaryn's part of the address window is open. -/
def served (m : Mailbox := {}) (mode : Mode := .service) : State :=
  { aon := { mode := mode, vddioH := true }, gate := { phase := .running }, host := { served := true, mbs := Tab.set {} [] 7 m } }

theorem test_witness_FusesAndQueueKept :
    ((∀ i : Fin 8, (0 : BitVec 2048).getLsbD i = true → ({} : State).gate.fuses.getLsbD i = true) ∧ (match step {} with | .next t => decide (t = {}) | _ => false) = true) := by decide +kernel

theorem test_witness_MemoryStaysCanonical :
    (memoryOk {} = true ∧ (match step {} with | .next t => decide (t = {}) | _ => false) = true) ∧
    (let s : State := { granary := [(0, 1), (5, 2)], ctrlRam := [(7, 9)], pending := [.eventsLost] }
    memoryOk s = true ∧ (match step s with | .next t => decide (t.pending = []) | _ => false) = true) := by and_intros <;> decide +kernel

theorem test_witness_GlidesFollowTheLaw :
    (1 ≤ 3 ∧ 3 ≤ 3 ∧ Tab.wf {} ({ glides := [(63, { len := 3, k := 2 })] } : Quern).glides = true) := by decide +kernel

theorem test_witness_RefusedCommands :
    (let s := cmd .maintenance 0x01 []
    atHead s 0 0x01 = true ∧ (generalRefusal (acceptHead 0 s) 0 0x01 = some ⟨5, 0xF8, 0x7F, none⟩ ∨ (generalRefusal (acceptHead 0 s) 0 0x01 = none ∧ serviceStartChecks (acceptHead 0 s) = some ⟨5, 0xF8, 0x7F, none⟩))) ∧
    (let s := cmd .maintenance 0x05 [1]
    atHead s 0 0x05 = true ∧ (generalRefusal (acceptHead 0 s) 0 0x05 = some ⟨4, 0xF9, 0x7F, none⟩ ∨ (generalRefusal (acceptHead 0 s) 0 0x05 = none ∧ (configEraseChecks 0) (acceptHead 0 s) = some ⟨4, 0xF9, 0x7F, none⟩))) ∧
    (let s := cmd .service 0x05 [0x5a5a]
    atHead s 0 0x05 = true ∧ (generalRefusal (acceptHead 0 s) 0 0x05 = some ⟨5, 0xF2, 0x7F, none⟩ ∨ (generalRefusal (acceptHead 0 s) 0 0x05 = none ∧ (configEraseChecks 0) (acceptHead 0 s) = some ⟨5, 0xF2, 0x7F, none⟩))) ∧
    (let s := cmd .maintenance 0x11 [0]
    atHead s 0 0x11 = true ∧ (generalRefusal (acceptHead 0 s) 0 0x11 = some ⟨3, 0xF1, 0x7F, none⟩ ∨ (generalRefusal (acceptHead 0 s) 0 0x11 = none ∧ (imageCommitChecks 0) (acceptHead 0 s) = some ⟨3, 0xF1, 0x7F, none⟩))) ∧
    (let s := cmd .maintenance 0x14 [3]
    atHead s 0 0x14 = true ∧ (generalRefusal (acceptHead 0 s) 0 0x14 = some ⟨4, 0xF4, 0x7F, none⟩ ∨ (generalRefusal (acceptHead 0 s) 0 0x14 = none ∧ (fuseWriteChecks 0) (acceptHead 0 s) = some ⟨4, 0xF4, 0x7F, none⟩))) ∧
    (let s := cmd .maintenance 0x15 [1]
    atHead s 0 0x15 = true ∧ (generalRefusal (acceptHead 0 s) 0 0x15 = some ⟨5, 0x15, 0x7F, none⟩ ∨ (generalRefusal (acceptHead 0 s) 0 0x15 = none ∧ (lifecycleChecks 0) (acceptHead 0 s) = some ⟨5, 0x15, 0x7F, none⟩))) ∧
    (let s := cmd .service 0x21 [0] { jex := { load := some {} } }
    atHead s 0 0x21 = true ∧ (generalRefusal (acceptHead 0 s) 0 0x21 = some ⟨8, 0xFA, 0x7F, none⟩ ∨ (generalRefusal (acceptHead 0 s) 0 0x21 = none ∧ (bundleLoadChecks 0) (acceptHead 0 s) = some ⟨8, 0xFA, 0x7F, none⟩))) ∧
    (let s := cmd .service 0x30 [] { twin := { role := .standby } }
    atHead s 0 0x30 = true ∧ (generalRefusal (acceptHead 0 s) 0 0x30 = some ⟨5, 0x4B, 0x7F, none⟩ ∨ (generalRefusal (acceptHead 0 s) 0 0x30 = none ∧ paramSetOpenChecks (acceptHead 0 s) = some ⟨5, 0x4B, 0x7F, none⟩))) ∧
    (let s := cmd .service 0x32 [0, 0, 0]
    atHead s 0 0x32 = true ∧ (generalRefusal (acceptHead 0 s) 0 0x32 = some ⟨4, 0x45, 0x7F, none⟩ ∨ (generalRefusal (acceptHead 0 s) 0 0x32 = none ∧ (paramCommitChecks 0 0) (acceptHead 0 s) = some ⟨4, 0x45, 0x7F, none⟩))) ∧
    (let s := cmd .maintenance 0x40 [6]
    atHead s 0 0x40 = true ∧ (generalRefusal (acceptHead 0 s) 0 0x40 = some ⟨4, 0x5E, 0x7F, some 0⟩ ∨ (generalRefusal (acceptHead 0 s) 0 0x40 = none ∧ (domainConfigChecks 0) (acceptHead 0 s) = some ⟨4, 0x5E, 0x7F, some 0⟩))) ∧
    (let s := cmd .maintenance 0x48 [0xc000000]
    atHead s 0 0x48 = true ∧ (generalRefusal (acceptHead 0 s) 0 0x48 = some ⟨4, 0x58, 0x7F, some 0⟩ ∨ (generalRefusal (acceptHead 0 s) 0 0x48 = none ∧ (clockGroupChecks 0) (acceptHead 0 s) = some ⟨4, 0x58, 0x7F, some 0⟩))) ∧
    (let s := cmd .service 0x49 [0]
    atHead s 0 0x49 = true ∧ (generalRefusal (acceptHead 0 s) 0 0x49 = some ⟨5, 0x5F, 0x7F, some 0⟩ ∨ (generalRefusal (acceptHead 0 s) 0 0x49 = none ∧ (portConfigChecks 0) (acceptHead 0 s) = some ⟨5, 0x5F, 0x7F, some 0⟩))) ∧
    (let s := cmd .maintenance 0x50 [0x800000ff, 0, 0, 0, 0, 0xff, 0, 0]
    atHead s 0 0x50 = true ∧ (generalRefusal (acceptHead 0 s) 0 0x50 = some ⟨4, 0x61, 0x7F, some 255⟩ ∨ (generalRefusal (acceptHead 0 s) 0 0x50 = none ∧ (zoneConfigChecks 0) (acceptHead 0 s) = some ⟨4, 0x61, 0x7F, some 255⟩))) ∧
    (let s := cmd .service 0x54 [0xff, 0, 0, 0, 0, 0, 0, 0, 0, 0, 0, 0]
    atHead s 0 0x54 = true ∧ (generalRefusal (acceptHead 0 s) 0 0x54 = some ⟨4, 0x60, 0x7F, some 255⟩ ∨ (generalRefusal (acceptHead 0 s) 0 0x54 = none ∧ (announceStartChecks 0) (acceptHead 0 s) = some ⟨4, 0x60, 0x7F, some 255⟩))) ∧
    (let s := cmd .service 0x70 [0x870, 0]
    atHead s 0 0x70 = true ∧ (generalRefusal (acceptHead 0 s) 0 0x70 = some ⟨4, 0x70, 0x7F, none⟩ ∨ (generalRefusal (acceptHead 0 s) 0 0x70 = none ∧ (planWriteChecks 0) (acceptHead 0 s) = some ⟨4, 0x70, 0x7F, none⟩))) ∧
    (let s := cmd .service 0x79 [0, 0, 1]
    atHead s 0 0x79 = true ∧ (generalRefusal (acceptHead 0 s) 0 0x79 = some ⟨4, 0xF4, 0x7F, some 0⟩ ∨ (generalRefusal (acceptHead 0 s) 0 0x79 = none ∧ (pilotConfigChecks 0) (acceptHead 0 s) = some ⟨4, 0xF4, 0x7F, some 0⟩))) ∧
    (let s := cmd .maintenance 0x81 []
    atHead s 0 0x81 = true ∧ (generalRefusal (acceptHead 0 s) 0 0x81 = some (armRefuse 0x84) ∨ (generalRefusal (acceptHead 0 s) 0 0x81 = none ∧ twinArmChecks (acceptHead 0 s) = some (armRefuse 0x84)))) ∧
    (let s := cmd .service 0x83 []
    atHead s 0 0x83 = true ∧ (generalRefusal (acceptHead 0 s) 0 0x83 = some (armRefuse 0x89) ∨ (generalRefusal (acceptHead 0 s) 0 0x83 = none ∧ twinHandoverChecks (acceptHead 0 s) = some (armRefuse 0x89)))) ∧
    (let s := cmd .maintenance 0x84 [0, 1, 1, 0]
    atHead s 0 0x84 = true ∧ (generalRefusal (acceptHead 0 s) 0 0x84 = some (armRefuse 0x80) ∨ (generalRefusal (acceptHead 0 s) 0 0x84 = none ∧ (twinConfigChecks 0) (acceptHead 0 s) = some (armRefuse 0x80)))) ∧
    (let s := cmd .maintenance 0x91 [0]
    atHead s 0 0x91 = true ∧ (generalRefusal (acceptHead 0 s) 0 0x91 = some ⟨4, 0x90, 0x7F, none⟩ ∨ (generalRefusal (acceptHead 0 s) 0 0x91 = none ∧ (leaveConfigChecks 0) (acceptHead 0 s) = some ⟨4, 0x90, 0x7F, none⟩))) ∧
    (let s := cmd .service 0x93 [0, 0] { vigil := { state := .armed } }
    atHead s 0 0x93 = true ∧ (generalRefusal (acceptHead 0 s) 0 0x93 = some ⟨8, 0x92, 0x7F, some 0⟩ ∨ (generalRefusal (acceptHead 0 s) 0 0x93 = none ∧ sleepChecks 0 (acceptHead 0 s) = some ⟨8, 0x92, 0x7F, some 0⟩))) ∧
    (let s := cmd .maintenance 0x95 [0, 0, 0]
    atHead s 0 0x95 = true ∧ (generalRefusal (acceptHead 0 s) 0 0x95 = some ⟨4, 0x94, 0x7F, none⟩ ∨ (generalRefusal (acceptHead 0 s) 0 0x95 = none ∧ (wardenConfigChecks 0) (acceptHead 0 s) = some ⟨4, 0x94, 0x7F, none⟩))) ∧
    (let s := cmd .service 0xA2 [0xffff]
    atHead s 0 0xA2 = true ∧ (generalRefusal (acceptHead 0 s) 0 0xA2 = some ⟨4, 0xA0, 0x7F, none⟩ ∨ (generalRefusal (acceptHead 0 s) 0 0xA2 = none ∧ (faultAckChecks 0) (acceptHead 0 s) = some ⟨4, 0xA0, 0x7F, none⟩))) ∧
    (let s := cmd .service 0xB1 [0, 0, 0]
    atHead s 0 0xB1 = true ∧ (generalRefusal (acceptHead 0 s) 0 0xB1 = some ⟨4, 0xB0, 0x7F, none⟩ ∨ (generalRefusal (acceptHead 0 s) 0 0xB1 = none ∧ (perSubmitChecks 0) (acceptHead 0 s) = some ⟨4, 0xB0, 0x7F, none⟩))) ∧
    (let s := cmd .service 0xC0 [0, 0, 0]
    atHead s 0 0xC0 = true ∧ (generalRefusal (acceptHead 0 s) 0 0xC0 = some ⟨5, 0xF2, 0x7F, none⟩ ∨ (generalRefusal (acceptHead 0 s) 0 0xC0 = none ∧ (taskInstallChecks 0) (acceptHead 0 s) = some ⟨5, 0xF2, 0x7F, none⟩))) ∧
    (let s := cmd .service 0xD1 [0]
    atHead s 0 0xD1 = true ∧ (generalRefusal (acceptHead 0 s) 0 0xD1 = some ⟨6, 0xD1, 0x7F, some 0⟩ ∨ (generalRefusal (acceptHead 0 s) 0 0xD1 = none ∧ (crierPlayChecks 0) (acceptHead 0 s) = some ⟨6, 0xD1, 0x7F, some 0⟩))) ∧
    (let s := cmd .service 0xD2 [] { crier := { alarm := true } }
    atHead s 0 0xD2 = true ∧ (generalRefusal (acceptHead 0 s) 0 0xD2 = some ⟨5, 0xD2, 0x7F, none⟩ ∨ (generalRefusal (acceptHead 0 s) 0 0xD2 = none ∧ crierStopChecks (acceptHead 0 s) = some ⟨5, 0xD2, 0x7F, none⟩))) ∧
    (let s := cmd .service 0xE1 [0]
    atHead s 0 0xE1 = true ∧ (generalRefusal (acceptHead 0 s) 0 0xE1 = some ⟨4, 0xE0, 0x7F, some 0⟩ ∨ (generalRefusal (acceptHead 0 s) 0 0xE1 = none ∧ (traceReadChecks 0) (acceptHead 0 s) = some ⟨4, 0xE0, 0x7F, some 0⟩))) := by and_intros <;> decide +kernel

theorem test_witness_TwinInputs :
    (let s : State := paired .standby
    mayTakeOver s = true ∧ s.twin.handover = none) ∧
    (let s : State := paired .single
    mayTakeOver s = false ∧ s.twin.dutyIn = false) ∧
    (let s : State := { twin := { linkEn := true } }
    s.twin.linkEn = true ∧ s.twin.link ≠ .up) ∧
    (let s : State := paired .duty
    s.twin.arm = .idle ∧ s.twin.armMb = none ∧ s.twin.link ≠ .down ∧ ∀ d : Fin 4, ((dom s d).enable && (dom s d).src == 5) = false) ∧
    (let s : State := { paired .duty with domains := [(3, { enable := true, src := 5, state := .locked })] }
    s.twin.arm = .idle ∧ s.twin.armMb = none ∧ s.twin.link ≠ .down ∧ ((dom s 3).enable && (dom s 3).src == 5) = true ∧ (dom s 3).state = .locked ∧ s.twin.linkEn = true ∧ (peer s 3).missRun = 0) ∧
    (let s : State := { acceptHead 0 (cmd .maintenance 0x81 [] {}) with twin := { linkEn := true, link := .up, arm := .check, armMb := some 0, attempts := 0 } }
    s.twin.armMb = some 0 ∧ s.twin.arm ≠ .idle ∧ s.twin.link ≠ .down) ∧
    (let s : State := paired .standby { waitDuty := true, dutyIn := true }
    s.twin.role = .standby ∧ s.twin.waitDuty = true ∧ s.twin.dutyIn = true) ∧
    (let s : State := paired .standby { waitDuty := true }
    s.twin.role = .standby ∧ s.twin.waitDuty = true ∧ s.twin.dutyIn = false) ∧
    (let s : State := { paired .duty { peers := [(3, { missRun := 0 })], dutyIn := false } with domains := [(3, { enable := true, state := .locked })] }
    (dom s 3).enable = true ∧ s.twin.linkEn = true ∧ (peer s 3).missRun = 0) ∧
    (let s : State := { paired .duty { peers := [(3, { missRun := 1 })], dutyIn := false } with domains := [(3, { enable := true, state := .locked })] }
    (dom s 3).enable = true ∧ s.twin.linkEn = true ∧ 1 ≤ (peer s 3).missRun ∧ s.twin.role = .duty) ∧
    (let s : State := { paired .standby { peers := [(3, { missRun := 1 })], dutyIn := true } with domains := [(3, { enable := true, state := .locked })] }
    (dom s 3).enable = true ∧ s.twin.linkEn = true ∧ 1 ≤ (peer s 3).missRun ∧ mayTakeOver s = true ∧ s.twin.dutyIn = true) ∧
    (let s : State := { paired .standby { peers := [(3, { missRun := 1 })], dutyIn := false } with domains := [(3, { enable := true, state := .locked })] }
    (dom s 3).enable = true ∧ s.twin.linkEn = true ∧ 1 ≤ (peer s 3).missRun ∧ mayTakeOver s = true ∧ s.twin.dutyIn = false) ∧
    (let s : State := { acceptHead 0 (cmd .maintenance 0x81 [] {}) with twin := { linkEn := true, link := .up, arm := .verify, armMb := some 0, attempts := 1 } }
    s.twin.armMb = some 0 ∧ s.twin.arm = .verify ∧ s.twin.attempts < 2) ∧
    (let s : State := { acceptHead 0 (cmd .maintenance 0x81 [] {}) with twin := { linkEn := true, link := .up, arm := .join, armMb := some 0, attempts := 2 } }
    s.twin.armMb = some 0 ∧ s.twin.arm = .join ∧ 2 ≤ s.twin.attempts) ∧
    (let s : State := paired .single { released := true }
    mayTakeOver s = false ∧ s.twin.released = true ∧ s.twin.pos = false) := by and_intros <;> decide +kernel

theorem test_witness_TwinPackets :
    (let s : State := paired .standby
    s.twin.arm = .idle ∧ s.twin.armMb = none ∧ s.twin.link = .up) ∧
    (let s : State := paired .duty { handover := some { domain := 3, bell := 1, acked := false, incoming := false } }
    s.twin.link = .up ∧ s.twin.role = .duty ∧ (s.twin.handover.map (·.acked)) = some false ∧ quiet s) ∧
    (let s : State := paired .duty { handover := some { domain := 3, bell := 1, acked := true, incoming := false } }
    quiet s ∧ s.twin.handover = some { domain := 3, bell := 1, acked := true } ∧ (dom s 3).bell + 1 = 1) ∧
    (let s : State := paired .standby { handover := some { domain := 3, bell := 1, acked := true, incoming := true } }
    quiet s ∧ s.twin.handover = some { domain := 3, bell := 1, acked := true, incoming := true } ∧ (dom s 3).bell + 1 = 1) ∧
    (let s : State := paired .single
    s.twin.arm = .idle ∧ s.twin.armMb = none ∧ s.twin.role = .single ∧ s.twin.link = .up ∧ frameWhole 3 (bellFrame 3 5000) = true ∧ (peer s 3).seen = false) ∧
    (let s : State := { paired .single with domains := [(3, { enable := true })] }
    s.twin.link = .up ∧ frameWhole 3 [] = false ∧ (dom s 3).enable = true ∧ (peer s 3).missRun = 0) ∧
    (let s : State := paired .standby
    s.twin.link = .up ∧ follows s = true) ∧
    (let s : State := { ({ acceptHead 0 (cmd .maintenance 0x81 [] {}) with twin := { linkEn := true, link := .up, arm := .copy, armMb := some 0, attempts := 0 } }) with banks := [(127, { owner := 4 })], domains := [(3, { enable := true })] }
    s.twin.link = .up ∧ joiner s = true ∧ s.twin.arm = .copy ∧ enabledDoms s = [3] ∧ addrOk 33488895 = true ∧ (bank s (posBank (addrHamlet 33488895) (addrPos 33488895))).owner = 4) ∧
    (taken (cmd .maintenance 0x81 [] { twin := { link := .up, dutyIn := true } }) 0 0x81 twinArmChecks = true) ∧
    (let s := cmd .vigil 0x82 [] (paired .standby)
    taken s 0 0x82 noChecks = true ∧ s.twin.arm = .idle ∧ s.twin.armMb = none ∧ s.twin.role ≠ .duty) ∧
    (let s := cmd .vigil 0x83 [] { paired .duty { peers := [(3, { inStep := true })] } with domains := [(3, { enable := true, state := .locked })] }
    taken s 0 0x83 twinHandoverChecks = true ∧ s.twin.handover = none ∧ faultDomain s = some 3) ∧
    (let s := cmd .maintenance 0x84 [0xf0000000, 0x80000000, 1, 0x5000000]
    taken s 0 0x84 (twinConfigChecks 0) = true ∧ s.twin.arm = .idle ∧ s.twin.armMb = none) ∧
    (let s := cmd .maintenance 0x84 [0, 0, 0, 0] (paired .single)
    taken s 0 0x84 (twinConfigChecks 0) = true ∧ s.twin.arm = .idle ∧ s.twin.armMb = none) ∧
    (let s : State := { paired .duty { dutyOut := true, handover := some { domain := 3, bell := 1, acked := false, incoming := false } } with aon := { mode := .service } }
    s.twin.dutyOut = true ∧ s.twin.dutyIn = false ∧ s.aon.mode = .service ∧ s.twin.role = .duty ∧ (s.twin.handover.map (·.acked)) = some false ∧ quiet s) ∧
    (let s := cmd .vigil 0x82 [] { paired .standby { ownSrc := 0x1400 } with domains := [(1, { enable := true, src := 5, state := .locked })] }
    taken s 0 0x82 noChecks = true ∧ s.twin.arm = .idle ∧ s.twin.armMb = none ∧ s.twin.role = .standby ∧ (dom s 1).src = 5 ∧ (s.twin.ownSrc.toNat >>> 10) % 16 = 5) := by unfold quiet; and_intros <;> decide +kernel

theorem test_witness_HostFramesRead :
    (let s : State := served
    portServes s = true ∧ bootPort s = false) ∧
    (let n := 2080
    32 ≤ n ∧ n ≤ 2080 ∧ n % 32 = 0) ∧
    (portServes {} = false ∧ 0x3FF < 0x400) ∧
    (let s : State := served {} .boot
    portServes s = true ∧ bootPort s = true) ∧
    (2080 < 2112 ∧ 2112 % 32 = 0 ∧ 33 % 32 ≠ 0 ∧ 3 < (4 : BitVec 8).toNat) ∧
    (∀ m : Fin 8, (0x1FF : BitVec 16).toNat = 0x200 + 64 * m.val → (mbox served m).state ≠ .free) ∧
    (∀ m : Fin 8, (0x3C0 : BitVec 16).toNat = 0x200 + 64 * m.val → (mbox (served { state := .ready }) m).state ≠ .free) := by and_intros <;> decide +kernel

theorem test_witness_HostFramesWrite :
    (let s : State := served
    portServes s = true ∧ bootPort s = false ∧ (mbox s 7).state = .free ∧ (0x3FF : BitVec 16).toNat = 0x200 + 64 * 7 + 63 ∧ s.host.served = true ∧ (0x3C0 : BitVec 16).toNat = 0x200 + 64 * 7) ∧
    (let s : State := served { state := .accepted }
    portServes s = true ∧ bootPort s = false ∧ (mbox s 7).state ≠ .free) ∧
    (let s : State := served {} .boot
    portServes s = true ∧ bootPort s = true ∧ 0x200 ≤ (0x3FF : BitVec 16).toNat ∧ (0x3FF : BitVec 16).toNat ≤ 0x3FF) ∧
    (let s : State := served { state := .ringing, words := [(0, 0x00000100)] }
    (mbox s 7).state = .ringing ∧ ((s.host.doorbells ++ [7]).head?.bind (fun k => cmdRow (cmdOp s k))).isSome = true) ∧
    (let s : State := { served { state := .ringing, words := [(0, 0xFF000100)] } with jex := { started := true } }
    (mbox s 7).state = .ringing ∧ s.host.doorbells = [] ∧ jexOn s = true ∧ s.host.served = true ∧ cmdRow (cmdOp s 7) = none) := by and_intros <;> decide +kernel

/-- Jexolaryn runs over Reeves 0 and 1, in a mode. -/
def alive (mode : Mode) (s : State := {}) : State :=
  { s with aon := { mode := mode, vddioH := true }, gate := { s.gate with phase := .running }, jex := { s.jex with started := true }
           reeves := [(0, { run := .running }), (1, { run := .running })] }

/-- A Crier store copy with three messages of 2048 samples; the alarm plays messages 0 and 2. -/
def crierCopy : CrierStore := { msgs := [(0, 2048), (2, 2048), (4, 2048)], alarmSeq := [0, 2], faultSeq := [1], gapMs := 5 }

/-- The Crier plays message 0 of a sequence. -/
def playing (p : CrierPlay) (c : Crier := {}) : State :=
  { crier := { c with state := .active, copy := some crierCopy, playOk := true, play := some p } }

theorem test_witness_ReeveRegisters :
    (let s : State := alive .maintenance
    reeveCtl s 1 = true ∧ s.greq.busy = false ∧ portServes s = true ∧ bootPort s = false ∧ reeveRuns s 1 = true ∧ (reeve s 1).user = false ∧ reeveRuns s 3 = false ∧ 0xFFFFF < 0x100000) ∧
    (let s : State := alive .maintenance { jex := { sets := [(7, { state := .armed, slot := some 5, domain := 3, hasDomain := true })] }, domains := [(3, { bell := 100, slots := [(5, { armed := true, bell := 200, set := some 7 })] })] }
    reeveCtl s 1 = true ∧ (bit 0 30 = false ∧ (bellOf (fld 0 0 16) 100).toNat ≤ (dom s 3).bell.toNat ∧ ¬ (bellOf (fld 0 0 16) 101).toNat ≤ (dom s 3).bell.toNat) ∧ (slotOf s 3 5).set = some 7 ∧ (hostSet s 7).state = .armed ∧ (slotOf s 3 5).armed = true) ∧
    (let s : State := { greq := { busy := true, job := [2, 0, 0, 0, 0, 0] }, gate := { busy := true, rcvJob := [7, 0, 0, 0] } }
    s.greq.busy = true ∧ s.greq.job = [2, 0, 0, 0, 0, 0] ∧ fuseBusy s = true ∧ reeveCtl s 1 = false) ∧
    (let s : State := { (alive .maintenance { greq := { busy := true, job := [2, 0, 0, 0x10100000, 0, 0x100001] }, gate := { svn := 5 } }) with fresh := 0 }
    s.greq.busy = true ∧ s.greq.job = [2, 0, 0, 0x10100000, 0, 0x100001] ∧ fuseBusy s = false ∧ resumeRange 0x10100000 0x100001 = false) ∧
    (let s : State := { (alive .maintenance { greq := { busy := true, job := [2, 0, 0, 0x10100000, 0, 0x100000] }, gate := { svn := 5 } }) with fresh := 0 }
    s.greq.busy = true ∧ s.greq.job = [2, 0, 0, 0x10100000, 0, 0x100000] ∧ fuseBusy s = false ∧ resumeRange 0x10100000 0x100000 = true) ∧
    (let s : State := { (alive .maintenance { greq := { busy := true, job := [0, 0, 0, 0x10000000, 0x10000000, 1] }, gate := { svn := 5 } }) with fresh := 0 }
    s.greq.busy = true ∧ s.greq.job = [0, 0, 0, 0x10000000, 0x10000000, 1] ∧ (0 = 0 ∨ 3 < 0 ∨ ctrlRange 0x10000000 1 = false)) ∧
    (let s : State := { (alive .maintenance { greq := { busy := true, job := [1, 3, 0, 0x10000000, 0x10000000, 48] }, gate := { svn := 5 } }) with fresh := 0 }
    s.greq.busy = true ∧ s.greq.job = [1, 3, 0, 0x10000000, 0x10000000, 48] ∧ 48 < 49) ∧
    (let s : State := { (alive .maintenance { greq := { busy := true, job := [0, 3, 6, 0x10000000, 0x103FFFCF, 1] }, gate := { svn := 5 } }) with fresh := 0 }
    s.greq.busy = true ∧ s.greq.job = [0, 3, 6, 0x10000000, 0x103FFFCF, 1] ∧ ¬ (3 = 0 ∨ 3 < 3 ∨ ctrlRange 0x10000000 1 = false) ∧ ctrlRange 0x103FFFCF (1 + 48) = true ∧ s.gate.svn < 6) ∧
    (let s : State := { (alive .maintenance { greq := { busy := true, job := [0, 1, 5, 0x10000000, 0x10000000, 65536] }, gate := { svn := 5 } }) with fresh := 0 }
    s.greq.busy = true ∧ s.greq.job = [0, 1, 5, 0x10000000, 0x10000000, 65536] ∧ ¬ (1 = 0 ∨ 3 < 1 ∨ ctrlRange 0x10000000 65536 = false) ∧ ctrlRange 0x10000000 (65536 + 48) = true ∧ 5 ≤ s.gate.svn) ∧
    (let s : State := { (alive .maintenance { greq := { busy := true, job := [1, 1, 5, 0x10000000, 0x10000000, 49] }, gate := { svn := 5 } }) with fresh := 0 }
    s.greq.busy = true ∧ s.greq.job = [1, 1, 5, 0x10000000, 0x10000000, 49] ∧ ¬ (1 = 0 ∨ 3 < 1 ∨ ctrlRange 0x10000000 49 = false) ∧ ctrlRange 0x10000000 (49 - 48) = true ∧ 5 ≤ s.gate.svn) ∧
    (let s : State := { reeves := [(3, { run := .running, user := true, regions := [{ base := 0x30000000, len := 0x100, rd := true }] })] }
    reeveRuns s 3 = true ∧ (reeve s 3).user = true ∧ (∀ g ∈ (reeve s 3).regions, g.permits 0x30000000 true = false) ∧ (∀ g ∈ (reeve s 3).regions, g.permits 0x30000100 false = false) ∧ reeveRuns s 1 = false) ∧
    (let s : State := { reeves := [(3, { run := .running, user := true, regions := [{ base := 0x22000000, len := 0x10, wr := true }, { base := 0x23500004, len := 4, rd := true }] })] }
    reeveRuns s 3 = true ∧ (reeve s 3).user = true ∧ ∀ a ∈ [0x23000008 + 0x100 * 3 + 0x20 * 7, 0x23000404 + 0x10 * 3, 0x22000000 + 0x10 * 4095 + 4 * 3, 0x22000010, 0x22100000 + 0x80 * 127, 0x23500004],
      ∀ g ∈ (reeve s 3).regions, g.permits a true = false) := by and_intros <;> decide +kernel

theorem test_witness_EventsAndFaults :
    (let s : State := { jex := { started := true }, host := { evq := List.replicate 62 {}, refused := [] } }
    jexOn s = true ∧ s.host.refused = [] ∧ s.host.evq.length < 63) ∧
    (let s : State := { jex := { started := true }, host := { evq := List.replicate 63 {}, refused := [] } }
    jexOn s = true ∧ s.host.evq.length = 63) ∧
    (let s : State := { jex := { started := true }, host := { evq := List.replicate 64 {}, refused := [] } }
    jexOn s = true ∧ 64 ≤ s.host.evq.length) ∧
    (let s : State := { jex := { started := true }, host := { evq := List.replicate 62 {}, refused := [5] } }
    jexOn s = true ∧ s.host.refused ≠ [] ∧ s.host.evq.length < 63) ∧
    (let s : State := {}
    jexOn s = false ∧ s.host.refused = [] ∧ s.faults.waiting = []) ∧
    (let s : State := { jex := { started := true }, warden := { avsBad := true } }
    jexOn s = true ∧ (faultNow s 0x502 0).isSome = true ∧ (faultRow 0x502).isSome = true ∧ s.faults.active = [] ∧ s.faults.waiting.length < 256 ∧ s.host.evq.length < 63) ∧
    (let s : State := { jex := { started := true }, querns := [(127, { qSat := true })] }
    jexOn s = true ∧ (faultNow s 0x0102 127).isSome = true ∧ (faultRow 0x0102).isSome = true ∧ (quern s 127).qSeen ≠ (quern s 127).flags3) ∧
    (let s : State := { jex := { started := true }, gate := { untested := true }, faults := { active := [{ code := 4, payload := [0xB003, 0, 0, 0], cond := true }] } }
    faultNow s 4 0 = some [0xB003] ∧ ((faultRow 4).map (·.1) = some .c ∨ (faultRow 4).map (·.1) = some .ca) ∧ s.faults.active.any (fun i => i.named 4 [0xB003] && i.cond) = true) ∧
    (let s : State := { jex := { started := true }, faults := { active := [{ code := 4, payload := [0xB003, 0, 0, 0], cond := true }] } }
    jexOn s = true ∧ faultNow s 4 (payloadW4 [0xB003]) = none ∧ (faultRow 4).map (·.1) = some .c) ∧
    (let s : State := { jex := { started := true }, faults := { active := [{ code := 0x101, payload := [5, 0, 0, 0], cond := true, acked := true }] } }
    jexOn s = true ∧ faultNow s 0x101 5 = none ∧ (faultRow 0x101).map (·.1) = some .ca) ∧
    (let s := cmd .fallback 0xA2 [4] { faults := { active := [{ code := 4, payload := [0xB003, 0, 0, 0], cond := true }] } }
    taken s 0 0xA2 (faultAckChecks 0) = true ∧ (faultRow (ackCode s 0)).isSome = true) ∧
    (let s : State := { flashed with jex := { started := true }, faults := { waiting := [{}] } }
    jexOn s = true ∧ s.faults.waiting ≠ [] ∧ logBusy s = false ∧ 0 < logRoom s ∧ flashOp s 0 = none) ∧
    (let s : State := { jex := { started := true }, faults := { waiting := [{}] } }
    jexOn s = true ∧ s.faults.waiting ≠ [] ∧ logRoom s = 0) ∧
    (let s : State := { jex := { started := true }, faults := { found := 5 } }
    jexOn s = true ∧ (faultNow s 1 0).isSome = true ∧ (faultNow s 2 0).isSome = false ∧ (faultRow 1).isSome = true ∧ s.faults.found.getLsbD 2 = true ∧ s.faults.active = []) := by and_intros <;> decide +kernel

theorem test_witness_CrierWorks :
    (let s : State := {}
    s.crier.state = .off ∧ s.aon.mode ≠ .sleep ∧ acceptedOf s 0x93 = none) ∧
    (let s : State := { crier := { state := .armed, copy := some crierCopy, playOk := true } }
    s.crier.state = .armed ∧ s.crier.play = none ∧ s.crier.begun.getLsbD 0 = false ∧ s.crier.playOk = true ∧ s.crier.nextGood [0, 2] 0 = some 0 ∧ s.vigil.state ≠ .running ∧ s.aon.mode ≠ .sleep ∧ acceptedOf s 0x93 = none) ∧
    (let s : State := { crier := { state := .armed, copy := some crierCopy, playOk := true }, aon := { mode := .sleep }, gate := { phase := .asleep } }
    s.crier.state = .armed ∧ s.vigil.state ≠ .running ∧ s.aon.mode = .sleep ∧ s.gate.phase = .asleep ∧ s.crier.alarm = false ∧ acceptedOf s 0x93 = none) ∧
    (let s : State := { crier := { state := .active, alarm := true } }
    s.crier.state = .active ∧ s.crier.host = false ∧ s.crier.internal = false ∧ s.crier.play = none) ∧
    (let s : State := playing { seq := [0, 2] } { alarm := true }
    s.crier.state = .active ∧ s.crier.host = false ∧ s.crier.internal = false ∧ s.crier.play = some { seq := [0, 2] } ∧ s.crier.nextGood [0] 1 = none) ∧
    (let s : State := playing { seq := [0, 2] }
    s.crier.play = some { seq := [0, 2] } ∧ 0 < s.crier.msgLen { seq := [0, 2] }) ∧
    (let s : State := playing { seq := [0, 2], sample := 2048 } { alarm := true, begun := 1 }
    s.crier.play = some { seq := [0, 2], sample := 2048 } ∧ s.crier.holds 0 = true ∧ (∀ r, r < 0 → s.crier.holds r = true → s.crier.begun.getLsbD r = true) ∧ s.crier.msgLen { seq := [0, 2], sample := 2048 } ≤ 2048 ∧ s.crier.nextGood [0, 2] 1 = some 1) ∧
    (let s : State := playing { seq := [0, 2], pos := 1, sample := 2048, repeats := some 1 } { alarm := true, begun := 1 }
    s.crier.play = some { seq := [0, 2], pos := 1, sample := 2048, repeats := some 1 } ∧ s.crier.msgLen { seq := [0, 2], pos := 1, sample := 2048, repeats := some 1 } ≤ 2048 ∧ s.crier.nextGood [0, 2] 2 = none ∧ s.crier.nextGood [0, 2] 0 = some 0) ∧
    (let s : State := playing { seq := [0, 2], gap := true } { alarm := true, begun := 1 }
    s.crier.play = some { seq := [0, 2], gap := true } ∧ s.crier.holds 0 = true) ∧
    (let s : State := playing { rank := 1, seq := [1], sample := 2048, repeats := some 0 } { host := true }
    s.crier.play = some { rank := 1, seq := [1], sample := 2048, repeats := some 0 } ∧ s.crier.msgLen { rank := 1, seq := [1], sample := 2048, repeats := some 0 } ≤ 2048 ∧ s.crier.alarm = false ∧ s.crier.internal = false ∧ s.crier.nextGood [1] 1 = none) ∧
    (let s : State := playing { rank := 1, seq := [1], sample := 2048, finishing := true }
    s.crier.play = some { rank := 1, seq := [1], sample := 2048, finishing := true } ∧ s.crier.msgLen { rank := 1, seq := [1], sample := 2048, finishing := true } ≤ 2048 ∧ s.crier.host = false) ∧
    (let s : State := playing { rank := 2, seq := [1], sample := 2048, repeats := some 0 } { bootFail := true, begun := 4 }
    s.crier.play = some { rank := 2, seq := [1], sample := 2048, repeats := some 0 } ∧ s.crier.state = .active ∧ s.crier.msgLen { rank := 2, seq := [1], sample := 2048, repeats := some 0 } ≤ 2048 ∧ s.crier.nextGood [1] 1 = none ∧ s.crier.internal = true ∧ s.crier.alarm = false ∧ s.crier.host = false ∧ s.crier.begun.getLsbD 2 = true) ∧
    (let s : State := { crier := { state := .active, alarm := true } }
    s.crier.state = .active ∧ s.crier.copy = none ∧ s.crier.play = none) ∧
    (let s : State := { crier := { state := .armed, copy := some crierCopy, playOk := true } }
    s.crier.state ≠ .active) ∧
    (let s : State := playing { seq := [0], sample := 2047, blockOk := true }
    s.crier.state = .active ∧ s.crier.copy = some crierCopy ∧ s.crier.play = some { seq := [0], sample := 2047, blockOk := true } ∧ 2047 < s.crier.msgLen { seq := [0], sample := 2047, blockOk := true }) ∧
    (let s := cmd .fallback 0xD1 [0x40000000] { crier := { state := .armed, copy := some crierCopy, playOk := true } }
    taken s 0 0xD1 (crierPlayChecks 0) = true ∧ s.crier.state = .armed ∧ s.crier.play = none ∧ s.crier.alarm = false ∧ s.crier.internal = false ∧ s.vigil.state ≠ .running ∧ s.aon.mode ≠ .sleep) ∧
    (let s := cmd .fallback 0xD2 [] (playing { rank := 1, seq := [1] } { host := true })
    taken s 0 0xD2 crierStopChecks = true ∧ s.crier.state = .active ∧ s.crier.play = some { rank := 1, seq := [1] }) ∧
    (let s := acceptHead 0 (cmd .service 0x93 [0, 0] { (alive .service) with crier := { state := .armed, copy := some crierCopy, playOk := true } })
    s.crier.state = .armed ∧ s.crier.play = none ∧ s.crier.begun.getLsbD 0 = false ∧ s.vigil.state ≠ .running ∧ s.aon.mode ≠ .sleep ∧ s.crier.alarm = false ∧ acceptedOf s 0x93 = some 0) := by and_intros <;> decide +kernel

theorem test_witness_WatchdogAndFallback :
    (let s : State := { alive .service with reeves := [(0, { run := .running, wdog := 999 }), (1, { run := .running, wdog := 1000 })] }
    reeveRuns s 1 = true ∧ reeveRuns s 3 = false ∧ (reeve s 1).run = .running ∧ s.vigil.state ≠ .running ∧ s.twin.role = .single ∧ 1000 ≤ (reeve s 1).wdog ∧ ¬ 1000 ≤ (reeve s 0).wdog ∧ wdogDue s 0 = false) ∧
    (let s : State := { alive .service with reeves := [(0, { run := .running, wdog := 1000 }), (1, { run := .running, wdog := 1000 })] }
    1000 ≤ (reeve s 1).wdog ∧ wdogDue s 0 = true) ∧
    (let s : State := {}
    (reeve s 1).run ≠ .running ∧ (reeve s 1).run ≠ .restricted) ∧
    (let s : State := { reeves := [(1, { run := .running, held := true })], gate := { lc := 1 } }
    (reeve s 1).held = true ∧ s.gate.lc = 1) ∧
    (let s : State := { reeves := [(0, { run := .restricted, held := true, wdog := 1000 })], gate := { lc := 2 } }
    s.vigil.state ≠ .running ∧ s.twin.role ≠ .duty ∧ (reeve s 0).run = .restricted ∧ ((reeve s 0).held && s.gate.lc == 1) = false ∧ 1000 ≤ (reeve s 0).wdog) ∧
    (let s : State := { alive .vigil with domains := [(3, { enable := true, state := .locked })], twin := { role := .duty }, reeves := [(0, { run := .running, wdog := 999 }), (1, { run := .running, wdog := 1000 })] }
    s.twin.role = .duty ∧ s.twin.handover = none ∧ faultDomain s = some 3 ∧ (reeve s 1).run = .running ∧ 1000 ≤ (reeve s 1).wdog) ∧
    (let s := cmd .service 0xD5 [] (alive .service)
    taken s 0 0xD5 noChecks = true ∧ s.vigil.state ≠ .running ∧ s.twin.role = .single) ∧
    (let s := cmd .service 0x93 [0xffffffff, 0xf] (alive .service)
    taken s 0 0x93 (sleepChecks 0) = true ∧ s.twin.role ≠ .duty ∧ s.twin.arm = .idle ∧ s.twin.armMb = none ∧ s.per.active = false ∧ s.per.tickets = []) ∧
    (let s := cmd .service 0x93 [0, 0] (paired .single { arm := .check, armMb := some 7 })
    taken s 0 0x93 (sleepChecks 0) = true ∧ s.twin.role ≠ .duty ∧ s.twin.armMb ≠ some 0) ∧
    (let s := cmd .service 0x93 [0, 0] { domains := [(3, { enable := true, state := .locked })], twin := { role := .duty } }
    taken s 0 0x93 (sleepChecks 0) = true ∧ s.twin.role = .duty ∧ s.twin.handover = none ∧ faultDomain s = some 3) ∧
    (let s := { cmd .service 0x93 [0, 3] (alive .service) with aon := { mode := .service, sleepTick := some 0xFFFFFFFF, tick := 9 } }
    s.aon.sleepTick = some 0xFFFFFFFF ∧ since s 0xFFFFFFFF < 11) ∧
    (let s := acceptHead 0 (cmd .service 0x93 [0, 3] { (alive .service) with aon := { mode := .service, sleepTick := some 0xFFFFFFFF, tick := 10 } })
    s.aon.sleepTick = some 0xFFFFFFFF ∧ 11 ≤ since s 0xFFFFFFFF ∧ (mbox s 0).state = .accepted ∧ s.dma.chans = []) ∧
    (let s : State := alive .service
    s.aon.sleepTick = none ∧ s.twin.arm = .idle ∧ s.twin.armMb = none ∧ s.per.active = false ∧ s.per.tickets = []) ∧
    (let s := cmd .service 0x93 [0, 0] { (alive .service) with per := { tickets := [{ num := 4, entries := [{ hdr := 0x04000001 }] }], active := true } }
    taken s 0 0x93 (sleepChecks 0) = true ∧ s.twin.role ≠ .duty ∧ s.per.active = true) := by and_intros <;> decide +kernel

/-- Reeve 1 runs slot n (0: none) in privileged state; slots and queues are given. -/
def stewarding (n : Nat) (slots : Tab TaskSlot) (queues : Tab SQueue := []) (ready delays : List Nat := []) (user : Bool := false) : State :=
  { reeves := [(1, { run := .running, user := user })]
    stew := { ports := Tab.set {} [] 1 { current := n }, slots := slots, queues := queues, ready := ready, delays := delays } }

/-- DMA channel 31 as given; Reeve 1 runs, ring 3 has a size. -/
def moving (x : Chan) (size : Nat) : State :=
  { reeves := [(1, { run := .running })], dma := { chans := [(31, x)], rings := [(3, { base := 0x10000000, size := size })] } }

/-- Task 63 runs in slot 255 with an arena of 1 MiB; its requests stand in queue 47 and its replies go to queue 5. -/
def extending (k : Task) (ws : List (Nat × Word)) : State :=
  { jex := { started := true, tasks := [(63, { k with id := 9, state := 1, slot := 255, arenaLen := 0x100000, queues := 32 })] }
    stew := { queues := [(5, { enable := true }), (47, { enable := true })] }
    ctrlRam := ws, flash := { size := [(0, 0x10000000)] } }

theorem test_witness_StewardOperations :
    (let s : State := {}
    reeveRuns s 1 = false) ∧
    (let s : State := stewarding 200 [] [] [] [] true
    reeveRuns s 1 = true ∧ (reeve s 1).user = true ∧ (191 : BitVec 8).toNat < 192 ∧ (sport s 1).current ≠ 0 ∧ lentQueue s 200 5 = false) ∧
    (let s : State := stewarding 0 []
    reeveRuns s 1 = true ∧ (reeve s 1).user = false ∧ (sport s 1).current = 0 ∧ (tslot s 255).state = .free ∧ (squeue s 63).enable = false ∧ reevesFor s 255 = []) ∧
    (let s : State := stewarding 0 [(255, { state := .ready })]
    (tslot s 255).state ≠ .free ∧ (tslot s 255).state ≠ .waiting ∧ (tslot s 255).state ≠ .suspended ∧ (tslot s 255).state ≠ .running) ∧
    (let s : State := stewarding 0 [(255, { state := .waiting, mask := 3 })]
    (tslot s 255).state = .waiting ∧ waitMet false 3 1 = true ∧ reevesFor s 255 = []) ∧
    (let s : State := stewarding 7 [(7, { state := .running, flags := 6 })]
    (sport s 1).current ≠ 0 ∧ waitMet false 4 (tslot s 7).flags = true ∧ 16777215 < (16777216 : Word).toNat) ∧
    (let s : State := stewarding 0 [] [(63, { enable := true, entries := List.replicate 15 7, lowMark := 15 })]
    (squeue s 63).enable = true ∧ (squeue s 63).fill < 16 ∧ (squeue s 63).consumer = 0 ∧ (squeue s 63).entries.length = 15 ∧ (squeue s 63).producer = 0 ∧ s.jex.extWait = []) ∧
    (let s : State := stewarding 0 [] [(63, { enable := true, entries := List.replicate 16 7 })]
    (squeue s 63).enable = true ∧ 16 ≤ (squeue s 63).fill) ∧
    (let s : State := stewarding 0 [] [(63, { enable := true })]
    (squeue s 63).enable = true ∧ (squeue s 63).entries = []) ∧
    (let s : State := stewarding 0 [(255, { state := .suspended })]
    (tslot s 255).state = .suspended ∧ reevesFor s 255 = []) := by and_intros <;> decide +kernel

theorem test_witness_StewardScheduling :
    (let s : State := stewarding 7 [(7, { state := .running, runOn := 1 })]
    reeveRuns s 1 = true ∧ (sport s 1).current ≠ 0 ∧ s.stew.ready = [] ∧ waitMet true 1 (tslot s 7).flags = false ∧ (tslot s 7).state = .running ∧ (tslot s 7).runOn = 1) ∧
    (let s : State := stewarding 7 [(7, { state := .running, runOn := 1, prio := 5 }), (255, { state := .ready, affinity := 2, prio := 5 })] [] [255]
    (reeve s 1).run = .running ∧ 255 ≠ (sport s 1).current ∧ s.stew.ready = [255] ∧ eligible s 1 255 = true ∧ (tslot s 255).state = .ready ∧ (tslot s 255).group = 0 ∧ (tslot s 255).prio ≤ (tslot s 7).prio ∧ ∀ j ∈ reevesFor s 7, j = 1) ∧
    (let s : State := stewarding 0 [(255, { state := .suspended, affinity := 2 })]
    reeveRuns s 1 = true ∧ (reeve s 1).user = false ∧ (tslot s 255).group = 0 ∧ s.stew.ready = [] ∧ (reeve s 1).run = .running ∧ eligible s 1 255 = true ∧ (sport s 1).current = 0 ∧ ∀ j : Fin 4, j < 1 → ¬ ((reeve s j).run = .running ∧ eligible s j 255 = true ∧ (sport s j).current = 0)) ∧
    (let s : State := stewarding 0 [(255, { state := .delayed, expiry := 1 })] [] [] [255]
    s.stew.delays.filter (expired s) = []) ∧
    (let s : State := stewarding 0 [(254, { state := .waiting }), (255, { state := .delayed })] [] [] [255, 254]
    s.stew.delays.filter (expired s) = [255, 254] ∧ reevesFor s 255 = [] ∧ reevesFor s 254 = []) ∧
    (let s : State := stewarding 0 [(255, { state := .waiting })] [] [] [255]
    (tslot s 255).state = .waiting ∧ 255 ∈ s.stew.delays ∧ expired s 255 = true ∧ (s.stew.delays.takeWhile (· != 255) ++ [255]).filter (expired s) = [255] ∧ reevesFor s 255 = [] ∧ (tslot s 254).state ≠ .waiting) ∧
    (let s : State := stewarding 7 [(7, { state := .running, runOn := 1, group := 7, runGroup := 7, ran := 2 }), (255, { state := .ready, affinity := 2, group := 7 })] [] [255]
    (reeve s 1).run = .running ∧ (sport s 1).current = 7 ∧ (tslot s 7).groupNow ≠ 0 ∧ (tslot s 7).group ≤ 7 ∧ s.stew.quantum ≤ (tslot s 7).ran ∧ s.stew.ready = [255] ∧ eligible s 1 255 = true ∧ (tslot s 255).group = (tslot s 7).group ∧ ∀ j ∈ reevesFor s 7, j = 1) ∧
    (let s : State := stewarding 0 []
    (sport s 1).current = 0) ∧
    (let s : State := stewarding 200 [] [] [] [] true
    reeveRuns s 1 = true ∧ (reeve s 1).user = true ∧ ∀ g ∈ (reeve s 1).regions, g.permits (0x24003000 + 0x10 * 63) true = false) := by and_intros <;> decide +kernel

theorem test_witness_DmaChannels :
    (let s : State := moving { dst := 0x10000000, src := 0x10000100, count := 1, ring := 3 } 8
    chanWriter s 1 31 = true ∧ (reeve s 1).user = false ∧ (chan s 31).state = .idle ∧ ((chan s 31).setCtl 0x11800000).mode = 1 ∧ rangesOk 23 ((chan s 31).setCtl 0x11800000) = true ∧ ((chan s 31).setCtl 0x11800000).pace = false) ∧
    (let s : State := moving { dst := 0x10000000, src := 5, count := 1, ring := 3, winLimit := 0xFFFFFFFF } 8
    rangesOk 31 ((chan s 31).setCtl 0x19800000) = true ∧ ((chan s 31).setCtl 0x19800000).heavy = true ∧ s.warden.queue = [] ∧ hasGrant s 6 31 = false) ∧
    (let s : State := moving { count := 1, ring := 3 } 8
    rangesOk 31 ((chan s 31).setCtl 0x01800000) = false ∧ (ring s 3).hasRoom = true ∧ s.warden.queue = [] ∧ hasGrant s 6 31 = false) ∧
    (let s : State := moving {} 8
    (chan s 31).count = 0 ∧ (chan s 31).state = .idle ∧ bit 0x40000000 30 = true ∧ chanWriter s 3 31 = false ∧ reeveRuns s 3 = false) ∧
    (let s : State := moving { dst := 0x10000000, count := 1, ring := 3, state := .paced, remain := 1 } 8
    (chan s 31).state = .paced ∧ (chan s 31).remain = 1 ∧ s.warden.queue = [] ∧ hasGrant s 6 31 = false ∧ (ring s 3).hasRoom = true) ∧
    (let s : State := moving { dst := 0x10000000, count := 1, ring := 3, state := .run, remain := 0 } 8
    (chan s 31).state = .run ∧ (chan s 31).remain = 0 ∧ s.warden.queue = [] ∧ hasGrant s 6 31 = false ∧ (ring s 3).hasRoom = true) ∧
    (let s : State := moving { dst := 0x10000000, count := 1, ring := 3, state := .paced, remain := 1 } 0
    (chan s 31).state = .paced ∧ (chan s 31).remain = 1 ∧ s.warden.queue = [] ∧ hasGrant s 6 31 = false ∧ (ring s 3).hasRoom = false) ∧
    (let s : State := { moving { count := 1, ring := 3, state := .waitLeave } 8 with warden := { queue := [{ cls := 6, key := 31 }] } }
    (chan s 31).state = .waitLeave ∧ hasGrant s 6 31 = false ∧ s.warden.queue = [{ cls := 6, key := 31 }] ∧ (ring s 3).hasRoom = true) ∧
    (let s : State := { moving { dst := 0x10000000, src := 0x10000100, count := 1, ring := 3, state := .run, remain := 1, mode := 0 } 8 with ctrlRam := [(64, 7)] }
    (chan s 31).state = .run ∧ (chan s 31).remain = 1 ∧ (chan s 31).count = 0 + 1 ∧ (chan s 31).pace = false ∧ inCtrl (chan s 31).dst = true ∧ inCtrl (chan s 31).src = true ∧ ctrlWord s (chan s 31).src ≠ ctrlWord s (chan s 31).dst ∧ (ring s 3).hasRoom = true) ∧
    (let s : State := { moving { dst := 0x10000000, src := 0x10000100, count := 1, ring := 3, state := .run, remain := 1, mode := 1 } 8 with ctrlRam := [(64, 7)] }
    (chan s 31).state = .run ∧ (chan s 31).remain = 1 ∧ (chan s 31).count = 0 + 1 ∧ (chan s 31).pace = false ∧ inCtrl (chan s 31).dst = true ∧ inCtrl (chan s 31).src = true ∧ ctrlWord s (chan s 31).src ≠ ctrlWord s (chan s 31).dst ∧ (ring s 3).hasRoom = true) ∧
    (let s : State := { moving { dst := 0x10000000, src := 0x10000100, count := 1, ring := 3, state := .run, remain := 1, mode := 2 } 8 with ctrlRam := [(64, 7)] }
    (chan s 31).state = .run ∧ (chan s 31).remain = 1 ∧ (chan s 31).count = 0 + 1 ∧ (chan s 31).pace = false ∧ inCtrl (chan s 31).dst = true ∧ inCtrl (chan s 31).src = true ∧ ctrlWord s (chan s 31).src ≠ ctrlWord s (chan s 31).dst ∧ (ring s 3).hasRoom = true) ∧
    (let s : State := moving { dst := 0x10000000, count := 1, remain := 1, high := 1, mode := 1, pace := true, state := .paced } 8
    (chan s 31).state = .paced ∧ (squeue s (chan s 31).queue).fill ≤ (chan s 31).low ∧ (squeue s (chan s 31).queue).fill < (chan s 31).high ∧ inCtrl (chan s 31).dst = true) ∧
    (let s : State := moving {} 8
    (chan s 31).state ≠ .paced ∧ (chan s 31).state ≠ .run ∧ reeveRuns s 1 = true ∧ (reeve s 1).user = false ∧ 15 < 2 * (ring s 3).size ∧ ¬ ({ ring s 3 with rd := 7 } : Ring).unread ≤ 8) ∧
    (let s : State := { moving {} 8 with dma := { rings := [(3, { size := 8, wr := 8, rd := 15 })] } }
    (1 + 2 * 8 - (ring s 3).rd) % (2 * 8) ≤ (ring s 3).unread ∧ 1 < 2 * (ring s 3).size ∧ ({ ring s 3 with rd := 1 } : Ring).unread ≤ 8 ∧ s.dma.heldOrder = [] ∧ ¬ (9 + 2 * 8 - (ring s 3).rd) % (2 * 8) ≤ (ring s 3).unread) ∧
    (let s : State := { moving {} 8 with dma := { chans := [(31, { state := .cqWait, ring := 3, held := some {} })], rings := [(3, { base := 0x10000000, size := 8, wr := 8 })], heldOrder := [31] } }
    s.dma.heldOrder = [31] ∧ (chan s 31).held = some {} ∧ (chan s 31).ring = 3 ∧ ({ ring s 3 with rd := 1 } : Ring).hasRoom = true ∧ ({ ring s 3 with rd := 1 } : Ring).unread ≤ 8 ∧ (1 + 2 * 8 - (ring s 3).rd) % (2 * 8) ≤ (ring s 3).unread) ∧
    (let s : State := stewarding 200 [] [] [] [] true
    reeveRuns s 1 = true ∧ (reeve s 1).user = true ∧ ∀ a ∈ [0x2500000C + 0x20 * 31, 0x2500080C + 0x10 * 3], ∀ g ∈ (reeve s 1).regions, g.permits a true = false) := by and_intros <;> decide +kernel

theorem test_witness_ExtensionRequests :
    (let s : State := {}
    slotTask s 255 = none) ∧
    (let s : State := extending {} []
    slotTask s 255 = some 63 ∧ jexOn s = true ∧ (squeue s 5).enable = true ∧ (squeue s 5).fill < 16 ∧ (squeue s 5).consumer = 0 ∧ s.jex.extWait = [] ∧ (squeue s 47).producer = 0 ∧ (taskOf s 63).queues.getLsbD 5 = true ∧ inArena (taskOf s 63) 0x10400000 4 = false ∧ (taskOf s 63).queues.getLsbD 6 = false) ∧
    (let s : State := extending {} []
    inArena (taskOf s 63) 0x103FFFFC 4 = true ∧ ticketRefusal s (blockEntries s (taskOf s 63) 0x103FFFFC) = some ⟨4, 0xB0, 0x7F, none⟩) ∧
    (let s : State := extending {} [(0xC0000, 0x08000001), (0xC0001, 7)]
    inArena (taskOf s 63) 0x10300000 20 = true ∧ ticketRefusal s (blockEntries s (taskOf s 63) 0x10300000) = none ∧ s.host.refused = [] ∧ s.host.evq.length < 63) ∧
    (let s : State := extending {} []
    inArena (taskOf s 63) 0x10300000 12 = true ∧ blockWord s 0x10300000 0 = 0 ∧ (taskOf s 63).stored = 0) ∧
    (let s : State := extending {} [(0xC0000, 1), (0xC0001, 0x10300100), (0xC0002, 0x10300200)]
    1 ≤ blockWord s 0x10300000 0 ∧ blockWord s 0x10300000 0 ≤ 65532 ∧ inArena (taskOf s 63) (blockWord s 0x10300000 1) (blockWord s 0x10300000 0) = true ∧ inArena (taskOf s 63) (blockWord s 0x10300000 2) (blockWord s 0x10300000 0 + 52) = true ∧ blockWord s 0x10300000 0 < 53) ∧
    (let s : State := extending {} [(0xC0000, 1), (0xC0001, 0x10300100), (0xC0002, 0x10300200)]
    1 ≤ blockWord s 0x10300000 0 ∧ blockWord s 0x10300000 0 ≤ 65536 ∧ inArena (taskOf s 63) (blockWord s 0x10300000 1) (blockWord s 0x10300000 0) = true ∧ regionSize s 0 (storePlace 63 0) 0x20000 = 0x20000 ∧ flashOp s 0 = none) ∧
    (let s : State := extending {} [(0xC0000, 53), (0xC0001, 0x10300100), (0xC0002, 0x10300200)]
    53 ≤ blockWord s 0x10300000 0 ∧ blockWord s 0x10300000 0 ≤ 65584 ∧ inArena (taskOf s 63) (blockWord s 0x10300000 1) (blockWord s 0x10300000 0) = true ∧ inArena (taskOf s 63) (blockWord s 0x10300000 2) (blockWord s 0x10300000 0 - 52) = true ∧ (openObject s 3 (leNat (((ctrlBytes s (blockWord s 0x10300000 1) (blockWord s 0x10300000 0)).drop 8).take 2)) (ctrlBytes s (blockWord s 0x10300000 1) (blockWord s 0x10300000 0))).1 ≠ 0) ∧
    (let s : State := extending { stored := 4 } [(0xC0002, 0x10300200)]
    (taskOf s 63).stored ≠ 0 ∧ inArena (taskOf s 63) (blockWord s 0x10300000 2) (taskOf s 63).stored = true) ∧
    (let s : State := { (extending {} []) with reeves := [(1, { run := .running, user := true })], stew := { ports := Tab.set {} [] 1 { current := 255 }, slots := [(255, { state := .running, runOn := 1 })] } }
    (reeve s 1).user = true ∧ ((reeve s 1).regions.all fun g => !g.permits 0 true) = true ∧ slotTask s (current s 1) = some 63 ∧ (reeve s 3).user = false) := by and_intros <;> decide +kernel

theorem test_witness_PeripheralTickets :
    (taken (cmd .maintenance 0xB0 [3, 0x80000101]) 0 0xB0 (perConfigChecks 0) = true) ∧
    (taken (cmd .vigil 0xB1 [0xff, 0x8000001, 7] { per := { next := 65535 } }) 0 0xB1 (perSubmitChecks 0) = true) ∧
    (let s := cmd .vigil 0xB3 [4] { per := { done := [{ num := 4 }] } }
    taken s 0 0xB3 (ticketKnown 0) = true ∧ ∀ x ∈ s.per.tickets, x.num ≠ fld (arg s 0 1) 0 16) ∧
    (let s := cmd .vigil 0xB3 [4] { per := { tickets := [{ num := 4, entries := [{ hdr := 0x04000001 }] }], active := true } }
    taken s 0 0xB3 (ticketKnown 0) = true ∧ s.per.tickets = [{ num := 4, entries := [{ hdr := 0x04000001 }] }] ∧ s.per.active = true) ∧
    (let s := cmd .vigil 0xB3 [4] { per := { tickets := [{ num := 4, entries := [{ hdr := 0x04000001 }] }], active := false } }
    taken s 0 0xB3 (ticketKnown 0) = true ∧ s.per.tickets = [{ num := 4, entries := [{ hdr := 0x04000001 }] }] ∧ s.per.active = false) ∧
    (let s := cmd .vigil 0xB3 [4] { per := { tickets := [{ num := 3 }, { num := 4, entries := [{ hdr := 0x04000001 }] }] } }
    taken s 0 0xB3 (ticketKnown 0) = true ∧ s.per.tickets.tail.find? (fun e => e.num == 4) = some { num := 4, entries := [{ hdr := 0x04000001 }] }) ∧
    (let s : State := { per := { tickets := [{ num := 4, entries := [{ hdr := 0x04000001 }] }], active := false, cancel := false, sels := [(0, { cfg := 0x80000101 })] } }
    s.per.active = false ∧ s.per.mustIdle = false ∧ selOn s 0 = true ∧ fld 0x04000001 16 8 ≤ 0 ∧ selShared s 0 = false) ∧
    (let s : State := { per := { tickets := [{ num := 4, entries := [{ hdr := 0x04000001 }] }], active := false, cancel := false, sels := [(0, { cfg := 0 })] } }
    s.per.active = false ∧ selOn s 0 = false) ∧
    (let s : State := { per := { tickets := [{ num := 4, entries := [{ hdr := 0x04000001 }, {}] }], active := true, cancel := false, sels := [(0, { cfg := 0x80000101 })] } }
    s.per.active = true ∧ s.per.cancel = false ∧ s.per.ending = false) ∧
    (let s : State := { per := { tickets := [{ num := 4, entries := [{ hdr := 0x04000001 }] }], active := true, cancel := false, sels := [(0, { cfg := 0x80000101 })] } }
    s.per.active = true ∧ s.per.cancel = false ∧ s.per.ending = false) ∧
    (let s : State := { per := { tickets := [{ num := 4, entries := [{ hdr := 0x04000001 }] }], active := true, cancel := true, sels := [(0, { cfg := 0x88000101 })] } }
    s.per.active = true ∧ s.per.cancel = true ∧ s.per.ending = false) ∧
    (let s : State := {}
    s.per.tickets = [] ∧ s.per.active = false) ∧
    (let s := cmd .maintenance 0xB0 [3, 0x80000101] { per := { tickets := [{ num := 4, entries := [{ hdr := 0x04000001 }] }], active := true } }
    taken s 0 0xB0 (perConfigChecks 0) = true ∧ s.per.active = true) ∧
    (let s : State := { twin := { role := .standby }, per := { tickets := [{ num := 4, entries := [{ hdr := 0xC0FF0000 }] }], mustIdle := true, sels := [(3, { cfg := 0x88000101 })] } }
    s.per.active = false ∧ selOn s 3 = true ∧ fld 0xC0FF0000 16 8 ≤ 255 ∧ selShared s 3 = true ∧ s.twin.role = .standby) ∧
    (let s : State := { twin := { pos := true }, per := { tickets := [{ num := 4, entries := [{ hdr := 0x04000001 }] }], mustIdle := true, sels := [(0, { cfg := 0x80000101 })] } }
    s.per.active = false ∧ selOn s 0 = true ∧ s.per.mustIdle = true ∧ s.twin.pos = true ∧ 3 ≤ 3 ∧ ¬ 3 ≤ 2) ∧
    (let s : State := { per := { tickets := [{ num := 4, entries := [{ hdr := 0x04000001 }] }], active := true, ending := true, sels := [(0, { cfg := 0x80000101 })] } }
    s.per.active = true ∧ s.per.ending = true ∧ ∀ j : Fin 4, j.val ≠ 0 → selShared s j = false) ∧
    (let s : State := { per := { tickets := [{ num := 4, entries := [{ hdr := 0x04000001 }] }], active := true, sels := [(0, { cfg := 0x80000101 }), (3, { cfg := 0x88000101 })] } }
    s.per.active = true ∧ ∃ j : Fin 4, j.val ≠ 0 ∧ selShared s j = true) := by and_intros <;> decide +kernel

theorem test_witness_TasksAndTrace :
    (let s := cmd .vigil 0xC2 [9] (extending {} [])
    taken s 0 0xC2 (taskStopChecks 0) = true ∧ namedTask s 0 = some 63) ∧
    (taken (cmd .vigil 0xE0 [0xc000001f]) 0 0xE0 noChecks = true) := by and_intros <;> decide +kernel


/-! The worked examples of the spec. -/

/-- The program words of the biquad section worked out in 03_quern_datapath.md. -/
theorem test_decode_biquad :
    (decodeQuern 5 0x3000A1000000#48 matches .ok (.mov 5 0 (.sqr 0x100#13))) = true ∧
    (decodeQuern 5 0x100800006000#48 matches .ok (.mpy 5 0 true (.reg 0) (.led 0#13))) = true ∧
    (decodeQuern 5 0x170840006002#48 matches .ok (.dmac 5 0 true (.scr 0#13) (.led 2#13))) = true ∧
    (decodeQuern 5 0x280100002000#48 matches .ok (.sta 5 0 1 0#13)) = true ∧
    (decodeQuern 5 0x3800A1800001#48 matches .ok (.st 5 (.sqr 0x180#13) (.reg 1))) = true ∧
    (decodeQuern 5 0x380040030003#48 matches .ok (.st 5 (.scr 3#13) (.reg 3))) = true := by
  decide +kernel

/-- MPY and STA with ties, saturation and a right shift (R77, R78). -/
theorem test_store_conversion :
    storeConv (BitVec.ofInt 52 (product false (smp 3) (smp 0x40000))) 0 = (smp 2, false) ∧
    storeConv (BitVec.ofInt 52 (product false (smp 5) (smp 0x40000))) 0 = (smp 2, false) ∧
    storeConv (BitVec.ofInt 52 (product false (smp (-3)) (smp 0x40000))) 0 = (0xFFFFE#20, false) ∧
    storeConv (BitVec.ofInt 52 (product true (smp 0x60000) (smp 0x20000))) 0 = (0x7FFFF#20, true) ∧
    storeConv (BitVec.ofInt 52 (product true (smp 0x60000) (smp 0x20000))) (-1) = (0x60000#20, false) := by
  decide +kernel

/-- LOG2 of 0.1875 and EXP2 of the result (R91, R92). -/
theorem test_log2_exp2 : log2Word 0x18000#20 = 0xF6580#20 ∧ exp2Word 0xF6580#20 = (0x180A8#20, false) := by
  decide +kernel

/-- TAPF half way between two samples (R95). -/
theorem test_tapf : tapfWord 0x10#20 0x13#20 128 = 0x12#20 := by decide +kernel

/-- A glide from 0.5 to 0.25 over three Bells (R177). -/
theorem test_glide :
    (let g : Glide := Glide.begin { value := 0x40000#20 } 0x20000#20 3
     (g.step.value, g.step.step.value, g.step.step.step.value)) = (0x35555#20, 0x2AAAB#20, 0x20000#20) := by
  decide +kernel

/-- A word of 24 or 32 bits cut to 20 bits (08_audio_ports.md). -/
theorem test_input_rounding :
    conv 0x123458 4 = 0x12346 ∧ conv 0x123448 4 = 0x12344 ∧ sat20 (conv 0x7FFFF8 4) = (0x7FFFF#20, true) ∧ conv (-2048) 12 = 0 := by
  decide +kernel

/-- The mailbox exchange of 15_host_port_and_mailboxes.md: steps 1 and 2. -/
theorem test_host_exchange :
    (let s : State := { aon := { mode := .service, vddioH := true }, gate := { phase := .running }, host := { served := true, fresh := false, seq := 4, bitCount := 64 } }
     let t := latchDoorbell 2 (ringFrame 0x280 [0x90170100#32] 64 s)
     ((readFrame 0x280 64 false t).host.miso, (mbox t 2).state)) = ([0x00750040#32, 0x90170101#32], .queued) := by
  decide +kernel

/-- The five dispatches of 14_reeves_steward_dma.md (R384): groups 1 and 2 with weights 3 and 1. -/
theorem test_dispatch_order :
    (let slots : Tab TaskSlot := [(200, { group := 1, affinity := 4 }), (201, { group := 1, affinity := 4 }), (210, { group := 2, affinity := 4 })]
     let s : State := { stew := { slots := slots, ready := [200, 201, 210], weights := [(1, 2)] } }
     let next := fun (s : State) =>
       let c := selectTask 2 s
       match c.2 with
       | some t => (modStew c.1 (fun w => { w with ready := w.ready.filter (· ≠ t) ++ [t] }), t)
       | none => (c.1, 0)
     let a := next s
     let b := next a.1
     let c := next b.1
     let d := next c.1
     let e := next d.1
     ([a.2, b.2, c.2, d.2, e.2], Tab.get 0 e.1.stew.credits 1, Tab.get 0 e.1.stew.credits 2)) = ([200, 210, 201, 200, 210], 3, 0) := by
  decide +kernel

/-! Files whose signature a free function of Config judges (R114): the witnesses assume that it accepts. -/

/-- The table of flash bytes that reads as the bytes bs from byte a of select k. -/
def written (k a : Nat) (bs : List (BitVec 8)) : Tab (BitVec 8) :=
  (bs.zipIdx.filter (fun e => e.1 != 0xFF#8)).map (fun e => (flashKey k (a + e.2), ~~~e.1))

/-- The signature trailer of R114 with a key of zeros and a signature of ones. -/
def trailer : List (BitVec 8) := leBytes 0x544E4753 4 ++ List.replicate 108 0 ++ List.replicate 96 0xFF

/-- A state with one file in flash, whose key digest is in fuse slot 1, and domain 0 on. -/
def holding (k a : Nat) (bs : List (BitVec 8)) (tasks : Tab Task) : State :=
  { flash := { bytes := written k a bs, size := [(0, 0x10000000), (1, 0x10000000)] }
    gate := { fuses := (Config.sha384 (List.replicate 96 0)).setWidth 2048 <<< 768 }
    domains := [(0, { enable := true })], jex := { tasks := tasks } }

theorem holding_key (k a : Nat) (bs : List (BitVec 8)) (l : Tab Task) (r : Rd) (n : Nat)
    (h : trailerKey r n = List.replicate 96 0) : keyMatches (holding k a bs l) r n 1 = true := by
  unfold keyMatches keyDigest
  rw [h]
  generalize hx : Config.sha384 (List.replicate 96 0) = x
  simp only [holding, hx, beq_iff_eq]
  ext i hi
  have h1 : 768 + i < 2048 := by omega
  have h2 : i < 2048 := by omega
  simp [h1, h2, BitVec.getLsbD_eq_getElem hi]

theorem holding_live (k a : Nat) (bs : List (BitVec 8)) (l : Tab Task) : revoked (holding k a bs l) 1 = false := by
  simp [revoked, maj3, holding]

/-- A bundle of one program that may run at 8 kHz in Quern 0 (R106 to R110). -/
def bundleBytes : List (BitVec 8) :=
  leBytes 0x31424D44 4 ++ leBytes 2 2 ++ leBytes 0 2 ++ leBytes 308 4 ++ leBytes 7 4 ++ leBytes 0 8 ++ leBytes 1 2 ++ leBytes 1 2 ++
    [1, 1, 1, 0] ++ leBytes 64 4 ++ List.replicate 28 0 ++
    leBytes 1 4 ++ leBytes 80 4 ++ leBytes 20 4 ++ leBytes 1 4 ++
    leBytes 8192 4 ++ List.replicate 12 0 ++ leBytes 0xFFFF0000 4 ++ trailer

def bundleState : State := holding 1 0x800000 bundleBytes []

theorem test_witness_bundleLoad (h : signatureOk (bundleRd bundleState 0).1 308 = true) :
    loadRefusal bundleState (bundleRd bundleState 0).1 (bundleRd bundleState 0).2 0 = none := by
  have h1 : formatOk (bundleRd bundleState 0).1 (bundleRd bundleState 0).2 = true := by decide +kernel
  have h2 : rdNat (bundleRd bundleState 0).1 8 4 = 308 := by decide +kernel
  have h3 : rdNat (bundleRd bundleState 0).1 30 1 = 1 := by decide +kernel
  have h4 : keyMatches bundleState (bundleRd bundleState 0).1 308 1 = true := holding_key _ _ _ _ _ _ (by decide +kernel)
  have h5 : revoked bundleState 1 = false := holding_live ..
  have h6 : rdNat (bundleRd bundleState 0).1 6 2 = 0 := by decide +kernel
  have h7 : ratesFit bundleState (bundleFile (bundleRd bundleState 0).1 0) = true := by decide +kernel
  have h8 : overlapFail bundleState (bundleFile (bundleRd bundleState 0).1 0) = none := by decide +kernel
  have h9 : stallFail bundleState (bundleFile (bundleRd bundleState 0).1 0) = none := by decide +kernel
  have h10 : admitFail (bundleFile (bundleRd bundleState 0).1 0) = none := by decide +kernel
  simp [loadRefusal, fitRefusal, h1, h2, h3, h4, h5, h6, h7, h8, h9, h10, h]

/-- A Crier store without messages, one channel in one group (R267). -/
def storeBytes : List (BitVec 8) :=
  leBytes 0x31535243 4 ++ leBytes 1 4 ++ leBytes 1232 4 ++ leBytes 5 4 ++ leBytes 0x10000 4 ++ leBytes 1024 4 ++
    List.replicate 64 0 ++ List.replicate 16 0xFF ++ List.replicate 14 0 ++ [1, 1, 0, 0, 2, 0, 0, 0, 0, 0] ++ List.replicate 56 0xFF ++
    List.replicate 8 0 ++ List.replicate 504 0xFF ++ [0] ++ List.replicate 31 0xFF ++ List.replicate 296 0 ++ trailer

def storeState : State := holding 0 crierBase storeBytes []

theorem test_witness_crierStore (h : signatureOk (flashFile storeState 0 crierBase) 1232 = true) :
    crierFail storeState 0 = 0 := by
  have h1 : crierHeaderOk (flashFile storeState 0 crierBase) (regionSize storeState 0 crierBase 0x600000) = true := by decide +kernel
  have h2 : rdNat (flashFile storeState 0 crierBase) 8 4 = 1232 := by decide +kernel
  have h4 : keyMatches storeState (flashFile storeState 0 crierBase) 1232 1 = true := holding_key _ _ _ _ _ _ (by decide +kernel)
  have h5 : revoked storeState 1 = false := holding_live ..
  have h6 : (crierStoreOf 0 (flashFile storeState 0 crierBase)).blockCount = 0 := by decide +kernel
  have h7 : ((crierStoreOf 0 (flashFile storeState 0 crierBase)).chans.all (fun e =>
    (crierStoreOf 0 (flashFile storeState 0 crierBase)).groups.any (fun g =>
      some g.group == (crierStoreOf 0 (flashFile storeState 0 crierBase)).portGroups[e.1 / 16]?))) = true := by decide +kernel
  simp [crierFail, h1, h2, h4, h5, h6, h, -List.all_eq_true, -List.any_eq_true, h7]

/-- The image of a task without queues or channels (R375). -/
def taskBytes : List (BitVec 8) :=
  leBytes 0x4B534154 4 ++ leBytes 1 2 ++ leBytes 64 2 ++ leBytes 276 4 ++ leBytes 9 4 ++ [0, 0, 2, 1] ++ leBytes 4096 4 ++
    List.replicate 40 0 ++ List.replicate 4 0 ++ trailer

def taskState : State := holding 0 (taskPlace 63) taskBytes [(63, { id := 9, reeve := 2, group := 1, localLen := 4096 })]

theorem test_witness_taskStart (h : signatureOk (taskFile taskState 63) 276 = true) : (startTask taskState 63).isRight = true := by
  have h1 : taskHeadOk (taskFile taskState 63) (regionSize taskState 0 (taskPlace 63) 0x40000) = true := by decide +kernel
  have h2 : taskFieldsOk (taskFile taskState 63) = true := by decide +kernel
  have h3 : rdNat (taskFile taskState 63) 8 4 = 276 := by decide +kernel
  have h4 : keyMatches taskState (taskFile taskState 63) 276 1 = true := holding_key _ _ _ _ _ _ (by decide +kernel)
  have h5 : revoked taskState 1 = false := holding_live ..
  have h6 : taskAuth taskState (taskFile taskState 63) = true := by simp [taskAuth, h3, h4, h5, h]
  have h7 : (taskOf taskState 63).state = 0 := by decide +kernel
  have h8 : (taskOf taskState 63).svn = 0 := by decide +kernel
  have h9 : (placeTask taskState (taskOf taskState 63)).isSome = true := by decide +kernel
  obtain ⟨p, hp⟩ := Option.isSome_iff_exists.mp h9
  simp [startTask, h1, h2, h6, h7, h8, hp]

theorem test_witness_fastWake : ∃ s : State, s.gate.phase = .waking ∧ s.aon.vddioH = true ∧ s.aon.vddioA = true ∧ s.aon.vddOsc = true ∧
    s.gate.sealHeld = true ∧ wakeTag s = s.gate.sealTag :=
  ⟨{ aon := { vddioH := true, vddioA := true, vddOsc := true }, gate := { phase := .waking, sealHeld := true, sealTag := wakeTag {} } }, rfl, rfl, rfl, rfl, rfl, rfl⟩

/-- A sealed object of purpose 3, SVN 0 and 5 bytes (R353), which the free function opens to an object of task 9. -/
theorem test_witness_extOpen (c : List (BitVec 8)) (hc : c.length = 21)
    (h : Config.gcmOpen (sealKey {} 3 0) (sealHeader 3 0 5 0) c = some (leBytes 9 4 ++ [7])) :
    openObject {} 3 0 (sealHeader 3 0 5 0 ++ c) = (0, leBytes 9 4 ++ [7]) := by
  have h1 : (sealHeader 3 0 5 0).length = 32 := by decide +kernel
  have h2 : (sealHeader 3 0 5 0 ++ c).take 32 = sealHeader 3 0 5 0 := by rw [List.take_append_of_le_length (by omega), List.take_of_length_le (by omega)]
  have h3 : (sealHeader 3 0 5 0 ++ c).drop 32 = c := by rw [List.drop_append_of_le_length (by omega), List.drop_of_length_le (by omega), List.nil_append]
  have h4 : ∀ i n, i + n ≤ 32 → ((sealHeader 3 0 5 0 ++ c).drop i).take n = ((sealHeader 3 0 5 0).drop i).take n := by
    intro i n hn
    rw [List.drop_append_of_le_length (by omega), List.take_append_of_le_length (by rw [List.length_drop, h1]; omega)]
  have h5 := h4 0 4 (by omega)
  simp only [List.drop_zero] at h5
  unfold openObject
  rw [h2, h3, h5, h4 4 4 (by omega), h4 12 4 (by omega), h4 8 2 (by omega)]
  have g1 : leNat ((sealHeader 3 0 5 0).take 4) = 0x4C414553 := by decide +kernel
  have g2 : leNat (((sealHeader 3 0 5 0).drop 4).take 4) = 3 := by decide +kernel
  have g3 : leNat (((sealHeader 3 0 5 0).drop 12).take 4) = 5 := by decide +kernel
  have g4 : leNat (((sealHeader 3 0 5 0).drop 8).take 2) = 0 := by decide +kernel
  simp only [g1, g2, g3, g4, h, List.length_append, h1, hc]
  decide +kernel

/-! ### Worked values of the ports, the Sexton and the flash port -/

/-- R217's worked example: the word 0x00018 leaves as 0x0002 in 16 bits and as 0x000180 in 24; a result above 32,767
saturates. -/
theorem test_output_slot_words :
    tdmWord 0 0x00018 = 0x00020000 ∧ tdmWord 2 0x00018 = 0x00018000 ∧ tdmWord 0 0x7FFFF = 0x7FFF0000 := by decide
/-- R157: a row that answers what was written passes in both sweeps; a read with one bit wrong fails it. Read 16 of 160 is
the first of the second element, which expects the value for 0. -/
theorem test_march :
    march.length = 160 ∧ marchFails false [] = false ∧ marchFails true [] = false ∧ marchFails true [(16, 0x55557)] = true ∧
      marchFails false [(16, 0x00000)] = false := by decide +kernel
/-- R477: 1-1-4 is used before 1-2-2 where 1-4-4 is not declared; without the 4-byte table 16 MiB are usable. -/
theorem test_flash_discovery :
    (recorded { reads := 6 } 0x2000000).read = .r114 ∧ (recorded { reads := 6 } 0x2000000).addr32 = true ∧
      usableBytes { fourByte := false } 0x2000000 = 0x1000000 ∧
      ({ op := 0, lanes := 2 } : FrameShape).pin .data 2 = .high ∧ ({ op := 0, lanes := 4 } : FrameShape).pin .dummy 2 = .highZ := by decide
/-- R479: a read stopped after 100 bytes goes on at the next byte, an erase is repeated whole. -/
theorem test_flash_stop :
    (Flash.stop 100 { frame := some { rank := 3, kind := .read, addr := 0x1000, len := 256 } } : Flash).frames =
        [{ rank := 3, kind := .read, addr := 0x1064, len := 156 }] ∧
      (Flash.stop 3 { frame := some { rank := 3, kind := .erase, addr := 0x1000 } } : Flash).frames =
        [{ rank := 3, kind := .erase, addr := 0x1000 }] := by decide +kernel
/-- R211: FS of I2S is low during slot 0, of left-justified high; FS_INV exchanges them. -/
theorem test_frame_sync_shape :
    fsLevel 0 false 31 = false ∧ fsLevel 0 false 32 = true ∧ fsLevel 1 false 0 = true ∧ fsLevel 2 true 0 = false ∧ fsLevel 2 false 1 = false := by
  decide

end Sys2Proof.Tests
end

section
/-! SUPPORT. The state right after reset: what each unit of an array reads as, and the statement about it. -/

namespace Sys2Proof.Machine

@[simp] theorem quern_reset (q : Nat) : quern State.reset q = {} := rfl
@[simp] theorem dom_reset (d : Nat) : dom State.reset d = {} := rfl
@[simp] theorem slotOf_reset (d k : Nat) : slotOf State.reset d k = {} := rfl
@[simp] theorem line_reset (e : Nat) : line State.reset e = {} := rfl
@[simp] theorem bank_reset (b : Nat) : bank State.reset b = {} := rfl
@[simp] theorem lane_reset (n : Nat) : lane State.reset n = {} := rfl
@[simp] theorem detector_reset (k : Nat) : detector State.reset k = {} := rfl
@[simp] theorem group_reset (g : Nat) : group State.reset g = {} := rfl
@[simp] theorem align_reset (g : Nat) : align State.reset g = {} := rfl
@[simp] theorem port_reset (p : Nat) : port State.reset p = {} := rfl
@[simp] theorem tslot_reset (n : Nat) : tslot State.reset n = {} := rfl
@[simp] theorem squeue_reset (q : Nat) : squeue State.reset q = {} := rfl
@[simp] theorem chan_reset (c : Nat) : chan State.reset c = {} := rfl
@[simp] theorem reeve_reset (r : Nat) : reeve State.reset r = {} := rfl
@[simp] theorem ring_reset (r : Nat) : ring State.reset r = {} := rfl
@[simp] theorem mbox_reset (m : Nat) : mbox State.reset m = {} := rfl
@[simp] theorem selCfg_reset (r : Nat) : selCfg State.reset r = 0 := rfl
@[simp] theorem granGet_reset (h p : Nat) : granGet State.reset h p = 0 := rfl

end Sys2Proof.Machine

section

open Sys2Proof Sys2Proof.Machine Sys2Proof.Safety

/-- Settles O44: every array of the reset state lists nothing, so that each of its elements is the default record, and every
other part is the default record itself. -/
theorem resetLeaves : Obligations.ResetLeaves := by
  rintro s rfl
  refine ⟨?aon, ?querns, ?domains, ?lines, ?banks, ?memoryUnits, ?groups, ?ports, ?audio, ?steward, ?dma, ?reeves, ?requests, ?pair,
    ?warden, ?host, ?vigil, rfl, rfl, granGet_reset, fun _ => rfl, memoryOk_reset, rfl⟩
  case querns => simp [Tab.get]
  case domains | lines | banks | groups | dma | reeves => simp
  case ports => exact fun p => ⟨by simp, by simp, by simp, by simp [State.reset], by simp [State.reset]⟩
  case memoryUnits => exact ⟨rfl, rfl, rfl, rfl, rfl, by simp, by simp⟩
  case steward => exact ⟨rfl, rfl, rfl, rfl, rfl, rfl, by simp, by simp⟩
  case host => exact ⟨rfl, rfl, rfl, rfl, rfl, rfl, rfl, by simp⟩
  case aon | audio | requests | pair | warden | vigil => and_intros <;> rfl

end
end

section
/-! SUPPORT. Register writes of the host and of Reeves, and the end of a request to the Gatehouse. -/

namespace Sys2Proof.Machine

open Sys2Proof.Safety

/-! ### A Reeve in supervisor state (R371 to R373) -/

/-- A Reeve that may write the block registers is in supervisor state. -/
theorem user_of_reeveCtl {s : State} {r : Nat} (h : reeveCtl s r = true) : (reeve s r).user = false := by
  simp only [reeveCtl, Bool.and_eq_true, Bool.not_eq_true'] at h
  exact h.2

/-- A row for the block registers, by a Reeve that may write them. -/
theorem byReeve_ctl {s : State} {r a : Nat} {f : State → State} (h : reeveCtl s r = true) :
    byReeve r a (fun t => if reeveCtl t r then f t else t) s = f s := by
  rw [byReeve_super (user_of_reeveCtl h), if_pos h]

/-- A supervisor write is not judged by the regions. -/
theorem reeveWrite_super {s : State} {r a : Nat} {v : Word} (hr : reeveRuns s r = true) (hu : (reeve s r).user = false) :
    reeveWrite r false a v s = mapWrite r (a / 4 * 4) v s := by
  simp [reeveWrite, hr, hu, byReeve_super]

/-- A Reeve that does not run, or not in the state named, writes nothing. -/
theorem reeveWrite_absent {s : State} {r a : Nat} {user : Bool} {v : Word}
    (h : reeveRuns s r = false ∨ (reeve s r).user ≠ user) : reeveWrite r user a v s = s := by
  simp only [reeveWrite, h, if_true]

/-- A supervisor read is a read of the map. -/
theorem reeveRead_super (r a : Nat) (s : State) : reeveRead r false a s = (mapRead s r (a / 4 * 4), s) := by
  simp [reeveRead]

/-- A user write outside the regions is the task's fault. -/
theorem reeveWrite_out {s : State} {r a : Nat} {v : Word} (hr : reeveRuns s r = true) (hu : (reeve s r).user = true)
    (hg : ∀ g ∈ (reeve s r).regions, g.permits a true = false) : reeveWrite r true a v s = taskFault r a s := by
  simp [reeveWrite, hr, hu, byReeve_out hr hu hg]

/-! ### Control RAM in the map (R372) -/

theorem inCtrl_word {k : Nat} (hk : k < 0x100000) : inCtrl (0x10000000 + 4 * k) = true := by
  simp only [inCtrl, Bool.and_eq_true, decide_eq_true_eq]
  omega

theorem ctrlIdx_word (k : Nat) : ctrlIdx (0x10000000 + 4 * k) = k := by
  simp only [ctrlIdx]
  omega

/-- No local RAM lies at or above control RAM. -/
theorem localOf_above {a : Nat} (h : 0x10000000 ≤ a) : localOf a = none := by
  rw [localOf, if_neg (by omega)]

/-- A write of word k of control RAM through the map. -/
theorem mapWrite_ctrl {s : State} {r k : Nat} {v : Word} (hk : k < 0x100000) :
    mapWrite r (0x10000000 + 4 * k) v s = s.setCtrlRam (Tab.set 0 s.ctrlRam k v) := by
  rw [mapWrite, if_neg (by omega), localOf_above (by omega), Option.isSome_none, if_neg (by simp), if_pos (inCtrl_word hk), ctrlPut,
    if_pos (inCtrl_word hk), ctrlIdx_word]

/-- A read of word k of control RAM through the map. -/
theorem mapRead_ctrl {s : State} {r k : Nat} (hk : k < 0x100000) : mapRead s r (0x10000000 + 4 * k) = Tab.get 0 s.ctrlRam k := by
  rw [mapRead, if_neg (by omega), localOf_above (by omega), Option.isSome_none, if_neg (by simp), if_pos (inCtrl_word hk), ctrlWord,
    if_pos (inCtrl_word hk), ctrlIdx_word]

/-- Above the host window the map lists nothing. -/
theorem mapRead_above {s : State} {r a : Nat} (h : 0x26001000 ≤ a) : mapRead s r a = 0 := by
  have hc : inCtrl a = false := by
    simp only [inCtrl, Bool.and_eq_false_iff, decide_eq_false_iff_not]
    omega
  rw [mapRead, if_neg (by omega), localOf_above (by omega), hc, Option.isSome_none]
  simp only [Bool.false_eq_true, if_false]
  repeat rw [if_neg (by omega)]

/-- IRQ_ENABLE written by the host (R417). -/
theorem hostRegWrite_irqEnable {s : State} {v : Word} (hs : portServes s = true) (hb : bootPort s = false) :
    hostRegWrite 2 v s = s.setHost { s.host with irqEnable := v &&& 0x1FFF#32 } := by
  simp [hostRegWrite, hs, windowWrite, hb, fullWrite, hostWrite]

/-! ### REGISTER_WRITE (R13, R373) -/

theorem exec_registerWrite_irqEnable {s : State} {v : Word} (hs : portServes s = true) (hb : bootPort s = false) :
    exec (.registerWrite .host 2 v) s = .next (s.setHost { s.host with irqEnable := v &&& 0x1FFF#32 }) :=
  congrArg Host.Outcome.next (hostRegWrite_irqEnable hs hb)

theorem exec_registerWrite_ctrl {s : State} {r : Fin 4} {k : Nat} {v : Word} (hk : k < 0x100000) (hr : reeveRuns s r = true)
    (hu : (reeve s r).user = false) :
    exec (.registerWrite (.reeve r false) (BitVec.ofNat 32 (0x10000000 + 4 * k)) v) s =
      .next (s.setCtrlRam (Tab.set 0 s.ctrlRam k v)) := by
  have ha : (BitVec.ofNat 32 (0x10000000 + 4 * k)).toNat / 4 * 4 = 0x10000000 + 4 * k := by
    rw [BitVec.toNat_ofNat]
    omega
  refine congrArg Host.Outcome.next ((reeveWrite_super hr hu).trans ?_)
  rw [ha, mapWrite_ctrl hk]

theorem exec_registerWrite_absent {s : State} {r : Fin 4} {user : Bool} {a v : Word}
    (h : reeveRuns s r = false ∨ (reeve s r).user ≠ user) : exec (.registerWrite (.reeve r user) a v) s = .next s :=
  congrArg Host.Outcome.next (reeveWrite_absent h)

theorem exec_registerWrite_out {s : State} {r : Fin 4} {a v : Word} (hr : reeveRuns s r = true) (hu : (reeve s r).user = true)
    (hg : ∀ g ∈ (reeve s r).regions, g.permits a.toNat true = false) :
    exec (.registerWrite (.reeve r true) a v) s = .next (taskFault r a.toNat s) :=
  congrArg Host.Outcome.next (reeveWrite_out hr hu hg)

/-! ### The arming word of a slot -/

/-- Bit 31, with which a slot is armed, leaves the bits below it. -/
theorem bit_armed {w : Word} {i : Nat} (hi : i < 31) : bit (w ||| 0x80000000#32) i = bit w i := by
  have h : (0x80000000#32).getLsbD i = false := by
    rw [show (0x80000000#32) = BitVec.twoPow 32 31 from rfl, BitVec.getLsbD_twoPow]
    simp [show ¬ 31 = i by omega]
  rw [bit, BitVec.getLsbD_or, h, Bool.or_false, bit]

theorem bit_armed_top (w : Word) : bit (w ||| 0x80000000#32) 31 = true := by
  simp [bit]

theorem fld_armed (w : Word) : fld (w ||| 0x80000000#32) 0 16 = fld w 0 16 := by
  rw [fld, BitVec.toNat_or, Nat.shiftRight_zero, Nat.or_mod_two_pow, show (0x80000000#32).toNat % 2 ^ 16 = 0 from rfl, Nat.or_zero,
    fld, Nat.shiftRight_zero]

/-- BELL_LO of a Bell number put together from its parts (R9). -/
theorem bellLo_bellOf (hi : Nat) (lo : Word) : bellLo (bellOf hi lo.toNat) = lo := by
  apply BitVec.eq_of_toNat_eq
  simp only [bellLo, bellOf, BitVec.toNat_setWidth, BitVec.toNat_ofNat]
  have := lo.isLt
  omega

/-! ### Commit slots (R172, R183) -/

theorem dom_modDom (s : State) (d e : Nat) (f : Domain → Domain) :
    dom (modDom s d f) e = if e = d then f (dom s d) else dom s e := by
  simp only [modDom_eq, dom_setDomains, Tab.get_mod]
  rfl

theorem dom_modSlot_same (s : State) (d k : Nat) (f : CommitSlot → CommitSlot) :
    dom (modSlot s d k f) d = { dom s d with slots := Tab.mod {} (dom s d).slots k f } := by
  rw [modSlot, dom_modDom, if_pos rfl]

theorem slotOf_modSlot (s : State) (d k j : Nat) (f : CommitSlot → CommitSlot) :
    slotOf (modSlot s d k f) d j = if j = k then f (slotOf s d k) else slotOf s d j := by
  rw [slotOf, dom_modSlot_same, Tab.get_mod]
  rfl

theorem hostSet_modSlot (s : State) (d k n : Nat) (f : CommitSlot → CommitSlot) :
    hostSet (modSlot s d k f) n = hostSet s n := rfl

theorem slotOf_modSet (s : State) (n d k : Nat) (f : HostSet → HostSet) : slotOf (modSet s n f) d k = slotOf s d k := rfl

theorem hostSet_modSet (s : State) (n m : Nat) (f : HostSet → HostSet) :
    hostSet (modSet s n f) m = if m = n then f (hostSet s n) else hostSet s m := by
  simp only [modSet, modJex_eq, hostSet, State.setJex_jex, Tab.get_mod]

/-- Nothing differs but commit slot k of domain d and the records of the host's sets. -/
def slotOnly (d k : Nat) (s t : State) : Prop :=
  sameExcept [.domains, .jex] s t ∧ (∀ e, e ≠ d → dom t e = dom s e) ∧ t.jex = { s.jex with sets := t.jex.sets } ∧
    dom t d = { dom s d with slots := (dom t d).slots } ∧ ∀ j, j ≠ k → slotOf t d j = slotOf s d j

theorem slotOnly_trans {d k : Nat} {s t u : State} (h : slotOnly d k s t) (g : slotOnly d k t u) : slotOnly d k s u := by
  obtain ⟨hsame, hdoms, hjex, hdom, hslots⟩ := h
  obtain ⟨gsame, gdoms, gjex, gdom, gslots⟩ := g
  refine ⟨same_trans hsame gsame, fun e he => (gdoms e he).trans (hdoms e he), ?_, ?_, fun j hj => (gslots j hj).trans (hslots j hj)⟩
  · rw [gjex, hjex]
  · rw [gdom, hdom]

theorem slotOnly_modSlot (d k : Nat) (s : State) (f : CommitSlot → CommitSlot) : slotOnly d k s (modSlot s d k f) := by
  refine ⟨by simp [modSlot], fun e he => ?_, rfl, ?_, fun j hj => ?_⟩
  · rw [modSlot, dom_modDom, if_neg he]
  · rw [dom_modSlot_same]
  · rw [slotOf_modSlot, if_neg hj]

theorem slotOnly_modSet (d k n : Nat) (s : State) (f : HostSet → HostSet) : slotOnly d k s (modSet s n f) :=
  ⟨by simp [modSet], fun _ _ => rfl, rfl, rfl, fun _ _ => rfl⟩

theorem slotOnly_missSet (d k n : Nat) (s : State) : slotOnly d k s (missSet d k n s) :=
  slotOnly_trans (slotOnly_modSlot d k s _) (slotOnly_modSet d k n _ _)

/-- A write of a word of a commit slot reaches that slot and the set it serves. -/
theorem slotOnly_commitWrite (d k i : Nat) (v : Word) (s : State) : slotOnly d k s (commitWrite d k i v s) := by
  unfold commitWrite
  extract_lets s1
  have hslot : slotOnly d k s s1 := slotOnly_modSlot d k s _
  clear_value s1
  split
  · split
    · exact slotOnly_trans hslot (slotOnly_missSet d k _ _)
    · exact hslot
  · exact hslot

/-- A write of a word other than COMMIT_CTL. -/
theorem commitWrite_word {d k i : Nat} {v : Word} {s : State} (hi : i ≠ 0) :
    commitWrite d k i v s = modSlot s d k (fun c => c.writeWord i v) := by
  simp only [commitWrite, hi, if_false, false_and]
  split <;> rfl

/-- Commit slot k of domain d serves set n, which is ARMED. -/
def serves (s : State) (d k n : Nat) : Prop := (slotOf s d k).set = some n ∧ (hostSet s n).state = .armed

theorem slotOf_missSet (d k n : Nat) (s : State) : slotOf (missSet d k n s) d k = { slotOf s d k with set := none } := by
  rw [missSet, slotOf_modSet, slotOf_modSlot, if_pos rfl]

theorem hostSet_missSet (d k n m : Nat) (s : State) :
    hostSet (missSet d k n s) m = if m = n then { hostSet s n with state := .missed, slot := none } else hostSet s m := by
  rw [missSet, hostSet_modSet, hostSet_modSlot, hostSet_modSlot]

/-- A write of COMMIT_CTL that does not arm the slot takes it from its ARMED set (R183). -/
theorem commitWrite_ctl_missed {d k n : Nat} {v : Word} {s : State} (hv : bit v 31 = true)
    (hy : ((slotOf s d k).writeCtl (dom s d).bell v).armed = false) (hn : serves s d k n) :
    commitWrite d k 0 v s = missSet d k n (modSlot s d k (fun c => c.writeCtl (dom s d).bell v)) := by
  simp [commitWrite, slotOf_modSlot, hn.1, hn.2, hv, hy]

/-- Any other write of COMMIT_CTL reaches the slot alone. -/
theorem commitWrite_ctl_plain {d k : Nat} {v : Word} {s : State}
    (h : ∀ n, ¬ (((slotOf s d k).writeCtl (dom s d).bell v).armed = false ∧ serves s d k n)) :
    commitWrite d k 0 v s = modSlot s d k (fun c => c.writeCtl (dom s d).bell v) := by
  simp only [commitWrite, if_true, true_and, slotOf_modSlot]
  split
  · next n hn => rw [if_neg fun hm => h n ⟨hm.2.1, hn, hm.2.2⟩]
  · rfl

/-! ### The control word of a commit slot -/

/-- The slot with a Bell and the flags of a control word. -/
def CommitSlot.withCtl (c : CommitSlot) (v : Word) (b : BitVec 48) : CommitSlot :=
  { c with
    bell := b
    next := bit v 30
    fired := c.fired && !bit v 29
    missed := c.missed && !bit v 28
    deferred := c.deferred && !bit v 27 }

/-- The slot states a Bell at or below the count (R172). -/
def CommitSlot.past (c : CommitSlot) (count : BitVec 48) : Prop := c.next = false ∧ c.bell.toNat ≤ count.toNat

/-- The slot armed by a write of its control word: one that was armed keeps what it serves and carries. -/
def CommitSlot.armNow (c : CommitSlot) : CommitSlot :=
  if c.armed = true then c else { c with armed := true, set := none, own := [], images := [], waits := false }

theorem CommitSlot.withCtl_armed (c : CommitSlot) (w : Word) (b : BitVec 48) : c.withCtl (w ||| 0x80000000#32) b = c.withCtl w b := by
  simp only [CommitSlot.withCtl, bit_armed (show 27 < 31 by decide), bit_armed (show 28 < 31 by decide),
    bit_armed (show 29 < 31 by decide), bit_armed (show 30 < 31 by decide)]

theorem CommitSlot.armNow_armed (c : CommitSlot) : c.armNow.armed = true := by
  unfold CommitSlot.armNow
  split
  · assumption
  · rfl

section
variable {c : CommitSlot} {count : BitVec 48} {v : Word}

theorem CommitSlot.writeCtl_past (h31 : bit v 31 = true) (h : (c.withCtl v (bellOf (fld v 0 16) (bellLo c.bell).toNat)).past count) :
    c.writeCtl count v = { c.withCtl v (bellOf (fld v 0 16) (bellLo c.bell).toNat) with armed := false, missed := true } := by
  unfold CommitSlot.writeCtl
  rw [h31]
  exact if_pos h

theorem CommitSlot.writeCtl_ahead (h31 : bit v 31 = true)
    (h : ¬ (c.withCtl v (bellOf (fld v 0 16) (bellLo c.bell).toNat)).past count) :
    c.writeCtl count v = (c.withCtl v (bellOf (fld v 0 16) (bellLo c.bell).toNat)).armNow := by
  unfold CommitSlot.writeCtl
  rw [h31]
  exact if_neg h

end

/-! ### COMMIT_SLOT_ARM -/

/-- The slot with another mask and Bell. -/
def CommitSlot.aimed (c : CommitSlot) (mask : BitVec 128) (b : BitVec 48) : CommitSlot := { c with mask := mask, bell := b }

/-- The slot with the mask, the Bell and the flags that COMMIT_SLOT_ARM gives. -/
def CommitSlot.loaded (c : CommitSlot) (w lo : Word) (mask : BitVec 128) : CommitSlot :=
  ({ c with mask := mask } : CommitSlot).withCtl w (bellOf (fld w 0 16) lo.toNat)

/-- The Bell that stood in the slot does not matter. -/
theorem CommitSlot.withCtl_aimed (c : CommitSlot) (w : Word) (mask : BitVec 128) (b b' : BitVec 48) :
    (c.aimed mask b).withCtl w b' = ({ c with mask := mask } : CommitSlot).withCtl w b' := rfl

theorem CommitSlot.withCtl_armingWord (c : CommitSlot) (w lo : Word) (mask : BitVec 128) (hi : Nat) :
    (c.aimed mask (bellOf hi lo.toNat)).withCtl (w ||| 0x80000000#32)
      (bellOf (fld (w ||| 0x80000000#32) 0 16) (bellLo (c.aimed mask (bellOf hi lo.toNat)).bell).toNat) = c.loaded w lo mask := by
  rw [CommitSlot.withCtl_armed, fld_armed, CommitSlot.withCtl_aimed, CommitSlot.aimed, bellLo_bellOf, CommitSlot.loaded]

section
variable {d k n : Nat} {w lo : Word} {mask : BitVec 128} {s : State}

/-- The state in which the control word is written. -/
def aimSlot (d k : Nat) (lo : Word) (mask : BitVec 128) (s : State) : State :=
  commitWrite d k 1 lo (modSlot s d k (fun c => { c with mask := mask }))
/-- What COMMIT_SLOT_ARM does to the state. -/
def armSlot (d k : Nat) (w lo : Word) (mask : BitVec 128) (s : State) : State :=
  commitWrite d k 0 (w ||| 0x80000000#32) (aimSlot d k lo mask s)

theorem exec_commitSlotArm {r d : Fin 4} {k : Fin 8} (h : reeveCtl s r = true) :
    exec (.commitSlotArm r d k w lo mask) s = .next (armSlot d k w lo mask s) :=
  congrArg Host.Outcome.next (byReeve_ctl (f := armSlot d k w lo mask) h)

theorem slotOnly_armSlot : slotOnly d k s (armSlot d k w lo mask s) :=
  slotOnly_trans (slotOnly_trans (slotOnly_modSlot d k s _) (slotOnly_commitWrite d k 1 lo _)) (slotOnly_commitWrite d k 0 _ _)

theorem slotOf_aimSlot : slotOf (aimSlot d k lo mask s) d k = (slotOf s d k).aimed mask (bellOf (bellHi (slotOf s d k).bell) lo.toNat) := by
  rw [aimSlot, commitWrite_word Nat.one_ne_zero, slotOf_modSlot, if_pos rfl, slotOf_modSlot, if_pos rfl,
    CommitSlot.aimed, CommitSlot.writeWord]

theorem hostSet_aimSlot : hostSet (aimSlot d k lo mask s) n = hostSet s n := by
  rw [aimSlot, commitWrite_word Nat.one_ne_zero, hostSet_modSlot, hostSet_modSlot]

theorem bell_aimSlot : (dom (aimSlot d k lo mask s) d).bell = (dom s d).bell := by
  rw [aimSlot, commitWrite_word Nat.one_ne_zero, dom_modSlot_same, dom_modSlot_same]

theorem serves_aimSlot : serves (aimSlot d k lo mask s) d k n ↔ serves s d k n := by
  rw [serves, slotOf_aimSlot, hostSet_aimSlot, CommitSlot.aimed, serves]

/-- The slot as the control word leaves it, the Bell being past. -/
theorem writeCtl_aimSlot_past (h : ((slotOf s d k).loaded w lo mask).past (dom s d).bell) :
    (slotOf (aimSlot d k lo mask s) d k).writeCtl (dom (aimSlot d k lo mask s) d).bell (w ||| 0x80000000#32) =
      { (slotOf s d k).loaded w lo mask with armed := false, missed := true } := by
  rw [slotOf_aimSlot, bell_aimSlot, CommitSlot.writeCtl_past (bit_armed_top w) (by rwa [CommitSlot.withCtl_armingWord]),
    CommitSlot.withCtl_armingWord]

/-- The slot as the control word leaves it otherwise. -/
theorem writeCtl_aimSlot_ahead (h : ¬ ((slotOf s d k).loaded w lo mask).past (dom s d).bell) :
    (slotOf (aimSlot d k lo mask s) d k).writeCtl (dom (aimSlot d k lo mask s) d).bell (w ||| 0x80000000#32) =
      ((slotOf s d k).loaded w lo mask).armNow := by
  rw [slotOf_aimSlot, bell_aimSlot, CommitSlot.writeCtl_ahead (bit_armed_top w) (by rwa [CommitSlot.withCtl_armingWord]),
    CommitSlot.withCtl_armingWord]

/-- Where the Bell is past and an ARMED set is served, that set has missed its Bell (R183). -/
theorem armSlot_missed (h : ((slotOf s d k).loaded w lo mask).past (dom s d).bell) (hn : serves s d k n) :
    armSlot d k w lo mask s = missSet d k n (modSlot (aimSlot d k lo mask s) d k
      (fun c => c.writeCtl (dom (aimSlot d k lo mask s) d).bell (w ||| 0x80000000#32))) :=
  commitWrite_ctl_missed (bit_armed_top w) (by rw [writeCtl_aimSlot_past h]) (serves_aimSlot.mpr hn)

/-- Elsewhere only the slot is written. -/
theorem armSlot_plain (h : ¬ ∃ n, ((slotOf s d k).loaded w lo mask).past (dom s d).bell ∧ serves s d k n) :
    armSlot d k w lo mask s = modSlot (aimSlot d k lo mask s) d k
      (fun c => c.writeCtl (dom (aimSlot d k lo mask s) d).bell (w ||| 0x80000000#32)) := by
  refine commitWrite_ctl_plain fun n hn => ?_
  by_cases hp : ((slotOf s d k).loaded w lo mask).past (dom s d).bell
  · exact h ⟨n, hp, serves_aimSlot.mp hn.2⟩
  · rw [writeCtl_aimSlot_ahead hp, CommitSlot.armNow_armed] at hn
    exact Bool.noConfusion hn.1

theorem slotOf_armSlot_past (h : ((slotOf s d k).loaded w lo mask).past (dom s d).bell) :
    slotOf (armSlot d k w lo mask s) d k = { (slotOf s d k).loaded w lo mask with
      armed := false
      missed := true
      set := if (slotOf s d k).set.any (fun n => (hostSet s n).state == .armed) then none else (slotOf s d k).set } := by
  by_cases hs : ∃ n, serves s d k n
  · obtain ⟨n, hn⟩ := hs
    rw [armSlot_missed h hn, slotOf_missSet, slotOf_modSlot, if_pos rfl, writeCtl_aimSlot_past h, if_pos (by simp [hn.1, hn.2])]
  · rw [armSlot_plain fun ⟨n, hn⟩ => hs ⟨n, hn.2⟩, slotOf_modSlot, if_pos rfl, writeCtl_aimSlot_past h, if_neg, CommitSlot.loaded,
      CommitSlot.withCtl]
    simpa [Option.any_eq_true, serves] using hs

theorem slotOf_armSlot_ahead (h : ¬ ((slotOf s d k).loaded w lo mask).past (dom s d).bell) :
    slotOf (armSlot d k w lo mask s) d k = ((slotOf s d k).loaded w lo mask).armNow := by
  rw [armSlot_plain fun ⟨n, hn⟩ => h hn.1, slotOf_modSlot, if_pos rfl, writeCtl_aimSlot_ahead h]

theorem hostSet_armSlot_missed (h : ((slotOf s d k).loaded w lo mask).past (dom s d).bell) (hn : serves s d k n) :
    hostSet (armSlot d k w lo mask s) n = { hostSet s n with state := .missed, slot := none } := by
  rw [armSlot_missed h hn, hostSet_missSet, if_pos rfl, hostSet_modSlot, hostSet_aimSlot]

theorem hostSet_armSlot_kept (h : ¬ (((slotOf s d k).loaded w lo mask).past (dom s d).bell ∧ serves s d k n)) :
    hostSet (armSlot d k w lo mask s) n = hostSet s n := by
  by_cases hs : ∃ m, ((slotOf s d k).loaded w lo mask).past (dom s d).bell ∧ serves s d k m
  · obtain ⟨m, hp, hm⟩ := hs
    rw [armSlot_missed hp hm, hostSet_missSet, if_neg (by rintro rfl; exact h ⟨hp, hm⟩), hostSet_modSlot, hostSet_aimSlot]
  · rw [armSlot_plain hs, hostSet_modSlot, hostSet_aimSlot]

end

/-! ### ROUTE_SWAP_ARM (R192) -/

/-- The slot with a Bell and the flags of a control word. -/
def RouteSlot.withCtl (x : RouteSlot) (v : Word) (b : BitVec 48) : RouteSlot :=
  { x with bell := b, next := bit v 30, fired := x.fired && !bit v 29, missed := x.missed && !bit v 28 }

/-- The slot after a write of its control word with ARMED, in a domain whose Bell count is `count`. -/
def RouteSlot.armAt (y : RouteSlot) (count : BitVec 48) : RouteSlot :=
  if y.next = false ∧ y.bell.toNat ≤ count.toNat then { y with armed := false, missed := true } else { y with armed := true }

theorem RouteSlot.withCtl_armed (x : RouteSlot) (w : Word) (b : BitVec 48) : x.withCtl (w ||| 0x80000000#32) b = x.withCtl w b := by
  simp only [RouteSlot.withCtl, bit_armed (show 28 < 31 by decide), bit_armed (show 29 < 31 by decide), bit_armed (show 30 < 31 by decide)]

theorem RouteSlot.writeCtl_eq {x : RouteSlot} {count : BitVec 48} {v : Word} (h31 : bit v 31 = true) :
    x.writeCtl count v = (x.withCtl v (bellOf (fld v 0 16) (bellLo x.bell).toNat)).armAt count := by
  unfold RouteSlot.writeCtl
  rw [h31]
  rfl

/-- The slot with another Bell. -/
def RouteSlot.aimed (x : RouteSlot) (b : BitVec 48) : RouteSlot := { x with bell := b }

/-- The Bell that stood in the slot does not matter. -/
theorem RouteSlot.withCtl_aimed (x : RouteSlot) (w : Word) (b b' : BitVec 48) : (x.aimed b).withCtl w b' = x.withCtl w b' := rfl

theorem RouteSlot.writeCtl_armingWord (x : RouteSlot) (count : BitVec 48) (w lo : Word) (hi : Nat) :
    (x.aimed (bellOf hi lo.toNat)).writeCtl count (w ||| 0x80000000#32) = (x.withCtl w (bellOf (fld w 0 16) lo.toNat)).armAt count := by
  rw [RouteSlot.writeCtl_eq (bit_armed_top w), RouteSlot.withCtl_armed, fld_armed, RouteSlot.withCtl_aimed, RouteSlot.aimed, bellLo_bellOf]

theorem onlyDomain_modDom (s : State) (d : Nat) (f : Domain → Domain) : onlyDomain d s (modDom s d f) :=
  ⟨by simp, fun e he => by rw [dom_modDom, if_neg he]⟩

theorem onlyDomain_trans {d : Nat} {s t u : State} (h : onlyDomain d s t) (g : onlyDomain d t u) : onlyDomain d s u :=
  ⟨same_trans h.1 g.1, fun e he => (g.2 e he).trans (h.2 e he)⟩

/-- What ROUTE_SWAP_ARM does to the state. -/
def armRoute (d : Nat) (w lo : Word) (s : State) : State := routeWrite d 0 (w ||| 0x80000000#32) (routeWrite d 1 lo s)

theorem exec_routeSwapArm {s : State} {r d : Fin 4} {w lo : Word} (h : reeveCtl s r = true) :
    exec (.routeSwapArm r d w lo) s = .next (armRoute d w lo s) :=
  congrArg Host.Outcome.next (byReeve_ctl (f := armRoute d w lo) h)

theorem onlyDomain_armRoute (d : Nat) (w lo : Word) (s : State) : onlyDomain d s (armRoute d w lo s) :=
  onlyDomain_trans (onlyDomain_modDom s d _) (onlyDomain_modDom _ d _)

theorem dom_armRoute (d : Nat) (w lo : Word) (s : State) :
    dom (armRoute d w lo s) d =
      { dom s d with route := ((dom s d).route.withCtl w (bellOf (fld w 0 16) lo.toNat)).armAt (dom s d).bell } := by
  rw [armRoute, routeWrite, dom_modDom, if_pos rfl, routeWrite, dom_modDom, if_pos rfl, ← RouteSlot.writeCtl_armingWord]
  rfl

/-! ### LINE_ENTRY_WRITE (R138) -/

theorem line_modLine (s : State) (e j : Nat) (f : Line → Line) :
    line (modLine s e f) j = if j = e then f (line s e) else line s j := by
  simp only [modLine_eq, line_setLines, Tab.get_mod]
  rfl

theorem exec_lineEntryWrite {s : State} {r : Fin 4} {e : Fin 4096} {i : Fin 4} {v : Word} (h : reeveCtl s r = true) :
    exec (.lineEntryWrite r e i v) s = .next (modLine s e (fun l => l.write i v)) :=
  congrArg Host.Outcome.next (byReeve_ctl (f := fun t => modLine t e (fun l => l.write i v)) h)

section
variable {l : Line} {v : Word}

theorem Line.write_base_valid (h : l.valid = true) : l.write 0 v = { l with valid := bit v 31 } := by
  simp [Line.write, h]

theorem Line.write_base_invalid (h : l.valid = false) :
    l.write 0 v = { l with valid := bit v 31, cross := bit v 30, domain := fld v 28 2, base := fld v 0 25
                           widx := if bit v 31 then 0 else l.widx } := by
  simp [Line.write, h]

theorem Line.write_length_valid (h : l.valid = true) : l.write 1 v = l := by
  simp [Line.write, h]

theorem Line.write_length_invalid (h : l.valid = false) : l.write 1 v = { l with owner := fld v 22 7, length := fld v 0 22 } := by
  simp [Line.write, h]

theorem Line.write_index : l.write 2 v = l := rfl

theorem Line.write_flags :
    l.write 3 v = { l with freeze := bit v 2, clamped := l.clamped && !bit v 1, busErr := l.busErr && !bit v 0
                           stored := if l.valid then l.stored else bit v 3 } := by
  cases h : l.valid <;> simp [Line.write, h]

end

/-! ### Requests to the Gatehouse (R353, R361, R379) -/

section
variable {s : State} {r : Fin 4} {p : BitVec 2} {v : BitVec 6} {src dst len : Word}

theorem exec_seal (h : reeveCtl s r = true) :
    exec (.seal r p v src dst len) s = .next (greqGo 0 p.toNat v.toNat src.toNat dst.toNat len.toNat s) :=
  congrArg Host.Outcome.next (byReeve_ctl (f := greqGo 0 p.toNat v.toNat src.toNat dst.toNat len.toNat) h)

theorem exec_openObj (h : reeveCtl s r = true) :
    exec (.openObj r p v src dst len) s = .next (greqGo 1 p.toNat v.toNat src.toNat dst.toNat len.toNat s) :=
  congrArg Host.Outcome.next (byReeve_ctl (f := greqGo 1 p.toNat v.toNat src.toNat dst.toNat len.toNat) h)

theorem exec_wakeSeal (h : reeveCtl s r = true) :
    exec (.wakeSeal r src len) s = .next (greqGo 2 s.greq.purpose s.greq.svn src.toNat s.greq.dst len.toNat s) :=
  congrArg Host.Outcome.next
    (byReeve_ctl (f := fun t => greqGo 2 t.greq.purpose t.greq.svn src.toNat t.greq.dst len.toNat t) h)

end

section
variable {s : State} {op p v src dst len : Nat}

theorem greqGo_busy (h : s.greq.busy = true) : greqGo op p v src dst len s = s := if_pos h

theorem greqGo_idle (h : s.greq.busy = false) :
    greqGo op p v src dst len s = s.setGreq { s.greq with
      op := op, purpose := p, svn := v, src := src, dst := dst, len := len, job := [op, p, v, src, dst, len], busy := true } :=
  if_neg (by simp [h])

/-- The end of a request: what its work leaves, with DONE and RESULT. -/
theorem exec_ghRequestDone {u : State} {n : Nat} (hb : s.greq.busy = true) (hw : greqWork s.greq.job s = (u, n)) :
    exec .ghRequestDone s = .next (u.setGreq { u.greq with busy := false, done := true, result := n, job := [] }) := by
  have h : exec .ghRequestDone s = .next (greqEnd s) := congrArg Host.Outcome.next (if_pos hb)
  rw [h, greqEnd, hw, modGreq_eq]

theorem greqWork_wakeSeal_fuses (h : fuseBusy s = true) : greqWork [2, p, v, src, dst, len] s = (s, 4) := if_pos h

theorem greqWork_wakeSeal_range (hf : fuseBusy s = false) (h : resumeRange src len = false) :
    greqWork [2, p, v, src, dst, len] s = (s, 3) := by
  simp only [greqWork, hf, h, if_true, Bool.false_eq_true, if_false]

theorem greqWork_wakeSeal (hf : fuseBusy s = false) (h : resumeRange src len = true) :
    greqWork [2, p, v, src, dst, len] s = (makeWakeSeal src len s, 0) := by
  simp only [greqWork, hf, h, Bool.true_eq_false, Bool.false_eq_true, if_false]

/-- Purpose and source of a SEAL or OPEN do not fit. -/
def unfit (p src len : Nat) : Prop := p = 0 ∨ 3 < p ∨ ctrlRange src len = false

theorem greqWork_seal_operands (h : unfit p src len ∨ len = 0 ∨ 65536 < len ∨ ctrlRange dst (len + 48) = false) :
    greqWork [0, p, v, src, dst, len] s = (s, 3) := if_pos (by unfold unfit at h; tauto)

theorem greqWork_open_operands (h : unfit p src len ∨ len < 49 ∨ 65584 < len ∨ ctrlRange dst (len - 48) = false) :
    greqWork [1, p, v, src, dst, len] s = (s, 3) := if_pos (by unfold unfit at h; tauto)

end

/-! ### What a request leaves in control RAM -/

theorem ctrlPutByte_only (a : Nat) (v : BitVec 8) (s : State) : ctrlPutByte a v s = s.setCtrlRam (ctrlPutByte a v s).ctrlRam := by
  simp only [ctrlPutByte, ctrlPut]
  split <;> rfl

theorem ctrlPutBytes_only (a : Nat) (bs : List (BitVec 8)) (s : State) :
    ctrlPutBytes a bs s = s.setCtrlRam (ctrlPutBytes a bs s).ctrlRam := by
  unfold ctrlPutBytes
  generalize bs.zipIdx = l
  induction l generalizing s with
  | nil => rfl
  | cons e l ih =>
    rw [List.foldl_cons, ih, ctrlPutByte_only]
    rfl

theorem ctrlPutByte_setFresh (a n : Nat) (v : BitVec 8) (s : State) :
    ctrlPutByte a v (s.setFresh n) = (ctrlPutByte a v s).setFresh n := by
  simp only [ctrlPutByte, ctrlPut]
  split <;> rfl

/-- Writing bytes does not look at the counter of free values. -/
theorem ctrlPutBytes_setFresh (a n : Nat) (bs : List (BitVec 8)) (s : State) :
    ctrlPutBytes a bs (s.setFresh n) = (ctrlPutBytes a bs s).setFresh n := by
  unfold ctrlPutBytes
  generalize bs.zipIdx = l
  induction l generalizing s with
  | nil => rfl
  | cons e l ih => rw [List.foldl_cons, ctrlPutByte_setFresh, ih, List.foldl_cons]

theorem leBytes_length (n k : Nat) : (leBytes n k).length = k := by
  induction k generalizing n with
  | zero => rfl
  | succ k ih => rw [leBytes, List.length_cons, ih]

theorem fixBytes_length (n : Nat) (l : List (BitVec 8)) : (fixBytes n l).length = n := by
  simp [fixBytes]

theorem sealHeader_length (p v n : Nat) (x : BitVec 256) : (sealHeader p v n x).length = 32 := by
  simp [sealHeader, leBytes_length]

theorem ctrlBytes_length (s : State) (a n : Nat) : (ctrlBytes s a n).length = n := by
  simp [ctrlBytes]

/-- A sealed object is its header, then the plaintext's length and 16 bytes (R353). -/
theorem sealObject_length (p v : Nat) (plain : List (BitVec 8)) (s : State) : (sealObject p v plain s).1.length = plain.length + 48 := by
  simp only [sealObject, List.length_append, sealHeader_length, fixBytes_length]
  omega

theorem sealObject_header (p v : Nat) (plain : List (BitVec 8)) (s : State) :
    (sealObject p v plain s).1.take 32 = sealHeader p v plain.length (Config.entropy s.fresh) :=
  List.take_left' (sealHeader_length p v plain.length (Config.entropy s.fresh))

theorem ctrlPutBytes_greq (a : Nat) (bs : List (BitVec 8)) (s : State) : (ctrlPutBytes a bs s).greq = s.greq :=
  (congrArg State.greq (ctrlPutBytes_only a bs s)).trans rfl

theorem same_ctrlPutBytes (a : Nat) (bs : List (BitVec 8)) (s : State) : sameExcept [.ctrlRam] s (ctrlPutBytes a bs s) := by
  rw [ctrlPutBytes_only]
  exact same_setCtrlRam_self s _

/-! ### Requests whose operands fit -/

section
variable {s : State} {p v src dst len : Nat}

theorem greqWork_seal_svn (hu : ¬ unfit p src len) (h1 : 1 ≤ len) (h2 : len ≤ 65536) (hd : ctrlRange dst (len + 48) = true)
    (hv : s.gate.svn < v) : greqWork [0, p, v, src, dst, len] s = (s, 1) := by
  have h0 : ¬ len = 0 := by omega
  have h3 : ¬ 65536 < len := by omega
  simp only [unfit, not_or] at hu
  simp [greqWork, hu, h0, h3, hd, hv]

theorem greqWork_seal (hu : ¬ unfit p src len) (h1 : 1 ≤ len) (h2 : len ≤ 65536) (hd : ctrlRange dst (len + 48) = true)
    (hv : v ≤ s.gate.svn) :
    greqWork [0, p, v, src, dst, len] s =
      ((ctrlPutBytes dst (sealObject p v (ctrlBytes s src len) s).1 s).setFresh (s.fresh + 1), 0) := by
  have h0 : ¬ len = 0 := by omega
  have h3 : ¬ 65536 < len := by omega
  have hs : ¬ s.gate.svn < v := by omega
  simp only [unfit, not_or] at hu
  rw [← ctrlPutBytes_setFresh]
  simp [greqWork, hu, h0, h3, hd, hs, sealObject, takeFresh]

theorem greqWork_open (hu : ¬ unfit p src len) (h1 : 49 ≤ len) (h2 : len ≤ 65584) (hd : ctrlRange dst (len - 48) = true)
    (hv : v ≤ s.gate.svn) :
    greqWork [1, p, v, src, dst, len] s =
      let a := openObject s p v (ctrlBytes s src len)
      if a.1 = 0 then (ctrlPutBytes dst a.2 s, 0) else (s, a.1) := by
  have h0 : ¬ len < 49 := by omega
  have h3 : ¬ 65584 < len := by omega
  have hs : ¬ s.gate.svn < v := by omega
  simp only [unfit, not_or] at hu
  simp [greqWork, hu, h0, h3, hd, hs]

/-- The end of a WAKE_SEAL holds the seal. -/
theorem exec_ghRequestDone_wakeSeal (hb : s.greq.busy = true) (hj : s.greq.job = [2, p, v, src, dst, len])
    (hf : fuseBusy s = false) (hr : resumeRange src len = true) :
    exec .ghRequestDone s =
      .next ((makeWakeSeal src len s).setGreq { s.greq with busy := false, done := true, result := 0, job := [] }) := by
  have hw := greqWork_wakeSeal (p := p) (v := v) (dst := dst) hf hr
  rw [← hj] at hw
  exact exec_ghRequestDone hb hw

/-- The end of a SEAL writes an object and nothing else of control RAM. -/
theorem exec_ghRequestDone_seal (hb : s.greq.busy = true) (hj : s.greq.job = [0, p, v, src, dst, len]) (hu : ¬ unfit p src len)
    (h1 : 1 ≤ len) (h2 : len ≤ 65536) (hd : ctrlRange dst (len + 48) = true) (hv : v ≤ s.gate.svn) :
    exec .ghRequestDone s = .next (((ctrlPutBytes dst (sealObject p v (ctrlBytes s src len) s).1 s).setFresh (s.fresh + 1)).setGreq
      { s.greq with busy := false, done := true, result := 0, job := [] }) := by
  have hw := greqWork_seal hu h1 h2 hd hv
  rw [← hj] at hw
  rw [exec_ghRequestDone hb hw, State.setFresh_greq, ctrlPutBytes_greq]

/-- The end of an OPEN writes the plaintext where the object opens. -/
theorem exec_ghRequestDone_open (hb : s.greq.busy = true) (hj : s.greq.job = [1, p, v, src, dst, len]) (hu : ¬ unfit p src len)
    (h1 : 49 ≤ len) (h2 : len ≤ 65584) (hd : ctrlRange dst (len - 48) = true) (hv : v ≤ s.gate.svn) :
    let a := openObject s p v (ctrlBytes s src len)
    exec .ghRequestDone s = .next ((if a.1 = 0 then ctrlPutBytes dst a.2 s else s).setGreq
      { s.greq with busy := false, done := true, result := a.1, job := [] }) := by
  intro a
  have hw : greqWork s.greq.job s = if a.1 = 0 then (ctrlPutBytes dst a.2 s, 0) else (s, a.1) := hj ▸ greqWork_open hu h1 h2 hd hv
  by_cases ha : a.1 = 0
  · rw [if_pos ha] at hw ⊢
    rw [exec_ghRequestDone hb hw, ctrlPutBytes_greq, ha]
  · rw [if_neg ha] at hw ⊢
    rw [exec_ghRequestDone hb hw]

end

end Sys2Proof.Machine

section

open Sys2Proof Sys2Proof.Machine Sys2Proof.Safety

/-- Settles O51: a row of a Reeve is its write, or its task's fault (`byReeve`); a slot armed by several writes is read
through its arming word (`slotOf_armSlot_past`, `slotOf_armSlot_ahead`), and the end of a request through what its work leaves
(`exec_ghRequestDone`). -/
theorem reeveRegisters : Obligations.ReeveRegisters := by
  unfold Obligations.ReeveRegisters
  intro s r q ctl out traps taken done bad
  refine ⟨?hostWrite, ?ctrlWrite, ?absent, ?userWrite, ?userRows, ?userRead, ?ctrlRead, ?aboveMap, ?commitSlot, ?routeSlot, ?lineEntry,
    ?requestTaken, ?requestBusy, ?requestEnd⟩
  case hostWrite => exact fun v hs hb => ⟨_, exec_registerWrite_irqEnable hs hb, same_setHost_self s _, rfl⟩
  case ctrlWrite =>
    exact fun k v hk hr hu => ⟨_, exec_registerWrite_ctrl hk hr hu, same_setCtrlRam_self s _, fun j => Tab.get_set 0 s.ctrlRam k j v⟩
  case absent => exact fun user a v h => ⟨_, exec_registerWrite_absent h, rfl⟩
  case userWrite => exact fun a v ⟨hr, hu, hg⟩ => ⟨_, exec_registerWrite_out hr hu hg, rfl⟩
  case userRows =>
    intro d k e i bk p n w lo len mask
    refine ⟨?_, ?_, ?_, ?_, ?_, ?_, ?_⟩ <;> exact fun ⟨hr, hu, hg⟩ => ⟨_, congrArg Host.Outcome.next (byReeve_out hr hu hg), rfl⟩
  case userRead => exact fun a hg => reeveRead_out hg
  case ctrlRead =>
    intro k hk
    have ha : (0x10000000 + 4 * k) / 4 * 4 = 0x10000000 + 4 * k := by omega
    rw [reeveRead_super, ha, mapRead_ctrl hk]
  case aboveMap =>
    intro a ha
    rw [reeveRead_super, mapRead_above (by omega)]
  case commitSlot =>
    intro d k w lo mask h
    obtain ⟨hsame, hdoms, hjex, hdom, hslots⟩ := slotOnly_armSlot (d := d) (k := k) (w := w) (lo := lo) (mask := mask) (s := s)
    refine ⟨_, exec_commitSlotArm h, hsame, hdoms, hjex, hdom, fun j hj => hslots j (Fin.val_ne_of_ne hj), ?_⟩
    exact ⟨slotOf_armSlot_past, slotOf_armSlot_ahead, fun n hp hn => hostSet_armSlot_missed hp hn, fun n hn => hostSet_armSlot_kept hn⟩
  case routeSlot =>
    intro d w lo h
    exact ⟨_, exec_routeSwapArm h, onlyDomain_armRoute d w lo s, dom_armRoute d w lo s⟩
  case lineEntry =>
    intro e i v h
    have hw : line (modLine s e (fun l => l.write i v)) e = (line s e).write i v := by rw [line_modLine, if_pos rfl]
    refine ⟨_, exec_lineEntryWrite h, by simp, fun j hj => by rw [line_modLine, if_neg hj], ?_⟩
    rw [hw]
    refine ⟨fun hi => ?_, fun hi hv => ?_, fun hi hv => ?_, fun hi hv => ?_, fun hi hv => ?_, fun hi => ?_⟩ <;> rw [hi]
    · exact Line.write_index
    · exact Line.write_length_valid hv
    · exact Line.write_base_valid hv
    · exact Line.write_base_invalid hv
    · exact Line.write_length_invalid hv
    · exact Line.write_flags
  case requestTaken =>
    intro p v src dst len h hb
    refine ⟨⟨_, exec_seal h, ?_⟩, ⟨_, exec_openObj h, ?_⟩, ⟨_, exec_wakeSeal h, ?_⟩⟩ <;>
      exact greqGo_idle hb ▸ ⟨same_setGreq_self s _, rfl⟩
  case requestBusy =>
    intro p v src dst len h hb
    exact ⟨⟨_, exec_seal h, greqGo_busy hb⟩, ⟨_, exec_openObj h, greqGo_busy hb⟩, ⟨_, exec_wakeSeal h, greqGo_busy hb⟩⟩
  case requestEnd =>
    intro p v src dst len hb
    have ends : ∀ n, greqWork s.greq.job s = (s, n) → bad n := fun n hw => ⟨_, exec_ghRequestDone hb hw, by simp, rfl⟩
    refine ⟨fun hj hf => ?_, fun hj hf hr => ?_, fun hj hf hr => ?_, fun hj h => ?_, fun hj h => ?_, fun hj hu h1 h2 hd hv => ?_,
      fun hj hu h1 h2 hd hv => ?_, fun hj hu h1 h2 hd hv => ?_⟩
    · exact ends 4 (hj ▸ greqWork_wakeSeal_fuses hf)
    · exact ends 3 (hj ▸ greqWork_wakeSeal_range hf hr)
    · exact ⟨_, exec_ghRequestDone_wakeSeal hb hj hf hr, by simp [makeWakeSeal], rfl, rfl⟩
    · exact ends 3 (hj ▸ greqWork_seal_operands h)
    · exact ends 3 (hj ▸ greqWork_open_operands h)
    · exact ends 1 (hj ▸ greqWork_seal_svn hu h1 h2 hd hv)
    · refine ⟨_, exec_ghRequestDone_seal hb hj hu h1 h2 hd hv, ?_, State.setGreq_greq _ _,
        (sealObject p v (ctrlBytes s src len) s).1, ?_, ?_, ?_⟩
      · simpa using same_weaken (same_ctrlPutBytes dst _ s) (by simp)
      · rw [sealObject_length, ctrlBytes_length]
      · rw [sealObject_header, ctrlBytes_length]
      · rw [State.setGreq_ctrlRam, State.setFresh_ctrlRam]
    · refine ⟨_, exec_ghRequestDone_open hb hj hu h1 h2 hd hv, ?_, State.setGreq_greq _ _, ?_⟩
      · rw [same_setGreq _ _ _ _ (by simp)]
        exact same_ite _ _ _ _ _ (same_weaken (same_ctrlPutBytes dst _ s) (by simp)) (same_refl _ s)
      · rw [State.setGreq_ctrlRam]
        exact apply_ite State.ctrlRam _ _ _
end
end

section
/-! SUPPORT. What leaves the rate domains alone, and what leaves their Bell counts alone: all that a switching Bell sets off (R59, R60)
up to the abort of a campaign (R251) and the commands that a new mode ends (R439). -/

namespace Sys2Proof.Machine

open Sys2Proof.Safety

/-- A loop of changes that each leave something alone leaves it alone. -/
theorem foldl_keeps {σ β γ : Type} (obs : σ → γ) {g : σ → β → σ} (h : ∀ t x, obs (g t x) = obs t) (l : List β) (s : σ) :
    obs (l.foldl g s) = obs s := by
  induction l generalizing s with
  | nil => rfl
  | cons a l ih => rw [List.foldl_cons, ih, h]

theorem dom_foldl {β : Type} {e : Nat} {g : State → β → State} (h : ∀ t x, dom (g t x) e = dom t e) (l : List β) (s : State) :
    dom (l.foldl g s) e = dom s e := foldl_keeps (dom · e) h l s

theorem bell_foldl {β : Type} {e : Nat} {g : State → β → State} (h : ∀ t x, (dom (g t x) e).bell = (dom t e).bell) (l : List β)
    (s : State) : (dom (l.foldl g s) e).bell = (dom s e).bell := foldl_keeps (fun t => (dom t e).bell) h l s

theorem dom_of_same {ps : List Part} {s t : State} (h : sameExcept ps s t) (hp : Part.domains ∉ ps) (e : Nat) : dom t e = dom s e :=
  congrArg (fun x => (Tab.get {} x e : Domain)) (h .domains hp)

theorem dom_of_leaveOnly {s t : State} (h : leaveOnly s t) (e : Nat) : dom t e = dom s e := dom_of_same h.1 (by simp) e

variable (s : State) (e : Nat)

/-! ### Events, faults, leave and flash operations -/

@[simp] theorem dom_postEvent (c : Nat) (p : List Word) : dom (postEvent c p s) e = dom s e := by simp [dom]
@[simp] theorem dom_refuse (m : Nat) (r : Refuse) : dom (refuse m r s) e = dom s e := by simp [dom]
@[simp] theorem dom_requestLeave (cls key : Nat) : dom (requestLeave cls key s) e = dom s e :=
  dom_of_leaveOnly (leaveOnly_requestLeave cls key s) e
@[simp] theorem dom_returnLeave (cls key : Nat) : dom (returnLeave cls key s) e = dom s e :=
  dom_of_leaveOnly (leaveOnly_returnLeave cls key s) e
@[simp] theorem dom_releaseLeave (cls key : Nat) : dom (releaseLeave cls key s) e = dom s e :=
  dom_of_leaveOnly (leaveOnly_releaseLeave cls key s) e

theorem dom_logRecord (code kind : Nat) (p : List Word) : dom (logRecord code kind p s) e = dom s e := by
  unfold logRecord
  split <;> simp

@[simp] theorem dom_clearInstances (p : FaultInst → Bool) : dom (clearInstances p s) e = dom s e :=
  (dom_foldl (fun t i => by rw [faultEvent, dom_logRecord, dom_postEvent]) _ _).trans rfl

@[simp] theorem dom_passedFault (p : List Word) : dom (passedFault p s) e = dom s e := by simp [passedFault, markInstances]

@[simp] theorem dom_beginFlash (o : FlashOp) : dom (beginFlash o s) e = dom s e := by simp [beginFlash]

@[simp] theorem dom_startFlash (o : FlashOp) : dom (startFlash o s) e = dom s e := by
  unfold startFlash
  split <;> simp

@[simp] theorem dom_endFlash (sel : Nat) : dom (endFlash sel s) e = dom s e := by
  unfold endFlash
  extract_lets s1 s2
  have h2 : dom s2 e = dom s e := by
    unfold s2
    split <;> simp [s1]
  split <;> simp [h2]

@[simp] theorem dom_dropFlash (m : Nat) : dom (dropFlash m s) e = dom s e :=
  (dom_foldl (fun t _ => dom_endFlash t e _) _ _).trans (by simp)

/-! ### Banks, lines and bundles -/

@[simp] theorem dom_setOwner (b owner chan : Nat) : dom (setOwner b owner chan s) e = dom s e := by
  unfold setOwner
  split <;> simp

@[simp] theorem dom_clearWords (h p n : Nat) : dom (clearWords h p n s) e = dom s e := by
  refine dom_foldl (fun t i => ?_) _ _
  extract_lets lo hi
  split
  · split <;> simp [granZero, bankErr]
  · rfl

@[simp] theorem dom_allocLine (l : LineRec) : dom (allocLine s l) e = dom s e := by simp [allocLine]

@[simp] theorem dom_dropSwap (w : Swap) : dom (dropSwap w s) e = dom s e := by
  unfold dropSwap
  extract_lets s1
  split
  · rw [dropSwapLeave, dom_releaseLeave]
    exact (dom_foldl (fun t p => dom_releaseLeave t e _ _) _ _).trans (by simp [s1])
  · simp [s1]

@[simp] theorem dom_nextLoad : dom (nextLoad s) e = dom s e := by
  unfold nextLoad
  split <;> simp

/-! ### Ports and Stiles -/

@[simp] theorem dom_judgeCodes (d : Nat) : dom (judgeCodes d s) e = dom s e := by
  refine dom_foldl (fun t g => ?_) _ _
  split
  · unfold loseGroup
    split <;> simp [modGroup]
  · rfl

@[simp] theorem dom_recentreStiles (d : Nat) : dom (recentreStiles d s) e = dom s e := by
  refine dom_foldl (fun t i => ?_) _ _
  dsimp only
  split <;> simp [modStile]

@[simp] theorem dom_refreshFloor : dom (refreshFloor s) e = dom s e := by
  unfold refreshFloor
  split <;> simp

/-! ### Records of Vigil -/

@[simp] theorem dom_modZone (n : Nat) (f : VZone → VZone) : dom (modZone s n f) e = dom s e := rfl

@[simp] theorem dom_recordWritten (ok : Bool) : dom (recordWritten ok s) e = dom s e := by
  unfold recordWritten
  split
  · rfl
  · extract_lets s1 s2
    have h2 : dom s2 e = dom s e := by
      unfold s2
      (repeat' split) <;> simp [s1]
    split <;> simp [h2]

@[simp] theorem dom_queueRecord (r : VRecord) : dom (queueRecord r s) e = dom s e := by
  unfold queueRecord
  extract_lets s1
  (repeat' split) <;> simp [s1]

@[simp] theorem dom_recordEmpty (z : VZone) (verdict attempts reasons : Nat) :
    dom (recordEmpty z verdict attempts reasons s) e = dom s e :=
  dom_foldl (fun t _ => dom_queueRecord t e _) _ _

@[simp] theorem dom_closeZones (reason : Nat) : dom (closeZones reason s) e = dom s e :=
  dom_foldl (fun t _ => dom_recordEmpty t e _ _ _ _) _ _

@[simp] theorem dom_stopLanes (z : VZone) : dom (stopLanes z s) e = dom s e :=
  dom_foldl (fun t l => by simp [modLane]) _ _

@[simp] theorem dom_unstageVariants : dom (unstageVariants s) e = dom s e := by
  unfold unstageVariants
  split
  · rfl
  · exact dom_foldl (fun t p => by simp) _ _

@[simp] theorem dom_restore : dom (restore s) e = dom s e := by
  unfold restore
  extract_lets s1 s2
  have h1 : dom s1 e = dom s e := dom_foldl (fun t b => dom_setOwner t e _ _ _) _ _
  have h2 : dom s2 e = dom s1 e := by
    unfold s2
    split
    · exact dom_foldl (fun t l => dom_allocLine t e l) _ _
    · rfl
  simp [h1, h2]

/-! ### Own changes of Jexolaryn (R447, R448) -/

theorem bell_modDom {s : State} {d e : Nat} {f : Domain → Domain} (h : ∀ x, (f x).bell = x.bell) :
    (dom (modDom s d f) e).bell = (dom s e).bell := by
  rw [dom_modDom]
  split
  · rename_i he
    rw [h, he]
  · rfl

theorem bell_modSlot (d k : Nat) (f : CommitSlot → CommitSlot) : (dom (modSlot s d k f) e).bell = (dom s e).bell :=
  bell_modDom fun _ => rfl

@[simp] theorem bell_dropOwn (d : Nat) (p : OwnGlide → Bool) : (dom (dropOwn d p s) e).bell = (dom s e).bell := by
  unfold dropOwn cutOwn
  extract_lets s1
  rw [modJex_eq, dom_setJex]
  exact bell_foldl (fun t k => bell_modSlot t e d k _) _ _

@[simp] theorem bell_armOwn (d : Nat) (b : BitVec 48) (prio : Nat) (gs : List OwnGlide) :
    (dom (armOwn d b prio gs s) e).bell = (dom s e).bell := by
  unfold armOwn armChange
  extract_lets s1 rest
  have h1 : (dom s1 e).bell = (dom s e).bell := by
    refine bell_foldl (fun t g => ?_) _ _
    split
    · exact bell_modSlot t e d _ _
    · rfl
  clear_value s1
  split
  · exact h1
  · split
    · exact (bell_modSlot s1 e d _ _).trans h1
    · simpa using h1

/-! ### The commands and sources that an end of the pair's arming and a new mode concern -/

@[simp] theorem bell_loseReference (d : Nat) : (dom (loseReference d s) e).bell = (dom s e).bell := by
  unfold loseReference
  split
  · rw [dom_postEvent]
    exact bell_modDom fun _ => rfl
  · rfl

@[simp] theorem bell_changeSource (d src grp : Nat) : (dom (changeSource d src grp s) e).bell = (dom s e).bell := by
  unfold changeSource
  extract_lets x set
  split
  · rfl
  · split
    · exact bell_modDom (f := set) fun _ => rfl
    · exact (bell_modDom (f := set) fun _ => rfl).trans (bell_loseReference s e d)

@[simp] theorem bell_ownSources : (dom (ownSources s) e).bell = (dom s e).bell := by
  refine bell_foldl (fun t d => ?_) _ _
  dsimp only
  split <;> simp

@[simp] theorem dom_freeCopyBanks : dom (freeCopyBanks s) e = dom s e := dom_foldl (fun t _ => dom_setOwner t e _ _ _) _ _

@[simp] theorem bell_failArming (code : Nat) : (dom (failArming code s) e).bell = (dom s e).bell := by
  unfold failArming
  split <;> simp [twinEvent, dropCaptures]

@[simp] theorem bell_dropWork (m : Nat) : (dom (dropWork m s) e).bell = (dom s e).bell := by
  unfold dropWork
  extract_lets mine s0 waits s1
  have h0 : (dom s0 e).bell = (dom s e).bell := by
    unfold s0
    split <;> simp
  have h1 : (dom s1 e).bell = (dom s0 e).bell := by
    refine (bell_foldl (fun t w => by rw [dom_dropSwap]) _ _).trans ?_
    cases waits <;> cases mine <;> simp
  simp [h1, h0]

@[simp] theorem bell_setMode (new : Mode) (cause : Nat) : (dom (setMode new cause s) e).bell = (dom s e).bell := by
  unfold setMode
  extract_lets old
  split
  · rfl
  · rw [dom_postEvent]
    refine (bell_foldl (fun t m => ?_) _ _).trans rfl
    (repeat' split) <;> simp [stopFlash]

/-! ### A campaign aborted (R251) -/

@[simp] theorem bell_abortZone (reason : Nat) (z : VZone) : (dom (abortZone reason z s) e).bell = (dom s e).bell := by
  unfold abortZone
  split <;> simp [dropGain]

@[simp] theorem bell_abortZones (reason : Nat) (b : BitVec 48) (prio : Nat) (p : VZone → Bool) :
    (dom (abortZones reason b prio p s) e).bell = (dom s e).bell := by
  unfold abortZones
  (repeat' split)
  · exact bell_armOwn _ _ _ _ _ _
  · rfl
  · rw [bell_armOwn]
    exact bell_foldl (fun t z => bell_abortZone t e reason z) _ _

@[simp] theorem bell_endCampaign : (dom (endCampaign s) e).bell = (dom s e).bell := by
  unfold endCampaign
  split <;> simp

@[simp] theorem bell_vigilRate (d code : Nat) : (dom (vigilRate d code s) e).bell = (dom s e).bell := by
  unfold vigilRate
  (repeat' split) <;> simp [abortCampaign]

end Sys2Proof.Machine
end

section
/-! SUPPORT. How far a program slot reaches: its own Quern, the delay lines and the granary (R87, R88, R95 to R97). -/

namespace Sys2Proof.Machine

open Sys2Proof.Safety

/-- Nothing differs but Quern q, the lines, the banks and the granary. -/
def slotReach (q : Nat) (s t : State) : Prop :=
  sameExcept [.querns, .lines, .banks, .granary] s t ∧ ∀ r, r ≠ q → quern t r = quern s r

theorem slotReach_refl (q : Nat) (s : State) : slotReach q s s := ⟨same_refl _ s, fun _ _ => rfl⟩

theorem slotReach_trans {q : Nat} {s t u : State} (h : slotReach q s t) (k : slotReach q t u) : slotReach q s u :=
  ⟨same_trans h.1 k.1, fun r hr => (k.2 r hr).trans (h.2 r hr)⟩

theorem slotReach_ite {q : Nat} {s t u : State} {c : Prop} [Decidable c] (ht : slotReach q s t) (hu : slotReach q s u) :
    slotReach q s (if c then t else u) := by
  split
  · exact ht
  · exact hu

theorem slotReach_foldl {q : Nat} {β : Type} {g : State → β → State} (h : ∀ t x, slotReach q t (g t x)) (l : List β) (s : State) :
    slotReach q s (l.foldl g s) := by
  induction l generalizing s with
  | nil => exact slotReach_refl q s
  | cons a l ih => exact slotReach_trans (h s a) (ih (g s a))

theorem slotReach_modQuern (q : Nat) (s : State) (f : Quern → Quern) : slotReach q s (modQuern s q f) :=
  ⟨by simp, fun r hr => by rw [quern_modQuern, if_neg hr]⟩

theorem slotReach_modLine (q e : Nat) (s : State) (f : Line → Line) : slotReach q s (modLine s e f) :=
  ⟨by simp, fun _ _ => rfl⟩

theorem slotReach_bankErr (q b c : Nat) (s : State) : slotReach q s (bankErr s b c) := ⟨by simp [bankErr], fun _ _ => rfl⟩

theorem slotReach_granPut (q h p : Nat) (v : Sample) (s : State) : slotReach q s (granPut s h p v) :=
  ⟨by simp [granPut, cellPut], fun _ _ => rfl⟩

/-! ### The delay operations -/

theorem slotReach_noteClamp (q e : Nat) (c : Bool) (s : State) : slotReach q s (noteClamp q e c s) :=
  slotReach_ite (slotReach_trans (slotReach_modLine q e s _) (slotReach_modQuern q _ _)) (slotReach_refl q s)

theorem slotReach_tapWord (q e j : Nat) (s : State) : slotReach q s (tapWord q e j s).2 := by
  unfold tapWord
  extract_lets l b
  split
  · exact slotReach_refl q s
  · exact slotReach_trans (slotReach_bankErr q b _ s) (slotReach_modLine q e _ _)

theorem slotReach_putWord (q o e j : Nat) (v : Sample) (s : State) : slotReach q s (putWord o e j v s) :=
  slotReach_ite (slotReach_granPut q _ _ v s) (slotReach_trans (slotReach_bankErr q _ _ s) (slotReach_modLine q e _ _))

theorem slotReach_opTap (q : Nat) (dd : Fin 8) (w : Fin 32) (b : Opnd) (s : State) : slotReach q s (opTap q dd w b s) :=
  slotReach_ite
    (slotReach_trans (slotReach_trans (slotReach_noteClamp q _ _ s) (slotReach_tapWord q _ _ _)) (slotReach_modQuern q _ _))
    (slotReach_trans (slotReach_modLine q _ s _) (slotReach_modQuern q _ _))

theorem slotReach_opTapf (q : Nat) (dd : Fin 8) (w : Fin 32) (b : Opnd) (s : State) : slotReach q s (opTapf q dd w b s) :=
  slotReach_ite
    (slotReach_trans
      (slotReach_trans (slotReach_trans (slotReach_noteClamp q _ _ s) (slotReach_tapWord q _ _ _)) (slotReach_tapWord q _ _ _))
      (slotReach_modQuern q _ _))
    (slotReach_trans (slotReach_modLine q _ s _) (slotReach_modQuern q _ _))

theorem slotReach_opPut (q : Nat) (w : Fin 32) (src : Fin 8) (s : State) : slotReach q s (opPut q w src s) := by
  unfold opPut
  extract_lets u win l s1
  have h1 : slotReach q s s1 := slotReach_ite (slotReach_putWord q q _ _ _ s) (slotReach_refl q s)
  exact slotReach_ite (slotReach_ite (slotReach_refl q s) (slotReach_ite (slotReach_trans h1 (slotReach_modLine q _ _ _)) h1))
    (slotReach_modLine q _ s _)

/-! ### One slot, and the slots of a pass -/

theorem slotReach_quernSlot {q : Nat} {op : State → State} (h : ∀ t, slotReach q t (op t)) (s : State) :
    slotReach q s (quernSlot q op s) :=
  slotReach_trans (slotReach_foldl (fun t _ => h t) _ s) (slotReach_modQuern q _ _)

theorem slotReach_onQuern (q : Nat) (f : State → Quern → Quern) (s : State) : slotReach q s (quernSlot q (onQuern q f) s) :=
  slotReach_quernSlot (fun t => slotReach_modQuern q t _) s

/-- Every instruction that a word of Quern q spells stays within the reach of a slot of Quern q. -/
theorem slotReach_runSlot {q : Fin 128} {x : QFields} {cs : List (Nat × Bool)} {i : Instr} (h : qParse q x = some (cs, i)) (s : State) :
    slotReach q s (runSlot i s) := by
  unfold qParse at h
  extract_lets a b ga gb za zb ib mul pmul one accs dd2 dd1 at h
  split at h
  case h_44 => cases h
  all_goals obtain ⟨-, rfl⟩ := Prod.mk.inj (Option.some.inj h)
  case h_2 => exact slotReach_modQuern q s _
  case h_41 => exact slotReach_quernSlot (slotReach_opTap q _ _ _) s
  case h_42 => exact slotReach_quernSlot (slotReach_opTapf q _ _ _) s
  case h_43 => exact slotReach_quernSlot (slotReach_opPut q _ _) s
  all_goals exact slotReach_onQuern q _ s

theorem qParse_of_decodeQuern {q : Fin 128} {w : BitVec 48} {i : Instr} (h : decodeQuern q w = .ok i) :
    ∃ cs, qParse q (qFields w) = some (cs, i) := by
  unfold decodeQuern at h
  split at h
  · cases h
  · rename_i cs j hq
    split at h
    · cases h
      exact ⟨cs, hq⟩
    · cases h

/-- The rest of a pass of Quern q. -/
theorem slotReach_runRest (q : Fin 128) (s : State) : slotReach q s (runRest q s) := by
  unfold runRest
  rw [Fin.ofNat_val_eq_self]
  refine slotReach_foldl (fun t w => ?_) _ s
  split
  · rename_i i hi
    obtain ⟨cs, hq⟩ := qParse_of_decodeQuern hi
    exact slotReach_runSlot hq t
  · exact slotReach_refl q t

end Sys2Proof.Machine
end

section
/-! SUPPORT. The end of a pass (R88, R103, R129, R305). -/

namespace Sys2Proof.Machine

open Sys2Proof.Safety

/-- Reading a table after a list of its elements was written. -/
theorem Tab.get_foldl_set {α : Type} [DecidableEq α] (d : α) (g : Nat → α) (l : List Nat) (t : Tab α) (k : Nat) :
    Tab.get d (l.foldl (fun t n => Tab.set d t n (g n)) t) k = if k ∈ l then g k else Tab.get d t k := by
  induction l generalizing t with
  | nil => simp
  | cons a l ih =>
    rw [List.foldl_cons, ih, Tab.get_set]
    by_cases hl : k ∈ l <;> by_cases ha : k = a <;> simp [hl, ha]

/-- What a pass posts in a slot is the value it has written there, if any (R88). -/
theorem Quern.outSlot_eq (u : Quern) (n : Nat) :
    u.outSlot n = match outAt u n with | some w => { word := w, valid := true } | none => {} := by
  unfold Quern.outSlot outAt
  cases u.outs.find? (fun e => e.1 == n) <;> rfl

/-- The owned slots of a pass posted in a back page. -/
def Quern.post (u : Quern) (back : Tab Slot) : Tab Slot := u.ownedSlots.foldl (fun t n => Tab.set {} t n (u.outSlot n)) back

theorem get_post {u : Quern} {p : Program} (h : u.active = some p) (back : Tab Slot) (n : Nat) :
    (Tab.get {} (u.post back) n : Slot) =
      if n ∈ p.owned then (match outAt u n with | some w => { word := w, valid := true } | none => {}) else Tab.get {} back n := by
  rw [Quern.post, Tab.get_foldl_set, Quern.outSlot_eq, Quern.ownedSlots, h]
  rfl

/-- The owned slots of a pass of Quern q in time, posted in the back page of its domain. -/
def postPass (q : Nat) (s : State) : State :=
  match quernDom (quern s q) with
  | some d => if (quern s q).lateBells = 0 then modDom s d (fun x => { x with back := (quern s q).post x.back }) else s
  | none => s

/-- The pass of Quern q ends with the capture epilogue (R305); the state before it says which Bells are stated. -/
def captureDue (q : Nat) (s ran : State) : Prop := (quern ran q).lateBells = 0 ∧ (quernDom (quern ran q)).any (captures s) = true

section
variable {q dur : Nat} {s : State}

theorem endPass_captured (h : captureDue q s (runRest q s)) : endPass q dur s =
    modQuern (modQuern (postPass q (runRest q s)) q (·.endPass dur)) q (fun v => { v with capture := some (quern (runRest q s) q).captured }) :=
  if_pos h

theorem endPass_plain (h : ¬ captureDue q s (runRest q s)) :
    endPass q dur s = modQuern (postPass q (runRest q s)) q (·.endPass dur) :=
  if_neg h

theorem postPass_none (h : quernDom (quern s q) = none) : postPass q s = s := by
  simp only [postPass, h]

theorem postPass_late (h : (quern s q).lateBells ≠ 0) : postPass q s = s := by
  unfold postPass
  split
  · exact if_neg h
  · rfl

theorem postPass_inTime {d : Nat} (hd : quernDom (quern s q) = some d) (h : (quern s q).lateBells = 0) :
    postPass q s = modDom s d (fun x => { x with back := (quern s q).post x.back }) := by
  simp only [postPass, hd, h, if_true]

/-- Posting changes back pages only. -/
theorem same_postPass (q : Nat) (s : State) : sameExcept [.domains] s (postPass q s) := by
  unfold postPass
  split
  · split <;> simp
  · simp

theorem quern_postPass (q r : Nat) (s : State) : quern (postPass q s) r = quern s r :=
  congrArg (fun x => (Tab.get {} x r : Quern)) (same_postPass q s .querns (by simp))

theorem domains_endPass (q dur : Nat) (s : State) : (endPass q dur s).domains = (postPass q (runRest q s)).domains := by
  by_cases h : captureDue q s (runRest q s)
  · simp [endPass_captured h]
  · simp [endPass_plain h]

theorem dom_endPass (q dur e : Nat) (s : State) : dom (endPass q dur s) e = dom (postPass q (runRest q s)) e :=
  congrArg (fun x => (Tab.get {} x e : Domain)) (domains_endPass q dur s)

/-- After its last slot a pass changes the Quern's own record and back pages only. -/
theorem same_endPass (q dur : Nat) (s : State) : sameExcept [.querns, .domains] (runRest q s) (endPass q dur s) := by
  have h2 : sameExcept [.querns, .domains] (runRest q s) (postPass q (runRest q s)) := same_weaken (same_postPass q _) (by simp)
  by_cases h : captureDue q s (runRest q s)
  · simpa [endPass_captured h] using h2
  · simpa [endPass_plain h] using h2

theorem quern_endPass_other {r : Nat} (h : r ≠ q) : quern (endPass q dur s) r = quern (runRest q s) r := by
  by_cases hc : captureDue q s (runRest q s)
  · rw [endPass_captured hc, quern_modQuern, if_neg h, quern_modQuern, if_neg h, quern_postPass]
  · rw [endPass_plain hc, quern_modQuern, if_neg h, quern_postPass]

theorem quern_endPass_captured (h : captureDue q s (runRest q s)) : quern (endPass q dur s) q =
    { (quern (runRest q s) q).endPass dur with capture := some (quern (runRest q s) q).captured } := by
  rw [endPass_captured h, quern_modQuern, if_pos rfl, quern_modQuern, if_pos rfl, quern_postPass]

theorem quern_endPass_plain (h : ¬ captureDue q s (runRest q s)) :
    quern (endPass q dur s) q = (quern (runRest q s) q).endPass dur := by
  rw [endPass_plain h, quern_modQuern, if_pos rfl, quern_postPass]

end

/-- What the end of a pass makes of the Quern's record: the flags gathered, and of a pass in time the posting noted and the count of
overruns reset (R88, R103, R129, R131). -/
theorem Quern.endPass_eq (u : Quern) (dur : Nat) : u.endPass dur =
    { u with running := false, dur := dur, outs := [], qOva := u.qOva || u.ova, qSat := u.qSat || u.sat, qPf := u.qPf || u.pf
             posted := u.posted || decide (u.lateBells = 0), overruns := if decide (u.lateBells = 0) then 0 else u.overruns } := by
  unfold Quern.endPass
  by_cases h : u.lateBells = 0 <;> simp [h]

end Sys2Proof.Machine
end

section
/-! SUPPORT. The actions of a Bell: the page swap (R129 to R132), the write indices (R140), the start of passes (R72), the count (R49, R50). -/

namespace Sys2Proof.Machine

open Sys2Proof.Safety

/-! ### Page swap (R129 to R132) -/

theorem Tab.get_foldl_set_other {α : Type} [DecidableEq α] (d : α) (l : List (Nat × α)) (t : Tab α) (k : Nat) (h : ∀ e ∈ l, e.1 ≠ k) :
    Tab.get d (l.foldl (fun t e => Tab.set d t e.1 e.2) t) k = Tab.get d t k := by
  induction l generalizing t with
  | nil => rfl
  | cons a l ih =>
    rw [List.forall_mem_cons] at h
    rw [List.foldl_cons, ih _ h.2, Tab.get_set, if_neg h.1.symm]

theorem Quern.mem_timelySlots {u : Quern} {n : Nat} {page : Tab Slot} {e : Nat × Slot} (h : e ∈ u.timelySlots n page) : e.1 ∈ u.ownedSlots := by
  unfold Quern.timelySlots at h
  split at h
  · obtain ⟨k, hk, rfl⟩ := List.mem_map.mp h
    exact hk
  · cases h

theorem Quern.mem_postings {u : Quern} {n : Nat} {e : Nat × Slot} (h : e ∈ u.postings n) : e.1 ∈ u.ownedSlots := by
  unfold Quern.postings at h
  extract_lets held at h
  split at h
  · obtain ⟨k, hk, rfl⟩ := List.mem_map.mp h
    exact hk
  · split at h
    · cases h
    · split at h
      · obtain ⟨k, hk, rfl⟩ := List.mem_map.mp h
        exact hk
      · cases h

theorem Quern.active_afterPosting (u : Quern) (n : Nat) (ps : List (Nat × Slot)) : (u.afterPosting n ps).active = u.active := by
  unfold Quern.afterPosting
  split
  · split <;> rfl
  · rfl

theorem ownedSlots_postQuern (d q r : Nat) (s : State) : (quern (postQuern d q s) r).ownedSlots = (quern s r).ownedSlots := by
  unfold postQuern
  extract_lets n u ts s1
  rw [quern_modQuern]
  split
  · rename_i hr
    rw [Quern.ownedSlots, Quern.active_afterPosting, hr]
    rfl
  · rfl

theorem back_postQuern (d q : Nat) (s : State) : (dom (postQuern d q s) d).back = (dom s d).back := by
  unfold postQuern
  extract_lets n u ts s1
  rw [modQuern_eq, dom_setQuerns, dom_modDom, if_pos rfl]

/-- A Quern posts in the slots it owns only. -/
theorem front_postQuern {d q n : Nat} {s : State} (h : n ∉ (quern s q).ownedSlots) :
    (Tab.get {} (dom (postQuern d q s) d).front n : Slot) = Tab.get {} (dom s d).front n := by
  unfold postQuern
  extract_lets k u ts s1
  rw [modQuern_eq, dom_setQuerns, dom_modDom, if_pos rfl]
  refine Tab.get_foldl_set_other _ _ _ _ fun e he hn => h ?_
  rw [← hn]
  exact (List.mem_append.mp he).elim Quern.mem_timelySlots Quern.mem_postings

/-- The postings of a list of Querns none of which owns slot n. -/
theorem postQuerns_unowned {d n : Nat} {l : List Nat} {s : State} (h : ∀ q ∈ l, n ∉ (quern s q).ownedSlots) :
    (dom (forEach l (fun t q => postQuern d q t) s) d).back = (dom s d).back ∧
      (Tab.get {} (dom (forEach l (fun t q => postQuern d q t) s) d).front n : Slot) = Tab.get {} (dom s d).front n := by
  induction l generalizing s with
  | nil => exact ⟨rfl, rfl⟩
  | cons q l ih =>
    rw [List.forall_mem_cons] at h
    obtain ⟨hback, hfront⟩ := ih (s := postQuern d q s) fun r hr => by rw [ownedSlots_postQuern]; exact h.2 r hr
    exact ⟨hback.trans (back_postQuern d q s), hfront.trans (front_postQuern h.1)⟩

/-- The page swap: the back page is empty, and a slot that no Quern of the domain owns shows what the back page held. -/
theorem swapPages_unowned {d n : Nat} {s : State} (h : ∀ q ∈ domQuerns s d, n ∉ (quern s q).ownedSlots) :
    (dom (swapPages d s) d).back = [] ∧ (Tab.get {} (dom (swapPages d s) d).front n : Slot) = Tab.get {} (dom s d).back n := by
  obtain ⟨hback, hfront⟩ := postQuerns_unowned (d := d) (s := modDom s d (fun x => { x with front := x.back, back := [] })) h
  rw [dom_modDom, if_pos rfl] at hback hfront
  exact ⟨hback, hfront⟩

/-! ### Write indices (R140, R144) -/

/-- A word written through an entry changes BUS_ERR at most in that entry. -/
theorem line_lineWrite (e j : Nat) (v : Sample) (s : State) :
    line (lineWrite e j v s) e = { line s e with busErr := (line (lineWrite e j v s) e).busErr } := by
  unfold lineWrite putWord
  extract_lets l b
  split
  · rfl
  · rw [line_modLine, if_pos rfl]
    rfl

/-- The advance of action 4 stands behind a put buffer that is written first and a zero that a late owner leaves. -/
theorem widx_lineBell {e : Nat} {s : State} (hl : (line s e).length ≠ 0) (hf : lineFrozen s (line s e) = false) :
    (line (lineBell e s) e).widx = ((line s e).widx + 1) % (line s e).length := by
  unfold lineBell
  extract_lets l late s1 s2
  have h1 : (line s1 e).widx = l.widx ∧ (line s1 e).length = l.length := by
    unfold s1
    split
    · split
      · exact ⟨rfl, rfl⟩
      · rw [line_modLine, if_pos rfl]
        split
        · exact ⟨rfl, rfl⟩
        · rw [line_lineWrite]
          exact ⟨rfl, rfl⟩
    · exact ⟨rfl, rfl⟩
  have h2 : (line s2 e).widx = (l.widx + 1) % l.length := by
    unfold s2
    rw [line_modLine, if_pos rfl, h1.1, h1.2]
  rw [if_neg (by simp [l, hl, hf])]
  split
  · rw [line_lineWrite]
    exact h2
  · exact h2

/-! ### Passes start (R72, R129) -/

/-- Quern q of domain d at action 8. -/
def startOne (d : Nat) (s : State) (q : Nat) : State :=
  if (quern s q).lateNow then s else modQuern s q (fun u => u.startPass (windowIdx s u) (dom s d).front)

theorem startOne_only (d q : Nat) (s : State) : onlyQuern q s (startOne d s q) := by
  unfold startOne
  split
  · exact ⟨same_refl _ s, fun _ _ => rfl⟩
  · exact onlyQuern_modQuern s q _

theorem startOne_same {d q : Nat} {s : State} (h : (quern s q).lateNow = false) :
    quern (startOne d s q) q = (quern s q).startPass (windowIdx s (quern s q)) (dom s d).front := by
  unfold startOne
  rw [if_neg (by simp [h]), quern_modQuern, if_pos rfl]

theorem windowIdx_startOne (d q : Nat) (s : State) : windowIdx (startOne d s q) = windowIdx s := by
  have h : line (startOne d s q) = line s := by
    funext e
    exact congrArg (fun x => (Tab.get {} x e : Line)) ((startOne_only d q s).1 .lines (by simp))
  funext u
  simp only [windowIdx, h]

theorem dom_startOne (d q e : Nat) (s : State) : dom (startOne d s q) e = dom s e := dom_of_same (startOne_only d q s).1 (by simp) e

theorem quern_startEach_other {d q : Nat} {l : List Nat} {s : State} (h : q ∉ l) : quern (forEach l (startOne d) s) q = quern s q := by
  induction l generalizing s with
  | nil => rfl
  | cons a l ih =>
    rw [List.mem_cons, not_or] at h
    exact (ih (s := startOne d s a) h.2).trans ((startOne_only d a s).2 q h.1)

/-- A Quern that a list names more than once starts as if it were named once. -/
theorem quern_startEach {d q : Nat} {l : List Nat} {s : State} (h : q ∈ l) (hl : (quern s q).lateNow = false) :
    quern (forEach l (startOne d) s) q = (quern s q).startPass (windowIdx s (quern s q)) (dom s d).front := by
  induction l generalizing s with
  | nil => cases h
  | cons a l ih =>
    have ih' := ih (s := startOne d s a)
    rw [windowIdx_startOne, dom_startOne] at ih'
    change quern (forEach l (startOne d) (startOne d s a)) q = _
    by_cases ha : q = a
    · subst ha
      rw [startOne_same hl] at ih'
      by_cases hq : q ∈ l
      · exact ih' hq hl
      · rw [quern_startEach_other hq, startOne_same hl]
    · have hs : quern (startOne d s a) q = quern s q := (startOne_only d a s).2 q ha
      rw [hs] at ih'
      exact ih' ((List.mem_cons.mp h).resolve_left ha) hl

/-- The record of a Quern of the domain that is not late, once its pass has started. -/
theorem quern_startPasses {d q : Nat} {s : State} (h : q ∈ domQuerns s d) (hp : quernsPaused s = false) (hl : (quern s q).lateNow = false) :
    quern (startPasses d s) q = (quern s q).startPass (windowIdx s (quern s q)) (dom s d).front := by
  unfold startPasses
  rw [if_neg (by simp [hp])]
  exact quern_startEach h hl

/-! ### The count (R49, R50, R56, R59, R60) -/

theorem dom_enterLocked (d : Nat) (s : State) :
    dom (enterLocked d s) d = { dom s d with state := .locked, lockedEv := true, lockRun := 0, lostRefs := [] } := by
  rw [enterLocked, dom_postEvent, dom_modDom, if_pos rfl]

theorem bell_enterLocked (d e : Nat) (s : State) : (dom (enterLocked d s) e).bell = (dom s e).bell := by
  rw [enterLocked, dom_postEvent]
  exact bell_modDom fun _ => rfl

theorem bell_takeSynth (d e : Nat) (s : State) : (dom (takeSynth d s) e).bell = (dom s e).bell := by
  unfold takeSynth
  extract_lets x r n s1
  have h1 : (dom s1 e).bell = (dom s e).bell := bell_modDom fun _ => rfl
  rw [← h1]
  split
  · exact bell_modDom fun _ => rfl
  · split
    · exact bell_modDom fun _ => rfl
    · split
      · rw [bell_enterLocked]
        exact bell_modDom fun _ => rfl
      · exact bell_modDom fun _ => rfl

theorem bell_switchingBell (d code e : Nat) (s : State) : (dom (switchingBell d code s) e).bell = (dom s e).bell := by
  unfold switchingBell
  rw [dom_refreshFloor, bell_vigilRate, dom_recentreStiles, dom_judgeCodes]
  exact bell_modDom fun _ => rfl

theorem bell_reconfigBell (d e : Nat) (s : State) : (dom (reconfigBell d s) e).bell = (dom s e).bell := by
  unfold reconfigBell
  extract_lets x s1
  have h1 : (dom s1 e).bell = (dom s e).bell := bell_modDom fun _ => rfl
  rw [← h1]
  split
  · exact bell_switchingBell d _ e s1
  · exact bell_modDom fun _ => rfl
  · rfl

/-- Outside a reconfiguration a Bell moves no state of it. -/
theorem reconfigBell_noStep {d : Nat} {s : State} (h : (dom s d).step = .none) :
    (dom (reconfigBell d s) d).state = (dom s d).state ∧ (dom (reconfigBell d s) d).lockedEv = (dom s d).lockedEv := by
  unfold reconfigBell
  extract_lets x s1
  have h1 : dom s1 d = _ := (dom_modDom s d d _).trans (if_pos rfl)
  split
  · rename_i hx _ _
    exact absurd (h.symm.trans hx) (by decide)
  · rename_i hx _ _
    exact absurd (h.symm.trans hx) (by decide)
  · rw [h1]
    exact ⟨rfl, rfl⟩

theorem bell_countBell (d interval : Nat) (s : State) : (dom (countBell d interval s) d).bell = (dom s d).bell + 1 := by
  unfold countBell
  extract_lets s1 s2
  have h1 : (dom s1 d).bell = (dom s d).bell + 1 := by
    unfold s1
    rw [dom_modDom, if_pos rfl]
  have h2 : (dom s2 d).bell = (dom s1 d).bell := by
    unfold s2
    split
    · rw [bell_enterLocked]
      exact bell_modDom fun _ => rfl
    · rfl
  rw [bell_reconfigBell, ← h1, ← h2]
  split
  · exact bell_takeSynth d d s2
  · rfl

/-- In ACQUIRE the generator does not slew. -/
theorem slewStep_acquire {x : Domain} (h : x.state = .acquire) (interval : Nat) : x.slewStep interval = x := by
  unfold Domain.slewStep
  extract_lets goal
  rw [if_neg (by simp [h, Domain.switched])]

/-- The first Bell locks a domain in ACQUIRE (R49, R50). -/
theorem countBell_acquire {d interval : Nat} {s : State} (ha : (dom s d).state = .acquire) (ht : (dom s d).toSynth = false)
    (hs : (dom s d).step = .none) :
    (dom (countBell d interval s) d).state = .locked ∧ (dom (countBell d interval s) d).lockedEv = true := by
  unfold countBell
  extract_lets s1 s2
  have h1 : dom s1 d = { dom s d with bell := (dom s d).bell + 1, returnedFrom := none } := by
    unfold s1
    rw [dom_modDom, if_pos rfl, slewStep_acquire ha]
  have h2 : (dom s2 d).state = .locked ∧ (dom s2 d).lockedEv = true ∧ (dom s2 d).toSynth = false ∧ (dom s2 d).step = .none := by
    unfold s2
    rw [if_pos ha, dom_enterLocked, dom_modDom, if_pos rfl, h1]
    exact ⟨rfl, rfl, ht, hs⟩
  obtain ⟨hlocked, hev, hsynth, hstep⟩ := h2
  rw [if_neg (by simp [hsynth]), (reconfigBell_noStep hstep).1, (reconfigBell_noStep hstep).2]
  exact ⟨hlocked, hev⟩

/-! ### The row BELL -/

/-- The start of aligned groups and SYNC_OUT concern the ports only. -/
theorem same_alignBell (d : Nat) (s : State) : sameExcept [.audio] s (alignBell d s) := by
  unfold alignBell
  extract_lets b due s1
  rw [modAudio_eq, same_setAudio _ _ _ _ (by simp)]
  exact same_foldl _ _ _ _ fun t a => by simp [modAlign]

theorem dom_alignBell (d e : Nat) (s : State) : dom (alignBell d s) e = dom s e := dom_of_same (same_alignBell d s) (by simp) e

/-- A Bell kept for the catch-up touches no domain, neither by its frame nor by its record. -/
theorem dom_bufferBell (d e : Nat) (env : BellEnv) (s : State) : dom (bufferBell d env (sendBuffered d env s)) e = dom s e := by
  rw [bufferBell, modTwin_eq, dom_setTwin]
  unfold sendBuffered
  split <;> rfl

theorem replay_bufferBell (d : Nat) (env : BellEnv) (s : State) :
    (bufferBell d env (sendBuffered d env s)).twin.replay.length = s.twin.replay.length + 1 := by
  rw [bufferBell, modTwin_eq, State.setTwin_twin, List.length_append]
  unfold sendBuffered
  split <;> rfl

/-- An enabled domain that generates Bells (R49). -/
theorem bellComes_runs {s : State} {d : Nat} (he : (dom s d).enable = true) (hr : (dom s d).runs = true) : bellComes s d = true := by
  simp [bellComes, he, hr]

/-- An enabled domain in ACQUIRE with its reference in the band, or with the synthesiser (R49). -/
theorem bellComes_acquire {s : State} {d : Nat} (he : (dom s d).enable = true) (ha : (dom s d).state = .acquire)
    (href : (dom s d).src = 4 ∨ (dom s d).acqOk = true) : bellComes s d = true := by
  simp [bellComes, he, ha, href]

section
variable {s : State} {d : Fin 4}

theorem exec_bell_runs {env : BellEnv} (hc : bellComes s d = true) (hb : buffersBell s d = false) :
    exec (.bell d env) s = .next (settle (bellBody d env (alignBell d (countBell d env.interval s)))) := by
  change execBell d env s = _
  rw [execBell, if_pos hc, if_neg (by simp [hb])]

theorem exec_bell_buffers {env : BellEnv} (hc : bellComes s d = true) (hb : buffersBell s d = true) :
    exec (.bell d env) s = .next (bufferBell d env (sendBuffered d env (alignBell d (countBell d env.interval s)))) := by
  change execBell d env s = _
  rw [execBell, if_pos hc, if_pos hb]

theorem exec_passEnd_idle {q : Fin 128} {dur : Nat} (h : (quern s q).running = false) : exec (.passEnd q dur) s = .next s :=
  congrArg Host.Outcome.next (if_neg (by simp [h]))

theorem exec_passEnd_runs {q : Fin 128} {dur : Nat} (h : (quern s q).running = true) :
    exec (.passEnd q dur) s = .next (endPass q dur s) :=
  congrArg Host.Outcome.next (if_pos h)

end

end Sys2Proof.Machine
end

section

open Sys2Proof Sys2Proof.Machine Sys2Proof.Safety

/-- Settles O35: a Bell counts (`bell_countBell`) before its other actions; the facts of the page swap, of a line and of a pass that
starts are those of `swapPages_unowned`, `widx_lineBell` and `quern_startPasses`; the end of a pass is `endPass` after slots that reach
no domain and no other Quern (`slotReach_runRest`). -/
theorem bellsAndPasses : Obligations.BellsAndPasses := by
  unfold Obligations.BellsAndPasses
  intro s d x rings joinAt keeps
  have hcomes : rings → bellComes s d = true := by
    rintro ⟨he, hr⟩
    rcases hr with h | h | h | h | ⟨h, href⟩
    case inr.inr.inr.inr => exact bellComes_acquire he h href
    all_goals exact bellComes_runs he (by rw [Domain.runs, show (dom s d).state = _ from h]; rfl)
  have hkeeps : buffersBell s d = true ↔ keeps := by
    simp [buffersBell, joiner, keeps, joinAt, x, and_assoc]
  refine ⟨?runs, ?buffers, ?pages, ?lines, ?starts, ?idle, ?ends⟩
  case runs =>
    intro env hr hk
    refine ⟨_, exec_bell_runs (hcomes hr) (Bool.eq_false_iff.mpr (mt hkeeps.mp hk)), rfl, bell_countBell d _ s, dom_alignBell d d _, ?_⟩
    exact countBell_acquire
  case buffers =>
    intro env hr hk
    refine ⟨_, exec_bell_buffers (hcomes hr) (hkeeps.mpr hk), ?_⟩
    beta_reduce
    rw [dom_bufferBell, dom_alignBell, replay_bufferBell, same_alignBell d _ .twin (by simp)]
    exact ⟨bell_countBell d _ s, rfl⟩
  case pages => exact fun n h => swapPages_unowned h
  case lines => exact fun e hl hf => widx_lineBell hl hf
  case starts =>
    intro q hq hp hl u
    have hu : u = _ := quern_startPasses hq hp hl
    rw [hu]
    and_intros <;> rfl
  case idle => exact fun q dur h => ⟨_, exec_passEnd_idle h, rfl⟩
  case ends =>
    intro q dur h
    refine ⟨_, exec_passEnd_runs h, ?_⟩
    obtain ⟨hsame, hothers⟩ := slotReach_runRest q s
    intro ran v inTime
    have hdoms : ran.domains = s.domains := hsame .domains (by simp)
    have hdom : ∀ e, dom ran e = dom s e := dom_of_same hsame (by simp)
    refine ⟨?reach, same_endPass q dur s, fun r hr => (quern_endPass_other hr).trans (hothers r hr), ?record, ?unposted, ?posted⟩
    case reach => exact same_trans (same_weaken hsame (by simp)) (same_weaken (same_endPass q dur s) (by simp))
    case record =>
      have hdue : captureDue q s ran ↔ inTime = true ∧ (quernDom v).any (captures s) = true := by
        rw [captureDue, decide_eq_true_iff]
      by_cases hc : captureDue q s ran
      · rw [quern_endPass_captured hc, Quern.endPass_eq, if_pos (hdue.mp hc)]
      · rw [quern_endPass_plain hc, Quern.endPass_eq, if_neg (mt hdue.mpr hc)]
    case unposted =>
      intro hn
      rw [domains_endPass, ← hdoms]
      rcases hn with hn | hn
      · rw [postPass_late (of_decide_eq_false hn)]
      · rw [postPass_none (congrArg (Option.map Program.domain) hn)]
    case posted =>
      intro ht p hp
      have hpost := postPass_inTime (s := ran) (congrArg (Option.map Program.domain) hp) (of_decide_eq_true ht)
      refine ⟨fun e he => ?_, fun n => ?_⟩
      · rw [dom_endPass, hpost, dom_modDom, if_neg he, hdom]
      · rw [dom_endPass, hpost, dom_modDom, if_pos rfl, ← hdom]
        exact get_post hp _ n
end

section
/-! SUPPORT. What DOMAIN_CONFIG that disables a domain does to the pilot detectors (R257): each enabled detector of the domain is IDLE,
and nothing else of the sequence of R60 reaches Tally. -/

namespace Sys2Proof.Machine

open Sys2Proof.Safety

/-! ### What leaves Tally alone -/

theorem tally_of_leaveOnly {s t : State} (h : leaveOnly s t) : t.tally = s.tally := h.1 .tally (by simp)

theorem tally_foldl {β : Type} {g : State → β → State} (h : ∀ t x, (g t x).tally = t.tally) (l : List β) (s : State) :
    (l.foldl g s).tally = s.tally := foldl_keeps State.tally h l s

section
variable (s : State)

@[simp] theorem tally_releaseLeave (cls key : Nat) : (releaseLeave cls key s).tally = s.tally :=
  tally_of_leaveOnly (leaveOnly_releaseLeave cls key s)

@[simp] theorem tally_discardSet (n cause : Nat) : (discardSet n cause s).tally = s.tally := by
  unfold discardSet
  extract_lets h s1 s2
  have h1 : s1.tally = s.tally := tally_foldl (g := fun t q => modQuern t q _) (fun _ _ => rfl) _ _
  have h2 : s2.tally = s1.tally := by
    unfold s2
    split <;> rfl
  simp [modSet, h2, h1]

@[simp] theorem tally_dropSwap (w : Swap) : (dropSwap w s).tally = s.tally := by
  unfold dropSwap
  extract_lets s1
  split
  · rw [dropSwapLeave, tally_releaseLeave]
    exact (tally_foldl (fun t p => tally_releaseLeave t _ _) _ _).trans rfl
  · rfl

@[simp] theorem tally_dropPending (d : Nat) : (dropPending d s).tally = s.tally := by
  unfold dropPending
  extract_lets s1 s2
  have h1 : s1.tally = s.tally := tally_foldl (fun t n => tally_discardSet t n 2) _ _
  have h2 : s2.tally = s1.tally := tally_foldl (fun t w => by rw [tally_dropSwap]; split <;> simp) _ _
  rw [modJex_eq, State.setJex_tally, h2, h1]

@[simp] theorem tally_stopStiles (d : Nat) : (stopStiles d s).tally = s.tally := by
  refine tally_foldl (fun t i => ?_) _ _
  dsimp only
  split <;> rfl

@[simp] theorem tally_unclockGroups (d : Nat) : (unclockGroups d s).tally = s.tally := by
  refine tally_foldl (fun t g => ?_) _ _
  split <;> rfl

@[simp] theorem tally_judgeCodes (d : Nat) : (judgeCodes d s).tally = s.tally := by
  refine tally_foldl (fun t g => ?_) _ _
  split
  · unfold loseGroup
    split <;> rfl
  · rfl

@[simp] theorem tally_refreshRates : (refreshRates s).tally = s.tally := by
  refine tally_foldl (fun t d => ?_) _ _
  split <;> rfl

end

/-! ### The detectors of a domain that is disabled (R257) -/

theorem detector_congr {s t : State} (h : t.tally = s.tally) (k : Nat) : detector t k = detector s k :=
  congrArg (fun x : Tally => (Tab.get {} x.dets k : Detector)) h

theorem detector_modDetector (s : State) (j k : Nat) (f : Detector → Detector) :
    detector (modDetector s j f) k = if k = j then f (detector s k) else detector s k := by
  rw [modDetector, modTally_eq, detector, State.setTally_tally, Tab.get_mod]
  split
  · rename_i h
    rw [h]
    rfl
  · rfl

/-- Detector k of domain d, as the loop of `stopDetectors` leaves it. -/
def stopDetector (d : Nat) (s : State) (k : Nat) : State :=
  if (detector s k).enable ∧ (detector s k).domain = d then modDetector s k Detector.idle else s

/-- An enabled detector of the domain is IDLE once the loop has come to it. -/
theorem detector_stopEach {d k : Nat} {l : List Nat} {s : State} (he : (detector s k).enable = true) (hd : (detector s k).domain = d) :
    detector (forEach l (stopDetector d) s) k = if k ∈ l then (detector s k).idle else detector s k := by
  induction l generalizing s with
  | nil => rfl
  | cons a l ih =>
    have hs : detector (stopDetector d s a) k = if k = a then (detector s k).idle else detector s k := by
      unfold stopDetector
      by_cases hk : k = a
      · rw [← hk, if_pos ⟨he, hd⟩, detector_modDetector]
      · rw [if_neg hk]
        split
        · rw [detector_modDetector, if_neg hk]
        · rfl
    change detector (forEach l (stopDetector d) (stopDetector d s a)) k = _
    by_cases hk : k = a
    · rw [if_pos hk] at hs
      rw [ih (by rw [hs]; exact he) (by rw [hs]; exact hd), hs, if_pos (List.mem_cons.mpr (.inl hk))]
      exact ite_self _
    · rw [if_neg hk] at hs
      rw [ih (by rw [hs]; exact he) (by rw [hs]; exact hd), hs]
      simp [hk]

theorem detector_stopDetectors {d k : Nat} {s : State} (hk : k < 64) (he : (detector s k).enable = true)
    (hd : (detector s k).domain = d) : detector (stopDetectors d s) k = (detector s k).idle :=
  (detector_stopEach he hd).trans (if_pos (List.mem_range.mpr hk))

theorem detector_disableDomain {d k : Nat} {s : State} (hk : k < 64) (he : (detector s k).enable = true)
    (hd : (detector s k).domain = d) : detector (disableDomain d s) k = (detector s k).idle := by
  unfold disableDomain
  extract_lets s1 s2
  have h2 : s2.tally = s.tally :=
    (tally_foldl (g := fun t (e : Nat × Line) => modLine t e.1 _) (fun _ _ => rfl) _ _).trans (tally_dropPending s d)
  have h : detector s2 k = detector s k := detector_congr h2 k
  rw [detector_congr (t := modDom _ d _) (s := stopDetectors d s2) (by simp [dropSync])]
  rw [detector_stopDetectors hk (by rw [h]; exact he) (by rw [h]; exact hd), h]

/-- DOMAIN_CONFIG with ENABLE clear on an enabled domain idles its detectors. -/
theorem detector_setDomCfg {d k : Nat} {w : Word} {s : State} (hw : bit w 31 = false) (hx : (dom s d).enable = true) (hk : k < 64)
    (he : (detector s k).enable = true) (hd : (detector s k).domain = d) : detector (setDomCfg d w s) k = (detector s k).idle := by
  have h : (setDomCfg d w s).tally = (disableDomain d s).tally := by
    unfold setDomCfg
    extract_lets on rate src grp x t s1
    have h1 : s1.tally = (disableDomain d s).tally := by
      have hon : on = false := hw
      unfold s1
      rw [hon, Bool.false_and, if_neg Bool.false_ne_true, if_neg Bool.false_ne_true, if_pos hx, tally_judgeCodes]
      exact State.setDomains_tally _ _
    rw [tally_refreshRates]
    exact h1
  rw [detector_congr h, detector_disableDomain hk he hd]

theorem tally_domainConfig {m : Fin 8} {s t : State} (htaken : taken s m 0x40 (domainConfigChecks m) = true)
    (ht : exec (.domainConfig m) s = .next t) : t.tally = (setDomCfg (fld (arg s m 1) 28 2) (arg s m 1) (acceptHead m s)).tally := by
  have h : t = skipAll (domainConfigRun m (acceptHead m s)) :=
    Host.Outcome.next.inj (ht.symm.trans (congrArg Host.Outcome.next (serve_taken s m 0x40 _ _ htaken)))
  rw [h, skipAll_tally, domainConfigRun, reply_tally, arg_acceptHead]

end Sys2Proof.Machine
end

section

open Sys2Proof Sys2Proof.Machine Sys2Proof.Safety

/-- Refutes O27: the clause for a domain that is disabled leaves Tally out of what may differ, and R257 has the enabled detectors of that
domain go to IDLE (`detector_setDomCfg`): detector 0 stands in state 1 before the command and in state 0 after it. -/
theorem not_domainConfigCommand : ¬ Obligations.DomainConfigCommand := by
  unfold Obligations.DomainConfigCommand
  intro h
  let s : State :=
    { aon := { mode := .maintenance }
      domains := [(0, { enable := true, src := 4, rate := 5, state := .locked })]
      tally := { dets := [(0, { enable := true, state := 1 })] }
      jex := { started := true }
      host := { served := true, doorbells := [0]
                mbs := [(0, { state := .queued, words := [(0, 0x40000200#32), (1, 0x00000500#32)] })] } }
  have htaken : taken s 0 0x40 (domainConfigChecks 0) = true := by decide +kernel
  obtain ⟨-, hdisable, -⟩ := h s 0 htaken
  obtain ⟨t, ht, -, hsame, -⟩ := hdisable (by decide) (by decide)
  have hidle : detector t 0 = (detector s 0).idle :=
    (detector_congr (tally_domainConfig htaken ht) 0).trans
      (detector_setDomCfg (by decide) (by decide) (by decide) (by decide) (by decide))
  have hkept : detector t 0 = detector s 0 := detector_congr (hsame .tally (by decide)) 0
  exact absurd (hkept.symm.trans hidle) (by decide)
end

section
/-! SUPPORT. Two steps of a rate reconfiguration (R57, R59): a return out of the band that starts one drops what is still held of an
earlier one, and the end of step 5 clears the list of lost sources. -/

namespace Sys2Proof.Machine

/-- Once the sets of an earlier reconfiguration are dropped, no held change of the domain carries one. -/
theorem heldChanges_dropImages {d : Nat} {s : State} {h : HeldChange} (hm : h ∈ (dropImages d s).jex.heldChanges) (hd : h.domain = d) :
    h.images = [] := by
  unfold dropImages cutOwn at hm
  extract_lets s1 at hm
  rw [modJex_eq, State.setJex_jex, List.mem_filter, List.mem_map] at hm
  obtain ⟨⟨g, -, hg⟩, -⟩ := hm
  split at hg
  · rw [← hg]
  · rename_i hn
    exact absurd (by rw [hg]; exact hd) hn

theorem jex_startReconfig (d code : Nat) (c : Bool) (s : State) : (startReconfig d code c s).jex = (dropImages d s).jex := by
  rw [startReconfig, modDom_eq, State.setDomains_jex]

/-- The policy of R57 takes a returned rate: it names a rate code that the domain permits, with no reconfiguration under way. -/
def Domain.takesRate (x : Domain) (rate : Nat) : Prop :=
  x.policy = true ∧ rateCode rate < 8 ∧ x.rateMask.getLsbD (rateCode rate) = true ∧ x.step = .none

theorem rateChange_reconfigures {d rate : Nat} {s : State} (h : (dom s d).takesRate rate) :
    ∃ u, rateChange d rate s = startReconfig d (rateCode rate) false u := ⟨_, if_pos h⟩

/-- A run in HOLDOVER outside the band is judged by the policy of R57. -/
theorem monitorResult_holdover_out {d rate : Nat} {s : State} (hh : (dom s d).state = .holdover)
    (hb : inBand rate (dom s d).rateNow = false) :
    monitorResult d rate s = rateChange d rate (modDom s d (fun y => { y with returnEv := true })) := by
  unfold monitorResult
  extract_lets x s1
  rw [show x.state = .holdover from hh]
  exact if_neg (by rw [hb]; decide)

/-- REFERENCE_MONITOR_RUN in HOLDOVER with a rate outside the band that the policy takes: no held change of the domain keeps a set. -/
theorem heldChanges_referenceMonitorRun {d : Fin 4} {ticks : Nat} {s t : State} (ht : exec (.referenceMonitorRun d ticks) s = .next t)
    (he : edgesCome s d = true) (hr : (dom s d).runEdges = some 256) (h0 : 0 < ticks) (hh : (dom s d).state = .holdover)
    (hb : inBand (runRate ticks) (dom s d).rateNow = false) (hp : (dom s d).takesRate (runRate ticks))
    {h : HeldChange} (hm : h ∈ t.jex.heldChanges) (hd : h.domain = d) : h.images = [] := by
  change execReferenceMonitorRun d ticks s = .next t at ht
  rw [execReferenceMonitorRun, if_pos ⟨he, hr, h0⟩] at ht
  generalize hz : modDom s d _ = z at ht
  have hdz : dom z d = { dom s d with refRate := runRate ticks, runEdges := some 0 } := by rw [← hz, dom_modDom, if_pos rfl]
  rw [monitorResult_holdover_out (by rw [hdz]; exact hh) (by rw [hdz]; exact hb)] at ht
  generalize hy : modDom z d _ = y at ht
  have hdy : dom y d = { dom z d with returnEv := true } := by rw [← hy, dom_modDom, if_pos rfl]
  rw [hdz] at hdy
  obtain ⟨u, hu⟩ := rateChange_reconfigures (s := y) (d := d) (rate := runRate ticks) (by rw [hdy]; exact hp)
  rw [← Host.Outcome.next.inj ht, hu, jex_startReconfig] at hm
  exact heldChanges_dropImages hm hd

/-- Step 5 ends in LOCKED as every entry into LOCKED does: no source counts as lost any more (R54, R56). -/
theorem lostRefs_reconfigRampUpDone {d : Fin 4} {s t : State} (ht : exec (.reconfigRampUpDone d) s = .next t)
    (hs : (dom s d).step = .rampUp) (hx : (dom s d).state = .switching) (hsrc : (dom s d).src ≠ 4) : (dom t d).lostRefs = [] := by
  change execReconfigRampUpDone d s = .next t at ht
  unfold execReconfigRampUpDone at ht
  rw [if_pos hs] at ht
  extract_lets s1 at ht
  rw [if_pos hx, if_neg (fun h => hsrc h.1)] at ht
  rw [← Host.Outcome.next.inj ht, dom_enterLocked]

end Sys2Proof.Machine
end

section

open Sys2Proof Sys2Proof.Machine Sys2Proof.Safety

/-- Refutes O33: the statement has every monitor run change domains and host port only, and an out-of-band run in HOLDOVER that the policy
of R57 takes starts a reconfiguration, which drops from Jexolaryn's held changes the set that one of an earlier rate left there
(`heldChanges_referenceMonitorRun`): domain 0 holds 48 kHz and one such set, and its reference returns at 44.1 kHz. -/
theorem not_referenceEvents : ¬ Obligations.ReferenceEvents := by
  unfold Obligations.ReferenceEvents
  intro h
  let held : HeldChange := { domain := 0, images := [{ quern := 0, rate := 5, words := [] }] }
  let s : State :=
    { domains := [(0, { enable := true, rateMask := 0x10#8, policy := true, rate := 5, src := 1, state := .holdover, bellRate := 4800000,
                        runEdges := some 256 })]
      jex := { heldChanges := [held] } }
  obtain ⟨-, -, -, -, -, hrun, -⟩ := h s 0
  obtain ⟨t, ht, ⟨hsame, -⟩, -⟩ := hrun 1141310 ⟨rfl, .inl rfl⟩ rfl (by decide)
  have hjex : t.jex = s.jex := hsame .jex (by decide)
  have hmem : held ∈ t.jex.heldChanges := by
    rw [hjex]
    exact List.mem_singleton.mpr rfl
  have hdropped : held.images = [] :=
    heldChanges_referenceMonitorRun ht (by decide) rfl (by decide) rfl (by decide) ⟨rfl, by decide, by decide, rfl⟩ hmem rfl
  exact absurd hdropped (by decide)

/-- Refutes O34: the end of step 5 with nothing lost on the way is an entry into LOCKED, which clears the list of lost sources
(`lostRefs_reconfigRampUpDone`), and the record that the statement gives keeps that list: domain 0 lost the reference of group 0 before
the return at another rate that began the reconfiguration. -/
theorem not_rateReconfiguration : ¬ Obligations.RateReconfiguration := by
  unfold Obligations.RateReconfiguration
  intro h
  let s : State := { domains := [(0, { enable := true, src := 1, state := .switching, step := .rampUp, lostRefs := [(1, 0)] })] }
  obtain ⟨-, -, -, -, -, hrampUp, -⟩ := h s 0
  obtain ⟨t, ht, -, -, hdom⟩ := hrampUp rfl
  have hcleared : (dom t 0).lostRefs = [] := lostRefs_reconfigRampUpDone ht rfl rfl (by decide)
  have hkept : (dom t 0).lostRefs = [(1, 0)] := (congrArg Domain.lostRefs hdom).trans (by decide)
  exact absurd (hcleared.symm.trans hkept) (by decide)
end

section
/-! SUPPORT. A Quern row that the loader accepts ends as one slot of its operation, and what a slot writes where the operation
is none of the shared ones. -/

namespace Sys2Proof.Machine

open Sys2Proof.Safety

/-- An accepted row completes as the slot of its operation. -/
theorem completes_row {i : Instr} {q : Nat} {f : State → Quern → Quern} {s : State} {p : State → Prop}
    (hx : exec i s = quernStep i q (onQuern q f) s) (hw : WellFormed i = true) (hp : p (quernSlot q (onQuern q f) s)) :
    ∃ t, exec i s = .next t ∧ p t :=
  ⟨_, hx.trans (quernStep_next i q _ s hw), hp⟩

/-- An accepted row whose slot is described by a value v completes, with that value. -/
theorem completes_row_with {i : Instr} {q : Nat} {f : State → Quern → Quern} {s : State} {v : Int} {g : Int → Prop} {p : State → Int → Prop}
    (hx : exec i s = quernStep i q (onQuern q f) s) (hw : WellFormed i = true) (hg : g v) (hp : p (quernSlot q (onQuern q f) s) v) :
    ∃ t v, exec i s = .next t ∧ g v ∧ p t v :=
  ⟨_, v, hx.trans (quernStep_next i q _ s hw), hg, hp⟩

section Slots
variable (q : Nat) (dd : Fin 8) (a b : Opnd) (s : State) (h : (quern s q).rep ≤ 1)
include h

/-- A slot that writes Dd and SAT and steps one operand. -/
theorem registerOne_slot (f : State → Quern → Quern) (v : Sample) (c : Bool)
    (hf : f s (quern s q) = (((quern s q).setD dd v).orSat c).advance a) :
    wroteD q dd [a] s (quernSlot q (onQuern q f) s) v.toInt c := by
  apply wroteD_of q dd [a] f s v c h
  · rw [hf]
    exact advance_only _ a
  · intro p
    rw [hf, advance_ptr]
    exact steppedPtr_congr _ _ (by rfl) _ _

/-- A slot that writes Dd and SAT and steps two operands. -/
theorem registerTwo_slot (f : State → Quern → Quern) (v : Sample) (c : Bool) (hc : clash a b = false)
    (hf : f s (quern s q) = ((((quern s q).setD dd v).orSat c).advance a).advance b) :
    wroteD q dd [a, b] s (quernSlot q (onQuern q f) s) v.toInt c := by
  apply wroteD_of q dd [a, b] f s v c h
  · rw [hf]
    exact advance_advance_only _ a b
  · intro p
    rw [hf, advance_advance_ptr _ _ _ hc]
    exact steppedPtr_congr _ _ (by rfl) _ _

/-- Dd := f a, saturated. -/
theorem saturatedOne_slot (f : Sample → Int) :
    wroteD q dd [a] s (quernSlot q (onQuern q (dataOne dd a (fun x => sat20 (f x)))) s) (clamp20 (f (readOp s (quern s q) a)))
      (outside20 (f (readOp s (quern s q) a))) := by
  rw [← sat20_toInt, ← sat20_clips]
  exact dataOne_slot q dd a _ s h

/-- Dd := f a b, saturated. -/
theorem saturatedTwo_slot (f : Sample → Sample → Int) (hc : clash a b = false) :
    wroteD q dd [a, b] s (quernSlot q (onQuern q (dataTwo dd a b (fun x y => sat20 (f x y)))) s)
      (clamp20 (f (readOp s (quern s q) a) (readOp s (quern s q) b)))
      (outside20 (f (readOp s (quern s q) a) (readOp s (quern s q) b))) := by
  rw [← sat20_toInt, ← sat20_clips]
  exact dataTwo_slot q dd a b _ s h hc

end Slots

/-- SAT stays where nothing clips. -/
theorem orSat_false (u : Quern) : u.orSat false = u := by
  simp only [Quern.orSat, Bool.or_false]

/-- The larger of two words as a number. -/
theorem toInt_ite_le (v w : Sample) : (if v.toInt ≤ w.toInt then w else v).toInt = max v.toInt w.toInt := by
  rw [apply_ite BitVec.toInt, max_def]

/-- The model's reading of a condition code is that of R90. -/
theorem holds_eq (u : Quern) (c : Fin 16) : u.holds c = conditionHolds u c := by
  unfold Quern.holds condHolds conditionHolds
  split <;> simp_all

/-- PEAK (R94). -/
theorem peak_slot (q : Nat) (dd : Fin 8) (a : Opnd) (s : State) (h : (quern s q).rep ≤ 1) :
    let x := (readOp s (quern s q) a).toInt
    wroteD q dd [a] s (quernSlot q (onQuern q (opPeak dd a)) s) (max ((quern s q).dreg dd).toInt (clamp20 |x|)) (outside20 |x|) := by
  intro x
  rw [← sat20_toInt, ← sat20_clips, ← toInt_ite_le, ← Int.natCast_natAbs]
  exact registerOne_slot q dd a s h _ _ _ rfl

/-- SEL (R90). -/
theorem sel_slot (q : Nat) (c : Fin 16) (dd : Fin 8) (a b : Opnd) (s : State) (h : (quern s q).rep ≤ 1) (hc : clash a b = false) :
    let u := quern s q
    wroteD q dd [a, b] s (quernSlot q (onQuern q (opSel c dd a b)) s)
      (if conditionHolds u c then (readOp s u a).toInt else (readOp s u b).toInt) false := by
  intro u
  rw [← holds_eq, ← apply_ite BitVec.toInt]
  refine registerTwo_slot q dd a b s h _ _ _ hc ?_
  rw [orSat_false, opSel]

/-- ENV (R93). -/
theorem env_slot (q : Nat) (cf : Bool) (dd : Fin 8) (a b : Opnd) (s : State) (h : (quern s q).rep ≤ 1) (hc : clash a b = false) :
    let u := quern s q
    let e := (u.dreg dd).toInt
    let x := (readOp s u a).toInt
    let k := if e < x then (readPair s u b).1.toInt else (readPair s u b).2.toInt
    let r := e + conv ((x - e) * k) (if cf then 16 else 19)
    wroteD q dd [a, b] s (quernSlot q (onQuern q (opEnv cf dd a b)) s) (clamp20 r) (outside20 r) := by
  intro u e x k r
  have hk : k = (if x > e then (readPair s u b).1 else (readPair s u b).2).toInt := (apply_ite BitVec.toInt _ _ _).symm
  have hr : envWord cf (u.dreg dd) (readOp s u a) (readPair s u b).1 (readPair s u b).2 = sat20 r := by
    simp only [r, hk]
    rfl
  rw [← sat20_toInt, ← sat20_clips]
  refine registerTwo_slot q dd a b s h _ _ _ hc ?_
  rw [← hr, opEnv]

end Sys2Proof.Machine
end

section

open Sys2Proof Sys2Proof.Machine Sys2Proof.Safety

/-- Settles O1: each row is one slot of the shared operation on one operand (`saturatedOne_slot`), PEAK one that also reads Dd. -/
theorem dataOneOperand : Obligations.DataOneOperand := by
  unfold Obligations.DataOneOperand
  intro q dd a sh s h x e
  refine ⟨fun hw => ?mov, fun hw => ?abs, fun hw => ?neg, fun hw => ?shf, fun hw => ?peak⟩
  case mov => exact completes_row rfl hw (dataOne_slot q dd a _ s h)
  case abs =>
    rw [← Int.natCast_natAbs]
    exact completes_row rfl hw (saturatedOne_slot q dd a s h _)
  case neg => exact completes_row rfl hw (saturatedOne_slot q dd a s h _)
  case shf => exact completes_row_with rfl hw (shiftBy_isShifted x _) (saturatedOne_slot q dd a s h _)
  case peak => exact completes_row rfl hw (peak_slot q dd a s h)

/-- Settles O2: each row is one slot of the shared operation on two operands, which do not clash (R105); SEL and ENV also read the
conditions and Dd. -/
theorem dataTwoOperands : Obligations.DataTwoOperands := by
  unfold Obligations.DataTwoOperands
  intro q dd a b c cf s h u x y e k
  refine ⟨fun hw => ?add, fun hw => ?sub, fun hw => ?min, fun hw => ?max, fun hw => ?sel, fun hw => ?env⟩
  all_goals have hc : clash a b = false := clash_of_wf a b _ hw (by simp [loaderChecks, twoOps])
  case add => exact completes_row rfl hw (saturatedTwo_slot q dd a b s h _ hc)
  case sub => exact completes_row rfl hw (saturatedTwo_slot q dd a b s h _ hc)
  case min =>
    rw [min_def, ← apply_ite BitVec.toInt]
    exact completes_row rfl hw (dataTwo_slot q dd a b _ s h hc)
  case max =>
    rw [max_def, ← apply_ite BitVec.toInt]
    exact completes_row rfl hw (dataTwo_slot q dd a b _ s h hc)
  case sel => exact completes_row rfl hw (sel_slot q c dd a b s h hc)
  case env => exact completes_row_with rfl hw (conv_isRounded _ _) (env_slot q cf dd a b s h hc)

end

section
/-! SUPPORT. The integer procedures of LOG2 (R91) and EXP2 (R92) as numbers. -/

namespace Sys2Proof.Machine

open Sys2Proof.Safety

/-- A number in the range of a sample is kept by the word that holds it. -/
theorem smp_toInt {x : Int} (hlo : -524288 ≤ x) (hhi : x ≤ 524287) : (smp x).toInt = x :=
  BitVec.toInt_ofInt_eq_self (by decide) hlo (by omega)

/-- The fraction of R91, below the leading power 2^k, scaled to 14 bits. -/
def log2Fraction (n k : Nat) : Nat := (n - 2 ^ k) * 16384 / 2 ^ k

/-- The model's two ways to the fraction are one division. -/
theorem log2Fraction_eq (n k : Nat) :
    (if k ≥ 14 then (n - 2 ^ k) / 2 ^ (k - 14) else (n - 2 ^ k) * 2 ^ (14 - k)) = log2Fraction n k := by
  unfold log2Fraction
  split
  case isTrue hk =>
    have hp : 2 ^ k = 2 ^ (k - 14) * 16384 := by
      rw [← pow_sub_mul_pow 2 hk]
      norm_num
    rw [show (n - 2 ^ k) * 16384 / 2 ^ k = (n - 2 ^ k) * 16384 / (2 ^ (k - 14) * 16384) by rw [hp], Nat.mul_div_mul_right _ _ (by decide)]
  case isFalse hk =>
    have hp : 16384 = 2 ^ (14 - k) * 2 ^ k := by
      rw [pow_sub_mul_pow 2 (by omega)]
      norm_num
    rw [hp, ← mul_assoc, Nat.mul_div_cancel _ (by positivity)]

theorem log2Fraction_lt {n k : Nat} (h : n < 2 ^ (k + 1)) : log2Fraction n k < 16384 := by
  unfold log2Fraction
  apply Nat.div_lt_of_lt_mul
  rw [pow_succ] at h
  have : n - 2 ^ k < 2 ^ k := by omega
  exact (Nat.mul_lt_mul_right (by decide)).mpr this

/-- The correction of R91 and R92 is small. -/
theorem correction_le {m : Nat} : 11 * m * (16384 - m) / 2 ^ 19 ≤ 11 * m / 32 := by
  calc 11 * m * (16384 - m) / 2 ^ 19 ≤ 11 * m * 16384 / 2 ^ 19 := by gcongr; omega
    _ = 11 * m / 32 := by omega

theorem log2Word_zero {a : Sample} (h : a.toInt = 0) : (log2Word a).toInt = -524288 := by
  simp only [log2Word, h, Int.natAbs_zero, if_true]
  exact smp_toInt (by decide) (by decide)

/-- LOG2 of a number between 2^k and 2^(k+1). -/
theorem log2Word_toInt {a : Sample} {k : Nat} (hlo : 2 ^ k ≤ a.toInt.natAbs) (hhi : a.toInt.natAbs < 2 ^ (k + 1)) :
    let m := log2Fraction a.toInt.natAbs k
    (log2Word a).toInt = ((k : Int) - 19) * 16384 + m + (11 * m * (16384 - m) / 2 ^ 19 : Nat) := by
  intro m
  have hne : a.toInt.natAbs ≠ 0 := by
    have : 0 < 2 ^ k := by positivity
    omega
  have hk : leadOne a.toInt.natAbs = k := (Nat.log2_eq_iff hne).mpr ⟨hlo, hhi⟩
  have hw : log2Word a = smp (((k : Int) - 19) * 16384 + m + (11 * m * (16384 - m) / 2 ^ 19 : Nat)) := by
    simp only [log2Word, if_neg hne, hk, log2Fraction_eq, m]
  have hk19 : k ≤ 19 := by
    have h2 : 2 ^ k < 2 ^ 20 := by
      have := a.toInt_lt
      have := a.le_toInt
      omega
    have := (Nat.pow_lt_pow_iff_right (by decide)).mp h2
    omega
  have hm : m < 16384 := log2Fraction_lt hhi
  have hc := correction_le (m := m)
  rw [hw]
  generalize 11 * m * (16384 - m) / 2 ^ 19 = c at hc
  exact smp_toInt (by omega) (by omega)

/-- The same over the integers, as R91 writes it. -/
theorem log2Word_abs {a : Sample} {k : Nat} (hlo : 2 ^ k ≤ |a.toInt|) (hhi : |a.toInt| < 2 ^ (k + 1)) :
    let m := (|a.toInt| - 2 ^ k) * 16384 / 2 ^ k
    (log2Word a).toInt = ((k : Int) - 19) * 16384 + m + 11 * m * (16384 - m) / 2 ^ 19 := by
  intro m
  have hn : |a.toInt| = (a.toInt.natAbs : Int) := (Int.natCast_natAbs _).symm
  rw [hn] at hlo hhi
  norm_cast at hlo hhi
  have hm : m = (log2Fraction a.toInt.natAbs k : Nat) := by
    simp only [m, hn, log2Fraction]
    push_cast [Nat.cast_sub hlo]
    rfl
  rw [log2Word_toInt hlo hhi, hm]
  push_cast [Nat.cast_sub (log2Fraction_lt hhi).le]
  rfl

theorem exp2Word_clips (a : Sample) : (exp2Word a).2 = decide (0 ≤ a.toInt) := by
  simp only [exp2Word, ge_iff_le]
  split
  case isTrue h => exact (decide_eq_true h).symm
  case isFalse h => exact (decide_eq_false h).symm

theorem exp2Word_nonneg {a : Sample} (h : 0 ≤ a.toInt) : (exp2Word a).1.toInt = 524287 := by
  simp only [exp2Word, ge_iff_le, if_pos h]
  exact smp_toInt (by decide) (by decide)

/-- The mantissa of R92 for a fraction f. -/
def exp2Mantissa (f : Int) : Int := 16384 + f - 11 * f * (16384 - f) / 2 ^ 19

theorem exp2Mantissa_range {f : Int} (h0 : 0 ≤ f) (h1 : f < 16384) : 16384 ≤ exp2Mantissa f ∧ exp2Mantissa f < 32768 := by
  unfold exp2Mantissa
  have hlo : 0 ≤ 11 * f * (16384 - f) / 2 ^ 19 := Int.ediv_nonneg (mul_nonneg (by omega) (by omega)) (by decide)
  have hhi : 11 * f * (16384 - f) / 2 ^ 19 ≤ f := by
    have : 11 * f * (16384 - f) ≤ 11 * f * 16384 := by gcongr; omega
    omega
  omega

/-- Rounding stays between whole bounds. -/
theorem isRounded_range {x v lo hi : Int} {r : Nat} (h : isRounded x r v) (hlo : lo * 2 ^ r ≤ x) (hhi : x ≤ hi * 2 ^ r) : lo ≤ v ∧ v ≤ hi := by
  obtain ⟨hd, -⟩ := h
  have hp : (0 : Int) < 2 ^ r := by positivity
  obtain ⟨hb, ha⟩ := abs_le.mp (show |x - v * 2 ^ r| ≤ 2 ^ r / 2 by omega)
  have below : (lo - 1) * 2 ^ r < v * 2 ^ r := by
    rw [sub_mul]
    omega
  have above : v * 2 ^ r < (hi + 1) * 2 ^ r := by
    rw [add_mul]
    omega
  have := lt_of_mul_lt_mul_right below hp.le
  have := lt_of_mul_lt_mul_right above hp.le
  omega

/-- The shifted mantissa of an operand below 0 is a sample word. -/
theorem shiftBy_mantissa_range {m i : Int} (h0 : 0 ≤ m) (h1 : m < 32768) (hi : i < 0) :
    0 ≤ shiftBy m (5 + i) ∧ shiftBy m (5 + i) ≤ 524287 := by
  unfold shiftBy
  split
  case isTrue ht =>
    have hle : (2 : Int) ^ (5 + i).toNat ≤ 2 ^ 4 := by
      gcongr
      · decide
      · omega
    constructor
    · positivity
    · calc m * 2 ^ (5 + i).toNat ≤ 32767 * 2 ^ 4 := by gcongr; omega
        _ ≤ 524287 := by decide
  case isFalse ht =>
    have hp : (1 : Int) ≤ 2 ^ (-(5 + i)).toNat := one_le_pow₀ (by decide)
    exact isRounded_range (conv_isRounded m _) (by omega) (by omega)

/-- EXP2 of a number below 0. -/
theorem exp2Word_neg {a : Sample} {i f : Int} (ha : a.toInt = i * 16384 + f) (h0 : 0 ≤ f) (h1 : f < 16384) (hi : i < 0) :
    (exp2Word a).1.toInt = shiftBy (exp2Mantissa f) (5 + i) := by
  have hq : a.toInt / 16384 = i := by omega
  have hf : a.toInt - i * 16384 = f := by omega
  have hw : exp2Word a = (smp (shiftBy (exp2Mantissa f) (5 + i)), false) := by
    simp only [exp2Word, ge_iff_le, if_neg (show ¬ 0 ≤ a.toInt by omega), hq, hf, shiftBy, exp2Mantissa]
  obtain ⟨hlo, hhi⟩ := exp2Mantissa_range h0 h1
  obtain ⟨hs0, hs1⟩ := shiftBy_mantissa_range (by omega) hhi hi
  rw [hw]
  exact smp_toInt (by omega) hs1

end Sys2Proof.Machine
end

section

open Sys2Proof Sys2Proof.Machine Sys2Proof.Safety

/-- Settles O3: the two words as numbers (`log2Word_toInt`, `exp2Word_neg`), written by one slot of the shared operation on one operand. -/
theorem logarithmAndPower : Obligations.LogarithmAndPower := by
  unfold Obligations.LogarithmAndPower
  intro q dd a s h x
  refine ⟨fun hw => ?log2, fun hw => ?exp2⟩
  case log2 =>
    refine ⟨_, _, quernStep_next _ _ _ s hw, dataOne_slot q dd a _ s h, log2Word_zero, fun k => log2Word_abs⟩
  case exp2 =>
    refine ⟨_, (exp2Word (readOp s (quern s q) a)).1.toInt, quernStep_next _ _ _ s hw, ?_, exp2Word_nonneg, fun i f hx h0 h1 hi => ?_⟩
    · rw [← exp2Word_clips]
      exact dataOne_slot q dd a _ s h
    · rw [exp2Word_neg hx h0 h1 hi]
      exact shiftBy_isShifted _ _

end

section
/-! SUPPORT. Slots of the multiply and accumulator rows (R77, R85, R90). -/

namespace Sys2Proof.Machine

open Sys2Proof.Safety

/-- A sum of two products shares the alignment of its coefficients. -/
theorem product_add (cf : Bool) (a b c d : Sample) :
    product cf a b + product cf c d = (a.toInt * b.toInt + c.toInt * d.toInt) * (if cf then 8 else 1) :=
  (add_mul _ _ _).symm

/-- An accumulator that takes the value of an accumulator takes it unclipped. -/
theorem sat52_accumulator (v : BitVec 52) : sat52 v.toInt = (v, false) := by
  have hlo := v.le_toInt
  have hhi := v.toInt_lt
  simp only [sat52]
  rw [if_neg (by omega), if_neg (by omega), BitVec.ofInt_toInt]

theorem accPut_toInt (u : Quern) (n : Nat) (v : BitVec 52) : u.accPut n v.toInt = u.setAcc n v := by
  rw [Quern.accPut, sat52_accumulator]
  simp only [Quern.orOva, Bool.or_false]

section Slots
variable (q : Nat) (c d : Fin 4) (cf : Bool) (a b : Opnd) (s : State) (h : (quern s q).rep ≤ 1)
include h

/-- ACC1 := v, an accumulator's value. -/
theorem setAcc_slot (f : State → Quern → Quern) (v : BitVec 52) (hf : f s (quern s q) = (quern s q).setAcc c v) :
    wroteAcc q [(c, clamp52 v.toInt)] [] s (quernSlot q (onQuern q f) s) (outside52 v.toInt) := by
  rw [← accPut_toInt] at hf
  apply accOne_slot q c [] f s _ h
  · rw [hf]
  · intro p
    rw [hf]
    rfl

/-- ACC1 := f (old) (a0 * b0 + a1 * b1), the sum aligned at once. -/
theorem dualSum_slot (f : Int → Int → Int) (hc : clash a b = false) :
    let x := readPair s (quern s q) a
    let y := readPair s (quern s q) b
    let v := f ((quern s q).accu c).toInt ((x.1.toInt * y.1.toInt + x.2.toInt * y.2.toInt) * (if cf then 8 else 1))
    wroteAcc q [(c, clamp52 v)] [a, b] s (quernSlot q (onQuern q (dualOp c cf a b f)) s) (outside52 v) := by
  intro x y v
  simp only [v, ← product_add]
  exact dualOp_slot q c cf a b f s h hc

/-- CLRA (R85). -/
theorem clra_slot : wroteAcc q [(c, clamp52 0)] [] s (quernSlot q (onQuern q (opClra c)) s) (outside52 0) :=
  setAcc_slot q c s h _ 0 rfl

/-- SELA (R90). -/
theorem sela_slot (k : Fin 16) :
    let u := quern s q
    let v := if conditionHolds u k then (u.accu c).toInt else (u.accu d).toInt
    wroteAcc q [(c, clamp52 v)] [] s (quernSlot q (onQuern q (opSela c d k)) s) (outside52 v) := by
  intro u v
  simp only [v, ← holds_eq, ← apply_ite BitVec.toInt]
  exact setAcc_slot q c s h _ _ rfl

/-- SHA (R85). -/
theorem sha_slot (sh : BitVec 13) :
    let v := shiftBy ((quern s q).accu c).toInt sh.toInt
    wroteAcc q [(c, clamp52 v)] [] s (quernSlot q (onQuern q (opSha c sh)) s) (outside52 v) :=
  accOne_slot q c [] _ s _ h rfl (fun _ => rfl)

end Slots

/-- The two accumulators of an accepted pair row are different (R105 code 0x09). -/
theorem accumulators_ne {i : Instr} {c d : Fin 4} (h : WellFormed i = true) (hi : (0x09, c != d) ∈ loaderChecks i) : c ≠ d := by
  simpa using wf_check h hi

end Sys2Proof.Machine
end

section

open Sys2Proof Sys2Proof.Machine Sys2Proof.Safety

/-- Settles O4: each row is one slot of the product (`mulOp_slot`) or of the sum of two products (`dualSum_slot`). -/
theorem multiplyRows : Obligations.MultiplyRows := by
  unfold Obligations.MultiplyRows
  intro q c cf a b s h u k p d old done
  refine ⟨fun hw => ?mpy, fun hw => ?mac, fun hw => ?msu, fun hw => ?dmpy, fun hw => ?dmac, fun hw => ?dmsu⟩
  all_goals have hc : clash a b = false := clash_of_wf a b _ hw (by simp [loaderChecks, twoPairs, twoOps])
  case mpy => exact completes_row rfl hw (mulOp_slot q c cf a b asgn s h hc)
  case mac => exact completes_row rfl hw (mulOp_slot q c cf a b plus s h hc)
  case msu => exact completes_row rfl hw (mulOp_slot q c cf a b minus s h hc)
  case dmpy => exact completes_row rfl hw (dualSum_slot q c cf a b s h asgn hc)
  case dmac => exact completes_row rfl hw (dualSum_slot q c cf a b s h plus hc)
  case dmsu => exact completes_row rfl hw (dualSum_slot q c cf a b s h minus hc)

/-- Settles O5: each row is one slot of the two products (`pairOp_slot`); the loader sees to two different accumulators. -/
theorem pairMultiplyRows : Obligations.PairMultiplyRows := by
  unfold Obligations.PairMultiplyRows
  intro q c d cf a b s h u k p r x y done
  refine ⟨fun hw => ?pmpy, fun hw => ?pmac, fun hw => ?pmsu⟩
  all_goals
    have hc : clash a b = false := clash_of_wf a b _ hw (by simp [loaderChecks, twoPairs, twoOps])
    have hcd : c ≠ d := accumulators_ne hw (by simp [loaderChecks, twoPairs, twoOps])
  case pmpy => exact completes_row rfl hw (pairOp_slot q c d cf a b asgn s h hc hcd)
  case pmac => exact completes_row rfl hw (pairOp_slot q c d cf a b plus s h hc hcd)
  case pmsu => exact completes_row rfl hw (pairOp_slot q c d cf a b minus s h hc hcd)

/-- Settles O6: each row is one slot that writes ACC1, from an operand (`loadOp_slot`), from two accumulators (`accOp_slot`), or
shifted, cleared or selected. -/
theorem accumulatorRows : Obligations.AccumulatorRows := by
  unfold Obligations.AccumulatorRows
  intro q c d cf a sh k s h u v x y done
  refine ⟨fun hw => ?lda, fun hw => ?adda, fun hw => ?suba, ?clra, ?mova, ?addaa, ?subaa, fun hw => ?sha, fun hw => ?sela⟩
  case lda => exact completes_row rfl hw (loadOp_slot q c cf a asgn s h)
  case adda => exact completes_row rfl hw (loadOp_slot q c cf a plus s h)
  case suba => exact completes_row rfl hw (loadOp_slot q c cf a minus s h)
  case clra => exact completes_row rfl rfl (clra_slot q c s h)
  case mova => exact completes_row rfl rfl (accOp_slot q c d asgn s h)
  case addaa => exact completes_row rfl rfl (accOp_slot q c d plus s h)
  case subaa => exact completes_row rfl rfl (accOp_slot q c d minus s h)
  case sha => exact completes_row_with rfl hw (shiftBy_isShifted x _) (sha_slot q c s h sh)
  case sela => exact completes_row rfl hw (sela_slot q c d s h k)

end

section
/-! SUPPORT. Stores of the Quern: what a write to one of the four memories leaves (R75, R88, R102), and the slot that makes it. -/

namespace Sys2Proof.Machine

open Sys2Proof.Safety

/-- The first pair of index n after an insertion at index k. -/
theorem Tab.find_ins {α : Type} (t : Tab α) (k n : Nat) (v : α) :
    ((Tab.ins t k v).find? (fun e => e.1 == n)).map (·.2) = if n = k then some v else (t.find? (fun e => e.1 == n)).map (·.2) := by
  have head (l : Tab α) : (((k, v) :: l).find? (fun e => e.1 == n)).map (·.2) = if n = k then some v else (l.find? (fun e => e.1 == n)).map (·.2) := by
    rcases eq_or_ne n k with rfl | hn
    · simp
    · simp [hn, hn.symm]
  induction t with
  | nil => exact head []
  | cons e t ih =>
    obtain ⟨j, w⟩ := e
    simp only [Tab.ins]
    split
    case isTrue hlt => exact head _
    case isFalse hlt =>
      split
      case isTrue hj =>
        rw [head]
        rcases eq_or_ne n k with rfl | hn
        · simp
        · simp [hj, hn, hn.symm]
      case isFalse hj =>
        rcases eq_or_ne j n with rfl | hn
        · simp [hj]
        · simpa [hn] using ih

/-- A Square word written in the pass (R88). -/
theorem outAt_ins (u : Quern) (k n : Nat) (v : Sample) :
    outAt { u with outs := Tab.ins u.outs k v } n = if n = k then some v else outAt u n :=
  Tab.find_ins u.outs k n v

/-- PF and the word it names, the condition as the statements write it (R102, R103). -/
theorem setPf_eq (u : Quern) : u.setPf = { u with pf := true, qPfWord := if !(u.pf || u.qPf) then u.pc else u.qPfWord } := by
  simp only [Quern.setPf, Bool.not_eq_true', ← Bool.not_eq_true, ite_not]

/-- A write to memory, by memory: the word where the record allows the store, PF where it does not (R75, R88, R102). -/
theorem storedWord_writeMem (u : Quern) (m : IndT) (a : Nat) (ind : Bool) (v : Sample) : storedWord u (u.writeMem m a v ind) m a ind v := by
  have allowed {p : Nat → Prop} {k : Nat} (hp : p k) (i : Nat) : i = k ∧ p i ↔ i = k := and_iff_left_of_imp fun e => e ▸ hp
  have refused {p : Nat → Prop} {k : Nat} (hp : ¬ p k) (i : Nat) : ¬ (i = k ∧ p i) := fun e => hp (e.1 ▸ e.2)
  cases m with
  | scr => simp [storedWord, Quern.writeMem, storeBarred, outAt, Tab.get_set]
  | led =>
    by_cases hw : u.workBase ≤ a % 4096
    · simp [storedWord, Quern.writeMem, storeBarred, outAt, Tab.get_set, hw, hw.not_gt, allowed (p := (u.workBase ≤ ·)) hw]
    · cases ind <;> simp [storedWord, Quern.writeMem, setPf_eq, storeBarred, outAt, hw, not_le.mp hw, refused (p := (u.workBase ≤ ·)) hw]
  | nb =>
    by_cases hw : a % 256 < 192
    · simp [storedWord, Quern.writeMem, storeBarred, outAt, Tab.get_set, hw, allowed (p := (· < 192)) hw]
    · cases ind <;> simp [storedWord, Quern.writeMem, setPf_eq, storeBarred, outAt, hw, not_lt.mp hw, refused (p := (· < 192)) hw]
  | sqr =>
    by_cases hw : u.owns (a % 8192) = true
    · simp [storedWord, Quern.writeMem, storeBarred, hw, outAt_ins, allowed (p := (u.owns · = true)) hw]
    · simp [storedWord, Quern.writeMem, setPf_eq, storeBarred, outAt, hw, refused (p := (u.owns · = true)) hw]

/-- A write to memory touches the memories and the record of PF only. -/
theorem writeMem_only (u : Quern) (m : IndT) (a : Nat) (v : Sample) (ind : Bool) :
    let w := u.writeMem m a v ind
    w = { u with scratch := w.scratch, ledgerA := w.ledgerA, ledgerS := w.ledgerS, nb := w.nb, outs := w.outs, pf := w.pf, qPfWord := w.qPfWord } := by
  unfold Quern.writeMem
  cases m with
  | scr => rfl
  | led =>
    dsimp only
    split
    · rfl
    · split <;> rfl
  | nb =>
    dsimp only
    split
    · rfl
    · split <;> rfl
  | sqr =>
    dsimp only
    split <;> rfl

/-- A destination operand is written as a word of its memory. -/
theorem writeOp_destination {u : Quern} {a : Opnd} {d : IndT × Nat × Bool} (h : destination u a = some d) (v : Sample) :
    u.writeOp a v = u.writeMem d.1 d.2.1 v d.2.2 := by
  cases a <;> cases h <;> rfl

theorem storedWord_writeOp {u : Quern} {a : Opnd} {d : IndT × Nat × Bool} (h : destination u a = some d) (v : Sample) :
    storedWord u (u.writeOp a v) d.1 d.2.1 d.2.2 v := by
  rw [writeOp_destination h]
  exact storedWord_writeMem u _ _ _ v

/-- An operand that cannot be written is not. -/
theorem writeOp_none {u : Quern} {a : Opnd} (h : destination u a = none) (v : Sample) : u.writeOp a v = u := by
  cases a
  case reg | imm | gld => rfl
  all_goals cases h

/-- A store touches the memories and the record of PF only. -/
theorem writeOp_only (u : Quern) (a : Opnd) (v : Sample) :
    let w := u.writeOp a v
    w = { u with scratch := w.scratch, ledgerA := w.ledgerA, ledgerS := w.ledgerS, nb := w.nb, outs := w.outs, pf := w.pf, qPfWord := w.qPfWord } := by
  cases hd : destination u a with
  | none => rw [writeOp_none hd]
  | some d =>
    rw [writeOp_destination hd]
    exact writeMem_only u _ _ v _

/-- A slot that stores v at operand a, sets SAT and steps the operand. -/
theorem storeRow_slot (q : Nat) (a : Opnd) (f : State → Quern → Quern) (s : State) (v : Sample) (c : Bool) (h : (quern s q).rep ≤ 1)
    (hf : f s (quern s q) = (((quern s q).writeOp a v).orSat c).advance a) :
    wroteMem q a s (quernSlot q (onQuern q f) s) v c := by
  obtain ⟨-, hq⟩ := quernSlot_onQuern q f s h
  have hst := fun d hd => storedWord_writeOp (u := quern s q) (a := a) (d := d) hd v
  obtain ⟨scratch, ledgerA, ledgerS, nb, outs, pf, qPfWord, hw⟩ : ∃ scratch ledgerA ledgerS nb outs pf qPfWord, (quern s q).writeOp a v =
      { quern s q with scratch := scratch, ledgerA := ledgerA, ledgerS := ledgerS, nb := nb, outs := outs, pf := pf, qPfWord := qPfWord } :=
    ⟨_, _, _, _, _, _, _, writeOp_only (quern s q) a v⟩
  rw [hw] at hf hst
  refine ⟨slotRan_onQuern q f [a] s h ?pc fun p => ?ptr, ?frame, fun d hd => ?word⟩
  case pc =>
    rw [hf, advance_only]
    rfl
  case ptr =>
    rw [hf, advance_ptr]
    exact steppedPtr_congr _ _ (by rfl) _ _
  case frame =>
    rw [hq, hf, advance_only]
    rfl
  case word =>
    rw [hq, hf, advance_only]
    exact hst d hd

/-- STA (R78): the rounded accumulator in Dd. -/
theorem sta_slot (q : Nat) (c : Fin 4) (dd : Fin 8) (sh : BitVec 13) (s : State) (h : (quern s q).rep ≤ 1) :
    let v := conv ((quern s q).accu c).toInt (19 - sh.toInt).toNat
    wroteD q dd [] s (quernSlot q (onQuern q (opSta c dd sh)) s) (clamp20 v) (outside20 v) := by
  intro v
  rw [← sat20_toInt, ← sat20_clips]
  exact wroteD_of q dd [] _ s _ _ h rfl (fun _ => rfl)

end Sys2Proof.Machine
end

section

open Sys2Proof Sys2Proof.Machine Sys2Proof.Safety

/-- Settles O7: the store conversion rounds as R78 says (`conv_isRounded`), and the slot writes Dd or stores the word (`storeRow_slot`). -/
theorem storeConversion : Obligations.StoreConversion := by
  unfold Obligations.StoreConversion
  intro q c dd a b sh s h u
  refine ⟨fun hw => ?sta, fun hw => ?stam, fun hw => ?st⟩
  case sta => exact completes_row_with rfl hw (conv_isRounded _ _) (sta_slot q c dd sh s h)
  case stam =>
    refine completes_row_with rfl hw (conv_isRounded _ _) ?_
    rw [← sat20_word, ← sat20_clips]
    exact storeRow_slot q a _ s _ _ h rfl
  case st => 
    refine completes_row rfl hw (storeRow_slot q a _ s _ _ h ?_)
    rw [orSat_false, opSt]

end

section
/-! SUPPORT. Rows that the loader refuses (R105), TSTF, SETP and REP (R89, R98, R99). -/

namespace Sys2Proof.Machine

open Sys2Proof.Safety

/-- The lowest of a list is in it, and no other is lower. -/
theorem lowest_spec {l : List Nat} {c : Nat} (h : lowest l = some c) : c ∈ l ∧ ∀ k ∈ l, c ≤ k := by
  induction l generalizing c with
  | nil => cases h
  | cons d l ih =>
    rw [lowest] at h
    split at h
    case h_1 hn =>
      cases h
      have hl : l = [] := List.eq_nil_iff_forall_not_mem.mpr fun k hk => lowest_ne_none l k hk hn
      simp [hl]
    case h_2 m hm =>
      obtain ⟨hmem, hle⟩ := ih hm
      cases h
      refine ⟨?_, fun k hk => ?_⟩
      · show min d m ∈ d :: l
        rcases min_choice d m with hd | hd
        · rw [hd]
          exact List.mem_cons_self
        · rw [hd]
          exact List.mem_cons_of_mem d hmem
      · rcases List.mem_cons.mp hk with rfl | hk
        · exact Nat.min_le_left _ _
        · exact (Nat.min_le_right _ _).trans (hle k hk)

section Refused
variable {i : Instr} {c : Nat} (h : loaderCode i = some c)
include h

theorem quernStep_refused (q : Nat) (op : State → State) (s : State) : quernStep i q op s = .fault (.rejectedAtLoad c) := by
  simp only [quernStep, h]

theorem windowStep_refused (q : Fin 128) (w : Fin 32) (op : State → State) (s : State) :
    windowStep i q w op s = .fault (.rejectedAtLoad c) := by
  simp only [windowStep, h]

/-- Every row with a check that fails stops with its code, whichever of the three kinds of row it is. -/
theorem exec_refused (s : State) : exec i s = .fault (.rejectedAtLoad c) := by
  have hne : loaderChecks i ≠ [] := by
    intro hn
    rw [loaderCode, hn] at h
    cases h
  revert hne
  fun_cases loaderChecks i
  case case1 q n =>
    show _ → execRep q n s = _
    simp only [execRep, h, implies_true]
  case case35 q dd w b => exact fun _ => windowStep_refused h q w (opTap q dd w b) s
  case case36 q dd w b => exact fun _ => windowStep_refused h q w (opTapf q dd w b) s
  case case37 => exact fun hne => absurd rfl hne
  all_goals exact fun _ => quernStep_refused h _ _ s

end Refused

theorem execRep_next {q : Fin 128} {n : BitVec 13} (s : State) (h : WellFormed (.rep q n) = true) :
    exec (.rep q n) s = .next (repSlot q n s) := by
  show execRep q n s = _
  simp only [execRep, Option.isNone_iff_eq_none.mp h]

/-- The condition V that TSTF leaves is the VALID flag the pass reads. -/
theorem cV_tstf {q : Fin 128} {a : Opnd} {s t : State} (h : (quern s q).rep ≤ 1) (hw : WellFormed (.tstf q a) = true)
    (ht : exec (.tstf q a) s = .next t) : (quern t q).cV = (testedSlot s (quern s q) a).valid := by
  have hx : exec (.tstf q a) s = .next (quernSlot q (onQuern q (opTstf a)) s) := quernStep_next _ q _ s hw
  cases hx.symm.trans ht
  rw [(quernSlot_onQuern q (opTstf a) s h).2, opTstf, advance_only]

/-- The pointers after SETP (R98). -/
theorem setp_ptr (f p r : Fin 4) (b : Opnd) (s : State) (u : Quern) :
    let v : BitVec 13 := match b with
      | .imm x => x
      | .reg r => (u.dreg r).setWidth 13
      | _ => 0
    let old := u.ptr p
    (opSetp f p b s u).ptr r = if r = p then
      { addr := if f = 0 ∨ f = 3 then v else old.addr
        base := if f = 1 ∨ f = 3 then v else old.base
        len := if f = 2 then v else old.len } else u.ptr r := by
  intro v old
  simp only [Quern.ptr, opSetp, Tab.get_mod, Fin.val_inj]
  refine if_congr Iff.rfl ?_ rfl
  fin_cases f <;> rfl

end Sys2Proof.Machine
end

section

open Sys2Proof Sys2Proof.Machine Sys2Proof.Safety

/-- Refutes O8: a pass that has outlasted its Bell reads the front page of the Bell on which it started (R26), and the statement
gives TSTF the slot of the present front page. Quern 0 runs such a pass in domain 0: slot 0 was VALID when it started and is not
now. -/
theorem not_conditionRows : ¬ Obligations.ConditionRows := by
  unfold Obligations.ConditionRows
  intro h
  let s : State := { querns := [(0, { active := some {}, running := true, lateBells := 1, pageIn := [(0, { valid := true })] })] }
  obtain ⟨-, -, htstf⟩ := h 0 0 0 (.sqr 0) (.sqr 0) s (by decide)
  obtain ⟨t, n, ht, hn, -, hq⟩ := htstf (by decide) 0 rfl
  have htaken : (quern t 0).cV = true := cV_tstf (q := 0) (by decide) (by decide) ht
  have hstated : (quern t 0).cV = false := by
    cases hn
    exact congrArg Quern.cV hq
  exact absurd (htaken.symm.trans hstated) (by decide)

/-- Settles O9: NOP and SETP are slots of the Quern's own record, REP writes it directly. -/
theorem controlRows : Obligations.ControlRows := by
  unfold Obligations.ControlRows
  intro q n f p b s h u v old new
  refine ⟨?nop, fun hlo hhi => ?rep, fun hw => ?setp⟩
  case nop => exact completes_row rfl rfl (quernSlot_onQuern q opNop s h)
  case rep =>
    have hw : WellFormed (.rep q n) = true := by simp [WellFormed, loaderCode, loaderChecks, failing, lowest, hlo, hhi]
    refine ⟨_, execRep_next s hw, onlyQuern_modQuern s q _, ?_⟩
    rw [repSlot, quern_modQuern, if_pos rfl]
  case setp =>
    obtain ⟨ho, hq⟩ := quernSlot_onQuern q (opSetp f p b) s h
    refine completes_row rfl hw ⟨ho, ?_, fun r => ?_⟩
    · rw [hq]
      rfl
    · rw [hq]
      exact setp_ptr f p r b s u

/-- Settles O12: a row with a check that fails has a loader code, the lowest of the failing ones, and stops with it (`exec_refused`). -/
theorem refusedByLoader : Obligations.RefusedByLoader := by
  unfold Obligations.RefusedByLoader
  intro i s hw _
  obtain ⟨c, hc⟩ : ∃ c, loaderCode i = some c := Option.isSome_iff_exists.mp (Option.isNone_eq_false_iff.mp hw)
  obtain ⟨hmem, hle⟩ := lowest_spec hc
  exact ⟨c, exec_refused hc s, hmem, hle⟩

end

section
/-! SUPPORT. The delay operations of the Quern on a VALID line in banks that the Querns own (R95 to R97, R141, R144). -/

namespace Sys2Proof.Machine

open Sys2Proof.Safety

/-- A row through a bound window completes as its slot. -/
theorem windowStep_next {i : Instr} {q : Fin 128} {w : Fin 32} (op : State → State) {s : State} (hw : WellFormed i = true)
    (hb : ((quern s q).window w).bound = true) : windowStep i q w op s = .next (quernSlot q op s) := by
  simp only [windowStep, Option.isNone_iff_eq_none.mp hw, hb, if_true]

/-! ### Offsets (R96) -/

/-- The line is another Quern's. -/
def Line.foreign (l : Line) (q : Nat) : Bool := decide (l.owner ≠ q)

/-- An offset as it stands after the first limit of R96: at least 1 on another Quern's line. -/
def raisedOffset (q : Nat) (l : Line) (o : Nat) : Nat := if l.foreign q then max 1 o else o

theorem clampOffset_eq (q : Nat) (l : Line) (o : Nat) :
    clampOffset q l o = (min (raisedOffset q l o) (l.length - 1), decide (raisedOffset q l o ≠ o ∨ l.length - 1 < raisedOffset q l o)) := by
  have hr : (if l.owner ≠ q ∧ o < 1 then 1 else o) = raisedOffset q l o := by
    unfold raisedOffset Line.foreign
    by_cases hf : l.owner = q
    · simp [hf]
    · simp only [hf, ne_eq, not_false_eq_true, true_and, decide_true, if_true]
      split <;> omega
  simp only [clampOffset, hr, Bool.decide_or]

theorem lineIndex_of_pos {l : Line} (h : 1 ≤ l.length) (w o : Nat) : lineIndex l w o = (w + l.length - o) % l.length :=
  if_neg (by omega)

theorem lineIndex_lt {l : Line} (h : 1 ≤ l.length) (w o : Nat) : lineIndex l w o < l.length := by
  rw [lineIndex_of_pos h]
  exact Nat.mod_lt _ h

/-! ### Words (R87, R141) -/

/-- The word that Quern q reads at index j of line l: the one its late pass has put there, else the granary's. -/
def readWord (s : State) (u : Quern) (q : Nat) (l : Line) (j : Nat) : Sample :=
  (pendingPut u q l j).getD (granGet s l.hamlet (l.pos j))

/-- The same by the put buffer of the line. -/
theorem readWord_eq (s : State) (u : Quern) (q : Nat) (l : Line) (j : Nat) :
    readWord s u q l j = match l.put with
      | some p => if u.lateBells ≠ 0 ∧ l.foreign q = false ∧ p.1 = j then p.2 else granGet s l.hamlet (l.pos j)
      | none => granGet s l.hamlet (l.pos j) := by
  unfold readWord pendingPut Line.foreign
  cases l.put with
  | none => simp
  | some p =>
    dsimp only
    by_cases hl : u.lateBells ≠ 0 ∧ l.owner = q
    · by_cases hj : p.1 = j <;> simp [hl, hj, Option.filter_some]
    · have hf : ¬ (u.lateBells ≠ 0 ∧ decide (l.owner ≠ q) = false ∧ p.1 = j) := fun hk => hl ⟨hk.1, by simpa using hk.2.1⟩
      rw [if_neg hl, if_neg hf]
      rfl

/-- A read in a bank of the Querns changes nothing. -/
theorem tapWord_owned {q e j : Nat} {s : State} (h : (bank s (posBank (line s e).hamlet ((line s e).pos j))).owner = 0) :
    tapWord q e j s = (readWord s (quern s q) q (line s e) j, s) :=
  if_pos h

/-! ### CLAMPED and PF (R96, R102) -/

section Clamp
variable (q e : Nat) (c : Bool) (s : State)

theorem noteClamp_true : noteClamp q e true s = modQuern (modLine s e (fun k => { k with clamped := true })) q Quern.setPf := rfl

theorem noteClamp_false : noteClamp q e false s = s := rfl

theorem same_noteClamp : sameExcept [.querns, .lines] s (noteClamp q e c s) :=
  same_ite _ _ _ _ _ (by simp) (same_refl _ s)

theorem line_noteClamp (k : Nat) :
    line (noteClamp q e c s) k = if k = e then { line s e with clamped := (line s e).clamped || c } else line s k := by
  cases c with
  | false =>
    rw [noteClamp_false, Bool.or_false]
    split
    case isTrue hk => rw [hk]
    case isFalse => rfl
  | true =>
    rw [noteClamp_true, Bool.or_true]
    exact line_modLine s e k (fun l => { l with clamped := true })

theorem quern_noteClamp_other {r : Nat} (h : r ≠ q) : quern (noteClamp q e c s) r = quern s r := by
  cases c with
  | false => rfl
  | true =>
    rw [noteClamp_true, quern_modQuern, if_neg h]
    rfl

theorem quern_noteClamp :
    quern (noteClamp q e c s) q = { quern s q with pf := (quern s q).pf || c, qPfWord := (quern (noteClamp q e c s) q).qPfWord } := by
  cases c with
  | false => rw [noteClamp_false, Bool.or_false]
  | true =>
    rw [noteClamp_true, quern_modQuern, if_pos rfl, Bool.or_true]
    rfl

/-- The note of a clamped offset moves no word. -/
theorem readWord_noteClamp (j : Nat) :
    readWord (noteClamp q e c s) (quern (noteClamp q e c s) q) q (line (noteClamp q e c s) e) j = readWord s (quern s q) q (line s e) j := by
  rw [quern_noteClamp, line_noteClamp, if_pos rfl]
  cases c <;> rfl

theorem tapWord_noteClamp {j : Nat} (h : (bank s (posBank (line s e).hamlet ((line s e).pos j))).owner = 0) :
    tapWord q e j (noteClamp q e c s) = (readWord s (quern s q) q (line s e) j, noteClamp q e c s) := by
  rw [← readWord_noteClamp q e c s j]
  refine tapWord_owned ?_
  rw [line_noteClamp, if_pos rfl]
  cases c <;> exact h

end Clamp

/-- A delay read of Quern q through entry e has left r in Dd, with the note c of a clamped offset: nothing else differs. -/
def readDone (q : Fin 128) (dd : Fin 8) (e : Nat) (s t : State) (r : Sample) (c : Bool) : Prop :=
  sameExcept [.querns, .lines] s t ∧
    (∀ k, k ≠ q.val → quern t k = quern s k) ∧
    quern t q = { quern s q with
      d := (quern t q).d, pf := (quern s q).pf || c, qPfWord := (quern t q).qPfWord, pc := (quern s q).pc + 1, rep := 0 } ∧
    (∀ k : Fin 8, (quern t q).dreg k = if k = dd then r else (quern s q).dreg k) ∧
    ∀ k, line t k = if k = e then { line s e with clamped := (line s e).clamped || c } else line s k

/-- The slot of an operation that notes a clamped offset and writes Dd. -/
theorem readDone_slot {q : Fin 128} {dd : Fin 8} {e : Nat} {s : State} {r : Sample} {c : Bool} {op : State → State}
    (h : (quern s q).rep ≤ 1) (hop : op s = modQuern (noteClamp q e c s) q (fun u => u.setD dd r)) :
    readDone q dd e s (quernSlot q op s) r c := by
  rw [quernSlot_once q op s h, hop]
  refine ⟨?same, fun k hk => ?other, ?own, fun k => ?dreg, fun k => ?line⟩
  case same => exact same_trans (same_noteClamp q e c s) (by simp)
  case other => rw [quern_modQuern, if_neg hk, quern_modQuern, if_neg hk, quern_noteClamp_other q e c s hk]
  case own =>
    rw [quern_modQuern, if_pos rfl, quern_modQuern, if_pos rfl, quern_noteClamp]
    rfl
  case dreg =>
    rw [quern_modQuern, if_pos rfl, quern_modQuern, if_pos rfl, quern_noteClamp]
    simp only [← Fin.val_inj]
    exact dreg_setD _ dd k r
  case line => exact line_noteClamp q e c s k

section Reads
variable {q : Fin 128} {dd : Fin 8} {w : Fin 32} {b : Opnd} {s : State}

theorem opTap_owned (hv : (line s ((quern s q).window w).entry).valid = true)
    (hl : 1 ≤ (line s ((quern s q).window w).entry).length) :
    let u := quern s q
    let e := (u.window w).entry
    let l := line s e
    let o := clampOffset q l ((u.window w).bias + offsetWord s u b)
    (∀ j < l.length, (bank s (posBank l.hamlet (l.pos j))).owner = 0) →
      opTap q dd w b s =
        modQuern (noteClamp q e o.2 s) q (fun k => k.setD dd (readWord s u q l (lineIndex l (passIdx u w l) o.1))) := by
  intro u e l o ho
  have ht := tapWord_noteClamp q e o.2 s (ho _ (lineIndex_lt hl (passIdx u w l) o.1))
  simp only [opTap]
  rw [if_pos hv, ht]

/-- The offset of TAPF lies below 1.0 on another Quern's line (R96). -/
def tooNear (q : Nat) (l : Line) (o : Nat) : Bool := decide (l.owner ≠ q ∧ o < 1)

theorem tooNear_eq (q : Nat) (l : Line) (o : Nat) : tooNear q l o = (l.foreign q && decide (o < 1)) := Bool.decide_and _ _

/-- The offset TAPF reads first (R95), exactly 1.0 where it would be too near. -/
def tapfOffset (q : Nat) (l : Line) (o : Nat) : Nat := if tooNear q l o then 1 else o

theorem opTapf_owned (hv : (line s ((quern s q).window w).entry).valid = true)
    (hl : 1 ≤ (line s ((quern s q).window w).entry).length) :
    let u := quern s q
    let e := (u.window w).entry
    let l := line s e
    let v := offsetWord s u b
    let o := (u.window w).bias + v / 256
    let c0 := clampOffset q l (tapfOffset q l o)
    let c1 := clampOffset q l (tapfOffset q l o + 1)
    let word := fun c => readWord s u q l (lineIndex l (passIdx u w l) c)
    (∀ j < l.length, (bank s (posBank l.hamlet (l.pos j))).owner = 0) →
      opTapf q dd w b s = modQuern (noteClamp q e (tooNear q l o || c0.2 || c1.2) s) q (fun k => k.setD dd
        (tapfWord (word c0.1) (word c1.1) (if tooNear q l o then 0 else v % 256))) := by
  intro u e l v o c0 c1 word ho
  have read (c : Nat) := tapWord_noteClamp q e (tooNear q l o || c0.2 || c1.2) s (ho _ (lineIndex_lt hl (passIdx u w l) c))
  have hnear : (l.owner ≠ q ∧ o < 1) = (tooNear q l o = true) := (decide_eq_true_eq (p := l.owner ≠ q ∧ o < 1)).symm
  have ho1 : (if l.owner ≠ q ∧ o < 1 then 1 else o) = tapfOffset q l o := by simp only [hnear, tapfOffset]
  have hf : (if l.owner ≠ q ∧ o < 1 then 0 else v % 256) = (if tooNear q l o then 0 else v % 256) := by simp only [hnear]
  let s1 := noteClamp q e (tooNear q l o || c0.2 || c1.2) s
  let r0 := tapWord q e (lineIndex l (passIdx u w l) c0.1) s1
  let r1 := tapWord q e (lineIndex l (passIdx u w l) c1.1) r0.2
  have hop : opTapf q dd w b s = modQuern r1.2 q (fun k => k.setD dd (tapfWord r0.1 r1.1 (if tooNear q l o then 0 else v % 256))) := by
    refine (if_pos hv).trans ?_
    simp only [r1, r0, s1, c0, c1, ← ho1, ← hf]
    rfl
  have h0 : r0 = (word c0.1, s1) := read c0.1
  have h1 : r1 = (word c1.1, s1) := by
    simp only [r1, h0]
    exact read c1.1
  rw [hop, h0, h1]

/-- The interpolation of R95 is a sample word, between the two it reads. -/
theorem tapfWord_isRounded {x y : Sample} {f : Nat} (hf : f < 256) :
    isRounded (256 * x.toInt + f * (y.toInt - x.toInt)) 8 (tapfWord x y f).toInt := by
  have hr : isRounded (256 * x.toInt + f * (y.toInt - x.toInt)) 8 (rneDiv (256 * x.toInt + f * (y.toInt - x.toInt)) 256) :=
    rneDiv_isRounded _ 8
  have hx0 : 0 ≤ (256 - f) * (x.toInt + 524288) := mul_nonneg (by omega) (by have := x.le_toInt; omega)
  have hx1 : 0 ≤ (256 - f) * (524287 - x.toInt) := mul_nonneg (by omega) (by have := x.toInt_lt; omega)
  have hy0 : 0 ≤ f * (y.toInt + 524288) := mul_nonneg (by omega) (by have := y.le_toInt; omega)
  have hy1 : 0 ≤ f * (524287 - y.toInt) := mul_nonneg (by omega) (by have := y.toInt_lt; omega)
  obtain ⟨hlo, hhi⟩ := isRounded_range (lo := -524288) (hi := 524287) hr (by linarith) (by linarith)
  rw [tapfWord, smp_toInt hlo hhi]
  exact hr

end Reads

end Sys2Proof.Machine
end

section
/-! SUPPORT. PUT on a VALID line that the Quern owns, in a bank of the Querns (R97, R129, R144, R305). -/

namespace Sys2Proof.Machine

open Sys2Proof.Safety

theorem putWord_owned {q e j : Nat} {v : Sample} {s : State} (h : (bank s (posBank (line s e).hamlet ((line s e).pos j))).owner = 0) :
    putWord q e j v s = granPut s (line s e).hamlet ((line s e).pos j) v :=
  if_pos h

/-- A granary word written is the one word of its cell. -/
theorem granary_granPut (s : State) (h p : Nat) (v : Sample) (k : Nat) :
    Tab.get 0 (granPut s h p v).granary k = if k = granKey h (granCell s h p) then v else Tab.get 0 s.granary k :=
  Tab.get_set _ _ _ _ _

section Put
variable {q : Fin 128} {w : Fin 32} {src : Fin 8} {s : State}

section Owned
variable (hv : (line s ((quern s q).window w).entry).valid = true) (ho : (line s ((quern s q).window w).entry).owner = q.val)
  (hs : (line s ((quern s q).window w).entry).stored = false)
include hv ho hs

/-- PUT in a late pass: the put buffer (R129, R144). -/
theorem opPut_late (hl : (quern s q).lateBells ≠ 0) :
    let u := quern s q
    let e := (u.window w).entry
    opPut q w src s = modLine s e (fun k => { k with put := some (passIdx u w (line s e), u.dreg src) }) := by
  intro u e
  refine (if_pos hv).trans ((if_neg (by simp [ho, hs])).trans ((if_pos (.inl hl)).trans ?_))
  rw [if_neg hl]

/-- PUT in a pass in time: the granary (R97), and the put buffer too in the pass of Bell J - 1 on a device that lends its state
(R305). -/
theorem opPut_inTime (hl : (quern s q).lateBells = 0) :
    let u := quern s q
    let e := (u.window w).entry
    let l := line s e
    let t := granPut s l.hamlet (l.pos (passIdx u w l)) (u.dreg src)
    (bank s (posBank l.hamlet (l.pos (passIdx u w l)))).owner = 0 →
      opPut q w src s =
        if (quernDom u).any (captures s) then modLine t e (fun k => { k with put := some (passIdx u w l, u.dreg src) }) else t := by
  intro u e l t hbank
  have ht : putWord q e (passIdx u w l) (u.dreg src) s = t := putWord_owned hbank
  refine (if_pos hv).trans ((if_neg (by simp [ho, hs])).trans ?_)
  rw [if_pos hl, ht]
  exact if_congr (or_iff_right (not_not.mpr hl)) rfl rfl

end Owned

/-- PUT through a line that the Quern may write completes as its slot. -/
theorem exec_put (hb : ((quern s q).window w).bound = true) (ho : (line s ((quern s q).window w).entry).owner = q.val)
    (hs : (line s ((quern s q).window w).entry).stored = false) :
    exec (.put q w src) s = .next (quernSlot q (opPut q w src) s) :=
  (if_neg (by simp [ho, hs])).trans (windowStep_next (i := .put q w src) _ rfl hb)

end Put

theorem line_modQuern_modLine (s : State) (q e k : Nat) (f : Quern → Quern) (g : Line → Line) :
    line (modQuern (modLine s e g) q f) k = if k = e then g (line s e) else line s k :=
  line_modLine s e k g

/-- The Quern of a slot that left its record alone only moves to the next one. -/
theorem quern_slot_kept {q : Nat} {s t : State} (h : ∀ r, quern t r = quern s r) :
    let n := modQuern t q (fun u => { u with pc := u.pc + 1, rep := 0 })
    (∀ r, r ≠ q → quern n r = quern s r) ∧ quern n q = { quern s q with pc := (quern s q).pc + 1, rep := 0 } := by
  refine ⟨fun r hr => ?_, ?_⟩
  · rw [quern_modQuern, if_neg hr, h]
  · rw [quern_modQuern, if_pos rfl, h]

end Sys2Proof.Machine
end

section

open Sys2Proof Sys2Proof.Machine Sys2Proof.Safety

/-- Settles O10: one slot of `opTap_owned` or `opTapf_owned`; what is left is to read R96's limits (`clampOffset_eq`) and the put
buffer (`readWord_eq`) as the statement writes them. -/
theorem delayReads : Obligations.DelayReads := by
  unfold Obligations.DelayReads
  intro q dd win b s h u w l v foreign at_ word raised inside off low o1 f done hb hv hl hbanks
  have hword (o : Nat) : word o = readWord s u q l (lineIndex l (passIdx u win l) o) := by
    rw [readWord_eq, lineIndex_of_pos hl]
    rfl
  have hinside (o : Nat) : inside o = (clampOffset q l o).1 := by
    rw [clampOffset_eq]
    rfl
  have hoff (o : Nat) : off o = (clampOffset q l o).2 := by
    rw [clampOffset_eq]
    rfl
  refine ⟨fun hw => ?tap, fun hw => ?tapf⟩
  case tap =>
    refine ⟨_, windowStep_next (i := .tap q dd win b) _ hw hb, ?_⟩
    rw [hinside, hoff, hword]
    exact readDone_slot h (opTap_owned hv hl hbanks)
  case tapf =>
    have hlow : low = tooNear q l (w.bias + v / 256) := (tooNear_eq q l _).symm
    have ho1 : o1 = tapfOffset q l (w.bias + v / 256) := by simp only [o1, hlow, tapfOffset]
    have hf : f = (if tooNear q l (w.bias + v / 256) then 0 else v % 256 : Nat) := by
      simp only [f, hlow, Nat.cast_ite, Nat.cast_zero]
    have hfraction : (if tooNear q l (w.bias + v / 256) then 0 else v % 256) < 256 := by split <;> omega
    rw [hoff, hoff, hinside, hinside, hword, hword, hlow, ho1, hf]
    exact ⟨_, _, windowStep_next (i := .tapf q dd win b) _ hw hb, tapfWord_isRounded hfraction, readDone_slot h (opTapf_owned hv hl hbanks)⟩

/-- Settles O11: one slot of `opPut_inTime` or `opPut_late`, which leave the record of the Quern alone. -/
theorem delayWrite : Obligations.DelayWrite := by
  unfold Obligations.DelayWrite
  intro q win src s h u e l w ran hb hv ho hs hbank buffered
  have hx := exec_put (src := src) hb ho hs
  rw [quernSlot_once _ _ _ h] at hx
  refine ⟨fun hl => ⟨_, hx, ?inTime⟩, fun hl => ⟨_, hx, ?late⟩⟩
  case inTime =>
    rw [opPut_inTime hv ho hs hl hbank]
    split
    case isTrue hc =>
      exact ⟨quern_slot_kept fun _ => rfl, ⟨by simp [granPut, cellPut], fun k => line_modQuern_modLine _ q e k _ _⟩, granary_granPut s _ _ _⟩
    case isFalse hc =>
      exact ⟨quern_slot_kept fun _ => rfl, by simp [granPut, cellPut], granary_granPut s _ _ _⟩
  case late =>
    rw [opPut_late hv ho hs hl]
    exact ⟨quern_slot_kept fun _ => rfl, by simp, fun k => line_modQuern_modLine s q e k _ _⟩

end

section
/-! SUPPORT. A repeated slot against single ones (R99): what an operation of the Quern does not depend on the slot it runs in. -/

namespace Sys2Proof.Machine

open Sys2Proof.Safety

/-- The record at another slot: another program word, repetition count and word of the first PF. -/
def Quern.atSlot (u : Quern) (pc rep w : Nat) : Quern := { u with pc := pc, rep := rep, qPfWord := w }

theorem eq_of_atSlot {u v : Quern} {pc rep w p r : Nat} (h : u = v.atSlot pc rep w) (hp : u.pc = p) (hr : u.rep = r) :
    u = { v with pc := p, rep := r, qPfWord := u.qPfWord } := by
  subst h hp hr
  rfl

/-- The states differ in the slot of Quern q only: its program word, its repetition count and the word of its first PF. -/
def alike (q : Nat) (s t : State) : Prop :=
  (∃ x, t = s.setQuerns x) ∧ (∀ r, r ≠ q → quern t r = quern s r) ∧ ∃ pc rep w, quern t q = (quern s q).atSlot pc rep w

/-- An operation on the record of a Quern that does the same at every slot; the first PF names the slot. -/
def steady (f : State → Quern → Quern) : Prop :=
  ∀ s u x pc rep w, ∃ w', f (s.setQuerns x) (u.atSlot pc rep w) = (f s u).atSlot pc rep w'

/-- An operation of Quern q that does the same at every slot and leaves the program counter alone. -/
def steadyOp (q : Nat) (op : State → State) : Prop :=
  (∀ s t, alike q s t → alike q (op s) (op t)) ∧ ∀ s, (quern (op s) q).pc = (quern s q).pc

/-! ### States that are alike -/

section Alike
variable {q : Nat} {s t u : State}

theorem alike_refl (q : Nat) (s : State) : alike q s s := ⟨⟨s.querns, rfl⟩, fun _ _ => rfl, _, _, _, rfl⟩

theorem alike_symm (h : alike q s t) : alike q t s := by
  obtain ⟨⟨x, rfl⟩, hr, pc, rep, w, hq⟩ := h
  refine ⟨⟨s.querns, rfl⟩, fun r hne => (hr r hne).symm, (quern s q).pc, (quern s q).rep, (quern s q).qPfWord, ?_⟩
  rw [hq]
  rfl

theorem alike_trans (h : alike q s t) (k : alike q t u) : alike q s u := by
  obtain ⟨⟨x, rfl⟩, hr, pc, rep, w, hq⟩ := h
  obtain ⟨⟨y, rfl⟩, kr, pc', rep', w', kq⟩ := k
  refine ⟨⟨y, rfl⟩, fun r hne => (kr r hne).trans (hr r hne), pc', rep', w', ?_⟩
  rw [kq, hq]
  rfl

/-- Two updates of the Quern that end alike. -/
theorem alike_modQuern {f g : Quern → Quern} (h : alike q s t)
    (hfg : ∀ pc rep w, ∃ pc' rep' w', g ((quern s q).atSlot pc rep w) = (f (quern s q)).atSlot pc' rep' w') :
    alike q (modQuern s q f) (modQuern t q g) := by
  obtain ⟨⟨x, rfl⟩, hr, pc, rep, w, hq⟩ := h
  obtain ⟨pc', rep', w', hg⟩ := hfg pc rep w
  refine ⟨⟨_, rfl⟩, fun r hne => ?_, pc', rep', w', ?_⟩
  · rw [quern_modQuern, if_neg hne, quern_modQuern, if_neg hne, hr r hne]
  · rw [quern_modQuern, if_pos rfl, quern_modQuern, if_pos rfl, hq, hg]

/-- The next slot is alike. -/
theorem alike_nextSlot (q : Nat) (s : State) : alike q s (modQuern s q (fun u => { u with pc := u.pc + 1, rep := 0 })) := by
  refine ⟨⟨_, rfl⟩, fun r hne => by rw [quern_modQuern, if_neg hne], (quern s q).pc + 1, 0, (quern s q).qPfWord, ?_⟩
  rw [quern_modQuern, if_pos rfl]
  rfl

/-- A change outside the Querns that does not look at them. -/
theorem alike_outside {g : State → State} (h : alike q s t) (hg : ∀ s x, g (s.setQuerns x) = (g s).setQuerns x)
    (hq : ∀ s, (g s).querns = s.querns) : alike q (g s) (g t) := by
  obtain ⟨⟨x, rfl⟩, hr, hs⟩ := h
  have same (s : State) (r : Nat) : quern (g s) r = quern s r := by
    rw [quern, hq s]
    rfl
  refine ⟨⟨x, hg s x⟩, fun r hne => ?_, ?_⟩
  · rw [same, same, hr r hne]
  · rw [same, same]
    exact hs

theorem alike_modLine (h : alike q s t) (e : Nat) (f : Line → Line) : alike q (modLine s e f) (modLine t e f) :=
  alike_outside (g := fun s => modLine s e f) h (fun _ _ => rfl) (fun _ => rfl)

theorem alike_bankErr (h : alike q s t) (b c : Nat) : alike q (bankErr s b c) (bankErr t b c) :=
  alike_outside (g := fun s => bankErr s b c) h (fun _ _ => rfl) (fun _ => rfl)

theorem alike_granPut (h : alike q s t) (k p : Nat) (v : Sample) : alike q (granPut s k p v) (granPut t k p v) :=
  alike_outside (g := fun s => granPut s k p v) h (fun _ _ => rfl) (fun _ => rfl)

theorem window_alike (h : alike q s t) (w : Nat) : (quern t q).window w = (quern s q).window w := by
  obtain ⟨-, -, pc, rep, f, hq⟩ := h
  rw [hq]
  rfl

theorem line_alike (h : alike q s t) (e : Nat) : line t e = line s e := by
  obtain ⟨⟨x, rfl⟩, -⟩ := h
  rfl

end Alike

theorem steadyOp_onQuern {q : Nat} {f : State → Quern → Quern} (hf : steady f) : steadyOp q (onQuern q f) := by
  refine ⟨fun s t h => ?_, fun s => ?_⟩
  · obtain ⟨x, rfl⟩ := h.1
    exact alike_modQuern h fun pc rep w => ⟨pc, rep, hf s (quern s q) x pc rep w⟩
  · obtain ⟨w, hw⟩ := hf s (quern s q) s.querns (quern s q).pc (quern s q).rep (quern s q).qPfWord
    have hf' : f s (quern s q) = (f s (quern s q)).atSlot (quern s q).pc (quern s q).rep w := hw
    rw [onQuern, quern_modQuern, if_pos rfl, hf']
    rfl

/-! ### Rows and their repetition -/

/-- Row i of Quern q runs op as its slot wherever it runs, and whether it runs does not depend on the slot. -/
def rowRuns (q : Nat) (i : Instr) (op : State → State) : Prop :=
  ∀ s t, exec i s = .next t → t = quernSlot q op s ∧ ∀ u, alike q s u → exec i u = .next (quernSlot q op u)

/-- Row i of Quern q can be repeated slot by slot. -/
def repeatable (q : Nat) (i : Instr) : Prop := ∃ op, rowRuns q i op ∧ steadyOp q op

section Rows
variable {q : Fin 128} {i : Instr}

/-- A row that completes is one that the loader accepts. -/
theorem wellFormed_of_exec {s t : State} (h : exec i s = .next t) : WellFormed i = true := by
  rw [WellFormed, Option.isNone_iff_eq_none]
  by_contra hn
  obtain ⟨c, hc⟩ := Option.ne_none_iff_exists'.mp hn
  cases (exec_refused hc s).symm.trans h

theorem rowRuns_quernStep {op : State → State} (hx : ∀ s, exec i s = quernStep i q op s) : rowRuns q i op := by
  intro s t ht
  have hrun (u : State) : exec i u = .next (quernSlot q op u) := (hx u).trans (quernStep_next i q op u (wellFormed_of_exec ht))
  cases (hrun s).symm.trans ht
  exact ⟨rfl, fun u _ => hrun u⟩

/-- A row through a window, with what else may stop it. -/
theorem rowRuns_windowStep {w : Fin 32} {op : State → State} {stopped : State → Prop} [DecidablePred stopped]
    (hx : ∀ s, exec i s = if stopped s then .fault (.rejectedAtLoad 0x0F) else windowStep i q w op s)
    (hs : ∀ s u, alike q s u → ¬ stopped s → ¬ stopped u) : rowRuns q i op := by
  intro s t ht
  have hw := wellFormed_of_exec ht
  have hgo : ¬ stopped s := fun h => by
    rw [hx, if_pos h] at ht
    cases ht
  have hb : ((quern s q).window w).bound = true := by
    rw [hx, if_neg hgo, windowStep, Option.isNone_iff_eq_none.mp hw] at ht
    by_contra hn
    rw [if_neg hn] at ht
    cases ht
  have hrun (u : State) (hu : alike q s u) : exec i u = .next (quernSlot q op u) := by
    rw [hx, if_neg (hs s u hu hgo), windowStep_next op hw (by rw [window_alike hu, hb])]
  cases (hrun s (alike_refl q s)).symm.trans ht
  exact ⟨rfl, hrun⟩

theorem repeatable_row {f : State → Quern → Quern} (hf : steady f) (hx : ∀ s, exec i s = quernStep i q (onQuern q f) s) : repeatable q i :=
  ⟨_, rowRuns_quernStep hx, steadyOp_onQuern hf⟩

end Rows

section Repeat
variable {q : Nat} {i : Instr} {op : State → State}

theorem runTimes_succ {n : Nat} {s v : State} (h : runTimes i (n + 1) s = some v) :
    ∃ t, runTimes i n s = some t ∧ exec i t = .next v := by
  rw [runTimes] at h
  split at h
  case h_2 => cases h
  case h_1 t ht =>
    refine ⟨t, ht, ?_⟩
    split at h
    case h_1 w hw =>
      cases h
      exact hw
    case h_2 => cases h

/-- The first of several executions completes. -/
theorem exec_of_runTimes {n : Nat} {s v : State} (h : runTimes i (n + 1) s = some v) : ∃ t, exec i s = .next t := by
  induction n generalizing v with
  | zero =>
    obtain ⟨t, ht, hv⟩ := runTimes_succ h
    cases ht
    exact ⟨v, hv⟩
  | succ n ih =>
    obtain ⟨t, ht, -⟩ := runTimes_succ h
    exact ih ht

/-- The operation n times, one after the other. -/
def opTimes (op : State → State) (n : Nat) (s : State) : State := forEach (List.range n) (fun u _ => op u) s

theorem opTimes_succ (n : Nat) (s : State) : opTimes op (n + 1) s = op (opTimes op n s) := by
  simp only [opTimes, forEach, List.range_succ, List.foldl_append, List.foldl_cons, List.foldl_nil]

theorem pc_opTimes (hop : steadyOp q op) (n : Nat) (s : State) : (quern (opTimes op n s) q).pc = (quern s q).pc := by
  induction n with
  | zero => rfl
  | succ n ih => rw [opTimes_succ, hop.2, ih]

/-- Executions one by one end alike with the operation as often in one slot. -/
theorem runTimes_alike (hr : rowRuns q i op) (hop : steadyOp q op) {n : Nat} {s t v : State} (hst : alike q s t)
    (hrep : (quern s q).rep = 0) (h : runTimes i n s = some v) : alike q v (opTimes op n t) ∧ (quern v q).rep = 0 := by
  induction n generalizing v with
  | zero =>
    cases h
    exact ⟨hst, hrep⟩
  | succ n ih =>
    obtain ⟨u, hu, hv⟩ := runTimes_succ h
    obtain ⟨hal, hrep'⟩ := ih hu
    obtain ⟨rfl, -⟩ := hr u v hv
    rw [quernSlot_once q op u (by omega), opTimes_succ]
    refine ⟨alike_trans (alike_symm (alike_nextSlot q (op u))) (hop.1 _ _ hal), ?_⟩
    rw [quern_modQuern, if_pos rfl]

/-- A slot repeated n + 1 times ends where n + 1 single executions end, one slot on (R99). -/
theorem repeated_slot (hi : repeatable q i) {n : Nat} {s v : State} (hn : (quern s q).rep = n + 1)
    (h : runTimes i (n + 1) (modQuern s q (fun u => { u with rep := 0 })) = some v) :
    ∃ t, exec i s = .next t ∧ sameExcept [.querns] v t ∧ (∀ r, r ≠ q → quern t r = quern v r) ∧
      quern t q = { quern v q with pc := (quern s q).pc + 1, rep := 0, qPfWord := (quern t q).qPfWord } := by
  obtain ⟨op, hr, hop⟩ := hi
  have hst : alike q (modQuern s q (fun u => { u with rep := 0 })) s := by
    refine alike_symm ⟨⟨_, rfl⟩, fun r hne => by rw [quern_modQuern, if_neg hne], (quern s q).pc, 0, (quern s q).qPfWord, ?_⟩
    rw [quern_modQuern, if_pos rfl]
    rfl
  obtain ⟨u, hu⟩ := exec_of_runTimes h
  obtain ⟨-, hrun⟩ := hr _ _ hu
  obtain ⟨hal, -⟩ := runTimes_alike hr hop hst (by rw [quern_modQuern, if_pos rfl]) h
  have hslot : quernSlot q op s = modQuern (opTimes op (n + 1) s) q (fun u => { u with pc := u.pc + 1, rep := 0 }) := by
    have hm : Nat.max 1 (n + 1) = n + 1 := Nat.max_eq_right (by omega)
    rw [quernSlot, hn, hm, opTimes]
  obtain ⟨⟨x, hx⟩, hother, pc, rep, w, hown⟩ := alike_trans hal (alike_nextSlot q _)
  refine ⟨_, hrun s hst, ?_⟩
  rw [hslot]
  have hsame : sameExcept [.querns] v (v.setQuerns x) := same_setQuerns_self v x
  refine ⟨hx ▸ hsame, hother, eq_of_atSlot hown ?_ ?_⟩
  · rw [quern_modQuern, if_pos rfl, pc_opTimes hop]
  · rw [quern_modQuern, if_pos rfl]

end Repeat

end Sys2Proof.Machine
end

section
/-! SUPPORT. The operations of the Quern do the same at every slot (R87). -/

namespace Sys2Proof.Machine

open Sys2Proof.Safety

/-! ### Reads -/

section Reads
variable (s : State) (x : Tab Quern) (u : Quern) (pc rep w : Nat)

@[simp] theorem dreg_atSlot (n : Nat) : (u.atSlot pc rep w).dreg n = u.dreg n := rfl
@[simp] theorem accu_atSlot (n : Nat) : (u.atSlot pc rep w).accu n = u.accu n := rfl
@[simp] theorem holds_atSlot (c : Fin 16) : (u.atSlot pc rep w).holds c = u.holds c := rfl

@[simp] theorem readOp_atSlot (a : Opnd) : readOp (s.setQuerns x) (u.atSlot pc rep w) a = readOp s u a := by
  cases a <;> rfl

@[simp] theorem readPair_atSlot (a : Opnd) : readPair (s.setQuerns x) (u.atSlot pc rep w) a = readPair s u a := by
  cases a <;> rfl

@[simp] theorem testedSlot_atSlot (a : Opnd) : testedSlot (s.setQuerns x) (u.atSlot pc rep w) a = testedSlot s u a := by
  cases a <;> rfl

@[simp] theorem offsetWord_atSlot (b : Opnd) : offsetWord (s.setQuerns x) (u.atSlot pc rep w) b = offsetWord s u b := by
  cases b <;> rfl

end Reads

/-! ### Writes -/

section Writes
variable (u : Quern) (pc rep w : Nat)

@[simp] theorem setD_atSlot (n : Nat) (v : Sample) : (u.atSlot pc rep w).setD n v = (u.setD n v).atSlot pc rep w := rfl
@[simp] theorem orSat_atSlot (c : Bool) : (u.atSlot pc rep w).orSat c = (u.orSat c).atSlot pc rep w := rfl
@[simp] theorem setAcc_atSlot (n : Nat) (v : BitVec 52) : (u.atSlot pc rep w).setAcc n v = (u.setAcc n v).atSlot pc rep w := rfl
@[simp] theorem accPut_atSlot (n : Nat) (v : Int) : (u.atSlot pc rep w).accPut n v = (u.accPut n v).atSlot pc rep w := rfl

@[simp] theorem advance_atSlot (a : Opnd) : (u.atSlot pc rep w).advance a = (u.advance a).atSlot pc rep w := by
  cases a <;> rfl

/-- PF names the program word of its slot, so that the word is the one thing that differs. -/
theorem setPf_atSlot : ∃ w', (u.atSlot pc rep w).setPf = u.setPf.atSlot pc rep w' := ⟨_, rfl⟩

theorem ite_atSlot {pc rep : Nat} {c : Prop} [Decidable c] {u v u' v' : Quern} (hu : ∃ w', u' = u.atSlot pc rep w')
    (hv : ∃ w', v' = v.atSlot pc rep w') : ∃ w', (if c then u' else v') = (if c then u else v).atSlot pc rep w' := by
  split
  · exact hu
  · exact hv

theorem writeMem_atSlot (t : IndT) (a : Nat) (v : Sample) (ind : Bool) :
    ∃ w', (u.atSlot pc rep w).writeMem t a v ind = (u.writeMem t a v ind).atSlot pc rep w' := by
  cases t with
  | scr => exact ⟨w, rfl⟩
  | led => exact ite_atSlot ⟨w, rfl⟩ (ite_atSlot (setPf_atSlot u pc rep w) ⟨w, rfl⟩)
  | nb => exact ite_atSlot ⟨w, rfl⟩ (ite_atSlot (setPf_atSlot u pc rep w) ⟨w, rfl⟩)
  | sqr => exact ite_atSlot ⟨w, rfl⟩ (setPf_atSlot u pc rep w)

theorem writeOp_atSlot (a : Opnd) (v : Sample) : ∃ w', (u.atSlot pc rep w).writeOp a v = (u.writeOp a v).atSlot pc rep w' := by
  have hd : destination (u.atSlot pc rep w) a = destination u a := by cases a <;> rfl
  cases h : destination u a with
  | none => exact ⟨w, by rw [writeOp_none h, writeOp_none (hd.trans h)]⟩
  | some d =>
    obtain ⟨w', hw⟩ := writeMem_atSlot u pc rep w d.1 d.2.1 v d.2.2
    exact ⟨w', by rw [writeOp_destination h, writeOp_destination (hd.trans h), hw]⟩

end Writes

/-! ### Operations on the record -/

section Operations
variable (c d : Fin 4) (cf : Bool) (dd : Fin 8) (a b : Opnd) (sh : BitVec 13) (k : Fin 16)

theorem steady_mulOp (f : Int → Int → Int) : steady (mulOp c cf a b f) := fun _ _ _ _ _ w => ⟨w, by simp [mulOp]⟩
theorem steady_pairOp (f : Int → Int → Int) : steady (pairOp c d cf a b f) := fun _ _ _ _ _ w => ⟨w, by simp [pairOp]⟩
theorem steady_dualOp (f : Int → Int → Int) : steady (dualOp c cf a b f) := fun _ _ _ _ _ w => ⟨w, by simp [dualOp]⟩
theorem steady_loadOp (f : Int → Int → Int) : steady (loadOp c cf a f) := fun _ _ _ _ _ w => ⟨w, by simp [loadOp]⟩
theorem steady_accOp (f : Int → Int → Int) : steady (accOp c d f) := fun _ _ _ _ _ w => ⟨w, by simp [accOp]⟩
theorem steady_dataOne (f : Sample → Sample × Bool) : steady (dataOne dd a f) := fun _ _ _ _ _ w => ⟨w, by simp [dataOne]⟩
theorem steady_dataTwo (f : Sample → Sample → Sample × Bool) : steady (dataTwo dd a b f) := fun _ _ _ _ _ w => ⟨w, by simp [dataTwo]⟩
theorem steady_opNop : steady opNop := fun _ _ _ _ _ w => ⟨w, rfl⟩
theorem steady_opClra : steady (opClra c) := fun _ _ _ _ _ w => ⟨w, rfl⟩
theorem steady_opSha : steady (opSha c sh) := fun _ _ _ _ _ w => ⟨w, rfl⟩
theorem steady_opSela : steady (opSela c d k) := fun _ _ _ _ _ w => ⟨w, rfl⟩
theorem steady_opSta : steady (opSta c dd sh) := fun _ _ _ _ _ w => ⟨w, rfl⟩
theorem steady_opCmpa : steady (opCmpa c d) := fun _ _ _ _ _ w => ⟨w, rfl⟩
theorem steady_opSetp (f p : Fin 4) : steady (opSetp f p b) := fun _ _ _ _ _ w => ⟨w, rfl⟩
theorem steady_opSel : steady (opSel k dd a b) := fun _ _ _ _ _ w => ⟨w, by simp [opSel]⟩
theorem steady_opEnv : steady (opEnv cf dd a b) := fun _ _ _ _ _ w => ⟨w, by simp [opEnv]⟩
theorem steady_opPeak : steady (opPeak dd a) := fun _ _ _ _ _ w => ⟨w, by simp [opPeak]⟩
theorem steady_opCmp : steady (opCmp a b) := fun _ _ _ _ _ w => ⟨w, by
  simp only [opCmp, readOp_atSlot, ← advance_atSlot]
  rfl⟩
theorem steady_opTstf : steady (opTstf a) := fun _ _ _ _ _ w => ⟨w, by
  simp only [opTstf, testedSlot_atSlot, ← advance_atSlot]
  rfl⟩

theorem steady_opStam : steady (opStam c a sh) := by
  intro s u x pc rep w
  obtain ⟨w', hw⟩ := writeOp_atSlot u pc rep w a (storeConv (u.accu c) sh.toInt).1
  exact ⟨w', by simp [opStam, hw]⟩

theorem steady_opSt : steady (opSt a b) := by
  intro s u x pc rep w
  obtain ⟨w', hw⟩ := writeOp_atSlot u pc rep w a (readOp s u b)
  exact ⟨w', by simp [opSt, hw]⟩

end Operations

/-! ### Delay operations -/

section Delay
variable {q : Nat} {s t : State}

theorem alike_noteClamp (h : alike q s t) (e : Nat) (c : Bool) : alike q (noteClamp q e c s) (noteClamp q e c t) := by
  cases c with
  | false => exact h
  | true =>
    refine alike_modQuern (alike_modLine h e _) fun pc rep w => ?_
    obtain ⟨w', hw⟩ := setPf_atSlot (quern s q) pc rep w
    exact ⟨pc, rep, w', hw⟩

theorem alike_setD (h : alike q s t) (dd : Nat) (v : Sample) : alike q (modQuern s q (fun u => u.setD dd v)) (modQuern t q (fun u => u.setD dd v)) :=
  alike_modQuern h fun pc rep w => ⟨pc, rep, w, rfl⟩

theorem alike_noteInvalid (h : alike q s t) (e : Nat) : alike q (noteInvalid e s) (noteInvalid e t) :=
  alike_modLine h e _

/-- What a delay operation reads is the same in states that are alike. -/
theorem passIdx_alike (h : alike q s t) (w : Nat) (l : Line) : passIdx (quern t q) w l = passIdx (quern s q) w l := by
  obtain ⟨-, -, pc, rep, f, hq⟩ := h
  rw [hq]
  rfl

theorem pendingPut_alike (h : alike q s t) (l : Line) (j : Nat) : pendingPut (quern t q) q l j = pendingPut (quern s q) q l j := by
  obtain ⟨-, -, pc, rep, f, hq⟩ := h
  rw [hq]
  rfl

theorem offsetWord_alike (h : alike q s t) (b : Opnd) : offsetWord t (quern t q) b = offsetWord s (quern s q) b := by
  obtain ⟨⟨x, rfl⟩, -, pc, rep, f, hq⟩ := h
  rw [hq, offsetWord_atSlot]

theorem granGet_alike (h : alike q s t) (k p : Nat) : granGet t k p = granGet s k p := by
  obtain ⟨⟨x, rfl⟩, -⟩ := h
  rfl

theorem bank_alike (h : alike q s t) (b : Nat) : bank t b = bank s b := by
  obtain ⟨⟨x, rfl⟩, -⟩ := h
  rfl

theorem tapWord_alike (h : alike q s t) (e j : Nat) :
    (tapWord q e j t).1 = (tapWord q e j s).1 ∧ alike q (tapWord q e j s).2 (tapWord q e j t).2 := by
  simp only [tapWord, line_alike h, bank_alike h, granGet_alike h, pendingPut_alike h]
  split
  · exact ⟨rfl, h⟩
  · exact ⟨rfl, alike_modLine (alike_bankErr h _ _) e _⟩

theorem quern_tapWord (e j r : Nat) (s : State) : quern (tapWord q e j s).2 r = quern s r := by
  unfold tapWord
  extract_lets l b
  split <;> rfl

theorem pc_noteClamp (e : Nat) (c : Bool) (s : State) : (quern (noteClamp q e c s) q).pc = (quern s q).pc := by
  rw [quern_noteClamp]

theorem pc_setD (dd : Nat) (v : Sample) (s : State) : (quern (modQuern s q (fun u => u.setD dd v)) q).pc = (quern s q).pc := by
  rw [quern_modQuern, if_pos rfl]
  rfl

theorem steadyOp_opTap (q : Nat) (dd : Fin 8) (win : Fin 32) (b : Opnd) : steadyOp q (opTap q dd win b) := by
  refine ⟨fun s t h => ?_, fun s => ?_⟩
  · simp only [opTap, window_alike h, line_alike h, offsetWord_alike h, passIdx_alike h]
    split
    · obtain ⟨hw, ht⟩ := tapWord_alike (alike_noteClamp h _ _) _ _
      rw [hw]
      exact alike_setD ht dd _
    · exact alike_setD (alike_noteInvalid h _) dd _
  · simp only [opTap]
    split
    · rw [pc_setD, quern_tapWord, pc_noteClamp]
    · rw [pc_setD]
      rfl

theorem steadyOp_opTapf (q : Nat) (dd : Fin 8) (win : Fin 32) (b : Opnd) : steadyOp q (opTapf q dd win b) := by
  refine ⟨fun s t h => ?_, fun s => ?_⟩
  · simp only [opTapf, window_alike h, line_alike h, offsetWord_alike h, passIdx_alike h]
    split
    · obtain ⟨hw0, ht0⟩ := tapWord_alike (alike_noteClamp h _ _) _ _
      obtain ⟨hw1, ht1⟩ := tapWord_alike ht0 _ _
      rw [hw0, hw1]
      exact alike_setD ht1 dd _
    · exact alike_setD (alike_noteInvalid h _) dd _
  · simp only [opTapf]
    split
    · rw [pc_setD, quern_tapWord, quern_tapWord, pc_noteClamp]
    · rw [pc_setD]
      rfl

theorem putWord_alike (h : alike q s t) (e j : Nat) (v : Sample) : alike q (putWord q e j v s) (putWord q e j v t) := by
  simp only [putWord, line_alike h, bank_alike h]
  split
  · exact alike_granPut h _ _ v
  · exact alike_modLine (alike_bankErr h _ _) e _

theorem quern_putWord (e j r : Nat) (v : Sample) (s : State) : quern (putWord q e j v s) r = quern s r := by
  unfold putWord
  extract_lets l b
  split <;> rfl

/-- The record of the Quern as PUT reads it. -/
theorem putReads_alike (h : alike q s t) (src : Nat) :
    (quern t q).lateBells = (quern s q).lateBells ∧ (quern t q).dreg src = (quern s q).dreg src ∧ quernDom (quern t q) = quernDom (quern s q) := by
  obtain ⟨-, -, pc, rep, f, hq⟩ := h
  rw [hq]
  exact ⟨rfl, rfl, rfl⟩

theorem captures_alike (h : alike q s t) : captures t = captures s := by
  obtain ⟨⟨x, rfl⟩, -⟩ := h
  rfl

theorem alike_ite {c : Prop} [Decidable c] {s' t' : State} (h : alike q s t) (h' : alike q s' t') :
    alike q (if c then s else s') (if c then t else t') := by
  split
  · exact h
  · exact h'

theorem quern_opPut (q r : Nat) (win : Fin 32) (src : Fin 8) (s : State) : quern (opPut q win src s) r = quern s r := by
  unfold opPut
  extract_lets u w l s1
  have h1 : quern s1 r = quern s r := by
    simp only [s1]
    split
    · exact quern_putWord _ _ r _ s
    · rfl
  split
  · split
    · rfl
    · split
      · exact h1
      · exact h1
  · rfl

theorem steadyOp_opPut (q : Nat) (win : Fin 32) (src : Fin 8) : steadyOp q (opPut q win src) := by
  refine ⟨fun s t h => ?_, fun s => ?_⟩
  · obtain ⟨hlate, hsrc, hdom⟩ := putReads_alike h src
    simp only [opPut, window_alike h, line_alike h, passIdx_alike h, captures_alike h, hlate, hsrc, hdom]
    have hnow := putWord_alike h ((quern s q).window win).entry (passIdx (quern s q) win (line s ((quern s q).window win).entry))
      ((quern s q).dreg src)
    exact alike_ite (alike_ite h (alike_ite (alike_modLine (alike_ite hnow h) _ _) (alike_ite hnow h))) (alike_noteInvalid h _)
  · rw [quern_opPut]

end Delay

/-! ### Rows through a window -/

section Windows
variable (q : Fin 128) (dd src : Fin 8) (win : Fin 32) (b : Opnd)

theorem repeatable_tap : repeatable q (.tap q dd win b) :=
  ⟨_, rowRuns_windowStep (stopped := fun _ => False) (fun _ => (if_neg not_false).symm) (fun _ _ _ h => h), steadyOp_opTap q dd win b⟩

theorem repeatable_tapf : repeatable q (.tapf q dd win b) :=
  ⟨_, rowRuns_windowStep (stopped := fun _ => False) (fun _ => (if_neg not_false).symm) (fun _ _ _ h => h), steadyOp_opTapf q dd win b⟩

/-- The Quern may not write the line of its window, so that PUT stops (R105 code 0x0F). -/
def putStopped (s : State) : Prop :=
  (line s ((quern s q).window win).entry).valid = true ∧
    ((line s ((quern s q).window win).entry).owner ≠ q.val ∨ (line s ((quern s q).window win).entry).stored = true)

theorem repeatable_put : repeatable q (.put q win src) := by
  have : DecidablePred (putStopped q win) := fun s => inferInstanceAs (Decidable (_ ∧ _))
  refine ⟨_, rowRuns_windowStep (stopped := putStopped q win) (w := win) (fun s => ?_) (fun s u h hs => ?_), steadyOp_opPut q win src⟩
  · exact if_congr Iff.rfl rfl rfl
  · rwa [putStopped, window_alike h, line_alike h]

end Windows

end Sys2Proof.Machine
end

section

open Sys2Proof Sys2Proof.Machine Sys2Proof.Safety

/-- Settles O13: a slot repeated ends as single slots do (`repeated_slot`) for every row whose operation does the same at every slot, and
each row of the list is one. -/
theorem repeatRunsTheSlotAgain : Obligations.RepeatRunsTheSlotAgain := by
  unfold Obligations.RepeatRunsTheSlotAgain
  intro q n c d cf dd a b sh k f p win s v hn i hi h
  refine repeated_slot ?_ hn h
  clear h
  revert i
  simp only [List.forall_mem_append, List.forall_mem_cons]
  have mul {i} (g) := repeatable_row (q := q) (i := i) (steady_mulOp c cf a b g)
  have pair {i} (g) := repeatable_row (q := q) (i := i) (steady_pairOp c d cf a b g)
  have dual {i} (g) := repeatable_row (q := q) (i := i) (steady_dualOp c cf a b g)
  have load {i} (g) := repeatable_row (q := q) (i := i) (steady_loadOp c cf a g)
  have acc {i} (g) := repeatable_row (q := q) (i := i) (steady_accOp c d g)
  have one {i} (g) := repeatable_row (q := q) (i := i) (steady_dataOne dd a g)
  have two {i} (g) := repeatable_row (q := q) (i := i) (steady_dataTwo dd a b g)
  exact ⟨
    ⟨repeatable_row steady_opNop fun _ => rfl,
      mul _ fun _ => rfl, mul _ fun _ => rfl, mul _ fun _ => rfl,
      pair _ fun _ => rfl, pair _ fun _ => rfl, pair _ fun _ => rfl,
      dual _ fun _ => rfl, dual _ fun _ => rfl, dual _ fun _ => rfl,
      load _ fun _ => rfl, load _ fun _ => rfl, load _ fun _ => rfl,
      repeatable_row (steady_opClra c) fun _ => rfl, acc _ fun _ => rfl, acc _ fun _ => rfl, acc _ fun _ => rfl,
      repeatable_row (steady_opSha c sh) fun _ => rfl, repeatable_row (steady_opSta c dd sh) fun _ => rfl, repeatable_row (steady_opStam c a sh) fun _ => rfl,
      List.forall_mem_nil _⟩,
    ⟨one _ fun _ => rfl, two _ fun _ => rfl, two _ fun _ => rfl, one _ fun _ => rfl, one _ fun _ => rfl,
      two _ fun _ => rfl, two _ fun _ => rfl, one _ fun _ => rfl, repeatable_row (steady_opSt a b) fun _ => rfl,
      repeatable_row (steady_opSetp b f p) fun _ => rfl, repeatable_row (steady_opCmp a b) fun _ => rfl, repeatable_row (steady_opCmpa c d) fun _ => rfl,
      repeatable_row (steady_opTstf a) fun _ => rfl, repeatable_row (steady_opSel dd a b k) fun _ => rfl, repeatable_row (steady_opSela c d k) fun _ => rfl,
      one _ fun _ => rfl, one _ fun _ => rfl, repeatable_row (steady_opEnv cf dd a b) fun _ => rfl, repeatable_row (steady_opPeak dd a) fun _ => rfl,
      repeatable_tap q dd win b, repeatable_tapf q dd win b, repeatable_put q dd win, List.forall_mem_nil _⟩⟩

end

section
/-! SUPPORT. Leave asked for and granted leaves alone what a load is of (R115, R317), and a load that waits its turn (R438). -/

namespace Sys2Proof.Machine

open Sys2Proof.Safety

/-! ### What a change leaves of one unit -/

theorem mbox_of_same {ps : List Part} {s t : State} (h : sameExcept ps s t) (hp : Part.host ∉ ps) (m : Nat) : mbox t m = mbox s m :=
  mbox_congr (congrArg HostPort.mbs (h .host hp)) m

theorem arg_of_same {ps : List Part} {s t : State} (h : sameExcept ps s t) (hp : Part.host ∉ ps) (m i : Nat) : arg t m i = arg s m i :=
  congrArg (fun b : Mailbox => Tab.get 0 b.words i) (mbox_of_same h hp m)

theorem quern_of_same {ps : List Part} {s t : State} (h : sameExcept ps s t) (hp : Part.querns ∉ ps) (q : Nat) : quern t q = quern s q :=
  congrArg (fun x => (Tab.get {} x q : Quern)) (h .querns hp)

section
variable (m q : Nat) (ws : List Word) (s : State)

@[simp] theorem quern_acceptHead : quern (acceptHead m s) q = quern s q := by simp [quern]

@[simp] theorem quern_skipAll : quern (skipAll s) q = quern s q := by simp [quern]

@[simp] theorem quern_reply : quern (reply m ws s) q = quern s q := by simp [quern]

end

/-! ### How a taken command ends -/

section
variable {c : Instr} {s : State} {m : Fin 8} {op : Nat} {own : State → Option Refuse} {run : State → State} {ps qs : List Part}
  {p : State → Prop}

/-- How far a command that is taken reaches: as far as its meaning, and the host port. -/
theorem same_taken {u : State} (hh : Part.host ∈ qs) (hq : ∀ x ∈ ps, x ∈ qs) (h : sameExcept ps (acceptHead m s) u) :
    sameExcept qs s (skipAll u) :=
  (same_skipAll qs s u hh).mpr (same_trans ((same_acceptHead qs s s m hh).mpr (same_refl qs s)) (same_weaken h hq))

/-- A command of which the meaning leaves the host port alone is pending. -/
theorem pends_of (h : taken s m op own = true) (he : exec c s = .next (serve op m own run s)) (hrow : cmdRow op ≠ none)
    (hr : sameExcept ps (acceptHead m s) (run (acceptHead m s))) (hps : Part.host ∉ ps) (hh : Part.host ∈ qs)
    (hq : ∀ x ∈ ps, x ∈ qs) (hp : p (skipAll (run (acceptHead m s)))) :
    completes c s fun t => pendingIn s t m ∧ sameExcept qs s t ∧ p t :=
  completes_serve h he ⟨pending_of h hrow (mbox_of_same hr hps m), same_taken hh hq hr, hp⟩

/-- A command of which the meaning leaves the host port alone but for its reply is answered. -/
theorem replies_of {u : State} {ws : List Word} (h : taken s m op own = true) (he : exec c s = .next (serve op m own run s))
    (hrow : cmdRow op ≠ none) (hlen : ws.length < 127) (hrun : run (acceptHead m s) = reply m ws u)
    (hu : sameExcept ps (acceptHead m s) u) (hps : Part.host ∉ ps) (hh : Part.host ∈ qs) (hq : ∀ x ∈ ps, x ∈ qs)
    (hp : p (skipAll (reply m ws u))) : replies c s m ws qs p := by
  have hhead : arg u m 0 = arg s m 0 := (arg_of_same hu hps m 0).trans (arg_acceptHead s m m 0)
  have hreply : sameExcept qs (acceptHead m s) (reply m ws u) := (same_reply qs _ _ m ws hh).mpr (same_weaken hu hq)
  refine completes_serve h he ?_
  rw [hrun]
  exact ⟨answered_of h hrow hlen rfl hhead, same_taken hh (fun _ hx => hx) hreply, hp⟩

end

/-! ### Leave in a loop -/

theorem leaveOnly_foldl {β : Type} {g : State → β → State} (h : ∀ t x, leaveOnly t (g t x)) (l : List β) (s : State) :
    leaveOnly s (l.foldl g s) := by
  induction l generalizing s with
  | nil => exact leaveOnly_refl s
  | cons a l ih => exact leaveOnly_trans (h s a) (ih (g s a))

/-! ### A load and its leave -/

/-- The mailbox and the bundle of a load: what a grant of its leave does not change. -/
def Load.asked (l : Load) : Nat × Bundle := (l.mb, l.bundle)

section
variable (cls key : Nat) (s : State)

theorem asked_onGrant : (onGrant cls key s).jex.load.map Load.asked = s.jex.load.map Load.asked := by
  unfold onGrant
  split
  case h_3 =>
    rw [modJex_eq, State.setJex_jex, Option.map_map]
    congr 1
    funext l
    dsimp only [Function.comp]
    split <;> rfl
  all_goals rfl

theorem asked_grantHead : (grantHead s).jex.load.map Load.asked = s.jex.load.map Load.asked := by
  unfold grantHead
  split
  · rfl
  · split
    · exact asked_onGrant _ _ _
    · rfl

theorem asked_grantAll : (grantAll s).jex.load.map Load.asked = s.jex.load.map Load.asked :=
  foldl_keeps (fun t : State => t.jex.load.map Load.asked) (fun t _ => asked_grantHead t) _ s

theorem asked_requestLeave : (requestLeave cls key s).jex.load.map Load.asked = s.jex.load.map Load.asked := by
  unfold requestLeave
  split
  · rfl
  · dsimp only
    split
    · rfl
    · split
      · split
        · exact asked_onGrant _ _ _
        · rfl
      · exact asked_grantAll _

theorem asked_returnLeave : (returnLeave cls key s).jex.load.map Load.asked = s.jex.load.map Load.asked := by
  unfold returnLeave
  split
  · exact asked_grantAll _
  · rfl

end

/-! ### The next load (R115, R438) -/

/-- The load that has waited longest is under way, and asks for loader leave. -/
def startLoad (l : Load) (rest : List Load) (s : State) : State :=
  requestLeave 4 0 (modJex s (fun j => { j with load := some l, loads := rest }))

section
variable (s : State)

/-- But for the two records of the loads, granting leave is all that changes. -/
theorem leaveOnly_startLoad (l : Load) (rest : List Load) :
    leaveOnly (modJex s (fun j => { j with load := some l, loads := rest })) (startLoad l rest s) := leaveOnly_requestLeave 4 0 _

theorem asked_startLoad (l : Load) (rest : List Load) : (startLoad l rest s).jex.load.map Load.asked = some l.asked :=
  asked_requestLeave 4 0 _

theorem nextLoad_waiting {l : Load} {rest : List Load} (h : s.jex.load = none) (hl : s.jex.loads = l :: rest) :
    nextLoad s = startLoad l rest s := by
  simp only [nextLoad, h, hl, startLoad]

theorem nextLoad_busy (h : s.jex.load ≠ none) : nextLoad s = s := by
  unfold nextLoad
  split
  · contradiction
  · rfl

theorem nextLoad_empty (h : s.jex.loads = []) : nextLoad s = s := by
  unfold nextLoad
  split
  case h_1 hl => exact absurd (hl.symm.trans h) (List.cons_ne_nil _ _)
  case h_2 => rfl

/-- The three ways of `nextLoad`: a load is under way, none waits, or the first that waits begins. -/
theorem nextLoad_cases {p : State → Prop} (hb : s.jex.load ≠ none → p s) (he : s.jex.load = none → s.jex.loads = [] → p s)
    (hw : ∀ l rest, s.jex.load = none → s.jex.loads = l :: rest → p (startLoad l rest s)) : p (nextLoad s) := by
  by_cases h : s.jex.load = none
  · cases hl : s.jex.loads with
    | nil => rw [nextLoad_empty s hl]; exact he h hl
    | cons l rest => rw [nextLoad_waiting s h hl]; exact hw l rest h hl
  · rw [nextLoad_busy s h]; exact hb h

theorem same_nextLoad : sameExcept [.warden, .flash, .jex, .twin, .dma] s (nextLoad s) := by
  refine nextLoad_cases s (fun _ => same_refl _ s) (fun _ _ => same_refl _ s) fun l rest _ _ => ?_
  exact same_trans (by simp) (leaveOnly_startLoad s l rest).1

/-- Of Jexolaryn's records only those of the loads differ. -/
theorem jex_nextLoad : (nextLoad s).jex = { s.jex with load := (nextLoad s).jex.load, loads := (nextLoad s).jex.loads } := by
  refine nextLoad_cases s (p := fun t => t.jex = { s.jex with load := t.jex.load, loads := t.jex.loads }) (fun _ => rfl) (fun _ _ => rfl)
    fun l rest _ _ => ?_
  obtain ⟨-, -, hjex, -⟩ := leaveOnly_startLoad s l rest
  rw [hjex]
  rfl

/-- The loads in progress are those there were. -/
theorem asked_nextLoad : (loadsNow (nextLoad s)).map Load.asked = (loadsNow s).map Load.asked := by
  refine nextLoad_cases s (p := fun t => (loadsNow t).map Load.asked = (loadsNow s).map Load.asked) (fun _ => rfl) (fun _ _ => rfl)
    fun l rest h hl => ?_
  obtain ⟨-, -, hjex, -⟩ := leaveOnly_startLoad s l rest
  have hloads : (startLoad l rest s).jex.loads = rest := congrArg Jex.loads hjex
  rw [loadsNow, List.map_append, ← Option.toList_map, asked_startLoad, hloads, loadsNow, h, hl]
  rfl

/-- Where there is a load, one is under way. -/
theorem nextLoad_underWay (h : loadsNow s ≠ []) : (nextLoad s).jex.load ≠ none := by
  refine nextLoad_cases s (p := fun t => t.jex.load ≠ none) id (fun hn hl => ?_) fun l rest _ _ hn => ?_
  · exact absurd (by rw [loadsNow, hn, hl]; rfl) h
  · have hload := asked_startLoad s l rest
    rw [hn] at hload
    exact absurd hload.symm (Option.some_ne_none _)

end

end Sys2Proof.Machine
end

section
/-! SUPPORT. BUNDLE_LOAD: the file is read over the flash port, judged, and its load waits its turn (R115, R438, R478). -/

namespace Sys2Proof.Machine

open Sys2Proof.Safety

/-- A change of the port alone changes no byte of a flash. -/
theorem portOnly_contents {f g : Flash} (h : portOnly f g) : g.bytes = f.bytes ∧ g.size = f.size := by
  rw [h]
  exact ⟨rfl, rfl⟩

theorem askRead_contents (x : Frame) (f : Flash) : (f.askRead x).bytes = f.bytes ∧ (f.askRead x).size = f.size := by
  unfold Flash.askRead
  split
  · extract_lets g
    split
    · exact ⟨rfl, rfl⟩
    · obtain ⟨hb, hs⟩ := portOnly_contents (portOnly_trans (portOnly_submit _ g) (portOnly_submit _ _))
      exact ⟨hb, hs⟩
  · exact portOnly_contents (portOnly_submit x f)

theorem wantRead_contents (r k a n : Nat) (f : Flash) : (f.wantRead r k a n).bytes = f.bytes ∧ (f.wantRead r k a n).size = f.size := by
  unfold Flash.wantRead
  split
  · exact ⟨rfl, rfl⟩
  · exact askRead_contents _ f

/-- What a bundle slot holds is read off the contents of the flash. -/
theorem bundleRd_congr {s t : State} (hb : t.flash.bytes = s.flash.bytes) (hs : t.flash.size = s.flash.size) (n : Nat) :
    bundleRd t n = bundleRd s n := by
  have hfile : ∀ k a, flashFile t k a = flashFile s k a := fun k a => by
    funext i
    rw [flashFile, flashByte, hb]
    rfl
  simp only [bundleRd, regionSize, hfile, hs]

theorem same_readBundle (n : Nat) (s : State) : sameExcept [.flash] s (readBundle n s) := by simp [readBundle, readFile]

theorem bundleRd_readBundle (k n : Nat) (s : State) : bundleRd (readBundle k s) n = bundleRd s n := by
  obtain ⟨hb, hs⟩ := wantRead_contents 4 (bundlePlace k).1 (bundlePlace k).2 _ s.flash
  exact bundleRd_congr hb hs n

/-- The checks of a load look neither at the host port nor at the flash port. -/
theorem loadRefusal_ports (s : State) (h : HostPort) (f : Flash) (r : Rd) (room slot : Nat) :
    loadRefusal ((s.setHost h).setFlash f) r room slot = loadRefusal s r room slot := rfl

/-- The load of a bundle waits with the others. -/
def queueLoad (m : Nat) (b : Bundle) (s : State) : State :=
  modJex s (fun j => { j with loads := j.loads ++ [{ mb := m, bundle := { b with loading := true } }] })

section
variable (m n : Nat) (s : State)

theorem bundleRd_acceptHead : bundleRd (acceptHead m s) n = bundleRd s n := bundleRd_congr (by simp) (by simp) n

theorem loadRefusal_readBundle (k : Nat) (r : Rd) (room slot : Nat) :
    loadRefusal (readBundle k (acceptHead m s)) r room slot = loadRefusal s r room slot := by
  rw [acceptHead_only]
  exact loadRefusal_ports s _ _ r room slot

theorem judgeLoad_passed (h : loadRefusal s (bundleRd s n).1 (bundleRd s n).2 n = none) :
    judgeLoad m n s = nextLoad (queueLoad m (bundleFile (bundleRd s n).1 n) s) := by
  unfold judgeLoad
  extract_lets f
  split
  case h_1 r hr => exact absurd (hr.symm.trans h) (Option.some_ne_none r)
  case h_2 => rfl

/-- The file in bundle slot n read, its load waits with the others. -/
def takeLoad : State := queueLoad m (bundleFile (bundleRd s n).1 n) (readBundle n (acceptHead m s))

theorem same_takeLoad : sameExcept [.flash, .jex] (acceptHead m s) (takeLoad m n s) := by
  rw [takeLoad, queueLoad, modJex_eq, same_setJex _ _ _ _ (by simp)]
  exact same_weaken (same_readBundle n _) (by simp)

theorem loadsNow_takeLoad :
    loadsNow (takeLoad m n s) = loadsNow s ++ [{ mb := m, bundle := { bundleFile (bundleRd s n).1 n with loading := true } }] := by
  have hloads : loadsNow (readBundle n (acceptHead m s)) = loadsNow s := by simp [loadsNow, readBundle, readFile]
  rw [← hloads]
  exact (List.append_assoc _ _ _).symm

theorem same_nextLoad_takeLoad : sameExcept [.warden, .flash, .jex, .twin, .dma] (acceptHead m s) (nextLoad (takeLoad m n s)) :=
  same_trans (same_weaken (same_takeLoad m n s) (by simp)) (same_nextLoad _)

theorem loadsNow_skipAll : loadsNow (skipAll s) = loadsNow s := by simp [loadsNow]

end

/-- BUNDLE_LOAD of a file that passes every check, once it is accepted. -/
theorem bundleLoadRun_passed {m : Nat} {s : State} :
    let n := fld (arg s m 1) 0 3
    loadRefusal s (bundleRd s n).1 (bundleRd s n).2 n = none → bundleLoadRun m (acceptHead m s) = nextLoad (takeLoad m n s) := by
  intro n h
  have hfile : bundleRd (readBundle n (acceptHead m s)) n = bundleRd s n := by rw [bundleRd_readBundle, bundleRd_acceptHead]
  have hpass := loadRefusal_readBundle m s n (bundleRd s n).1 (bundleRd s n).2 n
  rw [h, ← hfile] at hpass
  rw [bundleLoadRun, arg_acceptHead, judgeLoad_passed _ _ _ hpass, hfile, takeLoad]

end Sys2Proof.Machine
end

section
/-! SUPPORT. A bundle staged (R112, R121, R122): its lines, its programs in the staged stores, its place among the loaded bundles. -/

namespace Sys2Proof.Machine

open Sys2Proof.Safety

/-! ### Lines and rate masks -/

theorem same_clearWords (h p n : Nat) (s : State) : sameExcept [.banks, .granary] s (clearWords h p n s) := by
  refine same_forEach _ _ _ _ fun t i => ?_
  extract_lets lo hi
  split
  · split <;> simp [granZero, bankErr]
  · exact same_refl _ t

theorem same_allocLine (l : LineRec) (s : State) : sameExcept [.lines, .banks, .granary] s (allocLine s l) := by
  simpa [allocLine] using same_weaken (qs := [.lines, .banks, .granary]) (same_clearWords _ _ _ s) (by simp)

theorem same_allocLines (b : Bundle) (s : State) : sameExcept [.lines, .banks, .granary] s (allocLines b s) :=
  same_foldl _ _ _ _ fun t l => same_allocLine l t

theorem same_refreshRates (s : State) : sameExcept [.domains] s (refreshRates s) :=
  same_forEach _ _ _ _ fun t d => same_ite _ _ _ _ _ (by simp) (same_refl _ t)

/-! ### Programs -/

section
variable (b : Bundle) (s : State)

theorem same_stageProgram (p : Program) : sameExcept [.querns] s (stageProgram b s p) := by simp [stageProgram]

theorem quern_stageProgram_other {p : Program} {q : Nat} (h : q ≠ p.quern) : quern (stageProgram b s p) q = quern s q := by
  rw [stageProgram, quern_modQuern, if_neg h]

/-- The program stands in the staged store of its Quern, and what is active there goes on. -/
theorem quern_stageProgram (p : Program) :
    (quern (stageProgram b s p) p.quern).staged = some p ∧ (quern (stageProgram b s p) p.quern).stagedOk = true ∧
      (quern (stageProgram b s p) p.quern).active = (quern s p.quern).active := by
  rw [stageProgram, quern_modQuern, if_pos rfl]
  dsimp only
  split
  · exact ⟨rfl, rfl, rfl⟩
  · exact ⟨rfl, rfl, rfl⟩

theorem active_stageProgram (p : Program) (q : Nat) : (quern (stageProgram b s p) q).active = (quern s q).active := by
  by_cases h : q = p.quern
  · obtain ⟨-, -, hactive⟩ := quern_stageProgram b s p
    rw [h, hactive]
  · rw [quern_stageProgram_other b s h]

theorem quern_stagePrograms_other {l : List Program} {q : Nat} (h : ∀ p ∈ l, q ≠ p.quern) :
    quern (l.foldl (stageProgram b) s) q = quern s q := by
  induction l generalizing s with
  | nil => rfl
  | cons a l ih =>
    rw [List.forall_mem_cons] at h
    rw [List.foldl_cons, ih _ h.2, quern_stageProgram_other b s h.1]

/-- Of programs for different Querns each stands in the staged store of its own. -/
theorem staged_stagePrograms {l : List Program} {p : Program} (hn : (l.map (·.quern)).Nodup) (hp : p ∈ l) :
    (quern (l.foldl (stageProgram b) s) p.quern).staged = some p ∧ (quern (l.foldl (stageProgram b) s) p.quern).stagedOk = true := by
  induction l generalizing s with
  | nil => exact absurd hp List.not_mem_nil
  | cons a l ih =>
    rw [List.map_cons, List.nodup_cons] at hn
    obtain ⟨hfirst, hrest⟩ := hn
    rcases List.mem_cons.mp hp with rfl | hp
    · have hother : ∀ x ∈ l, p.quern ≠ x.quern := fun x hx he => hfirst (he ▸ List.mem_map_of_mem hx)
      obtain ⟨hstaged, hok, -⟩ := quern_stageProgram b s p
      rw [List.foldl_cons, quern_stagePrograms_other b _ hother]
      exact ⟨hstaged, hok⟩
    · exact ih _ hrest hp

/-! ### The bundle -/

/-- The lines of the bundle allocated and its programs staged. -/
def placeBundle : State := b.normal.foldl (stageProgram b) (allocLines b s)

theorem same_placeBundle : sameExcept [.querns, .lines, .banks, .granary] s (placeBundle b s) :=
  same_trans (same_weaken (same_allocLines b s) (by simp))
    (same_foldl _ _ _ _ fun t p => same_weaken (same_stageProgram b t p) (by simp))

/-- The bundle joins those loaded, and the rate masks follow. -/
theorem stageBundle_eq : stageBundle b s =
    refreshRates (modJex (placeBundle b s) (fun j => { j with bundles := j.bundles ++ [{ b with state := .staged }] })) := rfl

theorem same_stageBundle : sameExcept [.querns, .lines, .banks, .granary, .domains, .jex] s (stageBundle b s) := by
  rw [stageBundle_eq]
  refine same_trans ?_ (same_weaken (same_refreshRates _) (by simp))
  simpa using same_weaken (qs := [.querns, .lines, .banks, .granary, .domains, .jex]) (same_placeBundle b s) (by simp)

theorem jex_stageBundle : (stageBundle b s).jex = { s.jex with bundles := s.jex.bundles ++ [{ b with state := .staged }] } := by
  have hplace : (placeBundle b s).jex = s.jex := same_placeBundle b s .jex (by simp)
  rw [stageBundle_eq]
  exact (same_refreshRates _ .jex (by simp)).trans
    (congrArg (fun j : Jex => { j with bundles := j.bundles ++ [{ b with state := .staged }] }) hplace)

theorem quern_stageBundle (q : Nat) : quern (stageBundle b s) q = quern (placeBundle b s) q :=
  quern_of_same (same_refreshRates _) (by simp) q

theorem active_stageBundle (q : Nat) : (quern (stageBundle b s) q).active = (quern s q).active := by
  rw [quern_stageBundle, placeBundle, ← quern_of_same (same_allocLines b s) (by simp) q]
  exact foldl_keeps (fun t => (quern t q).active) (fun t p => active_stageProgram b t p q) _ _

theorem staged_stageBundle {p : Program} (hn : (b.normal.map (·.quern)).Nodup) (hp : p ∈ b.normal) :
    (quern (stageBundle b s) p.quern).staged = some p ∧ (quern (stageBundle b s) p.quern).stagedOk = true := by
  rw [quern_stageBundle]
  exact staged_stagePrograms b _ hn hp

end

end Sys2Proof.Machine
end

section
/-! SUPPORT. BUNDLE_LOAD_DONE of a bundle that still passes: it is staged, the reply written, the loader leave returned, and the next
load is under way (R115, R121, R438). -/

namespace Sys2Proof.Machine

open Sys2Proof.Safety

/-- The load under way ends with its bundle staged. -/
def loadPlaced (b : Bundle) (s : State) : State := stageBundle b (modJex s (fun j => { j with load := none }))

/-- Then its command is answered. -/
def loadStaged (m : Nat) (b : Bundle) (s : State) : State := reply m [wrd b.id, 0] (loadPlaced b s)

/-- Then the leave is returned, and the next load asks for it. -/
def loadFollowed (m : Nat) (b : Bundle) (s : State) : State := nextLoad (returnLeave 4 0 (loadStaged m b s))

theorem loadDone_passed {l : Load} {s : State} :
    let b := { l.bundle with loading := false }
    fitRefusal (modJex s (fun j => { j with load := none, loads := [] })) b = none → programsFail s b = none →
      loadDone l s = loadFollowed l.mb b s := by
  intro b hfit hprog
  unfold loadDone
  extract_lets b' s1
  split
  case h_1 r hr => exact absurd (hr.symm.trans hfit) (Option.some_ne_none r)
  case h_2 hr => exact absurd (hr.symm.trans hprog) (Option.some_ne_none _)
  case h_3 => rfl

theorem exec_bundleLoadDone {l : Load} {s : State} (hl : s.jex.load = some l) (hg : l.granted = true) (hf : s.jex.fullLeft = 0) :
    exec .bundleLoadDone s = .next (loadDone l s) := by
  change execBundleLoadDone s = _
  simp only [execBundleLoadDone, hl, hg, hf, and_self, if_true]

section
variable (m : Nat) (b : Bundle) (s : State)

theorem same_loadStaged : sameExcept [.querns, .lines, .banks, .granary, .domains, .jex, .host] s (loadStaged m b s) := by
  rw [loadStaged, same_reply _ _ _ _ _ (by simp)]
  exact same_trans (by simp) (same_weaken (same_stageBundle b _) (by simp))

theorem jex_loadStaged : (loadStaged m b s).jex =
    { s.jex with load := none, bundles := s.jex.bundles ++ [{ b with state := .staged }] } := by
  rw [loadStaged, reply_jex, loadPlaced, jex_stageBundle]
  rfl

theorem same_loadFollowed : sameExcept [.warden, .flash, .jex, .twin, .dma] (loadStaged m b s) (loadFollowed m b s) :=
  same_trans (leaveOnly_returnLeave 4 0 _).1 (same_nextLoad _)

theorem answered_loadFollowed (s : State) (m : Fin 8) (b : Bundle) : answered s (loadFollowed m b s) m [wrd b.id, 0] := by
  have hbox : mbox (loadFollowed m b s) m = mbox (loadStaged m b s) m := mbox_of_same (same_loadFollowed m b s) (by simp) m
  have hhead : arg (loadPlaced b s) m 0 = arg s m 0 := arg_of_same (same_stageBundle b _) (by simp) m 0
  constructor
  · rw [hbox, loadStaged, reply, mbox_replyWith, if_pos rfl]
  · intro i
    rw [arg, hbox, ← arg, loadStaged, reply, arg_replyWith, hhead]

/-- With no load under way the return of leave changes nothing of Jexolaryn's records. -/
theorem jex_returnLeave {s : State} (h : s.jex.load = none) (cls key : Nat) : (returnLeave cls key s).jex = s.jex := by
  obtain ⟨-, -, hjex, -⟩ := leaveOnly_returnLeave cls key s
  have hload := asked_returnLeave cls key s
  rw [h, Option.map_none, Option.map_eq_none_iff, ← h] at hload
  rw [hjex, hload]

theorem jex_returned : (returnLeave 4 0 (loadStaged m b s)).jex =
    { s.jex with load := none, bundles := s.jex.bundles ++ [{ b with state := .staged }] } :=
  (jex_returnLeave (congrArg Jex.load (jex_loadStaged m b s)) 4 0).trans (jex_loadStaged m b s)

theorem loadsNow_returned : loadsNow (returnLeave 4 0 (loadStaged m b s)) = s.jex.loads := by
  rw [loadsNow, jex_returned]
  rfl

theorem bundles_loadFollowed : (loadFollowed m b s).jex.bundles = s.jex.bundles ++ [{ b with state := .staged }] := by
  rw [loadFollowed, jex_nextLoad, jex_returned]

/-- The loads that waited wait still, but for the one now under way. -/
theorem asked_loadFollowed : (loadsNow (loadFollowed m b s)).map Load.asked = s.jex.loads.map Load.asked := by
  rw [loadFollowed, asked_nextLoad, loadsNow_returned]

theorem loadFollowed_underWay (h : s.jex.loads ≠ []) : (loadFollowed m b s).jex.load ≠ none :=
  nextLoad_underWay _ (by rw [loadsNow_returned]; exact h)

theorem quern_loadFollowed (q : Nat) : quern (loadFollowed m b s) q = quern (loadPlaced b s) q :=
  (quern_of_same (same_loadFollowed m b s) (by simp) q).trans (quern_reply m q _ _)

end

end Sys2Proof.Machine
end

section
/-! SUPPORT. PROGRAM_SWAP on a single device (R123, R125): its leave is asked for, and the swap waits for its Bell. -/

namespace Sys2Proof.Machine

open Sys2Proof.Safety

theorem namedBundle_acceptHead (k m : Nat) (s : State) : namedBundle (acceptHead k s) m = namedBundle s m := by
  simp [namedBundle, bundleOf]

theorem id_namedBundle {s : State} {m : Nat} {b : Bundle} (h : namedBundle s m = some b) : b.id = (arg s m 1).toNat := by
  have := List.find?_some h
  simp only [Bool.and_eq_true, beq_iff_eq] at this
  exact this.1

theorem swapArgs_acceptHead (k m : Nat) (s : State) : swapArgs (acceptHead k s) m = swapArgs s m := by
  simp [swapArgs]

theorem leaveOnly_askSwapLeave (b : Bundle) (d : Nat) (s : State) : leaveOnly s (askSwapLeave b d s) :=
  leaveOnly_trans (leaveOnly_foldl (fun t p => leaveOnly_requestLeave 1 (quernKey p) t) _ s) (leaveOnly_requestLeave 4 _ _)

/-- A device alone, with no arming in progress. -/
def alone (s : State) : Prop := s.twin.role = .single ∧ s.twin.arm = .idle

theorem paired_of_alone {s : State} (h : alone s) : paired s = false := by simp [paired, h.1]

theorem lends_of_alone {s : State} (h : alone s) : lends s = false := by simp [lends, h.2]

theorem alone_of_leaveOnly {s t : State} (h : alone s) (k : leaveOnly s t) : alone t := by
  obtain ⟨-, -, -, htwin⟩ := k
  rw [alone, htwin]
  exact h

/-- A device alone sends no record. -/
theorem sendRecord_alone {s : State} (h : alone s) (d kind : Nat) (ws : List Word) : sendRecord d kind ws s = s := by
  simp [sendRecord, paired_of_alone h, lends_of_alone h]

/-- A device alone takes a "next Bell" as it stands. -/
theorem statedBell_alone {s : State} (h : alone s) (d since : Nat) (next : Bool) (b : BitVec 48) :
    statedBell s d since next b = (next, b) := by
  simp [statedBell, paired_of_alone h]

/-- The swap joins those that wait. -/
def queueSwap (w : Swap) (s : State) : State := modJex s (fun j => { j with swaps := j.swaps ++ [w] })

theorem programSwapRun_alone {m since : Nat} {s : State} {b : Bundle} (h : alone s) (hb : namedBundle s m = some b) :
    programSwapRun m since s = queueSwap (swapArgs s m) (askSwapLeave b (swapArgs s m).domain s) := by
  have hasked : alone (askSwapLeave b (swapArgs s m).domain s) :=
    alone_of_leaveOnly h (leaveOnly_askSwapLeave b (swapArgs s m).domain s)
  unfold programSwapRun
  extract_lets w nb w1
  have hw : w1 = swapArgs s m := by
    unfold w1 nb
    rw [statedBell_alone h]
  rw [hw]
  split
  case h_1 hn => exact absurd (hn.symm.trans hb) (Option.some_ne_none b).symm
  case h_2 b' hb' =>
    obtain rfl : b' = b := Option.some.inj (hb'.symm.trans hb)
    exact sendRecord_alone (s := queueSwap _ _) hasked _ _ _

/-- The swap of a command that is accepted waits, its leave asked for. -/
def takeSwap (m : Nat) (b : Bundle) (s : State) : State :=
  queueSwap (swapArgs s m) (askSwapLeave b (swapArgs s m).domain (acceptHead m s))

section
variable (m : Nat) (b : Bundle) (s : State)

/-- PROGRAM_SWAP on a device alone, once it is accepted. -/
theorem programSwapRun_taken {m since : Nat} {b : Bundle} {s : State} (h : alone s) (hb : namedBundle s m = some b) :
    programSwapRun m since (acceptHead m s) = takeSwap m b s := by
  have halone : alone (acceptHead m s) := h
  rw [programSwapRun_alone halone ((namedBundle_acceptHead m m s).trans hb), swapArgs_acceptHead, takeSwap]

theorem same_takeSwap : sameExcept [.warden, .flash, .jex, .twin, .dma] (acceptHead m s) (takeSwap m b s) := by
  rw [takeSwap, queueSwap, modJex_eq, same_setJex _ _ _ _ (by simp)]
  exact (leaveOnly_askSwapLeave b _ _).1

theorem swaps_takeSwap : (takeSwap m b s).jex.swaps = s.jex.swaps ++ [swapArgs s m] := by
  obtain ⟨-, -, hjex, -⟩ := leaveOnly_askSwapLeave b (swapArgs s m).domain (acceptHead m s)
  have hswaps : (askSwapLeave b (swapArgs s m).domain (acceptHead m s)).jex.swaps = s.jex.swaps := by
    rw [hjex, acceptHead_jex]
  exact congrArg (· ++ [swapArgs s m]) hswaps

end

end Sys2Proof.Machine
end

section
/-! SUPPORT. A bundle that is not active is unloaded (R124): its lines are freed or kept for the programs that use them, its staged
programs are gone, and what is active goes on. -/

namespace Sys2Proof.Machine

open Sys2Proof.Safety

/-- The staged store of a Quern is empty once it holds a program of the bundle. -/
def Quern.unstage (u : Quern) (b : Bundle) : Quern :=
  if u.staged.any (fun x => x.bundle == b.id) then { u with staged := none, stagedOk := false } else u

theorem Quern.active_unstage (u : Quern) (b : Bundle) : (u.unstage b).active = u.active := by
  unfold Quern.unstage
  split <;> rfl

/-- The staged store holds no program of the bundle. -/
def Quern.clearOf (u : Quern) (b : Bundle) : Prop := ∀ x, u.staged = some x → x.bundle ≠ b.id

theorem Quern.clearOf_unstage (u : Quern) (b : Bundle) : (u.unstage b).clearOf b := by
  unfold Quern.unstage Quern.clearOf
  split
  case isTrue => exact fun x hx => absurd hx.symm (Option.some_ne_none x)
  case isFalse h =>
    intro x hx he
    rw [hx] at h
    simp [he] at h

section
variable (b : Bundle) (s : State)

/-- The staged programs of the bundle given up. -/
def unstageBundle : State := b.progs.foldl (fun t p => modQuern t p.quern (fun u => u.unstage b)) s

theorem same_unstageBundle : sameExcept [.querns] s (unstageBundle b s) := same_foldl _ _ _ _ fun t p => by simp

theorem active_unstageBundle (q : Nat) : (quern (unstageBundle b s) q).active = (quern s q).active := by
  refine foldl_keeps (fun t => (quern t q).active) (fun t p => ?_) _ _
  rw [quern_modQuern]
  split
  case isTrue h => rw [h, Quern.active_unstage]
  case isFalse => rfl

/-- Once a Quern's staged store holds no program of the bundle, it stays so. -/
theorem clearOf_unstagePrograms (l : List Program) {q : Nat} {s : State} (h : (quern s q).clearOf b) :
    (quern (l.foldl (fun t p => modQuern t p.quern (fun u => u.unstage b)) s) q).clearOf b := by
  induction l generalizing s with
  | nil => exact h
  | cons a l ih =>
    refine ih ?_
    rw [quern_modQuern]
    split
    · exact Quern.clearOf_unstage _ b
    · exact h

theorem clearOf_unstageBundle {p : Program} (hp : p ∈ b.progs) : (quern (unstageBundle b s) p.quern).clearOf b := by
  obtain ⟨before, after, hl⟩ := List.append_of_mem hp
  rw [unstageBundle, hl, List.foldl_append]
  refine clearOf_unstagePrograms b after ?_
  rw [quern_modQuern, if_pos rfl]
  exact Quern.clearOf_unstage _ b

/-- The lines of the bundle freed, but for those that a loaded bundle shares or an active program uses. -/
def freeLines : State :=
  let out := b.lineRecs.filter (fun l => !lineShared s b l && (line s l.entry).valid)
  modJex ((out.filter (fun l => !lineUsed s l.entry)).foldl freeLine s) (fun j =>
    { j with keptLines := j.keptLines ++ out.filter (fun l => lineUsed s l.entry) })

theorem same_freeLines : sameExcept [.lines, .jex] s (freeLines b s) := by
  unfold freeLines
  extract_lets out
  rw [modJex_eq, same_setJex _ _ _ _ (by simp)]
  exact same_foldl _ _ _ _ fun t l => by simp [freeLine]

theorem bundles_freeLines : (freeLines b s).jex.bundles = s.jex.bundles := by
  have hfreed : ∀ l : List LineRec, (l.foldl freeLine s).jex = s.jex :=
    fun l => foldl_keeps State.jex (g := freeLine) (fun _ _ => rfl) l s
  unfold freeLines
  extract_lets out
  rw [modJex_eq, State.setJex_jex, hfreed]

theorem freeBundle_eq : freeBundle b s = refreshRates
    (modJex (unstageBundle b (freeLines b s)) (fun j => { j with bundles := j.bundles.filter (fun x => x.id != b.id) })) := rfl

theorem same_freeBundle : sameExcept [.querns, .lines, .domains, .jex] s (freeBundle b s) := by
  rw [freeBundle_eq]
  refine same_trans ?_ (same_weaken (same_refreshRates _) (by simp))
  rw [modJex_eq, same_setJex _ _ _ _ (by simp)]
  exact same_trans (same_weaken (same_freeLines b s) (by simp)) (same_weaken (same_unstageBundle b _) (by simp))

theorem bundles_freeBundle : (freeBundle b s).jex.bundles = s.jex.bundles.filter (fun x => x.id != b.id) := by
  have hunstaged : (unstageBundle b (freeLines b s)).jex = (freeLines b s).jex := same_unstageBundle b _ .jex (by simp)
  have hbundles : (unstageBundle b (freeLines b s)).jex.bundles = s.jex.bundles := by rw [hunstaged, bundles_freeLines]
  rw [freeBundle_eq]
  exact (congrArg Jex.bundles (same_refreshRates _ .jex (by simp))).trans (congrArg (List.filter _) hbundles)

theorem quern_freeBundle (q : Nat) : quern (freeBundle b s) q = quern (unstageBundle b (freeLines b s)) q :=
  quern_of_same (same_refreshRates _) (by simp) q

theorem active_freeBundle (q : Nat) : (quern (freeBundle b s) q).active = (quern s q).active := by
  rw [quern_freeBundle, active_unstageBundle, quern_of_same (same_freeLines b s) (by simp)]

theorem clearOf_freeBundle {p : Program} (hp : p ∈ b.progs) : (quern (freeBundle b s) p.quern).clearOf b := by
  rw [quern_freeBundle]
  exact clearOf_unstageBundle b _ hp

end

/-- BUNDLE_UNLOAD of a bundle that is not active, once it is accepted. -/
theorem bundleUnloadRun_inactive {m : Nat} {s : State} {b : Bundle} (hb : namedBundle s m = some b) (h : b.state ≠ .active) :
    bundleUnloadRun m s = reply m [0] (freeBundle b s) := by
  simp only [bundleUnloadRun, hb, if_neg h]

end Sys2Proof.Machine
end

section
/-! SUPPORT. A late-muted Quern restored (R132). -/

namespace Sys2Proof.Machine

open Sys2Proof.Safety

/-- A muted Quern ramps up; any other is left alone. -/
def Quern.restored (u : Quern) : Quern :=
  if u.muted then { u with muted := false, rampDown := 0, rampUp := 1, timely := 0 } else u

section
variable (q : Nat) (s : State)

theorem onlyQuern_restoreQuern : onlyQuern q s (restoreQuern q s) := by
  refine ⟨by simp [restoreQuern], fun r hr => ?_⟩
  rw [restoreQuern, quern_modQuern, if_neg hr]

theorem quern_restoreQuern (k : Nat) : quern (restoreQuern q s) k = if k = q then (quern s q).restored else quern s k := by
  rw [restoreQuern, quern_modQuern]
  rfl

theorem quern_restoreQuern_same : quern (restoreQuern q s) q = (quern s q).restored :=
  (quern_restoreQuern q s q).trans (if_pos rfl)

end

/-- QUERN_RESTORE, once it is accepted. -/
theorem quernRestoreRun_taken (m : Nat) (s : State) :
    let q := fld (arg s m 1) 0 7
    quernRestoreRun m (acceptHead m s) = reply m [wrd (b2n (quern s q).muted)] (restoreQuern q (acceptHead m s)) := by
  intro q
  rw [quernRestoreRun, arg_acceptHead, quern_acceptHead]

/-- QUERN_AUTO_RESTORE of a muted Quern of which 1 s of passes were in time. -/
theorem exec_quernAutoRestore {q : Fin 128} {d : Nat} {s : State} (hj : jexOn s = true) (hm : (quern s q).muted = true)
    (hd : quernDom (quern s q) = some d) (ht : secondBells s d ≤ (quern s q).timely) :
    exec (.quernAutoRestore q) s = .next (restoreQuern q s) := by
  change execQuernAutoRestore q s = _
  simp only [execQuernAutoRestore, hd, hj, hm, ht, and_self, if_true]

end Sys2Proof.Machine
end

section

open Sys2Proof Sys2Proof.Machine Sys2Proof.Safety

/-- Settles O24: a load that passes waits its turn (`bundleLoadRun_passed`, `asked_nextLoad`) and ends staged (`loadDone_passed`,
`staged_stageBundle`); a device alone queues its swap (`programSwapRun_taken`); an unloaded bundle is out of the list and out of the
staged stores (`bundles_freeBundle`, `clearOf_freeBundle`); a restore reaches its own Quern (`quern_restoreQuern`). -/
theorem bundleCommands : Obligations.BundleCommands := by
  unfold Obligations.BundleCommands
  intro s m leave held restored
  refine ⟨?load, ?done, ?swap, ?unload, ?restore, ?auto⟩
  case load =>
    intro n ht hpass
    have hrun := bundleLoadRun_passed hpass
    refine pends_of ht rfl (by decide) (ps := [.warden, .flash, .jex, .twin, .dma]) ?_ (by simp) (by simp [leave]) (by simp [leave]) ?_
    · rw [hrun]
      exact same_nextLoad_takeLoad m n s
    · rw [hrun, loadsNow_skipAll, skipAll_jex]
      have hasked : (loadsNow (nextLoad (takeLoad m n s))).map held = (loadsNow (takeLoad m n s)).map held := asked_nextLoad _
      rw [loadsNow_takeLoad, List.map_append] at hasked
      exact ⟨hasked, nextLoad_underWay _ (by simp [loadsNow_takeLoad])⟩
  case done =>
    intro l hl hm hg hf b hfit hprog hnodup
    refine ⟨loadFollowed m b s, ?_, answered_loadFollowed s m b, ?_, asked_loadFollowed m b s, loadFollowed_underWay m b s,
      bundles_loadFollowed m b s, fun q => ?_, fun p hp => ?_⟩
    · rw [exec_bundleLoadDone hl hg hf, loadDone_passed hfit hprog, hm]
    · have hstaged := same_loadStaged m b s
      have hfollowed := same_loadFollowed m b s
      exact same_trans (same_weaken hstaged (by simp [leave])) (same_weaken hfollowed (by simp [leave]))
    · rw [quern_loadFollowed, loadPlaced, active_stageBundle]
      rfl
    · rw [quern_loadFollowed]
      exact staged_stageBundle b _ hnodup hp
  case swap =>
    intro since b ht hrole harm hb
    have hrun := programSwapRun_taken (since := since) ⟨hrole, harm⟩ hb
    refine pends_of ht rfl (by decide) (ps := [.warden, .flash, .jex, .twin, .dma]) ?_ (by simp) (by simp [leave]) (by simp [leave]) ?_
    · rw [hrun]
      exact same_takeSwap m b s
    · rw [hrun, skipAll_jex, swaps_takeSwap]
      exact ⟨swapArgs s m, rfl, rfl, (id_namedBundle hb).symm, rfl, rfl, rfl, rfl⟩
  case unload =>
    intro b ht hb hstate
    refine replies_of ht rfl (by decide) (by decide) (bundleUnloadRun_inactive ((namedBundle_acceptHead m m s).trans hb) hstate)
      (same_freeBundle b _) (by simp) (by simp) (by simp) ⟨?_, fun q => ?_, fun p hp => ?_⟩
    · rw [skipAll_jex, reply_jex, bundles_freeBundle, acceptHead_jex]
    · rw [quern_skipAll, quern_reply, active_freeBundle, quern_acceptHead]
    · rw [quern_skipAll, quern_reply]
      exact clearOf_freeBundle b _ hp
  case restore =>
    intro q ht
    refine replies_of ht rfl (by decide) (by simp) (quernRestoreRun_taken m s) (onlyQuern_restoreQuern q _).1 (by simp) (by simp)
      (by simp) fun k => ?_
    rw [quern_skipAll, quern_reply, quern_restoreQuern, quern_acceptHead, quern_acceptHead]
    rfl
  case auto =>
    intro q d hj hmuted hd htimely
    exact ⟨_, exec_quernAutoRestore hj hmuted hd htimely, onlyQuern_restoreQuern q s, quern_restoreQuern_same q s⟩

end

section
/-! SUPPORT. Glides (R177 to R179): the value that each step of a glide shows, where it ends, and the one step that the glides of a Quern
take together. -/

namespace Sys2Proof.Machine

/-! ### Rounding to the nearest -/

theorem rneDiv_eq (x : Int) (n : Nat) :
    let q := x / n
    let rem := x - q * n
    rneDiv x n = if (n : Int) < 2 * rem ∨ (2 * rem = n ∧ q % 2 = 1) then q + 1 else q := by
  intro q rem
  change (if 2 * rem > n then q + 1 else if 2 * rem = n ∧ q % 2 ≠ 0 then q + 1 else q) = _
  split_ifs <;> omega

/-- A quotient between two whole numbers is rounded to a number between them. -/
theorem rneDiv_between {x lo hi : Int} {n : Nat} (hn : 0 < n) (hlo : lo * n ≤ x) (hhi : x ≤ hi * n) :
    lo ≤ rneDiv x n ∧ rneDiv x n ≤ hi := by
  have hp : (0 : Int) < n := Int.natCast_pos.mpr hn
  have hql : lo ≤ x / n := Int.le_ediv_of_mul_le hp hlo
  have hqh : x / n ≤ hi := Int.ediv_le_of_le_mul hp hhi
  have hrem : x / n = hi → x - x / n * n ≤ 0 := fun h => by
    rw [h]
    omega
  rw [rneDiv_eq]
  split_ifs <;> omega

theorem rneDiv_mul_self (x : Int) {n : Nat} (hn : 0 < n) : rneDiv (x * n) n = x := by
  obtain ⟨hlo, hhi⟩ := rneDiv_between hn (le_refl (x * n)) (le_refl (x * n))
  exact le_antisymm hhi hlo

/-- The rounding law of R177 does not leave the range from v to t. -/
theorem glideLaw_between (v t : Int) {n k : Nat} (hn : 0 < n) (hk : k ≤ n) :
    min v t ≤ v + rneDiv ((t - v) * k) n ∧ v + rneDiv ((t - v) * k) n ≤ max v t := by
  have hkn : (k : Int) ≤ n := Int.ofNat_le.mpr hk
  have hk0 : (0 : Int) ≤ k := Int.natCast_nonneg k
  rcases le_total v t with h | h
  · obtain ⟨hlo, hhi⟩ := rneDiv_between (x := (t - v) * k) (lo := 0) (hi := t - v) hn (by nlinarith) (by nlinarith)
    omega
  · obtain ⟨hlo, hhi⟩ := rneDiv_between (x := (t - v) * k) (lo := t - v) (hi := 0) hn (by nlinarith) (by nlinarith)
    omega

/-! ### One glide -/

/-- The value of step k of a glide that begins, its last step included, is that of the rounding law. -/
theorem glideAt_begin_toInt (g : Glide) (t : Sample) {n k : Nat} (hn : 0 < n) (hk : k ≤ n) :
    (glideAt (g.begin t n) k).toInt = g.value.toInt + rneDiv ((t.toInt - g.value.toInt) * k) n := by
  change (if k = n then t else smp (g.value.toInt + rneDiv ((t.toInt - g.value.toInt) * k) n)).toInt = _
  split
  case isTrue h =>
    rw [h, rneDiv_mul_self _ hn]
    omega
  case isFalse =>
    obtain ⟨hlo, hhi⟩ := glideLaw_between g.value.toInt t.toInt hn hk
    have hv0 := g.value.le_toInt
    have hv1 := g.value.toInt_lt
    have ht0 := t.le_toInt
    have ht1 := t.toInt_lt
    exact smp_toInt (by omega) (by omega)

section
variable {g : Glide} (h0 : g.k = 0) {k : Nat}
include h0

/-- A glide that has not taken a step shows, k + 1 steps on, the value of that step. -/
theorem repeat_step (hk : k < g.len) :
    Nat.repeat Glide.step (k + 1) g = { g with k := k + 1, value := glideAt g (k + 1) } := by
  induction k with
  | zero =>
    change Glide.step g = _
    rw [Glide.step, h0, if_pos hk]
  | succ k ih =>
    rw [Nat.repeat, ih (by omega), Glide.step, if_pos hk]
    rfl

/-- From its last step on a glide holds its target, and its step count stands (R177). -/
theorem repeat_step_ended (hlen : 1 ≤ g.len) (hk : g.len ≤ k) :
    Nat.repeat Glide.step k g = { g with k := g.len, value := g.target } := by
  induction k, hk using Nat.le_induction with
  | base =>
    obtain ⟨j, hj⟩ := Nat.exists_eq_add_of_le' hlen
    have hlast := repeat_step h0 (k := j) (by omega)
    rw [← hj] at hlast
    rw [hlast, glideAt, if_pos rfl]
  | succ k hk ih => rw [Nat.repeat, ih, Glide.step, if_neg (lt_irrefl _)]

end

/-- k steps after it begins, k from 1 to N, a glide shows the value of the rounding law. -/
theorem value_repeat_begin (g : Glide) (t : Sample) {n k : Nat} (hk : 1 ≤ k) (hn : k ≤ n) :
    (Nat.repeat Glide.step k (g.begin t n)).value.toInt = g.value.toInt + rneDiv ((t.toInt - g.value.toInt) * k) n := by
  obtain ⟨j, rfl⟩ := Nat.exists_eq_add_of_le' hk
  rw [repeat_step (g := g.begin t n) rfl hn]
  exact glideAt_begin_toInt g t (by omega) hn

/-! ### The glides of a Quern -/

section
variable {α : Type} (d : α)

theorem Tab.get_map {f : α → α} (hf : f d = d) (t : Tab α) (k : Nat) :
    Tab.get d (t.map (fun e => (e.1, f e.2))) k = f (Tab.get d t k) := by
  induction t with
  | nil => exact hf.symm
  | cons p t ih =>
    simp only [List.map_cons, Tab.get, ih]
    split <;> rfl

theorem Tab.rising_map (f : α → α) (lo : Option Nat) (t : Tab α) :
    Tab.rising lo (t.map (fun e => (e.1, f e.2))) = Tab.rising lo t := by
  induction t generalizing lo with
  | nil => rfl
  | cons p t ih => simp only [List.map_cons, Tab.rising, ih]

theorem Tab.rising_tail {lo : Option Nat} {p : Nat × α} {t : Tab α} (h : Tab.rising lo (p :: t) = true) :
    Tab.rising (some p.1) t = true := by
  simp only [Tab.rising, Bool.and_eq_true] at h
  exact h.2

/-- An index that is not above the lower bound of a rising table is not listed. -/
theorem Tab.get_below {l k : Nat} {t : Tab α} (h : Tab.rising (some l) t = true) (hk : k ≤ l) : Tab.get d t k = d := by
  induction t generalizing l with
  | nil => rfl
  | cons p t ih =>
    have hl : l < p.1 := by
      simp only [Tab.rising, Bool.and_eq_true, decide_eq_true_eq] at h
      exact h.1
    rw [Tab.get, if_neg (by omega)]
    exact ih (Tab.rising_tail h) (by omega)

/-- Dropping the entries that hold the default changes no read of a rising table. -/
theorem Tab.get_filter_ne [DecidableEq α] {lo : Option Nat} {t : Tab α} (h : Tab.rising lo t = true) (k : Nat) :
    Tab.get d (t.filter (fun e => e.2 ≠ d)) k = Tab.get d t k := by
  induction t generalizing lo with
  | nil => rfl
  | cons p t ih =>
    have htail := Tab.rising_tail h
    by_cases hp : p.2 = d
    · rw [List.filter_cons_of_neg (by simpa using hp), ih htail, Tab.get]
      split
      case isTrue hk => rw [Tab.get_below d htail (by omega), hp]
      case isFalse => rfl
    · rw [List.filter_cons_of_pos (by simpa using hp), Tab.get, Tab.get, ih htail]

end

theorem glides_stepGlides {u : Quern} (h : Tab.wf {} u.glides = true) (r : Nat) :
    (Tab.get {} u.stepGlides.glides r : Glide) = (Tab.get {} u.glides r).step := by
  simp only [Tab.wf, Bool.and_eq_true] at h
  obtain ⟨hrising, -⟩ := h
  rw [Quern.stepGlides, Tab.get_filter_ne (lo := none) _ (by rw [Tab.rising_map]; exact hrising), Tab.get_map _ rfl]

end Sys2Proof.Machine
end

section

open Sys2Proof Sys2Proof.Machine Sys2Proof.Safety

/-- Settles O45: a step shows the value of the rounding law (`value_repeat_begin`, `rneDiv_eq`), which stays between start and target
(`glideLaw_between`); the end of a glide is `repeat_step_ended`, and the glides of a Quern are read one by one (`glides_stepGlides`). -/
theorem glidesFollowTheLaw : Obligations.GlidesFollowTheLaw := by
  unfold Obligations.GlidesFollowTheLaw
  intro g t n v0 d at_
  refine ⟨fun k hk hn => ?law, fun k hn hk => ?ended, fun u r hu => glides_stepGlides hu r⟩
  case law =>
    intro q rem
    have hvalue : (at_ k).value.toInt = v0 + rneDiv (d * k) n := value_repeat_begin g t hk hn
    rw [hvalue]
    exact ⟨congrArg (v0 + ·) (rneDiv_eq (d * k) n), glideLaw_between v0 t.toInt (by omega) hn⟩
  case ended =>
    have hended : ∀ j, n ≤ j → at_ j = { g.begin t n with k := n, value := t } := fun j hj =>
      repeat_step_ended (g := g.begin t n) rfl hn hj
    rw [hended k hk, hended (k + 1) (by omega)]
    exact ⟨rfl, rfl, rfl⟩

end

section
/-! SUPPORT. PARAM_COMMIT with a stated Bell: the slot of the set takes over Jexolaryn's own glides for that Bell on the Querns that the
set claims, and no own slot keeps one (R447). -/

namespace Sys2Proof.Machine

open Sys2Proof.Safety

/-- No glide that the slot carries of Jexolaryn's own is on a Quern of a list. -/
def CommitSlot.clearOf (claims : List Nat) (c : CommitSlot) : Prop := ∀ g ∈ c.own, g.quern ∉ claims

/-- The slot is one of Jexolaryn's own, armed for Bell b. -/
def CommitSlot.ownFor (b : BitVec 48) (c : CommitSlot) : Prop := c.isOwn = true ∧ c.next = false ∧ c.bell = b

/-- Slot i of domain d, as the loop of `mergeOwn` takes it. -/
def mergeSlot (d k : Nat) (b : BitVec 48) (claims : List Nat) (s : State) (i : Nat) : State :=
  let c := slotOf s d i
  let gs := c.own.filter (fun g => claims.contains g.quern)
  if c.isOwn && !c.next && c.bell == b && gs != [] then
    modSlot (modSlot s d i (fun x => ({ x with own := x.own.filter (fun g => !claims.contains g.quern) } : CommitSlot).trim [])) d k
      (fun x => x.carry b gs [])
  else s

theorem mergeOwn_eq (d k : Nat) (b : BitVec 48) (claims : List Nat) (s : State) :
    mergeOwn d k b claims s = forEach (List.range 8) (mergeSlot d k b claims) s := rfl

section
variable {d k i j : Nat} {b : BitVec 48} {claims : List Nat} {s : State} (hk : j ≠ k)
include hk

theorem slotOf_mergeSlot_other (hi : j ≠ i) : slotOf (mergeSlot d k b claims s i) d j = slotOf s d j := by
  unfold mergeSlot
  extract_lets c gs
  split
  · rw [slotOf_modSlot, if_neg hk, slotOf_modSlot, if_neg hi]
  · rfl

theorem clearOf_mergeSlot (h : (slotOf s d j).ownFor b ∨ (slotOf s d j).clearOf claims) :
    (slotOf (mergeSlot d k b claims s j) d j).clearOf claims := by
  unfold mergeSlot
  extract_lets c gs
  split
  case isTrue =>
    rw [slotOf_modSlot, if_neg hk, slotOf_modSlot, if_pos rfl]
    intro g hg
    simpa using (List.mem_filter.mp hg).2
  case isFalse hn =>
    refine h.elim (fun ⟨hown, hnext, hbell⟩ g hg hc => hn ?_) id
    have hgs : gs ≠ [] := List.ne_nil_of_mem (List.mem_filter.mpr ⟨hg, by simpa using hc⟩)
    simp [c, hown, hnext, hbell, hgs]

theorem clearOf_mergeEach {l : List Nat} (h : (slotOf s d j).ownFor b ∧ j ∈ l ∨ (slotOf s d j).clearOf claims) :
    (slotOf (forEach l (mergeSlot d k b claims) s) d j).clearOf claims := by
  induction l generalizing s with
  | nil => exact h.elim (fun hl => absurd hl.2 List.not_mem_nil) id
  | cons i l ih =>
    refine ih (s := mergeSlot d k b claims s i) ?_
    by_cases hi : j = i
    · rw [← hi]
      exact .inr (clearOf_mergeSlot hk (h.imp_left And.left))
    · rw [slotOf_mergeSlot_other hk hi]
      exact h.imp_left fun ⟨hown, hl⟩ => ⟨hown, (List.mem_cons.mp hl).resolve_left hi⟩

/-- An own slot armed for the Bell of a set that is armed in slot k keeps no glide on a Quern of the set. -/
theorem clearOf_armSet {n : Nat} (h : (slotOf s (hostSet s n).domain j).ownFor b) (hj : j < 8) :
    (slotOf (armSet n k false b s) (hostSet s n).domain j).clearOf (hostSet s n).claims := by
  rw [armSet, if_neg Bool.false_ne_true, mergeOwn_eq]
  refine clearOf_mergeEach hk (.inl ⟨?_, List.mem_range.mpr hj⟩)
  rw [slotOf_modSet, slotOf_modSlot, if_neg hk]
  exact h

end

theorem slotOf_sendRecord (d kind : Nat) (ws : List Word) (s : State) (e j : Nat) :
    slotOf (sendRecord d kind ws s) e j = slotOf s e j := by
  unfold sendRecord
  split <;> rfl

section
variable (m d k : Nat) (ws : List Word) (s : State)

@[simp] theorem slotOf_acceptHead : slotOf (acceptHead m s) d k = slotOf s d k := by simp [slotOf, dom]

@[simp] theorem hostSet_acceptHead : hostSet (acceptHead m s) k = hostSet s k := by simp [hostSet]

@[simp] theorem hostSlot_acceptHead : hostSlot (acceptHead m s) d = hostSlot s d := by simp [hostSlot]

@[simp] theorem slotOf_skipAll : slotOf (skipAll s) d k = slotOf s d k := by simp [slotOf, dom]

@[simp] theorem slotOf_reply : slotOf (reply m ws s) d k = slotOf s d k := by simp [slotOf, dom]

end

/-- PARAM_COMMIT with a stated Bell leaves the other slots of the domain as arming the set does. -/
theorem slotOf_paramCommitRun_other {m since k j : Nat} {s : State} (hnext : bit (arg s m 1) 31 = false)
    (hk : hostSlot s (hostSet s (fld (arg s m 1) 0 3)).domain = some k) (hj : j ≠ k) :
    let n := fld (arg s m 1) 0 3
    let d := (hostSet s n).domain
    slotOf (paramCommitRun m since s) d j = slotOf (armSet n k false (bellOf (fld (arg s m 2) 0 16) (arg s m 3).toNat) s) d j := by
  intro n d
  unfold paramCommitRun
  extract_lets h nb b
  have hnb : nb = (false, bellOf (fld (arg s m 2) 0 16) (arg s m 3).toNat) := by
    unfold nb statedBell
    rw [hnext]
    rfl
  have hb : b = nb.2 := by
    unfold b
    rw [hnb]
    rfl
  rw [show hostSlot s h.domain = some k from hk, hb, hnb]
  dsimp only
  split
  · rw [slotOf_modSet, slotOf_sendRecord, slotOf_modSlot, if_neg hj]
  · rw [slotOf_reply, slotOf_sendRecord, slotOf_modSlot, if_neg hj]

theorem clearOf_paramCommitRun {m since k j : Nat} {s : State} (hnext : bit (arg s m 1) 31 = false)
    (hk : hostSlot s (hostSet s (fld (arg s m 1) 0 3)).domain = some k) (hjk : j ≠ k) (hj : j < 8)
    (h : (slotOf s (hostSet s (fld (arg s m 1) 0 3)).domain j).ownFor (bellOf (fld (arg s m 2) 0 16) (arg s m 3).toNat)) :
    let x := hostSet s (fld (arg s m 1) 0 3)
    (slotOf (paramCommitRun m since s) x.domain j).clearOf x.claims := by
  intro x
  rw [slotOf_paramCommitRun_other hnext hk hjk]
  exact clearOf_armSet hjk h hj

/-- Once PARAM_COMMIT has armed a set for a stated Bell, no other slot that was armed for own changes at that Bell keeps a glide on a Quern
of the set. -/
theorem clearOf_paramCommit {m : Fin 8} {since k j : Nat} {s t : State} (htaken : taken s m 0x32 (paramCommitChecks m since) = true)
    (ht : exec (.paramCommit m since) s = .next t) (hnext : bit (arg s m 1) 31 = false)
    (hk : hostSlot s (hostSet s (fld (arg s m 1) 0 3)).domain = some k) (hjk : j ≠ k) (hj : j < 8)
    (h : (slotOf s (hostSet s (fld (arg s m 1) 0 3)).domain j).ownFor (bellOf (fld (arg s m 2) 0 16) (arg s m 3).toNat)) :
    let x := hostSet s (fld (arg s m 1) 0 3)
    (slotOf t x.domain j).clearOf x.claims := by
  intro x
  have hrun : t = skipAll (paramCommitRun m since (acceptHead m s)) :=
    Host.Outcome.next.inj (ht.symm.trans (congrArg Host.Outcome.next (serve_taken s m 0x32 _ _ htaken)))
  have hclear := clearOf_paramCommitRun (m := m) (since := since) (k := k) (j := j) (s := acceptHead m s)
  simp only [arg_acceptHead, hostSet_acceptHead, hostSlot_acceptHead, slotOf_acceptHead] at hclear
  rw [hrun, slotOf_skipAll]
  exact hclear hnext hk hjk hj h

end Sys2Proof.Machine
end

section

open Sys2Proof Sys2Proof.Machine Sys2Proof.Safety

/-- Refutes O23: the clause of PARAM_COMMIT on a single device gives the slot of the set no own glides and has every other slot stay as it
was, and R447 has that slot carry Jexolaryn's own values where an own change is armed for the same Bell on a Quern of the set
(`clearOf_paramCommit`). Slot 6 of domain 1 holds an own glide of Quern 5 for Bell 5096; set 2 claims Quern 5 and is committed for that
Bell, which takes the glide out of slot 6. -/
theorem not_parameterSets : ¬ Obligations.ParameterSets := by
  unfold Obligations.ParameterSets
  intro h
  let fade : OwnGlide := { quern := 5, reg := 3, target := 0, len := 480, why := 0, zone := 0 }
  let s : State :=
    { aon := { mode := .service }
      querns := [(5, { active := some { quern := 5, domain := 1 } })]
      domains := [(1, { enable := true, state := .locked, bell := 5000, bellRate := 4800000,
                        slots := [(6, { armed := true, bell := 5096, mask := 0x20#128, own := [fade] })] })]
      jex := { started := true
               sets := [(2, { state := .opened, domain := 1, hasDomain := true, claims := [5], staged := [⟨5, 1, 192, 7, 100⟩] })] }
      host := { served := true, doorbells := [0]
                mbs := [(0, { state := .queued, words := [(0, 0x32000400#32), (1, 2#32), (3, 5096#32)] })] } }
  have htaken : taken s 0 0x32 (paramCommitChecks 0 0) = true := by decide +kernel
  obtain ⟨-, -, hcommit, -⟩ := h s 0
  obtain ⟨t, ht, -, -, -, hothers, -⟩ := hcommit 0 0 htaken rfl (by decide) (by decide) (by simp)
  have hcleared : (slotOf t 1 6).clearOf [5] :=
    clearOf_paramCommit (k := 0) htaken ht (by decide) (by decide) (by decide) (by decide)
      ⟨by decide, by decide, by decide⟩
  have hkept : slotOf t 1 6 = slotOf s 1 6 := hothers 1 6 (.inr (by decide))
  rw [hkept] at hcleared
  exact hcleared fade (by decide) (by decide)

end

section
/-! SUPPORT. The route commands (R207): one that no copy holds and no check refuses is carried out on the state in which it was
accepted; what the staged tables, the detours and the route slot then read as; and the end of a copy (R193). -/

namespace Sys2Proof.Machine

open Sys2Proof.Safety

/-! ### Tables written in a loop -/

section
variable {α : Type} [DecidableEq α] (d : α) (t : Tab α) (g : Nat → α)

theorem Tab.get_setRun_map (k n j : Nat) :
    Tab.get d (Tab.setRun d t k ((List.range n).map g)) j = if k ≤ j ∧ j < k + n then g (j - k) else Tab.get d t j := by
  rw [Tab.get_setRun, List.length_map, List.length_range]
  split
  · next h =>
    have hlt : j - k < n := by omega
    simp [List.getD_eq_getElem?_getD, hlt]
  · rfl

theorem Tab.get_setEach (l : List Nat) (k : Nat) :
    Tab.get d (l.foldl (fun u c => Tab.set d u c (g c)) t) k = if k ∈ l then g k else Tab.get d t k := by
  induction l generalizing t with
  | nil => rfl
  | cons c l ih =>
    rw [List.foldl_cons, ih, Tab.get_set]
    by_cases hkl : k ∈ l
    · simp [hkl]
    · by_cases hkc : k = c <;> simp [hkl, hkc]

end

/-- Reading a table after one element went through f, said of the element that is read. -/
theorem Tab.get_mod_elem {α : Type} [DecidableEq α] (d : α) (t : Tab α) (k j : Nat) (f : α → α) :
    Tab.get d (Tab.mod d t k f) j = if j = k then f (Tab.get d t j) else Tab.get d t j := by
  rw [Tab.get_mod]
  split
  · next h => rw [h]
  · rfl

/-! ### Accepting a command changes nothing that a route command reads -/

section
variable (m d since : Nat) (ws : List Word) (s : State)

@[simp] theorem dom_acceptHead : dom (acceptHead m s) d = dom s d := by simp [dom]

@[simp] theorem dom_skipAll : dom (skipAll s) d = dom s d := by simp [dom]

@[simp] theorem dom_reply : dom (reply m ws s) d = dom s d := by simp [dom]

@[simp] theorem mapArgs_acceptHead : mapArgs (acceptHead m s) m = mapArgs s m := by simp [mapArgs]

@[simp] theorem detourArgs_acceptHead : detourArgs (acceptHead m s) m = detourArgs s m := by simp [detourArgs]

@[simp] theorem detourEntries_acceptHead : detourEntries (acceptHead m s) m = detourEntries s m := by simp [detourEntries]

@[simp] theorem controlArgs_acceptHead : controlArgs (acceptHead m s) m = controlArgs s m := by simp [controlArgs]

@[simp] theorem swapDomain_acceptHead : swapDomain (acceptHead m s) m = swapDomain s m := by simp [swapDomain]

@[simp] theorem inputMap_acceptHead : inputMap (acceptHead m s) m = inputMap s m := by simp [inputMap]

theorem linkFits_acceptHead (map : Tab InEntry) (tab : Tab StileCfg) : linkFits (acceptHead m s) map tab = linkFits s map tab := rfl

theorem stileFits_acceptHead (c : StileCfg) : stileFits (acceptHead m s) c = stileFits s c := rfl

theorem detourFits_acceptHead (o : Nat) (x : Detour) : detourFits (acceptHead m s) o x = detourFits s o x := rfl

theorem chansHeld_acceptHead (first count : Nat) : chansHeld (acceptHead m s) first count = chansHeld s first count := rfl

theorem busyRoutes_acceptHead : busyRoutes (acceptHead m s) = busyRoutes s := rfl

theorem domStiles_acceptHead : domStiles (acceptHead m s) d = domStiles s d := rfl

theorem routeHeld_acceptHead : routeHeld (acceptHead m s) m = routeHeld s m := by
  simp only [routeHeld, cmdOp_acceptHead, arg_acceptHead, mapArgs_acceptHead, detourArgs_acceptHead, controlArgs_acceptHead,
    swapDomain_acceptHead, chansHeld_acceptHead, busyRoutes_acceptHead, domStiles_acceptHead]

theorem routeInputChecks_acceptHead : routeInputChecks m (acceptHead m s) = routeInputChecks m s := by
  simp [routeInputChecks, linkFits_acceptHead]

theorem routeOutputChecks_acceptHead : routeOutputChecks m (acceptHead m s) = routeOutputChecks m s := by
  simp [routeOutputChecks]

theorem stileWriteChecks_acceptHead : stileWriteChecks m (acceptHead m s) = stileWriteChecks m s := by
  simp [stileWriteChecks, linkFits_acceptHead, stileFits_acceptHead]

theorem detourWriteChecks_acceptHead : detourWriteChecks m (acceptHead m s) = detourWriteChecks m s := by
  simp [detourWriteChecks, detourFits_acceptHead]

theorem detourControlChecks_acceptHead : detourControlChecks m (acceptHead m s) = detourControlChecks m s := by
  simp only [detourControlChecks, controlArgs_acceptHead]
  rfl

theorem swapAsked_acceptHead : swapAsked (acceptHead m s) m since = swapAsked s m since := by
  simp only [swapAsked, swapDomain_acceptHead, arg_acceptHead]
  rfl

theorem routeSwapChecks_acceptHead (h : HeldSwap) : routeSwapChecks m h (acceptHead m s) = routeSwapChecks m h s := by
  simp [routeSwapChecks]

end

/-! ### A command that is carried out -/

section
variable {m since : Nat} {s : State}

/-- With no copy in its domain a route command is checked and carried out at once (R193). -/
theorem routeRun_free (hfree : routeHeld s m = false) :
    routeRun m since (acceptHead m s) = routeNow m (swapAsked s m since) (acceptHead m s) := by
  rw [routeRun, routeHeld_acceptHead, hfree, if_neg Bool.false_ne_true, swapAsked_acceptHead]

theorem routeRun_input (hop : cmdOp s m = 0x41) (hfree : routeHeld s m = false) (hpass : routeInputChecks m s = none) :
    routeRun m since (acceptHead m s) = routeInputNow m (acceptHead m s) := by
  simp only [routeRun_free hfree, routeNow, cmdOp_acceptHead, hop, routeInputChecks_acceptHead, hpass]

theorem routeRun_output (hop : cmdOp s m = 0x42) (hfree : routeHeld s m = false) (hpass : routeOutputChecks m s = none) :
    routeRun m since (acceptHead m s) = routeOutputNow m (acceptHead m s) := by
  simp only [routeRun_free hfree, routeNow, cmdOp_acceptHead, hop, routeOutputChecks_acceptHead, hpass]

theorem routeRun_stile (hop : cmdOp s m = 0x43) (hfree : routeHeld s m = false) (hpass : stileWriteChecks m s = none) :
    routeRun m since (acceptHead m s) = stileWriteNow m (acceptHead m s) := by
  simp only [routeRun_free hfree, routeNow, cmdOp_acceptHead, hop, stileWriteChecks_acceptHead, hpass]

theorem routeRun_detour (hop : cmdOp s m = 0x44) (hfree : routeHeld s m = false) (hpass : detourWriteChecks m s = none) :
    routeRun m since (acceptHead m s) = detourWriteNow m (acceptHead m s) := by
  simp only [routeRun_free hfree, routeNow, cmdOp_acceptHead, hop, detourWriteChecks_acceptHead, hpass]

theorem routeRun_swap (hop : cmdOp s m = 0x45) (hfree : routeHeld s m = false)
    (hpass : routeSwapChecks m (swapAsked s m since) s = none) :
    routeRun m since (acceptHead m s) = routeSwapNow m (swapAsked s m since) (acceptHead m s) := by
  simp only [routeRun_free hfree, routeNow, cmdOp_acceptHead, hop, routeSwapChecks_acceptHead, hpass]

theorem routeRun_control (hop : cmdOp s m = 0x46) (hfree : routeHeld s m = false) (hpass : detourControlChecks m s = none) :
    routeRun m since (acceptHead m s) = detourControlNow m (acceptHead m s) := by
  simp only [routeRun_free hfree, routeNow, cmdOp_acceptHead, hop, detourControlChecks_acceptHead, hpass]

end

/-! ### The staged tables after a write -/

section
variable (s : State) (m k : Nat)

theorem get_inputMap : Tab.get {} (inputMap s m) k =
    if (mapArgs s m).1 ≤ k ∧ k < (mapArgs s m).1 + (mapArgs s m).2 then inEntryOf (arg s m (2 + (k - (mapArgs s m).1)))
    else Tab.get {} s.audio.inS k := by
  rw [inputMap, args, List.map_map]
  exact Tab.get_setRun_map ..

/-- The staged output map as ROUTE_OUTPUT_WRITE leaves it. -/
def outputMap : Tab OutEntry :=
  Tab.setRun {} s.audio.outS (mapArgs s m).1 ((args s m 2 (mapArgs s m).2).map outEntryOf)

theorem get_outputMap : Tab.get {} (outputMap s m) k =
    if (mapArgs s m).1 ≤ k ∧ k < (mapArgs s m).1 + (mapArgs s m).2 then outEntryOf (arg s m (2 + (k - (mapArgs s m).1)))
    else Tab.get {} s.audio.outS k := by
  rw [outputMap, args, List.map_map]
  exact Tab.get_setRun_map ..

/-- The staged detours as DETOUR_WRITE leaves them. -/
def detourMap : Tab Detour := Tab.setRun {} s.audio.detS (detourArgs s m).1 (detourEntries s m)

theorem get_detourMap : Tab.get {} (detourMap s m) k =
    if (detourArgs s m).1 ≤ k ∧ k < (detourArgs s m).1 + (detourArgs s m).2 then
      detourOf (arg s m (2 + 2 * (k - (detourArgs s m).1))) (arg s m (3 + 2 * (k - (detourArgs s m).1)))
    else Tab.get {} s.audio.detS k :=
  Tab.get_setRun_map ..

end

/-- A taken route command that writes the routing tables and replies 0 changes nothing else but the host port. -/
theorem replies_routed {c : Instr} {s : State} {m : Fin 8} {op : Nat} {p : State → Prop} {a : Audio}
    (ht : taken s m op noChecks = true) (he : exec c s = .next (serve op m noChecks (routeRun m 0) s)) (hrow : cmdRow op ≠ none)
    (hrun : routeRun m 0 (acceptHead m s) = reply m [0] ((acceptHead m s).setAudio a)) (hp : ∀ t : State, t.audio = a → p t) :
    replies c s m [0] [.audio, .host] p :=
  replies_of ht he hrow (by decide) hrun (same_setAudio_self _ _) (by simp) (by simp) (by simp) (hp _ (by simp))

/-! ### ROUTE_SWAP on a single device -/

/-- The Bell that a ROUTE_SWAP names: the next one, or the stated one. -/
def swapBell (s : State) (m : Nat) : BitVec 48 :=
  if bit (arg s m 1) 31 then (dom s (swapDomain s m)).bell + 1 else bellOf (fld (arg s m 1) 0 16) (arg s m 2).toNat

/-- The route slot of the command's domain armed for its Bell. -/
def armSwap (m : Nat) (s : State) : State :=
  modDom s (swapDomain s m) (fun x => { x with route := x.route.arm (bit (arg s m 1) 31) (swapBell s m) x.bell })

section
variable {m since : Nat} {s : State}

@[simp] theorem swapBell_acceptHead : swapBell (acceptHead m s) m = swapBell s m := by simp [swapBell]

/-- A device alone takes the Bell as the command has it and sends no record. -/
theorem routeSwapNow_alone (h : alone s) : routeSwapNow m (swapAsked s m since) s =
    reply m [wrd (swapDomain s m * 268435456), wrd (bellHi (swapBell s m)), bellLo (swapBell s m)] (armSwap m s) := by
  have harmed : alone (armSwap m s) := h
  have hnext : (swapAsked s m since).next = bit (arg s m 1) 31 := by simp only [swapAsked, statedBell_alone h]
  have hbell : (swapAsked s m since).bell = bellOf (fld (arg s m 1) 0 16) (arg s m 2).toNat := by
    simp only [swapAsked, statedBell_alone h]
  simp only [routeSwapNow, hnext, hbell]
  exact congrArg (reply m _) (sendRecord_alone harmed _ _ _)

theorem dom_armSwap (e : Nat) : dom (armSwap m s) e =
    if e = swapDomain s m then
      let x := dom s (swapDomain s m)
      { x with route := x.route.arm (bit (arg s m 1) 31) (swapBell s m) x.bell }
    else dom s e :=
  dom_modDom ..

end

/-! ### DETOUR_CONTROL -/

/-- A detour under DETOUR_CONTROL: forced where the action is 1, else returning (R202). -/
def DetourStat.control (action : Nat) (y : DetourStat) : DetourStat :=
  if action = 1 then { y with forced := true, returning := false } else { y with returning := true }

theorem same_detourControlNow (m : Nat) (s : State) : sameExcept [.audio] s (detourControlNow m s) := same_setAudio_self _ _

theorem audio_detourControlNow (m : Nat) (s : State) : (detourControlNow m s).audio =
    { s.audio with detStat := Tab.mod {} s.audio.detStat (controlArgs s m).1 (DetourStat.control (controlArgs s m).2) } := rfl

/-! ### The end of a copy (R193) -/

/-- The copy of domain d made and ended. -/
def copyEnded (d : Nat) (s : State) : State :=
  modDom (routeCopy d s) d (fun x => { x with routeBusy := false, copyChans := [], copyStiles := [] })

theorem filterHeld_self {s : State} (h : s.jex.held = []) (c : Nat → Bool) :
    modJex s (fun j => { j with held := j.held.filter c }) = s := by
  have hc : s.jex.held.filter c = s.jex.held := by rw [h, List.filter_nil]
  rw [modJex_eq, hc]
  exact State.setJex_self s

/-- With no command held the end of a copy sets nothing going. -/
theorem exec_routeCopyDone {d : Fin 4} {s : State} (hj : jexOn s = true) (hb : (dom s d).routeBusy = true) (hheld : s.jex.held = []) :
    exec (.routeCopyDone d) s = .next (copyEnded d s) := by
  have hnone : (copyEnded d s).jex.held = [] := hheld
  change execRouteCopyDone d s = _
  unfold execRouteCopyDone
  rw [if_pos ⟨hj, hb⟩]
  simp only [← copyEnded.eq_def, hnone, List.filter_nil, List.foldl_nil, filterHeld_self hnone]

theorem same_copyEnded (d : Nat) (s : State) : sameExcept [.audio, .domains] s (copyEnded d s) := by
  simp [copyEnded, routeCopy]

theorem audio_copyEnded (d : Nat) (s : State) : (copyEnded d s).audio = (routeCopy d s).audio := by
  rw [copyEnded, modDom_eq, State.setDomains_audio]

theorem dom_copyEnded (d e : Nat) (s : State) : dom (copyEnded d s) e =
    if e = d then { dom s e with routeBusy := false, copyChans := [], copyStiles := [] } else dom s e := by
  rw [copyEnded, modDom_eq, dom_setDomains, Tab.get_mod_elem]
  rfl

end Sys2Proof.Machine
end

section

open Sys2Proof Sys2Proof.Machine Sys2Proof.Safety

/-- Settles O26: a route command that nothing holds or refuses is carried out on the state in which it was accepted (`routeRun_free`); a
written table reads as its entries where they stand and as before elsewhere (`get_inputMap`, `get_outputMap`, `get_detourMap`); a device
alone arms the slot for the Bell it was told (`routeSwapNow_alone`); a copy writes the elements that the swap exchanged
(`Tab.get_setEach`). -/
theorem routeCommands : Obligations.RouteCommands := by
  unfold Obligations.RouteCommands
  intro s m w free a
  refine ⟨?input, ?output, ?stile, ?detour, ?swap, ?control, ?copy⟩
  case input =>
    intro ht hfree hpass
    refine replies_routed (a := { s.audio with inS := inputMap s m }) ht rfl (by decide) ?_ fun t haudio => ?_
    · rw [routeRun_input (taken_op s m _ _ ht) hfree hpass, routeInputNow, inputMap_acceptHead]
      rfl
    · rw [haudio]
      exact ⟨rfl, get_inputMap s m⟩
  case output =>
    intro ht hfree hpass
    refine replies_routed (a := { s.audio with outS := outputMap s m }) ht rfl (by decide) ?_ fun t haudio => ?_
    · rw [routeRun_output (taken_op s m _ _ ht) hfree hpass, routeOutputNow, mapArgs_acceptHead, args_acceptHead]
      rfl
    · rw [haudio]
      exact ⟨rfl, get_outputMap s m⟩
  case stile =>
    intro ht hfree hpass
    refine replies_routed (a := { s.audio with stileS := Tab.set {} s.audio.stileS (fld w 0 6) (stileOf (arg s m 2)) }) ht rfl (by decide)
      ?_ fun t haudio => ?_
    · rw [routeRun_stile (taken_op s m _ _ ht) hfree hpass, stileWriteNow, arg_acceptHead, arg_acceptHead]
      rfl
    · rw [haudio]
      exact ⟨rfl, fun k => Tab.get_set ..⟩
  case detour =>
    intro ht hfree hpass
    refine replies_routed (a := { s.audio with detS := detourMap s m }) ht rfl (by decide) ?_ fun t haudio => ?_
    · rw [routeRun_detour (taken_op s m _ _ ht) hfree hpass, detourWriteNow, detourArgs_acceptHead, detourEntries_acceptHead]
      rfl
    · rw [haudio]
      exact ⟨rfl, get_detourMap s m⟩
  case swap =>
    intro since ht hfree hpass hrole harm d b
    have halone : alone (acceptHead m s) := ⟨hrole, harm⟩
    refine replies_of ht rfl (by decide) (by simp) (ps := [.domains]) (u := armSwap m (acceptHead m s)) ?_ ?_ (by simp) (by simp) (by simp)
      fun e => ?_
    · rw [routeRun_swap (taken_op s m _ _ ht) hfree hpass, ← swapAsked_acceptHead, routeSwapNow_alone halone, swapBell_acceptHead,
        swapDomain_acceptHead]
      rfl
    · simp [armSwap]
    · rw [dom_skipAll, dom_reply, dom_armSwap, swapBell_acceptHead, swapDomain_acceptHead, arg_acceptHead]
      rfl
  case control =>
    intro ht hfree hpass
    have hrun := routeRun_control (since := 0) (taken_op s m _ _ ht) hfree hpass
    refine pends_of ht rfl (by decide) (ps := [.audio]) ?_ (by simp) (by simp) (by simp) ?_
    · rw [hrun]
      exact same_detourControlNow m _
    · rw [hrun, skipAll_audio, audio_detourControlNow, controlArgs_acceptHead, acceptHead_audio]
      exact ⟨rfl, fun k => Tab.get_mod_elem _ _ _ k (DetourStat.control (controlArgs s m).2)⟩
  case copy =>
    intro d hj hb hheld
    refine ⟨copyEnded d s, exec_routeCopyDone hj hb hheld, same_weaken (same_copyEnded d s) (by simp), ?_⟩
    rw [audio_copyEnded]
    exact ⟨rfl, fun e => dom_copyEnded d e s,
      fun c => ⟨Tab.get_setEach .., Tab.get_setEach .., Tab.get_setEach ..⟩, fun i => Tab.get_setEach ..⟩

end

section
/-! SUPPORT. Clock groups one by one: how far a change of one group reaches, and that CLOCK_GROUP_CONFIG leaves its group with the drive
of its outputs ended (R297, R298). -/

namespace Sys2Proof.Machine

open Sys2Proof.Safety

theorem group_congr {s t : State} (h : t.audio = s.audio) (k : Nat) : group t k = group s k :=
  congrArg (fun a : Audio => (Tab.get {} a.groups k : Group)) h

theorem group_modGroup (s : State) (g k : Nat) (f : Group → Group) :
    group (modGroup s g f) k = if k = g then f (group s k) else group s k := by
  rw [modGroup, modAudio_eq, group, State.setAudio_audio, Tab.get_mod_elem]
  rfl

theorem group_modGroup_same (s : State) (g : Nat) (f : Group → Group) : group (modGroup s g f) g = f (group s g) := by
  rw [group_modGroup, if_pos rfl]

/-- A loss of an enabled slave group is a change of that group alone; of any other group it is none (R219). -/
theorem group_loseGroup (s : State) (g : Nat) (flag : Group → Group) :
    group (loseGroup g flag s) g =
      if (group s g).slave then flag { group s g with state := 2, good := if (group s g).lost then (group s g).good else 0 }
      else group s g := by
  unfold loseGroup
  split
  · exact group_modGroup_same ..
  · rfl

/-! ### CLOCK_GROUP_CONFIG -/

theorem group_restartPort (p k : Nat) (s : State) : group (restartPort p s) k = group s k := rfl

theorem group_restartPorts (l : List Nat) (k : Nat) (s : State) : group (l.foldl (fun t p => restartPort p t) s) k = group s k := by
  induction l generalizing s with
  | nil => rfl
  | cons p l ih => exact (ih _).trans (group_restartPort p k s)

theorem drives_judgeCode (g : Nat) (s : State) : (group (judgeCode g s) g).drives = (group s g).drives := by
  unfold judgeCode
  split
  · rw [group_loseGroup]
    split <;> rfl
  · rfl

/-- A group that is configured anew drives nothing until a frame begins under its new configuration. -/
theorem drives_setGroupCfg (g : Nat) (w : Word) (s : State) : (group (setGroupCfg g w s) g).drives = false := by
  unfold setGroupCfg
  extract_lets s1
  rw [group_congr (same_refreshRates _ .audio (by simp)), group_restartPorts, drives_judgeCode, group_modGroup_same]
  rfl

theorem drives_clockGroupConfig {m : Fin 8} {s t : State} (htaken : taken s m 0x48 (clockGroupChecks m) = true)
    (ht : exec (.clockGroupConfig m) s = .next t) : (group t (fld (arg s m 1) 0 3)).drives = false := by
  have h : t = skipAll (clockGroupRun m (acceptHead m s)) :=
    Host.Outcome.next.inj (ht.symm.trans (congrArg Host.Outcome.next (serve_taken s m 0x48 _ _ htaken)))
  rw [h, group_congr (skipAll_audio _), clockGroupRun, group_congr (reply_audio ..), arg_acceptHead]
  exact drives_setGroupCfg ..

end Sys2Proof.Machine
end

section

open Sys2Proof Sys2Proof.Machine Sys2Proof.Safety

/-- Refutes O25: the record that the clause of CLOCK_GROUP_CONFIG gives the group starts it anew in all but the drive of its outputs,
which it keeps, and a group that is configured anew drives nothing (`drives_clockGroupConfig`): master group 0 drives its outputs and
is disabled. -/
theorem not_portCommands : ¬ Obligations.PortCommands := by
  unfold Obligations.PortCommands
  intro h
  let s : State :=
    { aon := { mode := .maintenance }
      audio := { groups := [(0, { enable := true, master := true, state := 1, drives := true })] }
      jex := { started := true }
      host := { served := true, doorbells := [0]
                mbs := [(0, { state := .queued, words := [(0, 0x48000200#32)] })] } }
  have htaken : taken s 0 0x48 (clockGroupChecks 0) = true := by decide +kernel
  obtain ⟨hconfig, -⟩ := h s 0
  obtain ⟨t, ht, -, -, hgroups, -⟩ := hconfig htaken
  have hcleared : (group t 0).drives = false := drives_clockGroupConfig htaken ht
  have hkept : (group t 0).drives = true := (congrArg Group.drives (hgroups 0)).trans (by decide)
  exact absurd (hcleared.symm.trans hkept) (by decide)
end

section
/-! SUPPORT. Port events (R215 to R227): what each leaves of the one clock group, Sieve or aligned group that it concerns. -/

namespace Sys2Proof.Machine

open Sys2Proof.Safety

/-- Nothing but the ports differs, and of the clock groups none but g. -/
def onlyGroup (g : Nat) (s t : State) : Prop := sameExcept [.audio] s t ∧ ∀ h, h ≠ g → group t h = group s h

theorem onlyGroup_trans {g : Nat} {s t u : State} (h : onlyGroup g s t) (k : onlyGroup g t u) : onlyGroup g s u :=
  ⟨same_trans h.1 k.1, fun i hi => (k.2 i hi).trans (h.2 i hi)⟩

section
variable (g : Nat) (s : State)

theorem onlyGroup_refl : onlyGroup g s s := ⟨same_refl _ s, fun _ _ => rfl⟩

theorem onlyGroup_modGroup (f : Group → Group) : onlyGroup g s (modGroup s g f) :=
  ⟨same_setAudio_self _ _, fun h hg => by rw [group_modGroup, if_neg hg]⟩

theorem onlyGroup_loseGroup (flag : Group → Group) : onlyGroup g s (loseGroup g flag s) := by
  unfold loseGroup
  split
  · exact onlyGroup_modGroup ..
  · exact onlyGroup_refl g s

theorem onlyGroup_measureEdge (bclks : Nat) (phase : Int) : onlyGroup g s (measureEdge g bclks phase s) :=
  onlyGroup_modGroup ..

theorem onlyGroup_frameEdge (bclks dt : Nat) (phase : Int) : onlyGroup g s (frameEdge g bclks dt phase s) := by
  unfold frameEdge
  extract_lets x y long badLen badPhase s1 s2
  have h1 : onlyGroup g s s1 := onlyGroup_trans (onlyGroup_measureEdge ..) (onlyGroup_modGroup ..)
  have h2 : onlyGroup g s s2 := by
    unfold s2
    split
    · exact onlyGroup_trans h1 (onlyGroup_loseGroup ..)
    · exact h1
  split
  · exact onlyGroup_trans h2 (onlyGroup_loseGroup ..)
  · exact h2

end

/-! ### Losses (R219) -/

/-- A clock group with its clock lost. -/
def Group.clockLost (x : Group) : Group := { x with state := 2, good := 0, clkLoss := true }

/-- A clock group with its frame lost. -/
def Group.frameLost (x : Group) : Group := { x with state := 2, good := 0, frameErr := true }

/-- A clock group with an edge outside its window. -/
def Group.phaseLost (x : Group) : Group := { x with state := 2, good := 0, phaseErr := true }

section
variable {g : Nat} {s : State}

theorem group_clockLost (h : (group s g).slave = true) :
    group (loseGroup g (fun x => { x with clkLoss := true, good := 0 }) s) g = (group s g).clockLost := by
  rw [group_loseGroup, if_pos h]
  rfl

theorem group_frameLost (h : (group s g).slave = true) :
    group (loseGroup g (fun x => { x with frameErr := true, good := 0 }) s) g = (group s g).frameLost := by
  rw [group_loseGroup, if_pos h]
  rfl

theorem group_phaseLost (h : (group s g).slave = true) :
    group (loseGroup g (fun x => { x with phaseErr := true, good := 0 }) s) g = (group s g).phaseLost := by
  rw [group_loseGroup, if_pos h]
  rfl

end

/-! ### Frame-start edges (R215, R220) -/

/-- What the monitor reports of an edge to a group of domain y. -/
def Group.measured (x : Group) (y : Domain) (bclks : Nat) (phase : Int) : Group :=
  { x with bclks := Nat.min bclks 1023, phase := if y.runs then phaseReg (nominalRate y.rate) phase else 255 }

/-- The edge ends a frame of the wrong length. -/
def Group.badLength (x : Group) (y : Domain) (bclks dt : Nat) : Bool :=
  x.seen && (bclks != 32 * x.tdm || decide (300000000000000 < 2 * dt * nominalRate y.rate))

/-- The edge lies outside the window of a domain that generates Bells. -/
def Domain.badPhase (y : Domain) (phase : Int) : Bool := y.runs && !inWindow (nominalRate y.rate) phase

/-- The frame that an edge ends counts towards the end of LOST: it has the right length and began in the window, and the monitor's code
is that of the domain. -/
def Group.counts (x : Group) (y : Domain) (bclks dt : Nat) : Bool :=
  x.lost && x.seen && x.startOk && !x.badLength y bclks dt && y.runs && !(x.rateCode != y.rate)

/-- The group after an edge but for the losses that the edge sets off. -/
def Group.framed (x : Group) (y : Domain) (bclks dt : Nat) (phase : Int) : Group :=
  { x.measured y bclks phase with
    seen := true
    startOk := y.runs && !y.badPhase phase
    good := if x.counts y bclks dt then Nat.min (x.good + 1) 16 else 0 }

/-- The group after an edge of an enabled slave group. -/
def Group.edged (x : Group) (y : Domain) (bclks dt : Nat) (phase : Int) : Group :=
  let z := if x.badLength y bclks dt then (x.framed y bclks dt phase).frameLost else x.framed y bclks dt phase
  if y.badPhase phase then z.phaseLost else z

section
variable {x : Group} {y : Domain} {bclks dt : Nat} {phase : Int}

theorem badLength_iff : x.badLength y bclks dt = true ↔
    x.seen = true ∧ (bclks ≠ 32 * x.tdm ∨ 300000000000000 < 2 * dt * nominalRate y.rate) := by
  simp [Group.badLength]

theorem badPhase_iff : y.badPhase phase = true ↔ y.runs = true ∧ inWindow (nominalRate y.rate) phase = false := by
  simp [Domain.badPhase]

theorem counts_iff (h : x.badLength y bclks dt = false) : x.counts y bclks dt = true ↔
    x.state = 2 ∧ x.seen = true ∧ x.startOk = true ∧ y.runs = true ∧ x.rateCode = y.rate := by
  simp [Group.counts, Group.lost, h, and_assoc]

theorem bclks_edged : (x.edged y bclks dt phase).bclks = Nat.min bclks 1023 := by
  unfold Group.edged
  split <;> split <;> rfl

theorem phase_edged :
    (x.edged y bclks dt phase).phase = if y.runs then phaseReg (nominalRate y.rate) phase else 255 := by
  unfold Group.edged
  split <;> split <;> rfl

theorem edged_badLength (h : x.badLength y bclks dt = true) :
    (x.edged y bclks dt phase).state = 2 ∧ (x.edged y bclks dt phase).frameErr = true ∧ (x.edged y bclks dt phase).good = 0 := by
  unfold Group.edged
  rw [if_pos h]
  split <;> exact ⟨rfl, rfl, rfl⟩

theorem edged_badPhase (h : y.badPhase phase = true) :
    (x.edged y bclks dt phase).state = 2 ∧ (x.edged y bclks dt phase).phaseErr = true ∧ (x.edged y bclks dt phase).good = 0 := by
  unfold Group.edged
  rw [if_pos h]
  exact ⟨rfl, rfl, rfl⟩

theorem edged_fits (hlength : x.badLength y bclks dt = false) (hphase : y.badPhase phase = false) :
    x.edged y bclks dt phase = x.framed y bclks dt phase := by
  simp [Group.edged, hlength, hphase]

end

section
variable (g bclks dt : Nat) (phase : Int) (s : State)

theorem group_measureEdge :
    group (measureEdge g bclks phase s) g = (group s g).measured (dom s (group s g).domain) bclks phase :=
  group_modGroup_same ..

/-- A frame-start edge of an enabled slave group, as the group shows it. -/
theorem group_frameEdge (h : (group s g).slave = true) :
    group (frameEdge g bclks dt phase s) g = (group s g).edged (dom s (group s g).domain) bclks dt phase := by
  unfold frameEdge Group.edged
  extract_lets x y long badLen badPhase s1 s2 z
  have h1 : group s1 g = x.framed y bclks dt phase := by
    unfold s1
    rw [group_modGroup_same, group_measureEdge]
    rfl
  have hslave1 : (group s1 g).slave = true := by rw [h1]; exact h
  have h2 : group s2 g = z := by
    have hbad : badLen = x.badLength y bclks dt := rfl
    unfold s2 z
    rw [hbad]
    split
    · rw [group_frameLost hslave1, h1]
    · exact h1
  have hslave2 : (group s2 g).slave = true := by
    rw [h2]
    unfold z
    split <;> exact h
  have hphase : badPhase = y.badPhase phase := rfl
  rw [hphase]
  split
  · rw [group_phaseLost hslave2, h2]
  · exact h2

/-- A group that is neither enabled nor a master is measured alone (R231). -/
theorem exec_frameStartEdge_measured {g : Fin 8} {s : State} (he : (group s g).enable = false) (hm : (group s g).master = false) :
    exec (.frameStartEdge g bclks dt phase) s = .next (measureEdge g bclks phase s) := by
  have hslave : ¬ (group s g).slave = true := by simp [Group.slave, he]
  change execFrameStartEdge g bclks dt phase s = _
  rw [execFrameStartEdge, if_neg hslave, if_neg (by simp [hm])]

theorem exec_frameStartEdge_slave {g : Fin 8} {s : State} (h : (group s g).slave = true) :
    exec (.frameStartEdge g bclks dt phase) s = .next (frameEdge g bclks dt phase s) :=
  if_pos h

end

/-! ### The end of LOST (R220) -/

/-- Sixteen good frames with the code of the domain end LOST, unless the group supplies a Bell that is not LOCKED. -/
theorem exec_groupLostExit {g : Fin 8} {s : State} (h : (group s g).slave = true) (hstate : (group s g).state = 2)
    (hgood : (group s g).good = 16) (hcode : (group s g).rateCode = (dom s (group s g).domain).rate) :
    exec (.groupLostExit g) s = .next (if suppliesBell s g ∧ (dom s (group s g).domain).state ≠ .locked then s
      else modGroup s g (fun z => { z with state := 1, good := 0 })) := by
  have hlost : (group s g).lost = true := by simp [Group.lost, hstate]
  have hright : codeWrong s (group s g) = false := by simp [codeWrong, hcode]
  exact if_pos ⟨h, hlost, hgood, hright⟩

/-! ### The port monitor (R218) -/

/-- A clock group with a rate and code measured. -/
def Group.monitored (x : Group) (rate code : Nat) : Group :=
  { x with rate := rate, rateCode := code, rateEv := x.rateEv || x.rateCode != code }

/-- A WCLK_IN pin with a rate and code measured. -/
def Wclk.monitored (w : Wclk) (rate code : Nat) : Wclk :=
  { w with rate := rate, rateCode := code, rateEv := w.rateEv || w.rateCode != code }

/-- A clock group that is lost to the rate and code measured (R219). -/
def Group.rateLost (x : Group) (rate code : Nat) : Group :=
  { x with rate := rate, rateCode := code, rateEv := true, state := 2, good := 0 }

section
variable {pin : Nat} {s : State} (rate code : Nat)

theorem onlyGroup_monitorPin (h : pin < 8) : onlyGroup pin s (monitorPin pin rate code s) := by
  unfold monitorPin
  rw [if_pos h]
  extract_lets x s1
  have h1 : onlyGroup pin s s1 := onlyGroup_modGroup ..
  split
  · exact onlyGroup_refl ..
  · split
    · exact onlyGroup_trans h1 (onlyGroup_loseGroup ..)
    · exact h1

/-- A group that the core does not clock takes what its monitor measures; enabled, it is lost to the code of another rate. -/
theorem group_monitorPin (h : pin < 8) (hm : (group s pin).enable = false ∨ (group s pin).master = false) :
    group (monitorPin pin rate code s) pin =
      if (group s pin).enable = true ∧ code ≠ (dom s (group s pin).domain).rate then (group s pin).rateLost rate code
      else (group s pin).monitored rate code := by
  unfold monitorPin
  rw [if_pos h]
  extract_lets x s1
  have h1 : group s1 pin = x.monitored rate code := group_modGroup_same ..
  have hclocked : ¬ (x.enable && x.master) = true := by
    rcases hm with he | he <;> simp [x, he]
  have hslave : x.slave = x.enable := by
    rcases hm with he | he <;> simp [x, Group.slave, he]
  rw [if_neg hclocked, hslave]
  by_cases hlost : x.enable = true ∧ code ≠ (dom s x.domain).rate
  · have hslave1 : (group s1 pin).slave = true := by rw [h1]; exact hslave.trans hlost.1
    rw [if_pos hlost, if_pos (by simpa using hlost), group_loseGroup, if_pos hslave1, h1]
    rfl
  · rw [if_neg hlost, if_neg (by simpa using hlost), h1]

/-- Pins 8 and 9 are WCLK_IN. -/
theorem monitorPin_wclk (h : 8 ≤ pin) : monitorPin pin rate code s =
    s.setAudio { s.audio with wclk := Tab.mod {} s.audio.wclk (pin - 8) (fun w => w.monitored rate code) } :=
  if_neg (by omega)

theorem wclk_monitorPin (h : 8 ≤ pin) :
    Tab.get {} (monitorPin pin rate code s).audio.wclk (pin - 8) = (Tab.get {} s.audio.wclk (pin - 8) : Wclk).monitored rate code := by
  rw [monitorPin_wclk rate code h, State.setAudio_audio, Tab.get_mod_same]

theorem same_monitorPin (h : 8 ≤ pin) : sameExcept [.audio] s (monitorPin pin rate code s) := by
  rw [monitorPin_wclk rate code h]
  exact same_setAudio_self _ _

theorem groups_monitorPin (h : 8 ≤ pin) : (monitorPin pin rate code s).audio.groups = s.audio.groups := by
  rw [monitorPin_wclk rate code h]
  rfl

end

/-! ### Stuck Sieves (R223) -/

theorem getLsbD_putBit (w : Word) (v : Bool) (i j : Fin 32) :
    (putBit w i v).getLsbD j = if j = i then v else w.getLsbD j := by
  have hpow : (wrd (2 ^ i.val)).getLsbD j = decide (j = i) := by
    rw [wrd, BitVec.getLsbD_ofNat, Nat.testBit_two_pow]
    simp [Fin.ext_iff, eq_comm]
  unfold putBit
  cases v with
  | true =>
    rw [if_pos rfl, BitVec.getLsbD_or, hpow]
    by_cases hj : j = i <;> simp [hj]
  | false =>
    rw [if_neg Bool.false_ne_true, BitVec.getLsbD_and, BitVec.getLsbD_not, hpow]
    by_cases hj : j = i <;> simp [hj]

theorem same_sieveStuck (i : Nat) (v : Bool) (s : State) : sameExcept [.audio] s (sieveStuck i v s) :=
  same_ite _ _ _ _ _ (same_refl _ s) (same_setAudio_self _ _)

theorem audio_sieveStuck (i : Nat) (v : Bool) (s : State) : (sieveStuck i v s).audio =
    { s.audio with sieveStuck := (sieveStuck i v s).audio.sieveStuck, sieveEv := (sieveStuck i v s).audio.sieveEv } := by
  unfold sieveStuck
  split <;> rfl

section
variable (i j : Fin 32) (v : Bool) (s : State)

theorem stuck_sieveStuck : (sieveStuck i v s).audio.sieveStuck.getLsbD j = if j = i then v else s.audio.sieveStuck.getLsbD j := by
  unfold sieveStuck
  split
  · next h =>
    split
    · next hj => rw [hj, h]
    · rfl
  · exact getLsbD_putBit _ v i j

/-- A change of STUCK sets the event of that Sieve. -/
theorem event_sieveStuck : (sieveStuck i v s).audio.sieveEv.getLsbD j =
    (s.audio.sieveEv.getLsbD j || (j == i && s.audio.sieveStuck.getLsbD i != v)) := by
  unfold sieveStuck
  split
  · next h =>
    rw [h]
    simp
  · next h =>
    rw [modAudio_eq, State.setAudio_audio, getLsbD_putBit _ true i j, bne_iff_ne.mpr h]
    by_cases hj : j = i <;> simp [hj]

end

/-! ### SYNC_IN (R66, R227) -/

theorem align_congr {s t : State} (h : t.audio = s.audio) (k : Nat) : align t k = align s k :=
  congrArg (fun a : Audio => (Tab.get {} a.aligns k : Align)) h

theorem align_modAlign (s : State) (a k : Nat) (f : Align → Align) :
    align (modAlign s a f) k = if k = a then f (align s k) else align s k := by
  rw [modAlign, modAudio_eq, align, State.setAudio_audio, Tab.get_mod_elem]
  rfl

/-- Aligned groups passed, one after the other, through an f that does no more the second time. -/
theorem align_modAligns {f : Align → Align} (hf : ∀ x, f (f x) = f x) (l : List Nat) (s : State) (k : Nat) :
    align (l.foldl (fun t a => modAlign t a f) s) k = if k ∈ l then f (align s k) else align s k := by
  induction l generalizing s with
  | nil => rfl
  | cons a l ih =>
    rw [List.foldl_cons, ih, align_modAlign]
    by_cases hka : k = a <;> by_cases hkl : k ∈ l <;> simp [hka, hkl, hf]

theorem same_sendRecord (d kind : Nat) (ws : List Word) (s : State) : sameExcept [.twin] s (sendRecord d kind ws s) :=
  same_ite _ _ _ _ _ (same_setTwin_self _ _) (same_refl _ s)

/-- An aligned group that waits armed for SYNC_IN. -/
def Align.waits (z : Align) : Bool := z.state == 1 && z.onSync

theorem waits_iff {z : Align} : z.waits = true ↔ z.state = 1 ∧ z.onSync = true := by simp [Align.waits]

/-- An aligned group that runs from Bell b. -/
def Align.runsFrom (b : BitVec 48) (z : Align) : Align := { z with state := 2, start := b }

theorem runsFrom_runsFrom (b : BitVec 48) (z : Align) : (z.runsFrom b).runsFrom b = z.runsFrom b := rfl

theorem waits_runsFrom (b : BitVec 48) (z : Align) : (z.runsFrom b).waits = false := rfl

/-- The first Bell of domain d that begins at least 1 us after an edge of SYNC_IN. -/
def syncBell (s : State) (d since : Nat) : BitVec 48 :=
  (dom s d).bell + BitVec.ofNat 48 (leadBells (dom s d) 1000000 since)

theorem mem_syncWaits {s : State} {d a : Nat} (ha : a < 8) :
    a ∈ syncWaits s d ↔ (align s a).domain = d ∧ (align s a).waits = true := by
  simp [syncWaits, Align.waits, ha, and_assoc]

/-- The groups of domain d that wait run from the Bell of an edge. -/
def startWaiting (d since : Nat) (s : State) : State :=
  (syncWaits s d).foldl (fun t a => modAlign t a (Align.runsFrom (syncBell s d since))) s

section
variable (d since : Nat) (s : State)

theorem same_startWaiting : sameExcept [.audio] s (startWaiting d since s) :=
  same_foldl _ _ _ _ fun _ _ => same_setAudio_self _ _

theorem align_startWaiting {a : Nat} (ha : a < 8) : align (startWaiting d since s) a =
    if (align s a).domain = d ∧ (align s a).waits = true then (align s a).runsFrom (syncBell s d since) else align s a := by
  rw [startWaiting, align_modAligns (runsFrom_runsFrom _)]
  simp only [mem_syncWaits ha]

/-- An edge finds no group that waits, or those that wait run and a record tells the partner. -/
theorem syncStart_cases : (syncWaits s d = [] ∧ syncStart d since s = s) ∨
    ∃ r, syncStart d since s = sendRecord d 3 r (startWaiting d since s) := by
  unfold syncStart
  extract_lets b
  split
  · next h => exact .inl ⟨h, rfl⟩
  · exact .inr ⟨_, rfl⟩

theorem same_syncStart : sameExcept [.audio, .twin] s (syncStart d since s) := by
  obtain ⟨-, h⟩ | ⟨r, h⟩ := syncStart_cases d since s
  · rw [h]
    exact same_refl _ s
  · rw [h]
    exact same_trans (same_weaken (same_startWaiting d since s) (by simp)) (same_weaken (same_sendRecord d 3 r _) (by simp))

/-- A device alone tells nobody. -/
theorem twin_syncStart (h : alone s) : (syncStart d since s).twin = s.twin := by
  have hkept : (startWaiting d since s).twin = s.twin := same_startWaiting d since s .twin (by simp)
  have halone : alone (startWaiting d since s) := by rwa [alone, hkept]
  obtain ⟨-, hr⟩ | ⟨r, hr⟩ := syncStart_cases d since s
  · rw [hr]
  · rw [hr, sendRecord_alone halone, hkept]

theorem align_syncStart {a : Nat} (ha : a < 8) : align (syncStart d since s) a =
    if (align s a).domain = d ∧ (align s a).waits = true then (align s a).runsFrom (syncBell s d since) else align s a := by
  obtain ⟨hnone, h⟩ | ⟨r, h⟩ := syncStart_cases d since s
  · have hout : ¬ ((align s a).domain = d ∧ (align s a).waits = true) := by
      rw [← mem_syncWaits ha, hnone]
      exact List.not_mem_nil
    rw [h, if_neg hout]
  · rw [h, align_congr (same_sendRecord d 3 r _ .audio (by simp)), align_startWaiting d since s ha]

theorem syncBell_syncStart (e n : Nat) : syncBell (syncStart d since s) e n = syncBell s e n := by
  rw [syncBell, dom_of_same (same_syncStart d since s) (by simp), syncBell]

end

/-- An edge of SYNC_IN comes to the domains of a list in turn, each with its own time since its latest Bell. -/
def syncEdge (since l : List Nat) (s : State) : State := forEach l (fun t d => syncStart d (since.getD d 0) t) s

theorem syncEdge_cons (since : List Nat) (d : Nat) (l : List Nat) (s : State) :
    syncEdge since (d :: l) s = syncEdge since l (syncStart d (since.getD d 0) s) := rfl

theorem same_syncEdge (since l : List Nat) (s : State) : sameExcept [.audio, .twin] s (syncEdge since l s) :=
  same_forEach _ _ _ _ fun _ _ => same_syncStart _ _ _

theorem twin_syncEdge (since l : List Nat) {s : State} (h : alone s) : (syncEdge since l s).twin = s.twin := by
  induction l generalizing s with
  | nil => rfl
  | cons d l ih =>
    have hkept := twin_syncStart d (since.getD d 0) s h
    have halone : alone (syncStart d (since.getD d 0) s) := by rwa [alone, hkept]
    rw [syncEdge_cons, ih halone, hkept]

/-- A group that waits runs from the Bell of its own domain, and once it runs no later domain concerns it. -/
theorem align_syncEdge (since l : List Nat) (s : State) {a : Nat} (ha : a < 8) : align (syncEdge since l s) a =
    if (align s a).domain ∈ l ∧ (align s a).waits = true then
      (align s a).runsFrom (syncBell s (align s a).domain (since.getD (align s a).domain 0))
    else align s a := by
  induction l generalizing s with
  | nil => rfl
  | cons d l ih =>
    rw [syncEdge_cons, ih, align_syncStart d _ s ha, syncBell_syncStart]
    by_cases h : (align s a).domain = d ∧ (align s a).waits = true
    · obtain ⟨rfl, hwaits⟩ := h
      simp [hwaits, waits_runsFrom]
    · have hlater : (align s a).domain ∈ d :: l ∧ (align s a).waits = true ↔ (align s a).domain ∈ l ∧ (align s a).waits = true := by
        rw [List.mem_cons]
        tauto
      simp only [if_neg h, hlater]

/-! ### The return of a detour (R202) -/

/-- Detour o marked to return. -/
def returnDetour (o : Nat) (s : State) : State :=
  modAudio s (fun a => { a with detStat := Tab.mod {} a.detStat o (fun y => { y with returning := true }) })

theorem detStat_returnDetour (o k : Nat) (s : State) : Tab.get {} (returnDetour o s).audio.detStat k =
    if k = o then { (Tab.get {} s.audio.detStat k : DetourStat) with returning := true } else Tab.get {} s.audio.detStat k := by
  rw [returnDetour, modAudio_eq, State.setAudio_audio, Tab.get_mod_elem]

theorem exec_detourAutoReturn {o : Fin 512} {s : State} (hauto : (Tab.get {} s.audio.detA o).returnAuto = true)
    (hdetoured : (Tab.get {} s.audio.detStat o).detoured = true) (hforced : (Tab.get {} s.audio.detStat o).forced = false)
    (hclear : detourTrigs s o = 0) : exec (.detourAutoReturn o) s = .next (returnDetour o s) :=
  if_pos ⟨hauto, hdetoured, hforced, hclear⟩

end Sys2Proof.Machine
end

section

open Sys2Proof Sys2Proof.Machine Sys2Proof.Safety

/-- Settles O36: each row reaches the one group, Sieve, pin, aligned group or detour that it names, and what it leaves there is the record
of that unit's lemma: a loss (`group_clockLost`, `group_frameLost`), an edge (`group_frameEdge`), a measured rate (`group_monitorPin`),
STUCK (`stuck_sieveStuck`), a start (`align_syncEdge`). -/
theorem portEvents : Obligations.PortEvents := by
  unfold Obligations.PortEvents
  intro s g x y only measured stuck
  have hmeasured (c : Instr) (pin rate code : Nat) (hc : exec c s = .next (monitorPin pin rate code s)) : measured c pin rate code :=
    ⟨fun hpin hclock => ⟨_, hc, onlyGroup_monitorPin rate code hpin, group_monitorPin rate code hpin hclock⟩,
     fun hpin => ⟨_, hc, same_monitorPin rate code hpin, groups_monitorPin rate code hpin, wclk_monitorPin rate code hpin⟩⟩
  have hstuck (c : Instr) (i : Fin 32) (v : Bool) (hc : exec c s = .next (sieveStuck i v s)) : stuck c i v :=
    ⟨_, hc, same_sieveStuck i v s, audio_sieveStuck i v s, fun j => ⟨stuck_sieveStuck i j v s, event_sieveStuck i j v s⟩⟩
  refine ⟨fun hslave => ⟨?clock, ?frame, ?count, ?edge⟩, ?unclocked, ?exit, ?run, ?timeout, ?sieves, ?sync, ?detour⟩
  case clock => exact ⟨_, rfl, onlyGroup_loseGroup .., group_clockLost hslave⟩
  case frame => exact ⟨_, rfl, onlyGroup_loseGroup .., group_frameLost hslave⟩
  case count => exact ⟨_, rfl, onlyGroup_loseGroup .., group_frameLost hslave⟩
  case edge =>
    intro bclks dt phase
    refine ⟨_, exec_frameStartEdge_slave bclks dt phase hslave, onlyGroup_frameEdge .., ?_⟩
    rw [group_frameEdge _ _ _ _ _ hslave]
    refine ⟨bclks_edged, phase_edged, fun h => edged_badLength (badLength_iff.mpr h), fun h => edged_badPhase (badPhase_iff.mpr h),
      fun hlength hphase => ?_⟩
    have hlen : x.badLength y bclks dt = false := Bool.eq_false_iff.mpr fun h => hlength (badLength_iff.mp h)
    have hpha : y.badPhase phase = false := Bool.eq_false_iff.mpr fun h => hphase (badPhase_iff.mp h)
    rw [edged_fits hlen hpha]
    refine ⟨rfl, rfl, rfl, ?_⟩
    rw [Group.framed]
    simp only [counts_iff hlen]
  case unclocked =>
    intro bclks dt phase he hm
    exact ⟨_, exec_frameStartEdge_measured bclks dt phase he hm, onlyGroup_measureEdge .., group_measureEdge ..⟩
  case exit =>
    intro hslave hstate hgood hcode
    have hexec := exec_groupLostExit hslave hstate hgood hcode
    refine ⟨fun hlocked => ?_, fun hbell hnot => ⟨_, hexec, if_pos ⟨hbell, hnot⟩⟩⟩
    rw [if_neg fun ⟨hbell, hnot⟩ => hlocked.elim (fun h => Bool.false_ne_true (h.symm.trans hbell)) hnot] at hexec
    exact ⟨_, hexec, onlyGroup_modGroup .., group_modGroup_same ..⟩
  case run =>
    intro pin ticks hticks
    exact hmeasured _ _ _ _ (if_pos hticks)
  case timeout => exact fun pin => hmeasured _ _ _ _ rfl
  case sieves => exact fun i => ⟨hstuck _ i true rfl, hstuck _ i false rfl⟩
  case sync =>
    intro since
    refine ⟨syncEdge since (List.range 4) s, rfl, same_syncEdge since _ s, fun hrole harm => twin_syncEdge since _ ⟨hrole, harm⟩, fun a => ?_⟩
    intro z
    rw [align_syncEdge since _ s a.isLt]
    simp only [List.mem_range, waits_iff]
    rfl
  case detour =>
    intro o hauto hdetoured hforced hclear
    refine ⟨_, exec_detourAutoReturn hauto hdetoured hforced hclear, same_setAudio_self _ _, ?_, fun k hk => ?_⟩
    · rw [detStat_returnDetour, if_pos rfl]
    · rw [detStat_returnDetour, if_neg hk]

end

section
/-! SUPPORT. The words of a bank, past its repairs and a visit's redirection (R134, R156, R159): distinct words of one bank lie in
distinct cells, so that a write to one leaves the others; and the points that three words hold (R239). -/

namespace Sys2Proof.Machine

open Sys2Proof.Safety

/-! ### Spare rows in use -/

/-- The spare row in which masters find word i of row r: the save row of a visit, else the row's replacement. -/
def Bank.spareOf (k : Bank) (r i : Nat) : Option Nat := (k.savedAt r i).or (k.repairOf r)

theorem Bank.savedAt_eq_some {k : Bank} {r i n : Nat} (h : k.savedAt r i = some n) :
    r = k.rowPtr ∧ n < 16 ∧ (k.remapAt n).valid = false := by
  unfold Bank.savedAt at h
  split at h
  · split at h
    · next hc =>
      obtain ⟨hrow, -, hlt, hfree⟩ := hc
      cases h
      exact ⟨hrow, hlt, by simpa using hfree⟩
    · cases h
  · cases h

theorem Bank.repairOf_eq_some {k : Bank} {r n : Nat} (h : k.repairOf r = some n) :
    (k.remapAt n).row = r ∧ n < 16 ∧ (k.remapAt n).valid = true := by
  have hmem := List.mem_range.mp (List.mem_of_find?_eq_some h)
  have hfound := List.find?_some h
  simp only [Bool.and_eq_true, beq_iff_eq] at hfound
  exact ⟨hfound.2, hmem, hfound.1⟩

theorem Bank.spareOf_lt {k : Bank} {r i n : Nat} (h : k.spareOf r i = some n) : n < 16 := by
  rcases Option.or_eq_some_iff.mp h with h | ⟨-, h⟩
  · exact (Bank.savedAt_eq_some h).2.1
  · exact (Bank.repairOf_eq_some h).2.1

/-- A spare row stands for one row: as a save row it replaces none, and as a replacement it holds the row it names. -/
theorem Bank.spareOf_inj {k : Bank} {r i r' i' n : Nat} (h : k.spareOf r i = some n) (h' : k.spareOf r' i' = some n) : r = r' := by
  rcases Option.or_eq_some_iff.mp h with h | ⟨-, h⟩ <;> rcases Option.or_eq_some_iff.mp h' with h' | ⟨-, h'⟩
  · exact (Bank.savedAt_eq_some h).1.trans (Bank.savedAt_eq_some h').1.symm
  · exact absurd ((Bank.savedAt_eq_some h).2.2.symm.trans (Bank.repairOf_eq_some h').2.2) Bool.false_ne_true
  · exact absurd ((Bank.savedAt_eq_some h').2.2.symm.trans (Bank.repairOf_eq_some h).2.2) Bool.false_ne_true
  · exact (Bank.repairOf_eq_some h).1.symm.trans (Bank.repairOf_eq_some h').1

/-! ### Cells of a bank -/

section
variable {s : State} {b w w' : Nat}

theorem bankPos_row (hw : w < bankWords) :
    posBank (b / 16) (bankPos b w) = b ∧ bankPos b w % bankWords = w ∧ bankPos b w % 16 = w % 16 ∧ bankPos b w < hamletWords := by
  simp only [posBank, bankPos, bankWords, hamletWords] at hw ⊢
  omega

theorem granCell_bank (hw : w < bankWords) : granCell s (b / 16) (bankPos b w) =
    ((bank s b).spareOf (w / 16) (w % 16)).elim (bankPos b w) (fun n => spareCell b n (w % 16)) := by
  obtain ⟨hbank, hword, hcol, -⟩ := bankPos_row (b := b) hw
  unfold granCell Bank.spareOf
  simp only [hbank, hword, hcol]
  cases (bank s b).savedAt (w / 16) (w % 16)
  · cases (bank s b).repairOf (w / 16) <;> rfl
  · rfl

theorem granCell_bank_lt (hw : w < bankWords) : granCell s (b / 16) (bankPos b w) < 4194304 := by
  rw [granCell_bank hw]
  cases h : (bank s b).spareOf (w / 16) (w % 16) with
  | none =>
    have := (bankPos_row (b := b) hw).2.2.2
    simp only [Option.elim, hamletWords] at this ⊢
    omega
  | some n =>
    have := Bank.spareOf_lt h
    simp only [Option.elim, spareCell, hamletWords]
    omega

theorem granCell_bank_inj (hw : w < bankWords) (hw' : w' < bankWords)
    (h : granCell s (b / 16) (bankPos b w) = granCell s (b / 16) (bankPos b w')) : w = w' := by
  rw [granCell_bank hw, granCell_bank hw'] at h
  have hp := (bankPos_row (b := b) hw).2.2.2
  have hp' := (bankPos_row (b := b) hw').2.2.2
  cases hn : (bank s b).spareOf (w / 16) (w % 16) with
  | none =>
    cases hn' : (bank s b).spareOf (w' / 16) (w' % 16) with
    | none =>
      rw [hn, hn'] at h
      exact Nat.add_left_cancel h
    | some n' =>
      rw [hn, hn'] at h
      simp only [Option.elim, spareCell] at h
      omega
  | some n =>
    have hlt := Bank.spareOf_lt hn
    cases hn' : (bank s b).spareOf (w' / 16) (w' % 16) with
    | none =>
      rw [hn, hn'] at h
      simp only [Option.elim, spareCell] at h
      omega
    | some n' =>
      have hlt' := Bank.spareOf_lt hn'
      rw [hn, hn'] at h
      simp only [Option.elim, spareCell] at h
      have hsame : n = n' := by omega
      rw [← hsame] at hn'
      have hrow : w / 16 = w' / 16 := Bank.spareOf_inj hn hn'
      omega

/-- A word of a bank after another, or the same, was written. -/
theorem granGet_granPut_bank (v : Sample) (hw : w < bankWords) (hw' : w' < bankWords) :
    granGet (granPut s (b / 16) (bankPos b w) v) (b / 16) (bankPos b w') = if w' = w then v else granGet s (b / 16) (bankPos b w') := by
  rw [granGet_granPut _ _ _ _ _ _ (granCell_bank_lt hw) (granCell_bank_lt hw')]
  refine if_congr ?_ rfl rfl
  exact ⟨fun h => granCell_bank_inj hw' hw h.2, fun h => ⟨rfl, by rw [h]⟩⟩

end

/-! ### Points (R239) -/

section
variable {s : State} {b i k w : Nat} (v : BitVec 60)

theorem bankPos_add (b w c : Nat) : bankPos b w + c = bankPos b (w + c) := Nat.add_assoc _ _ _

theorem putPoint_eq (s : State) (b i : Nat) : putPoint b i v s =
    granPut (granPut (granPut s (b / 16) (bankPos b (3 * i)) (v.extractLsb' 40 20)) (b / 16) (bankPos b (3 * i + 1)) (v.extractLsb' 20 20))
      (b / 16) (bankPos b (3 * i + 2)) (v.extractLsb' 0 20) := by
  simp only [putPoint, bankPos_add]

theorem append_thirds : v.extractLsb' 40 20 ++ v.extractLsb' 20 20 ++ v.extractLsb' 0 20 = v := by
  rw [BitVec.extractLsb'_append_extractLsb'_eq_extractLsb' (by rfl), BitVec.extractLsb'_append_extractLsb'_eq_extractLsb' (by rfl)]
  exact BitVec.extractLsb'_eq_self

theorem granGet_putPoint (hi : i < 65536) (hw : w < bankWords) : granGet (putPoint b i v s) (b / 16) (bankPos b w) =
    if w = 3 * i + 2 then v.extractLsb' 0 20 else if w = 3 * i + 1 then v.extractLsb' 20 20 else
      if w = 3 * i then v.extractLsb' 40 20 else granGet s (b / 16) (bankPos b w) := by
  have hin : 3 * i + 2 < bankWords := by
    unfold bankWords
    omega
  rw [putPoint_eq, granGet_granPut_bank _ hin hw, granGet_granPut_bank _ (by omega) hw, granGet_granPut_bank _ (by omega) hw]

theorem point_putPoint (hi : i < 65536) (hk : k < 65536) : point (putPoint b i v s) b k = if k = i then v else point s b k := by
  have hin : 3 * k + 2 < bankWords := by
    unfold bankWords
    omega
  simp only [point]
  rw [granGet_putPoint v hi (by omega), granGet_putPoint v hi (by omega), granGet_putPoint v hi hin]
  by_cases h : k = i
  · simp [h, append_thirds]
  · rw [if_neg h]
    simp (disch := omega) only [if_neg]

theorem point_forEach_putPoint (g : Nat → BitVec 60) {l : List Nat} (hl : ∀ j ∈ l, j < 65536) (hk : k < 65536) :
    point (forEach l (fun t j => putPoint b j (g j) t) s) b k = if k ∈ l then g k else point s b k := by
  induction l generalizing s with
  | nil => rfl
  | cons j l ih =>
    rw [List.forall_mem_cons] at hl
    refine (ih (s := putPoint b j (g j) s) hl.2).trans ?_
    rw [point_putPoint _ hl.1 hk]
    by_cases hkl : k ∈ l
    · simp [hkl]
    · by_cases hkj : k = j <;> simp [hkl, hkj]

end

end Sys2Proof.Machine
end

section
/-! SUPPORT. The transform unit (R242, R259): what the end of a transform leaves in the lane's bank, and where the bank has another owner. -/

namespace Sys2Proof.Machine

open Sys2Proof.Safety

/-! ### The transform in place -/

section
variable (b : Nat) (s : State)

theorem same_granPut (h p : Nat) (v : Sample) : sameExcept [.granary] s (granPut s h p v) := same_setGranary_self s _

theorem same_putPoint (i : Nat) (v : BitVec 60) : sameExcept [.granary] s (putPoint b i v s) :=
  same_trans (same_trans (same_granPut _ _ _ _) (same_granPut _ _ _ _)) (same_granPut _ _ _ _)

theorem same_transform : sameExcept [.granary] s (transform b s) :=
  same_trans (same_putPoint b s _ _) (same_forEach _ _ _ _ fun t k => same_putPoint b t k _)

theorem point_transform_sum : point (transform b s) b 65535 = BitVec.ofInt 60 (points s b).sum := by
  rw [transform, point_forEach_putPoint _ (fun j hj => by have := List.mem_range.mp hj; omega) (by omega),
    if_neg (by simp), point_putPoint _ (by omega) (by omega), if_pos rfl]

theorem point_transform {k : Nat} (hk : k < 65535) : point (transform b s) b k =
    BitVec.ofInt 60 (rneDiv (correlate (points s b) k - (points s b).sum) 65536) := by
  rw [transform, point_forEach_putPoint _ (fun j hj => by have := List.mem_range.mp hj; omega) (by omega),
    if_pos (List.mem_range.mpr hk)]

end

/-! ### Lanes -/

section
variable (n k : Nat) (f : Lane → Lane) (s : State)

theorem lane_congr {s t : State} (h : t.tally = s.tally) (k : Nat) : lane t k = lane s k :=
  congrArg (fun x : Tally => (Tab.get {} x.lanes k : Lane)) h

theorem lane_modLane : lane (modLane s n f) k = if k = n then f (lane s n) else lane s k := by
  rw [modLane, modTally_eq, lane, State.setTally_tally, Tab.get_mod]
  rfl

theorem same_modLane : sameExcept [.tally] s (modLane s n f) := same_setTally_self s _

theorem same_bankErr (b c : Nat) : sameExcept [.banks] s (bankErr s b c) := same_setBanks_self s _

theorem bank_bankErr (b c j : Nat) : bank (bankErr s b c) j =
    if j = b then (if (bank s b).busErr then bank s b else { bank s b with busErr := true, errMaster := c }) else bank s j := by
  rw [bankErr, modBank_eq, bank, State.setBanks_banks, Tab.get_mod]
  rfl

/-- A lane that meets a bus error changes its own record and its bank. -/
theorem same_faultLane : sameExcept [.tally, .banks] s (faultLane n s) :=
  same_trans (same_weaken (same_modLane n _ s) (by simp)) (same_weaken (same_bankErr _ _ _) (by simp))

theorem lane_faultLane : lane (faultLane n s) k =
    if k = n then { lane s n with enable := false, running := false, fault := true } else lane s k :=
  (lane_congr (same_bankErr _ _ _ .tally (by simp)) k).trans (lane_modLane n k _ s)

theorem busErr_faultLane : (bank (faultLane n s) (lane s n).bank).busErr = true := by
  rw [faultLane, bank_bankErr, if_pos rfl]
  split
  · next h => exact h
  · rfl

theorem bank_faultLane_other {b : Nat} (h : b ≠ (lane s n).bank) : bank (faultLane n s) b = bank s b := by
  rw [faultLane, bank_bankErr, if_neg h]
  rfl

end

/-! ### The unit (R242, R259) -/

/-- The unit is free, and lane n shows XFORM_DONE. -/
def freeUnit (n : Nat) (s : State) : State :=
  modLane (modTally s (fun t => { t with xBusy := false })) n (fun x => { x with xformDone := true })

section
variable (n k : Nat) (s : State)

theorem same_freeUnit : sameExcept [.tally] s (freeUnit n s) :=
  same_trans (same_setTally_self s _) (same_modLane n _ _)

theorem xBusy_freeUnit : (freeUnit n s).tally.xBusy = false := rfl

theorem lane_freeUnit : lane (freeUnit n s) k = if k = n then { lane s n with xformDone := true } else lane s k :=
  lane_modLane n k _ _

theorem bank_freeUnit (b : Nat) : bank (freeUnit n s) b = bank s b := rfl

theorem point_freeUnit (b : Nat) : point (freeUnit n s) b k = point s b k := rfl

end

section
variable {s : State}

theorem tallyMay_iff {b : Nat} : tallyMay s b = true ↔ (bank s b).owner = 0 ∨ (bank s b).owner = 3 := by
  rw [tallyMay, Bool.or_eq_true, beq_iff_eq, beq_iff_eq, or_comm]

theorem endTransform_mine (h : tallyMay s (lane s s.tally.xRun).bank = true) :
    endTransform s = freeUnit s.tally.xRun (transform (lane s s.tally.xRun).bank s) :=
  congrArg (freeUnit _) (if_pos h)

theorem endTransform_foreign (h : tallyMay s (lane s s.tally.xRun).bank = false) :
    endTransform s = freeUnit s.tally.xRun (faultLane s.tally.xRun s) :=
  congrArg (freeUnit _) (if_neg (by simp [h]))

theorem exec_xformDone (h : s.tally.xBusy = true) : exec .xformDone s = .next (endTransform s) :=
  congrArg Host.Outcome.next (if_pos h)

theorem same_startTransform (n : Nat) : sameExcept [.tally] s (startTransform n s) :=
  same_ite _ _ _ _ _ (same_setTally_self s _) (same_setTally_self s _)

theorem tally_startTransform (n : Nat) : (startTransform n s).tally =
    if s.tally.xBusy = false ∧ (lane s n).hasData = true then { s.tally with xBusy := true, xLane := n, xRun := n }
    else { s.tally with xRefused := true, xLane := n } := by
  unfold startTransform
  by_cases h : s.tally.xBusy = false ∧ (lane s n).hasData = true
  · rw [if_pos h, if_neg (by simp [h])]
    rfl
  · rw [if_neg h, if_pos (by simpa [Classical.or_iff_not_imp_left] using h)]
    rfl

end

end Sys2Proof.Machine
end

section
/-! SUPPORT. A detector at the end of a block (R256, R257), and PILOT_CONFIG (R260, R261). -/

namespace Sys2Proof.Machine

open Sys2Proof.Safety

/-! ### The judgement of a block (R257) -/

section
variable (x : Detector) (loud soft : Bool)

theorem Detector.level_judge : (x.judge loud soft).level = x.level := by
  unfold Detector.judge
  repeat' split
  all_goals rfl

variable {x}

theorem Detector.state_judge_acquire (h : x.state = 1) : (x.judge loud soft).state = if loud then 2 else 1 := by
  simp only [Detector.judge, h]
  split
  · rfl
  · exact h

theorem Detector.state_judge_present (h : x.state = 2) :
    (x.judge loud soft).state = if soft = true ∧ x.lossBlocks ≤ x.run + 1 then 3 else 2 := by
  simp only [Detector.judge, h]
  cases soft
  · simp
  · by_cases hr : x.lossBlocks ≤ x.run + 1 <;> simp [hr]

theorem Detector.state_judge_lost (h : x.state = 3) : (x.judge loud soft).state = if loud = true ∧ 2 ≤ x.run then 2 else 3 := by
  simp only [Detector.judge, h]
  cases loud
  · simp
  · by_cases hr : 2 ≤ x.run <;> simp [hr]

end

/-- LEVEL of a block (R256): a formula beyond its range reads 65,535. -/
def Detector.blockLevel (x : Detector) (rate : Nat) : Nat :=
  if 65534 < goertzelLevel x.freq rate x.xs then 65535 else goertzelLevel x.freq rate x.xs

section
variable {x : Detector} (rate : Nat)

theorem Detector.level_blockEnd : (x.blockEnd rate).level = x.blockLevel rate := Detector.level_judge _ _ _

theorem Detector.level_blockEnd_le : (x.blockEnd rate).level ≤ 65535 := by
  rw [Detector.level_blockEnd]
  unfold Detector.blockLevel
  split <;> omega

theorem Detector.state_blockEnd_acquire (h : x.state = 1) : (x.blockEnd rate).state =
    if x.bad = false ∧ (x.blockEnd rate).level + 50 * x.hyst ≤ 50 * x.lossLevel then 2 else 1 := by
  rw [Detector.level_blockEnd]
  refine (Detector.state_judge_acquire (x := { x with level := x.blockLevel rate }) _ _ h).trans (if_congr ?_ rfl rfl)
  simp [Detector.blockLevel]

theorem Detector.state_blockEnd_present (h : x.state = 2) : (x.blockEnd rate).state =
    if (x.bad = true ∨ 50 * x.lossLevel < (x.blockEnd rate).level) ∧ x.lossBlocks ≤ x.run + 1 then 3 else 2 := by
  rw [Detector.level_blockEnd]
  refine (Detector.state_judge_present (x := { x with level := x.blockLevel rate }) _ _ h).trans (if_congr (and_congr_left' ?_) rfl rfl)
  simp [Detector.blockLevel]

theorem Detector.state_blockEnd_lost (h : x.state = 3) : (x.blockEnd rate).state =
    if (x.bad = false ∧ (x.blockEnd rate).level + 50 * x.hyst ≤ 50 * x.lossLevel) ∧ 2 ≤ x.run then 2 else 3 := by
  rw [Detector.level_blockEnd]
  refine (Detector.state_judge_lost (x := { x with level := x.blockLevel rate }) _ _ h).trans (if_congr (and_congr_left' ?_) rfl rfl)
  simp [Detector.blockLevel]

end

section
variable {s : State}

theorem same_modDetector (k : Nat) (f : Detector → Detector) : sameExcept [.tally] s (modDetector s k f) := same_setTally_self s _

theorem exec_goertzelBlockEnd {k : Fin 64} (he : (detector s k).enable = true) (hb : (detector s k).inBlock = true)
    (hx : (detector s k).xs.length = (detector s k).block) : exec (.goertzelBlockEnd k) s =
      .next (modDetector s k (fun y => y.blockEnd (dom s (detector s k).domain).rateNow)) :=
  if_pos ⟨he, hb, hx⟩

theorem exec_pilotNotFound {k : Fin 64} (he : (detector s k).enable = true) (hs : (detector s k).state = 1) :
    exec (.pilotNotFound k) s = .next (postEvent 0x0054 [wrd k.val] s) :=
  if_pos ⟨he, hs⟩

end

/-! ### PILOT_CONFIG -/

/-- A detector with new configuration words (R257): it starts anew, in ACQUIRE where its domain's rate fits it. -/
def Detector.configured (s : State) (a b : Word) (x : Detector) : Detector :=
  let y := (detectorOf a b x).idle
  if y.enable ∧ pilotRate (dom s y.domain) ∧ y.fits (dom s y.domain).rate then { y with state := 1 } else y

theorem Detector.configured_eq (s : State) (a b : Word) (x : Detector) : ∃ n ≤ 1,
    x.configured s a b = { (detectorOf a b x).idle with state := n } := by
  unfold Detector.configured
  extract_lets y
  split
  · exact ⟨1, le_rfl, rfl⟩
  · exact ⟨0, Nat.zero_le 1, rfl⟩

section
variable (m k : Nat) (ws : List Word) (s : State)

@[simp] theorem detector_acceptHead : detector (acceptHead m s) k = detector s k := rfl

@[simp] theorem detector_skipAll : detector (skipAll s) k = detector s k := detector_congr (skipAll_tally s) k

@[simp] theorem detector_reply : detector (reply m ws s) k = detector s k := detector_congr (reply_tally m ws s) k

end

theorem pilotConfigRun_acceptHead (m : Nat) (s : State) : pilotConfigRun m (acceptHead m s) = reply m [0]
    (modDetector (acceptHead m s) (fld (arg s m 1) 0 6) (Detector.configured s (arg s m 2) (arg s m 3))) := by
  simp only [pilotConfigRun, arg_acceptHead, dom_acceptHead]
  rfl

end Sys2Proof.Machine
end

section

open Sys2Proof Sys2Proof.Machine Sys2Proof.Safety

/-- Settles O31: the words of one bank lie in distinct cells (`granCell_bank_inj`), so that the points written by the end of a transform
are those read after it (`point_transform`); the state of a detector after a block is `Detector.judge` of its level. -/
theorem tallyUnit : Obligations.TallyUnit := by
  unfold Obligations.TallyUnit
  intro s x
  refine ⟨?start, ?mine, ?foreign, ?block, ?notFound, ?config⟩
  case start => exact fun n => ⟨_, rfl, same_startTransform n, tally_startTransform n⟩
  case mine =>
    intro hbusy howner
    have hend := endTransform_mine (s := s) (tallyMay_iff.mpr howner)
    have hsame := same_transform x.bank s
    refine ⟨_, exec_xformDone hbusy, ?_⟩
    rw [hend]
    refine ⟨?_, xBusy_freeUnit _ _, fun n => ?_, ?_, fun k hk => ?_⟩
    · exact same_trans (same_weaken hsame (by simp)) (same_weaken (same_freeUnit _ _) (by simp))
    · rw [lane_freeUnit, lane_congr (hsame .tally (by simp)), lane_congr (hsame .tally (by simp))]
    · exact (point_freeUnit ..).trans (point_transform_sum x.bank s)
    · exact (point_freeUnit ..).trans (point_transform x.bank s hk)
  case foreign =>
    intro hbusy h0 h3
    have hend := endTransform_foreign (s := s) (Bool.eq_false_iff.mpr (mt tallyMay_iff.mp (not_or.mpr ⟨h0, h3⟩)))
    refine ⟨_, exec_xformDone hbusy, ?_⟩
    rw [hend]
    refine ⟨?_, xBusy_freeUnit _ _, busErr_faultLane _ s, fun b hb => bank_faultLane_other _ s hb, fun n => ?_⟩
    · exact same_trans (same_faultLane _ s) (same_weaken (same_freeUnit _ _) (by simp))
    · rw [lane_freeUnit, lane_faultLane, if_pos rfl, lane_faultLane]
      split <;> rfl
  case block =>
    intro k x he hb hx
    refine ⟨_, exec_goertzelBlockEnd he hb hx, same_modDetector _ _, fun j hj => ?_, ?_⟩
    · rw [detector_modDetector, if_neg hj]
    · rw [detector_modDetector, if_pos rfl]
      exact ⟨rfl, rfl, Detector.level_blockEnd_le _, Detector.state_blockEnd_acquire _, Detector.state_blockEnd_present _,
        Detector.state_blockEnd_lost _⟩
  case notFound =>
    exact fun k he hs => ⟨_, exec_pilotNotFound he hs, rfl, (same_postEvent _ _ _ _ _ (by simp)).mpr (same_refl _ s)⟩
  case config =>
    intro m ht
    refine replies_of ht rfl (by decide) (by decide) (pilotConfigRun_acceptHead m s) (same_modDetector _ _) (by simp) (by simp) (by simp) ?_
    simp only [detector_skipAll, detector_reply, detector_modDetector, detector_acceptHead]
    refine ⟨fun j hj => if_neg hj, ?_⟩
    obtain ⟨n, hn, heq⟩ := Detector.configured_eq s (arg s m 2) (arg s m 3) (detector s (fld (arg s m 1) 0 6))
    rw [if_pos trivial, heq]
    exact ⟨rfl, rfl, rfl, rfl, rfl, rfl, hn⟩

end

section
/-! SUPPORT. The commands that read records, plans, logs and values (R120, R183, R254, R261, R332, R403, R461, R471, R492): what each
reads stands outside the host port, so that acceptance does not change it, and each reply fits the mailbox. -/

namespace Sys2Proof.Machine

open Sys2Proof.Safety

/-! ### How a reading command ends -/

section
variable {c : Instr} {s : State} {m : Fin 8} {op : Nat} {own : State → Option Refuse} {run : State → State} {ws : List Word}

/-- A command that is taken has passed its own checks. -/
theorem taken_own (h : taken s m op own = true) : own (acceptHead m s) = none := by
  simp only [taken, Bool.and_eq_true, Option.isNone_iff_eq_none] at h
  exact h.2

/-- A command of which the meaning is its reply alone reports. -/
theorem reports_of (h : taken s m op own = true) (he : exec c s = .next (serve op m own run s)) (hrow : cmdRow op ≠ none)
    (hlen : ws.length < 127) (hrun : run (acceptHead m s) = reply m ws (acceptHead m s)) : reports c s m ws := by
  obtain ⟨t, ht, hanswered, hsame, -⟩ := replies_of (p := fun _ => True) h he hrow hlen hrun
    (same_refl [] (acceptHead m s)) (by simp) (List.mem_singleton.mpr rfl) (by simp) trivial
  exact ⟨t, ht, hanswered, hsame⟩

end

/-! ### Lengths -/

theorem length_padWords (n : Nat) (l : List Word) : (padWords n l).length = n := by simp [padWords]

theorem LogRec.length_words (r : LogRec) : r.words.length = 8 := by simp [LogRec.words, length_padWords]

theorem length_bundleWords (s : State) (b : Bundle) : (bundleWords s b).length = 15 := by simp [bundleWords, digestWords]

theorem length_annWords (s : State) (a : Ann) : (annWords s a).length = 15 := by simp [annWords]

theorem fld_lt (w : Word) (lo len : Nat) : fld w lo len < 2 ^ len := Nat.mod_lt _ (Nat.two_pow_pos len)

/-! ### What acceptance leaves of what is read -/

section
variable {m : Fin 8} {s : State}

theorem bundleWords_acceptHead (b : Bundle) : bundleWords (acceptHead m s) b = bundleWords s b := rfl

theorem locate_acceptHead (l : List Nat) (k : Nat) : locate (acceptHead m s) l k = locate s l k := by
  induction l generalizing k with
  | nil => rfl
  | cons i l ih =>
    simp only [locate, ih]
    rfl

theorem streamAt_acceptHead (a : Ann) (k : Nat) : streamAt (acceptHead m s) a k = streamAt s a k := by
  simp only [streamAt, locate_acceptHead]
  rfl

theorem annWords_acceptHead (a : Ann) : annWords (acceptHead m s) a = annWords s a := by
  simp only [annWords, streamAt_acceptHead]
  rfl

theorem ann_acceptHead (k : Nat) : ann (acceptHead m s) k = ann s k := rfl

theorem baselineOf_acceptHead (z k : Nat) : baselineOf (acceptHead m s) z k = baselineOf s z k := rfl

theorem statusBundle_acceptHead : statusBundle (acceptHead m s) m = statusBundle s m := by
  simp [statusBundle, namedBundle_acceptHead]

theorem namedHandles_acceptHead : namedHandles (acceptHead m s) m = namedHandles s m := by
  simp [namedHandles, bundleOf]

theorem namedTicket_acceptHead : namedTicket (acceptHead m s) m = namedTicket s m := by
  simp [namedTicket]

theorem namedRecord_acceptHead : namedRecord (acceptHead m s) m = namedRecord s m := by
  simp [namedRecord]

theorem lowSlack_acceptHead : (lowSlack (acceptHead m s)).1 = (lowSlack s).1 := by
  simp only [lowSlack, acceptHead_querns]
  split <;> rfl

/-! ### The meanings in the accepted state -/

theorem planReadRun_acceptHead :
    let w := arg s m 1
    planReadRun m (acceptHead m s) =
      reply m (w :: (List.range (fld w 16 8)).map (fun i => planWord s (fld w 0 12 + i))) (acceptHead m s) := by
  simp only [planReadRun, arg_acceptHead]
  rfl

theorem count_planRead (h : taken s m 0x71 (planReadChecks m) = true) : fld (arg s m 1) 16 8 ≤ 60 := by
  have hown := taken_own h
  simp only [planReadChecks, arg_acceptHead, ite_eq_left_iff, reduceCtorEq, imp_false, not_not] at hown
  exact hown.2.1

theorem resultReadRun_acceptHead {r : VRecord} (h : s.vigil.results[fld (arg s m 1) 0 12]? = some r) :
    resultReadRun m (acceptHead m s) = reply m
      (pack [(fld (arg s m 1) 0 12, 0), (Nat.min 4095 s.vigil.results.length, 16)] :: padWords 19 r.words) (acceptHead m s) := by
  have hr : namedRecord s m = some r := h
  simp only [resultReadRun, namedRecord_acceptHead, hr, arg_acceptHead, acceptHead_vigil]

theorem baselineReadRun_acceptHead {ws : List Word} (h : baselineOf s (baseArgs s m).1 (baseArgs s m).2 = some ws) :
    baselineReadRun m (acceptHead m s) = reply m
      (pack [(8 * (baseArgs s m).1 + (baseArgs s m).2, 0), (s.vigil.baselines.length, 16)] :: padWords 19 ws) (acceptHead m s) := by
  have ha : baseArgs (acceptHead m s) m = baseArgs s m := by simp only [baseArgs, arg_acceptHead]
  simp only [baselineReadRun, ha, baselineOf_acceptHead, h, Option.getD_some, acceptHead_vigil]

theorem faultLogRun_acceptHead : faultLogRun m (acceptHead m s) = reply m (wrd s.faults.log.length ::
    ((s.faults.log.drop (fld (arg s m 1) 0 16)).take (fld (arg s m 1) 16 3)).flatMap LogRec.words) (acceptHead m s) := by
  simp only [faultLogRun, logArgs, arg_acceptHead, acceptHead_faults]

theorem length_logWords (l : List LogRec) : (l.flatMap LogRec.words).length = 8 * l.length := by
  simp [List.length_flatMap, LogRec.length_words, Nat.mul_comm]

theorem traceReadRun_acceptHead : traceReadRun m (acceptHead m s) = reply m
    (s.stew.traceHead :: (List.range (fld (arg s m 1) 0 5)).flatMap (fun i =>
      let r := Tab.get 0 s.stew.trace ((s.stew.trNext + 8192 - fld (arg s m 1) 16 12 - i - 1) % 4096)
      [r.setWidth 32, (r >>> 32).setWidth 32])) (acceptHead m s) := by
  simp only [traceReadRun, traceArgs, arg_acceptHead, acceptHead_stew]

theorem bundleStatusRun_acceptHead {b : Bundle} (h : statusBundle s m = some b) :
    bundleStatusRun m (acceptHead m s) = reply m (bundleWords s b) (acceptHead m s) := by
  simp only [bundleStatusRun, statusBundle_acceptHead, h, bundleWords_acceptHead]

theorem announceStatusRun_acceptHead {a : Ann} (h : ann s (fld (arg s m 1) 0 16) = some a) :
    announceStatusRun m (acceptHead m s) = reply m (annWords s a) (acceptHead m s) := by
  simp only [announceStatusRun, arg_acceptHead, ann_acceptHead, h, annWords_acceptHead]

/-- The words of PARAM_READ for handle h. -/
def paramWords (s : State) (m : Nat) (h : Handle) : List Word :=
  let first := fld (arg s m 4) 0 10
  let count := fld (arg s m 4) 10 6
  let g : Glide := Tab.get {} (quern s h.quern).glides (h.first + first)
  [wrd (count * 1024 + first), if h.kind = 1 then sampleWord g.target else 0, if h.kind = 1 then wrd (g.len - g.k) else 0] ++
    (List.range count).map (fun i => sampleWord (paramValue (quern s h.quern) h.kind (h.first + first + i) (bit (arg s m 1) 31)))

theorem paramReadRun_acceptHead {h : Handle} {hs : List Handle} (hh : namedHandles s m = h :: hs) :
    paramReadRun m (acceptHead m s) = reply m (paramWords s m h) (acceptHead m s) := by
  simp only [paramReadRun, namedHandles_acceptHead, hh, List.head?_cons, arg_acceptHead, quern_acceptHead, beq_iff_eq, paramWords]

theorem length_paramWords (h : Handle) : (paramWords s m h).length < 127 := by
  have := fld_lt (arg s m 4) 10 6
  simp only [paramWords, List.length_append, List.length_cons, List.length_nil, List.length_map, List.length_range]
  omega

theorem meterReadRun_acceptHead : meterReadRun m (acceptHead m s) = reply m
    (((quernDom (quern s (fld (arg s m 1) 0 7))).map (fun d => bellLo (dom s d).bell)).getD 0 ::
      (List.range (fld (arg s m 2) 0 8)).map (fun i =>
        sampleWord (Tab.get 0 (quern s (fld (arg s m 1) 0 7)).nb (fld (arg s m 2) 8 8 + i)))) (acceptHead m s) := by
  simp only [meterReadRun, arg_acceptHead, quern_acceptHead, dom_acceptHead]
  cases quernDom (quern s (fld (arg s m 1) 0 7)) <;> rfl

theorem count_meterRead (h : taken s m 0x36 (meterReadChecks m) = true) : fld (arg s m 2) 0 8 ≤ 60 := by
  have hown := taken_own h
  simp only [meterReadChecks, arg_acceptHead, ite_eq_left_iff, reduceCtorEq, imp_false, not_not] at hown
  exact hown.2.1

theorem perResultRun_acceptHead {k : Ticket} (h : namedTicket s m = some k) : perResultRun m (acceptHead m s) = reply m
    (wrd k.status :: if k.status = 1 ∨ k.status = 2 then [] else k.data.take 62) (acceptHead m s) := by
  simp only [perResultRun, namedTicket_acceptHead, h]

end

/-! ### POWER_STATUS (R332) -/

section
variable (m : Fin 8) (s : State)

theorem same_lowSlack : sameExcept [.fresh] s (lowSlack s).2 := by
  unfold lowSlack
  split
  · exact same_setFresh_self s _
  · exact same_refl _ s

/-- Only the slack of no active program is a free value. -/
theorem lowSlack_active (h : ∃ e ∈ s.querns, e.2.active.isSome = true) : (lowSlack s).2 = s := by
  unfold lowSlack
  split
  · next hnone =>
    obtain ⟨e, he, ha⟩ := h
    exact absurd ha (List.filter_eq_nil_iff.mp (List.map_eq_nil_iff.mp hnone) e he)
  · rfl

theorem powerStatusRun_acceptHead : powerStatusRun m (acceptHead m s) = reply m
    ([s.warden.word 2, s.warden.word 3, s.warden.word 4] ++
      (List.range 8).map (fun h => wrd (Tab.get 0 s.warden.pace h)) ++ [wrd (lowSlack s).1, 0, 0, 0]) (lowSlack (acceptHead m s)).2 := by
  simp only [powerStatusRun, acceptHead_warden, lowSlack_acceptHead]

end

end Sys2Proof.Machine
end

section

open Sys2Proof Sys2Proof.Machine Sys2Proof.Safety

/-- Settles O22: each meaning, in the accepted state, is its reply alone (`reports_of`), POWER_STATUS's but for the free slack of no
active program (`same_lowSlack`, `lowSlack_active`). What PARAM_READ shows of an element not staged is log 159's. -/
theorem recordReadsReport : Obligations.RecordReadsReport := by
  unfold Obligations.RecordReadsReport
  intro s m w
  refine ⟨?plan, ?result, ?baseline, ?log, ?trace, ?bundle, ?announce, ?param, ?meter, ?ticket, ?power⟩
  case plan =>
    intro ht
    have hcount : fld w 16 8 ≤ 60 := count_planRead ht
    refine reports_of ht rfl (by decide) ?_ planReadRun_acceptHead
    rw [List.length_cons, List.length_map, List.length_range]
    omega
  case result => exact fun r ht hr => reports_of ht rfl (by decide) (by simp [length_padWords]) (resultReadRun_acceptHead hr)
  case baseline => exact fun ws ht hws => reports_of ht rfl (by decide) (by simp [length_padWords]) (baselineReadRun_acceptHead hws)
  case log =>
    intro ht
    have hcount := fld_lt w 16 3
    refine reports_of ht rfl (by decide) ?_ faultLogRun_acceptHead
    rw [List.length_cons, length_logWords, List.length_take]
    omega
  case trace =>
    intro ht
    have hcount := fld_lt w 0 5
    refine reports_of ht rfl (by decide) ?_ traceReadRun_acceptHead
    rw [List.length_cons, List.length_flatMap]
    simp only [List.length_cons, List.length_nil, List.map_const', List.sum_replicate, List.length_range, smul_eq_mul]
    omega
  case bundle =>
    intro b ht hb
    exact reports_of ht rfl (by decide) (by rw [length_bundleWords]; decide) (bundleStatusRun_acceptHead hb)
  case announce =>
    intro a ht ha
    exact reports_of ht rfl (by decide) (by rw [length_annWords]; decide) (announceStatusRun_acceptHead ha)
  case param =>
    intro h hs ht hh
    exact reports_of ht rfl (by decide) (length_paramWords h) (paramReadRun_acceptHead hh)
  case meter =>
    intro u ht
    have hcount := count_meterRead ht
    refine reports_of ht rfl (by decide) ?_ meterReadRun_acceptHead
    rw [List.length_cons, List.length_map, List.length_range]
    omega
  case ticket =>
    intro k ht hk
    refine reports_of ht rfl (by decide) ?_ (perResultRun_acceptHead hk)
    split
    · simp
    · rw [List.length_cons, List.length_take]
      omega
  case power =>
    intro ht
    refine replies_of ht rfl (by decide) (by simp) (powerStatusRun_acceptHead m s) (same_lowSlack _) (by simp) (by simp) (by simp) ?_
    intro hactive
    rw [skipAll_fresh, reply_fresh, lowSlack_active _ (by simpa using hactive), acceptHead_fresh]

end

section
/-! SUPPORT. The Crier's own record: what its triggers ask of its playback (R264, R266), how a message begins and ends (R267, R270), and
when the Crier is ACTIVE (R263). -/

namespace Sys2Proof.Machine

/-! ### Which material is due -/

section
variable {c : Crier} {p : CrierPlay} {r : Nat}

theorem holds_untriggered (h : c.triggered = false) (r : Nat) : c.holds r = false := by
  simp only [Crier.triggered, Bool.or_eq_false_iff] at h
  obtain ⟨⟨halarm, hhost⟩, hinternal⟩ := h
  unfold Crier.holds
  split
  · exact halarm
  · exact hhost
  · exact hinternal

theorem triggered_of_holds (h : c.holds r = true) : c.triggered = true := by
  by_contra hn
  rw [holds_untriggered (Bool.eq_false_iff.mpr hn)] at h
  exact absurd h (by decide)

theorem triggered_eq_false (ha : c.alarm = false) (hh : c.host = false) (hi : c.internal = false) : c.triggered = false := by
  simp [Crier.triggered, ha, hh, hi]

/-- The record of what has started kept only for triggers that hold. -/
def Crier.recall (c : Crier) : Crier :=
  { c with begun := BitVec.ofNat 3 (ofBits
      [c.begun.getLsbD 0 && c.alarm, c.begun.getLsbD 1 && c.host, c.begun.getLsbD 2 && c.internal]) }

theorem getLsbD_ofBits_three (x y z : Bool) (r : Nat) (h : r < 3) : (BitVec.ofNat 3 (ofBits [x, y, z])).getLsbD r = [x, y, z].getD r false := by
  match r, h with
  | 0, _ | 1, _ | 2, _ => revert x y z; decide

theorem begun_recall (h : r < 3) : c.recall.begun.getLsbD r = (c.begun.getLsbD r && c.holds r) := by
  rw [Crier.recall, getLsbD_ofBits_three _ _ _ r h]
  match r, h with
  | 0, _ | 1, _ | 2, _ => rfl

theorem holds_recall (r : Nat) : c.recall.holds r = c.holds r := rfl

theorem begun_recall_holds (hh : c.holds r = true) (hb : c.begun.getLsbD r = true) : c.recall.begun.getLsbD r = true := by
  rw [begun_recall (BitVec.lt_of_getLsbD hb), hb, hh, Bool.and_true]

theorem lt_three_of_find {f : Nat → Bool} (h : [0, 1, 2].find? f = some r) : r < 3 ∧ f r = true :=
  ⟨by have := List.mem_of_find?_eq_some h; fin_cases this <;> decide, List.find?_some h⟩

/-- What is due to start belongs to a trigger that holds, and has not started. -/
theorem toStart_eq_some (h : c.recall.toStart = some r) : r < 3 ∧ c.holds r = true ∧ c.begun.getLsbD r = false := by
  obtain ⟨hfind, hbegun⟩ := Option.filter_eq_some_iff.mp h
  obtain ⟨hr, hholds⟩ := lt_three_of_find hfind
  rw [holds_recall] at hholds
  rw [begun_recall hr, hholds, Bool.and_true, Bool.not_eq_true'] at hbegun
  exact ⟨hr, hholds, hbegun⟩

/-- With all started that is triggered, nothing is due. -/
theorem toStart_begun (h : ∀ r, r < 3 → c.holds r = true → c.begun.getLsbD r = true) : c.recall.toStart = none := by
  by_contra hn
  obtain ⟨r, hr⟩ := Option.ne_none_iff_exists'.mp hn
  obtain ⟨hlt, hholds, hbegun⟩ := toStart_eq_some hr
  rw [h r hlt hholds] at hbegun
  exact absurd hbegun (by decide)

/-- The first trigger that holds is due while its material has not started. -/
theorem toStart_first (hr : r < 3) (hh : c.holds r = true) (hl : ∀ k, k < r → c.holds k = false) (hb : c.begun.getLsbD r = false) :
    c.recall.toStart = some r := by
  have hfind : [0, 1, 2].find? (fun k => c.recall.holds k) = some r := by
    match r, hr with
    | 0, _ => simp [holds_recall, hh]
    | 1, _ => simp [holds_recall, hh, hl 0]
    | 2, _ => simp [holds_recall, hh, hl 0, hl 1]
  rw [Crier.toStart, hfind, Option.filter_some_pos]
  simp [begun_recall hr, hb]

/-! ### The playback follows the triggers (R264, R266) -/

theorem follow_silent (hp : c.play = none) (hs : c.recall.toStart = none) : c.follow = c.recall := by
  unfold Crier.follow
  rw [← Crier.recall]
  simp only [show c.recall.play = none from hp, hs]

theorem follow_starts (hp : c.play = none) (hs : c.recall.toStart = some r) : c.follow = c.recall.startRank r := by
  unfold Crier.follow
  rw [← Crier.recall]
  simp only [show c.recall.play = none from hp, hs]

/-- While its trigger holds and no other of higher rank is new, material plays on. -/
theorem follow_holding (hp : c.play = some p) (hh : c.holds p.rank = true)
    (hb : ∀ r, r < p.rank → c.holds r = true → c.begun.getLsbD r = true) : c.follow = c.recall := by
  have hrank : ∀ r, c.recall.toStart = some r → ¬ r < p.rank := fun r hr hlt => by
    obtain ⟨-, hholds, hbegun⟩ := toStart_eq_some hr
    rw [hb r hlt hholds] at hbegun
    exact absurd hbegun (by decide)
  unfold Crier.follow
  rw [← Crier.recall]
  simp only [show c.recall.play = some p from hp, holds_recall, hh, if_true, Bool.not_true, Bool.false_eq_true, and_false, or_false,
    if_false]
  split
  · next r hr => rw [if_neg (hrank r hr)]
  · rfl

/-- With no trigger left the message in progress plays to its end. -/
theorem follow_finishing (hp : c.play = some p) (hg : p.gap = false) (ht : c.triggered = false) :
    c.follow = { c.recall with play := some { p with finishing := true } } := by
  have hs : c.recall.toStart = none := toStart_begun fun r _ hr => by simp [holds_untriggered ht] at hr
  unfold Crier.follow
  rw [← Crier.recall]
  simp only [show c.recall.play = some p from hp, holds_recall, holds_untriggered ht, hs, hg, Bool.false_eq_true, false_and, if_false]

/-! ### Starting material (R264, R268, R270) -/

theorem startRank_plays {k : Nat} (hok : c.playOk = true) (hk : c.nextGood (c.material r).1 0 = some k) :
    (c.startRank r).play = some { rank := r, seq := (c.material r).1, repeats := (c.material r).2, pos := k } ∧
      (c.startRank r).msg = (c.material r).1.getD k 0 := by
  simp only [Crier.startRank, hok, hk]
  exact ⟨rfl, rfl⟩

theorem startRank_silent (h : c.playOk = false ∨ c.nextGood (c.material r).1 0 = none) : (c.startRank r).play = none := by
  unfold Crier.startRank
  extract_lets m c1
  split
  · next hok hk =>
      rcases h with h | h
      · rw [h] at hok
        exact absurd hok (by decide)
      · rw [h] at hk
        exact absurd hk (by simp)
  · rfl

end

/-! ### What the playback leaves alone -/

section
variable (c : Crier)

/-- Only the playback differs. -/
def Crier.onlyPlayback (c d : Crier) : Prop := d = { c with begun := d.begun, play := d.play, msg := d.msg }

theorem onlyPlayback_trans {c d e : Crier} (h : c.onlyPlayback d) (k : d.onlyPlayback e) : c.onlyPlayback e := by
  unfold Crier.onlyPlayback at *
  rw [k, h]

theorem onlyPlayback_startRank (r : Nat) : c.onlyPlayback (c.startRank r) := by
  unfold Crier.startRank
  extract_lets m c1
  split <;> rfl

theorem onlyPlayback_rampOut (n next : Nat) : c.onlyPlayback (c.rampOut n next) := rfl

theorem onlyPlayback_recall : c.onlyPlayback c.recall := rfl

theorem onlyPlayback_follow : c.onlyPlayback c.follow := by
  unfold Crier.follow
  rw [← Crier.recall]
  extract_lets c0
  split
  · split
    · exact onlyPlayback_trans (onlyPlayback_recall c) (onlyPlayback_startRank _ _)
    · exact onlyPlayback_recall c
  · next p _ =>
    extract_lets c1
    have h1 : c.onlyPlayback c1 := by
      unfold c1
      split <;> rfl
    split
    · split
      · split
        · exact onlyPlayback_trans (onlyPlayback_recall c) (onlyPlayback_startRank _ _)
        · exact onlyPlayback_trans h1 (onlyPlayback_rampOut _ _ _)
      · exact h1
    · split
      · rfl
      · exact h1

end

/-! ### ACTIVE and ARMED (R263, R264, R269, R280) -/

section
variable {c : Crier} {p : CrierPlay} {r : Nat}

theorem settle_off (h : c.state = .off) : c.settle = c := by
  simp only [Crier.settle, h]

theorem settle_quiet (h : c.state = .armed) (ht : c.triggered = false) : c.settle = c := by
  simp [Crier.settle, h, ht]

theorem settle_armed (h : c.state = .armed) (ht : c.triggered = true) :
    c.settle = ({ c with state := .active, actEv := true } : Crier).follow := by
  simp [Crier.settle, h, ht]

theorem triggered_onlyPlayback {d : Crier} (h : c.onlyPlayback d) : d.triggered = c.triggered := by
  rw [h]
  rfl

theorem settle_active (h : c.state = .active) (ht : c.triggered = true ∨ c.follow.play ≠ none) : c.settle = c.follow := by
  have hstay : (c.follow.triggered || c.follow.play.isSome) = true := by
    rcases ht with ht | hp
    · rw [triggered_onlyPlayback (onlyPlayback_follow c), ht, Bool.true_or]
    · simp [Option.isSome_iff_ne_none.mpr hp]
  simp [Crier.settle, h, hstay]

theorem settle_holding (h : c.state = .active) (hp : c.play = some p) (hh : c.holds p.rank = true)
    (hb : ∀ r, r < p.rank → c.holds r = true → c.begun.getLsbD r = true) : c.settle = c.recall := by
  rw [settle_active h (.inl (triggered_of_holds hh)), follow_holding hp hh hb]

theorem settle_silent (h : c.state = .active) (hp : c.play = none) (ht : c.triggered = true)
    (hb : ∀ r, r < 3 → c.holds r = true → c.begun.getLsbD r = true) : c.settle = c.recall := by
  rw [settle_active h (.inl ht), follow_silent hp (toStart_begun hb)]

theorem settle_finishing (h : c.state = .active) (hp : c.play = some p) (hg : p.gap = false) (ht : c.triggered = false) :
    c.settle = { c.recall with play := some { p with finishing := true } } := by
  have hf := follow_finishing hp hg ht
  rw [settle_active h (.inr (by simp [hf])), hf]

/-- d is c returned to ARMED, with a copy that waited installed. -/
def Crier.endedAs (c d : Crier) : Prop :=
  d.state = .armed ∧ d.endEv = true ∧ d.play = none ∧ d.values = [] ∧ d.newCopy = none ∧
    (∀ n, c.newCopy = some n → d.copy = some n ∧ d.store = n.slot + 1) ∧ (c.newCopy = none → d.copy = c.copy)

theorem settle_ends (h : c.state = .active) (hp : c.play = none) (ht : c.triggered = false) : c.endedAs c.settle := by
  have hf : c.follow = c.recall := follow_silent hp (toStart_begun fun r _ hr => by simp [holds_untriggered ht] at hr)
  have hback : (c.recall.triggered || c.recall.play.isSome) = false := by
    rw [show c.recall.triggered = false from ht, show c.recall.play = none from hp]
    rfl
  simp only [Crier.settle, h, hf, hback, Bool.false_eq_true, if_false]
  refine ⟨rfl, rfl, hp, rfl, rfl, fun n hn => ?_, fun hn => ?_⟩
  · simp only [show c.recall.newCopy = some n from hn, and_self]
  · simp only [show c.recall.newCopy = none from hn]
    rfl

/-- d is c made ACTIVE, playing the sequence q for rank r with rep repetitions where it can play. -/
def Crier.startedAs (c d : Crier) (r : Nat) (q : List Nat) (rep : Option Nat) : Prop :=
  d.state = .active ∧ d.actEv = true ∧
    (c.playOk = true → ∀ k, c.nextGood q 0 = some k → d.play = some { rank := r, seq := q, repeats := rep, pos := k } ∧ d.msg = q.getD k 0) ∧
    (c.playOk = false ∨ c.nextGood q 0 = none → d.play = none)

theorem settle_starts (h : c.state = .armed) (hp : c.play = none) (hr : r < 3) (hh : c.holds r = true)
    (hl : ∀ k, k < r → c.holds k = false) (hb : c.begun.getLsbD r = false) :
    c.startedAs c.settle r (c.material r).1 (c.material r).2 := by
  have hs : ({ c with state := .active, actEv := true } : Crier).recall.toStart = some r := toStart_first hr hh hl hb
  have hf : c.settle = ({ c with state := .active, actEv := true } : Crier).recall.startRank r :=
    (settle_armed h (triggered_of_holds hh)).trans (follow_starts hp hs)
  rw [hf]
  refine ⟨?_, ?_, fun hok k hk => startRank_plays hok hk, fun hno => startRank_silent hno⟩
  · rw [onlyPlayback_startRank]
    rfl
  · rw [onlyPlayback_startRank]
    rfl

end

/-! ### What settling leaves alone -/

section
variable (c : Crier)

/-- Settling leaves the triggers, what is held for them and what the host named. -/
theorem settle_frame : c.settle =
    { c with state := c.settle.state, store := c.settle.store, playOk := c.settle.playOk, msg := c.settle.msg, endEv := c.settle.endEv,
             actEv := c.settle.actEv, copy := c.settle.copy, newCopy := c.settle.newCopy, play := c.settle.play,
             voxOpen := c.settle.voxOpen, x := c.settle.x, values := c.settle.values, tx := c.settle.tx,
             badGroups := c.settle.badGroups, begun := c.settle.begun } := by
  unfold Crier.settle
  split
  · rfl
  · split
    · rw [onlyPlayback_follow]
    · rfl
  · extract_lets c1
    have h1 : c1 = { c with begun := c1.begun, play := c1.play, msg := c1.msg } := onlyPlayback_follow c
    clear_value c1
    split
    · rw [h1]
    · rw [h1]

theorem settle_alarm : c.settle.alarm = c.alarm := (congrArg Crier.alarm (settle_frame c)).trans rfl
theorem settle_host : c.settle.host = c.host := (congrArg Crier.host (settle_frame c)).trans rfl
theorem settle_wdog : c.settle.wdog = c.wdog := (congrArg Crier.wdog (settle_frame c)).trans rfl
theorem settle_fbCmd : c.settle.fbCmd = c.fbCmd := (congrArg Crier.fbCmd (settle_frame c)).trans rfl
theorem settle_reqA : c.settle.reqA = c.reqA := (congrArg Crier.reqA (settle_frame c)).trans rfl
theorem settle_reqB : c.settle.reqB = c.reqB := (congrArg Crier.reqB (settle_frame c)).trans rfl
theorem settle_hostSeq : c.settle.hostSeq = c.hostSeq := (congrArg Crier.hostSeq (settle_frame c)).trans rfl
theorem settle_groupErr : c.settle.groupErr = c.groupErr := (congrArg Crier.groupErr (settle_frame c)).trans rfl

/-- A trigger that holds makes a Crier that is ARMED ACTIVE. -/
theorem state_settle_armed {c : Crier} (h : c.state = .armed) (ht : c.triggered = true) : c.settle.state = .active := by
  rw [settle_armed h ht, onlyPlayback_follow]

end

/-! ### The end of a message (R264, R266, R267, R270) -/

section
variable {c : Crier} {p : CrierPlay} {k : Nat}

/-- Material p from the message at place k of its sequence. -/
def CrierPlay.from_ (p : CrierPlay) (k : Nat) : CrierPlay :=
  { p with pos := k, block := 0, blockOk := false, sample := 0, gap := false, ramp := 0, frozen := false, held := 0 }

theorem messageEnd_due (hp : c.play = some p) (hg : p.gap = false) (hr : p.ramp = 0) (hl : c.msgLen p ≤ p.sample) :
    c.messageEnd = (c.advance p).settle := by
  simp [Crier.messageEnd, hp, hg, hr, hl]

theorem advance_finishing (h : p.finishing = true) : c.advance p = { c with play := none } := by
  simp [Crier.advance, h]

theorem advance_next (hf : p.finishing = false) (hk : c.nextGood p.seq (p.pos + 1) = some k) : c.advance p = c.beginAt p k := by
  simp [Crier.advance, hf, hk]

theorem advance_done (hf : p.finishing = false) (hn : c.nextGood p.seq (p.pos + 1) = none) (hr : p.repeats = some 0) :
    c.advance p = { c with play := none, host := if p.rank = 1 then false else c.host } := by
  simp [Crier.advance, hf, hn, hr]

/-- A repetition follows at once, or after the gap. -/
theorem advance_again (hf : p.finishing = false) (hn : c.nextGood p.seq (p.pos + 1) = none) (hr : p.repeats ≠ some 0)
    (hk : c.nextGood p.seq 0 = some k) :
    c.advance p = if (c.copy.map (·.gapMs)).getD 0 = 0 then c.beginAt { p with repeats := p.repeats.map (· - 1) } k
      else { c with play := some { p with repeats := p.repeats.map (· - 1), gap := true, pos := k } } := by
  match hrep : p.repeats with
  | none => simp [Crier.advance, hf, hn, hk, hrep]
  | some 0 => exact absurd hrep hr
  | some (n + 1) => simp [Crier.advance, hf, hn, hk, hrep]

theorem gapEnd_gap (hp : c.play = some p) (hg : p.gap = true) : c.gapEnd = c.beginAt p p.pos := by
  simp [Crier.gapEnd, hp, hg]

/-- Material whose trigger holds, nothing of higher rank being due, is left as it is, however often the Crier settles. -/
theorem settle_settle_holding (h : c.state = .active) (hp : c.play = some p) (hh : c.holds p.rank = true)
    (hb : ∀ r, r < p.rank → c.holds r = true → c.begun.getLsbD r = true) : c.settle.settle = c.recall.recall := by
  rw [settle_holding h hp hh hb]
  exact settle_holding (p := p) h hp hh fun r hr hr' => begun_recall_holds hr' (hb r hr hr')

/-- A Crier that has returned to ARMED stays there. -/
theorem settle_settle_ends (h : c.state = .active) (hp : c.play = none) (ht : c.triggered = false) : c.settle.settle = c.settle := by
  obtain ⟨harmed, -⟩ := settle_ends h hp ht
  refine settle_quiet harmed ?_
  rw [settle_frame]
  exact ht

/-- A Crier silent under triggers whose material has started stays so. -/
theorem settle_settle_silent (h : c.state = .active) (hp : c.play = none) (ht : c.triggered = true)
    (hb : ∀ r, r < 3 → c.holds r = true → c.begun.getLsbD r = true) : c.settle.settle = c.recall.recall := by
  rw [settle_silent h hp ht hb]
  exact settle_silent h hp ht fun r hlt hr => begun_recall_holds hr (hb r hlt hr)

end
end Sys2Proof.Machine
end
section
/-! SUPPORT. The Crier's step in the device: what it reaches beyond the Crier where nothing else waits for it (R263, R275, R329), and the
pending entry to SLEEP or the sleep that an alarm ends (R329, R331). -/

namespace Sys2Proof.Machine

open Sys2Proof.Safety

section
variable {s : State} {f : Crier → Crier}

/-- Nothing but the Crier and the drive of DUTY_OUT differs. -/
def crierOnly (s t : State) : Prop := sameExcept [.crier, .twin] s t ∧ t.twin = { s.twin with dutyOut := t.twin.dutyOut }

theorem same_updateDuty (ps : List Part) (s t : State) (h : Part.twin ∈ ps) : sameExcept ps s (updateDuty t) ↔ sameExcept ps s t :=
  same_setTwin ps s t _ h

theorem beginWake_awake (h : s.aon.mode ≠ .sleep) : beginWake s = s := if_neg fun k => h k.1

theorem beginWake_asleep (hm : s.aon.mode = .sleep) (hp : s.gate.phase = .asleep) :
    beginWake s = (s.setGate { s.gate with phase := .waking, sleepOk := false }).setAon { s.aon with timer := none } :=
  if_pos ⟨hm, hp⟩

theorem alarmSleep_none (h : acceptedOf s 0x93 = none) : alarmSleep s = s := by
  simp [alarmSleep, h]

theorem alarmSleep_some {m : Nat} (h : acceptedOf s 0x93 = some m) : alarmSleep s = refuse m (stateRefused 0xF6) (stopSleep s) := by
  simp [alarmSleep, h]

theorem acceptedOf_of_same {ps : List Part} {t : State} (h : sameExcept ps s t) (hp : Part.host ∉ ps) (op : Nat) :
    acceptedOf t op = acceptedOf s op := by
  simp only [acceptedOf, acceptedMbs, cmdOp, arg, mbox_of_same h hp]

/-! ### Becoming ACTIVE -/

theorem activeZones_calm (h : s.vigil.state ≠ .running) (p : VZone → Bool) : activeZones s p = [] := if_neg h

theorem armOwn_nothing (d : Nat) (b : BitVec 48) (prio : Nat) : armOwn d b prio [] s = s := by
  unfold armOwn armChange
  exact if_pos ⟨rfl, rfl⟩

/-- With no campaign running no zone is aborted. -/
theorem abortZones_calm (h : s.vigil.state ≠ .running) (reason : Nat) (b : BitVec 48) (prio : Nat) (p : VZone → Bool) :
    abortZones reason b prio p s = s := by
  simp [abortZones, activeZones_calm h, armOwn_nothing]

theorem same_crierActivated (h : s.vigil.state ≠ .running) : sameExcept [.twin] s (crierActivated s) := by
  unfold crierActivated
  extract_lets s1
  have h1 : sameExcept [.twin] s s1 := same_ite _ _ _ _ _ (same_refl _ s) (same_setTwin_self s _)
  have hcalm : s1.vigil.state ≠ .running := by
    rw [show s1.vigil = s.vigil from h1 .vigil (by simp)]
    exact h
  rw [abortZones_calm hcalm]
  exact h1

/-- The device with the Crier's change made, before an alarm has its effect. -/
def crierReached (f : Crier → Crier) (s : State) : State :=
  if s.crier.state ≠ .active ∧ (f s.crier).settle.state = .active then crierActivated (modCrier s fun c => (f c).settle)
  else modCrier s fun c => (f c).settle

theorem same_crierReached (h : s.vigil.state ≠ .running) :
    sameExcept [.twin] (s.setCrier (f s.crier).settle) (crierReached f s) :=
  same_ite _ _ _ _ _ (same_crierActivated (s := s.setCrier (f s.crier).settle) h) (same_refl _ _)

theorem crier_crierReached (h : s.vigil.state ≠ .running) : (crierReached f s).crier = (f s.crier).settle :=
  same_crierReached h .crier (by simp)

theorem crierReached_steady (h : s.crier.state = .active ∨ (f s.crier).settle.state ≠ .active) :
    crierReached f s = s.setCrier (f s.crier).settle := by
  refine if_neg ?_
  rintro ⟨h1, h2⟩
  rcases h with h | h
  · exact h1 h
  · exact h h2

theorem alarm_crierReached : crierStep f s =
    updateDuty (if !s.crier.alarm && (f s.crier).settle.alarm then alarmCame (crierReached f s) else crierReached f s) := rfl

/-- Without a new alarm the step ends there. -/
theorem crierStep_noAlarm (h : s.crier.alarm = true ∨ (f s.crier).alarm = false) : crierStep f s = updateDuty (crierReached f s) := by
  rw [alarm_crierReached, settle_alarm, if_neg]
  rcases h with h | h <;> simp [h]

theorem crierStep_alarm (h : s.crier.alarm = false) (ha : (f s.crier).alarm = true) :
    crierStep f s = updateDuty (alarmCame (crierReached f s)) := by
  rw [alarm_crierReached, settle_alarm, if_pos (by simp [h, ha])]

/-- An alarm in a device that is awake and enters no SLEEP has no effect but the Crier's. -/
theorem alarmCame_awake (hm : s.aon.mode ≠ .sleep) (hn : acceptedOf s 0x93 = none) : alarmCame s = s := by
  rw [alarmCame, alarmSleep_none hn, beginWake_awake hm]

theorem crierStep_awake (hr : sameExcept [.crier, .twin] s (crierReached f s)) (hm : s.aon.mode ≠ .sleep)
    (hn : acceptedOf s 0x93 = none) : crierStep f s = updateDuty (crierReached f s) := by
  have hmode : (crierReached f s).aon.mode ≠ .sleep := by
    rw [show (crierReached f s).aon = s.aon from hr .aon (by simp)]
    exact hm
  rw [alarm_crierReached, alarmCame_awake hmode ((acceptedOf_of_same hr (by simp) _).trans hn), ite_self]

/-! ### The step's reach -/

theorem same_crierReached_state (h : s.vigil.state ≠ .running) : sameExcept [.crier, .twin] s (crierReached f s) :=
  same_trans (same_weaken (same_setCrier_self s _) (by simp)) (same_weaken (same_crierReached h) (by simp))

/-- A step of a Crier that stays ACTIVE, or does not become so, reaches no further than DUTY_OUT. -/
theorem crierOnly_crierStep (hs : s.crier.state = .active ∨ (f s.crier).settle.state ≠ .active)
    (h : crierStep f s = updateDuty (crierReached f s)) : crierOnly s (crierStep f s) ∧ (crierStep f s).crier = (f s.crier).settle := by
  rw [h, crierReached_steady hs]
  refine ⟨⟨?_, rfl⟩, rfl⟩
  rw [same_updateDuty _ _ _ (by simp)]
  simp

theorem same_crierStep (hv : s.vigil.state ≠ .running) (h : crierStep f s = updateDuty (crierReached f s)) :
    sameExcept [.crier, .twin] s (crierStep f s) ∧ (crierStep f s).crier = (f s.crier).settle := by
  rw [h]
  refine ⟨(same_updateDuty _ _ _ (by simp)).mpr (same_crierReached_state hv), ?_⟩
  exact crier_crierReached hv

end
end Sys2Proof.Machine
end
section
/-! SUPPORT. A block read of the Crier on the flash port (R270, R274): the frames and operations it holds up keep the contents of the flash. -/

namespace Sys2Proof.Machine

section
variable (f : Flash) (k n : Nat) (x : Frame)

theorem bytes_begin : f.begin.bytes = f.bytes := (portOnly_contents (portOnly_begin f)).1

theorem bytes_submit : (f.submit x).bytes = f.bytes := (portOnly_contents (portOnly_submit x f)).1

theorem bytes_readOn : (f.readOn x).bytes = f.bytes := by
  unfold Flash.readOn
  (repeat' split) <;> simp [bytes_submit]

theorem bytes_suspendFor (r : Nat) : (f.suspendFor r k).bytes = f.bytes := by
  unfold Flash.suspendFor
  split <;> rfl

theorem bytes_resumed : (f.resumed k).bytes = f.bytes := by
  unfold Flash.resumed
  split <;> rfl

theorem bytes_freeReaders : (f.freeReaders k).bytes = f.bytes :=
  foldl_keeps Flash.bytes (fun g x => bytes_submit g x) _ _

theorem bytes_ended : (f.ended x).bytes = f.bytes := by
  unfold Flash.ended
  split <;> simp [bytes_readOn, bytes_freeReaders, bytes_suspendFor, bytes_resumed, Flash.modChip]

theorem bytes_stop : (f.stop n).bytes = f.bytes := by
  unfold Flash.stop
  split
  · rfl
  · extract_lets g sent
    have hsent : sent.bytes = f.bytes := by
      unfold sent
      split <;> rfl
    split
    · exact hsent
    · rw [bytes_ended, hsent]

theorem bytes_resumeOwn (r : Nat) : (f.resumeOwn r k).bytes = f.bytes := by
  unfold Flash.resumeOwn
  split
  · exact bytes_resumed f k
  · rfl

theorem bytes_crierRead : (f.crierRead n k).bytes = f.bytes := by
  rw [Flash.crierRead, bytes_begin, bytes_resumeOwn, bytes_suspendFor, bytes_stop]

end

/-! ### The row (R270) -/

section
variable {s : State} {p : CrierPlay}

/-- A message in progress needs a block read. -/
def CrierPlay.wantsBlock (p : CrierPlay) (c : Crier) : Prop := p.gap = false ∧ p.blockOk = false ∧ p.frozen = false ∧ p.sample < c.msgLen p

theorem blockRead_good (hp : s.crier.play = some p) (h : p.wantsBlock s.crier) :
    s.crier.blockRead true = { s.crier with play := some { p with blockOk := true } } := by
  obtain ⟨hgap, hread, hfrozen, hsample⟩ := h
  simp [Crier.blockRead, hp, hgap, hread, hfrozen, hsample]

theorem blockRead_bad (hp : s.crier.play = some p) (h : p.wantsBlock s.crier) :
    s.crier.blockRead false = { s.crier with
      blockErr := true
      badMsg := s.crier.badMsg ||| BitVec.ofNat 8 (2 ^ p.seq.getD p.pos 0)
      play := some { p with ramp := 32, rampLen := 32, rampNext := if p.ramp = 0 then 1 else p.rampNext, frozen := true } } := by
  obtain ⟨hgap, hread, hfrozen, hsample⟩ := h
  simp [Crier.blockRead, hp, hgap, hread, hfrozen, hsample]

theorem crierReads_wants (hp : s.crier.play = some p) (h : p.wantsBlock s.crier) : crierReads s = true := by
  obtain ⟨hgap, hread, hfrozen, hsample⟩ := h
  simp [crierReads, hp, hgap, hread, hfrozen, hsample]

/-- The flash port as the read leaves it. -/
def blockPort (k : CrierStore) (s : State) : State :=
  (s.setFresh (s.fresh + 1)).setFlash (s.flash.crierRead (Config.bytesSent s.fresh) k.slot)

theorem exec_crierBlockRead {k : CrierStore} (hk : s.crier.copy = some k) (hr : crierReads s = true) :
    exec .crierBlockRead s = .next (modCrier (blockPort k s) fun c => c.blockRead (crierBlockGood s)) := by
  change execCrierBlockRead s = _
  simp only [execCrierBlockRead, hk, hr, if_true]
  rfl

theorem exec_crierBlockRead_noCopy (hk : s.crier.copy = none) :
    exec .crierBlockRead s = .next (modCrier s fun c => c.blockRead (crierBlockGood s)) := by
  change execCrierBlockRead s = _
  simp only [execCrierBlockRead, hk]

end
end Sys2Proof.Machine
end

section
/-! SUPPORT. A sample period of the Crier (R271): the message sample, the value, and the frames of the groups that it clocks (R273, R297). -/

namespace Sys2Proof.Machine

open Sys2Proof.Safety

/-! ### The message sample -/

section
variable {c : Crier} {p : CrierPlay} {due : Sample}

theorem nextSample_silent (h : c.play = none) : c.nextSample due = (0, c) := by
  simp only [Crier.nextSample, h]

/-- A message that plays gives the sample due, and is one sample further; at a block's end the next is to be read. -/
theorem nextSample_plays (hp : c.play = some p) (hg : p.gap = false) (hr : p.ramp = 0) (hf : p.frozen = false) (hb : p.blockOk = true)
    (hl : p.sample < c.msgLen p) : c.nextSample due = (due, { c with play := some { p with
      sample := p.sample + 1, held := due, blockOk := (p.sample + 1) % 1024 != 0, block := (p.sample + 1) / 1024 } }) := by
  simp only [Crier.nextSample, hp, hg, hr, hf, hb, hl, decide_true, Bool.true_and, Bool.false_eq_true, if_true, if_false]
  rfl

theorem groupErr_startRank (c : Crier) (r : Nat) : (c.startRank r).groupErr = c.groupErr := by
  rw [onlyPlayback_startRank]

theorem groupErr_advance (c : Crier) (p : CrierPlay) : (c.advance p).groupErr = c.groupErr := by
  unfold Crier.advance
  extract_lets stop again
  have hagain : ∀ rep, (again rep).groupErr = c.groupErr := fun rep => by
    unfold again
    (repeat' split) <;> rfl
  split
  · rfl
  · split
    · rfl
    · split
      · exact hagain _
      · rfl
      · exact hagain _

theorem groupErr_nextSample (c : Crier) (due : Sample) : (c.nextSample due).2.groupErr = c.groupErr := by
  unfold Crier.nextSample
  split
  · rfl
  · split
    · rfl
    · extract_lets base m adv n p1
      (repeat' split)
      · rfl
      · rfl
      · rw [settle_groupErr, groupErr_advance]
      · exact groupErr_startRank _ _
      · exact settle_groupErr _
      · exact settle_groupErr _

end

/-! ### The value (R271) -/

section
variable {s : State} {mic : Sample} {valid : Bool} {clk : BitVec 8}

theorem crierSample_idle (h : s.crier.state ≠ .active) : crierSample mic valid clk s = s := if_neg h

theorem same_crierSample : sameExcept [.crier, .fresh] s (crierSample mic valid clk s) :=
  same_ite _ _ _ _ _ (by simp [takeFresh]) (same_refl _ s)

theorem crierSample_active (h : s.crier.state = .active) : crierSample mic valid clk s =
    let k := s.crier.cfg
    let v := crierMic k mic (micValid s k valid)
    let vox := Config.crierVox k.voxDb v s.crier.voxOpen s.fresh
    let r := s.crier.nextSample (crierDue s)
    let x := (sat20 ((if vox then duck k.duckDb r.1 else r.1).toInt + v.toInt)).1
    (s.setFresh (s.fresh + 1)).setCrier { r.2 with
      voxOpen := vox
      x := x
      values := crierValues k x
      tx := if audioPads s then crierFrames s k (badClocks s clk) (crierValues k x) s.fresh else []
      badGroups := badClocks s clk
      groupErr := r.2.groupErr || badClocks s clk != 0 } := if_pos h

end

/-! ### The frames of Crier-clocked groups (R273, R297) -/

section
variable {s : State} {g h : Nat}

/-- The frame of group g begins, where the Crier clocks it. -/
def startCrierFrame (s : State) (g : Nat) : State :=
  if (crierClocks s g).isSome then modGroup s g (fun x => { x with drives := driving s, tail := false }) else s

theorem group_startCrierFrame : group (startCrierFrame s g) h =
    if h = g ∧ (crierClocks s g).isSome then { group s h with drives := driving s, tail := false } else group s h := by
  unfold startCrierFrame
  split
  · next hc => rw [group_modGroup]; simp [hc]
  · next hc => simp [hc]

theorem same_startCrierFrame : sameExcept [.audio] s (startCrierFrame s g) :=
  same_ite _ _ _ _ _ (same_setAudio_self s _) (same_refl _ s)

theorem audio_startCrierFrame : (startCrierFrame s g).audio = { s.audio with groups := (startCrierFrame s g).audio.groups } := by
  unfold startCrierFrame
  split <;> rfl

theorem driving_of_same {ps : List Part} {t : State} (k : sameExcept ps s t) (ha : Part.aon ∉ ps) (ht : Part.twin ∉ ps) :
    driving t = driving s := by
  simp only [driving, audioPads, show t.aon = s.aon from k .aon ha, show t.twin = s.twin from k .twin ht]

/-- The start of a frame changes no clocking. -/
theorem crierClocks_startCrierFrame : crierClocks (startCrierFrame s g) h = crierClocks s h := by
  have hcore : coreClocks (startCrierFrame s g) h = coreClocks s h := by
    simp only [coreClocks, group_startCrierFrame]
    split <;> rfl
  simp only [crierClocks, hcore, show (startCrierFrame s g).crier = s.crier from same_startCrierFrame .crier (by simp)]

theorem startCrierFrames_eq (s : State) : startCrierFrames s = forEach (List.range 8) startCrierFrame s := rfl

theorem same_startCrierFrames (l : List Nat) (s : State) : sameExcept [.audio] s (forEach l startCrierFrame s) :=
  same_forEach _ _ _ _ fun _ _ => same_startCrierFrame

theorem audio_startCrierFrames (l : List Nat) (s : State) :
    (forEach l startCrierFrame s).audio = { s.audio with groups := (forEach l startCrierFrame s).audio.groups } := by
  induction l generalizing s with
  | nil => rfl
  | cons a l ih =>
    refine (ih _).trans ?_
    rw [audio_startCrierFrame]
    rfl

theorem crierClocks_startCrierFrames (l : List Nat) (s : State) (h : Nat) : crierClocks (forEach l startCrierFrame s) h = crierClocks s h :=
  foldl_keeps (crierClocks · h) (fun _ _ => crierClocks_startCrierFrame) l s

theorem group_startCrierFrames (l : List Nat) (s : State) : group (forEach l startCrierFrame s) h =
    if h ∈ l ∧ (crierClocks s h).isSome then { group s h with drives := driving s, tail := false } else group s h := by
  induction l generalizing s with
  | nil => simp [forEach]
  | cons a l ih =>
    refine (ih _).trans ?_
    rw [crierClocks_startCrierFrame, driving_of_same same_startCrierFrame (by simp) (by simp), group_startCrierFrame]
    by_cases hc : (crierClocks s h).isSome
    · by_cases ha : h = a
      · subst ha
        simp [hc]
      · simp [hc, ha]
    · by_cases ha : h = a
      · subst ha
        simp [hc]
      · simp [hc, ha]

/-- The frames of a period, begun in a device that differs from s outside the groups: each is driven as the interlock then stands. -/
theorem begins_startCrierFrames {u : State} (hu : u.audio = s.audio) :
    (startCrierFrames u).audio = { s.audio with groups := (startCrierFrames u).audio.groups } ∧
      ∀ g : Fin 8, group (startCrierFrames u) g =
        if (crierClocks (startCrierFrames u) g).isSome then { group s g with drives := driving (startCrierFrames u), tail := false }
        else group s g := by
  rw [startCrierFrames_eq]
  refine ⟨?_, fun g => ?_⟩
  · rw [← hu]
    exact audio_startCrierFrames _ u
  · rw [group_startCrierFrames, crierClocks_startCrierFrames, driving_of_same (same_startCrierFrames _ u) (by simp) (by simp),
      show group u g = group s g from congrArg (fun a : Audio => (Tab.get {} a.groups g : Group)) hu]
    simp [g.isLt]

end
end Sys2Proof.Machine
end
section
/-! SUPPORT. The Crier's rows and commands: the change of the Crier that each makes, and what its step then reaches (R264, R281, R329). -/

namespace Sys2Proof.Machine

open Sys2Proof.Safety

/-- The inputs that are low, one of them held: the alarm trigger (R264). -/
def Crier.alarmed (a b : Bool) (c : Crier) : Crier := { c with reqA := a, reqB := b, alarm := true }

/-- Both inputs high for 5 ms (R264). -/
def Crier.released (c : Crier) : Crier := { c with reqA := false, reqB := false, alarm := false }

section
variable {s : State} {f : Crier → Crier} {m : Nat}

theorem exec_alarmTrigger {a b : Bool} (h : (a || b) = true) :
    exec (.alarmTrigger a b true) s = .next (crierStep (Crier.alarmed a b) s) := by
  change execAlarmTrigger a b true s = _
  rw [execAlarmTrigger, h]
  rfl

theorem exec_alarmTrigger_short {a b held : Bool} (h : (held && (a || b)) = false) :
    exec (.alarmTrigger a b held) s = .next (s.setCrier { s.crier with reqA := a, reqB := b }) := by
  change execAlarmTrigger a b held s = _
  rw [execAlarmTrigger, h]
  rfl

/-- A step of a Crier that stays ACTIVE, or does not become so, and that no new alarm starts, changes nothing else. -/
theorem completes_crierStep {i : Instr} {p : State → Prop} (he : exec i s = .next (crierStep f s))
    (hs : s.crier.state = .active ∨ (f s.crier).settle.state ≠ .active) (ha : (f s.crier).alarm = s.crier.alarm ∨ (f s.crier).alarm = false)
    (hp : ∀ t, t.crier = (f s.crier).settle → p t) : completes i s fun t => crierOnly s t ∧ p t := by
  have hquiet : s.crier.alarm = true ∨ (f s.crier).alarm = false := by
    rcases ha with ha | ha
    · rw [ha]
      exact (Bool.eq_false_or_eq_true _)
    · exact .inr ha
  obtain ⟨hsame, hcrier⟩ := crierOnly_crierStep hs (crierStep_noAlarm hquiet)
  exact ⟨_, he, hsame, hp _ hcrier⟩

/-! ### An alarm in a device that sleeps, or is about to (R329, R331) -/

theorem alarmCame_asleep (hm : s.aon.mode = .sleep) (hp : s.gate.phase = .asleep) (hn : acceptedOf s 0x93 = none) :
    alarmCame s = (s.setGate { s.gate with phase := .waking, sleepOk := false }).setAon { s.aon with timer := none } := by
  rw [alarmCame, alarmSleep_none hn, beginWake_asleep hm hp]

/-- An alarm gives up an entry to SLEEP that waits, which is refused. -/
theorem alarmCame_entering (hm : s.aon.mode ≠ .sleep) (hn : acceptedOf s 0x93 = some m) :
    alarmCame s = refuse m (stateRefused 0xF6) (stopSleep s) := by
  have hmode : (refuse m (stateRefused 0xF6) (stopSleep s)).aon.mode ≠ .sleep := by
    rw [refuse_only]
    exact hm
  rw [alarmCame, alarmSleep_some hn, beginWake_awake hmode]

theorem same_stopSleep (s : State) : sameExcept [.aon, .domains] s (stopSleep s) := by
  simp [stopSleep]

/-- The code of a STATE_REFUSED refusal stands in the top byte of its detail word (R185). -/
theorem fld_word_stateRefused {code : Nat} (h : code < 256) : fld (stateRefused code).word 24 8 = code := by
  have hlt := (Config.noElement code).isLt
  simp only [stateRefused, Refuse.word, Option.getD_none, fld, wrd, BitVec.toNat_ofNat, Nat.shiftRight_eq_div_pow]
  omega

/-! ### CRIER_PLAY and CRIER_STOP -/

theorem namedSeq_of_same {t : State} {k : Nat} (hc : t.crier = s.crier) (ha : ∀ i, arg t k i = arg s k i) : namedSeq t k = namedSeq s k := by
  simp only [namedSeq, hc, ha]

/-- A command that answers 0 and is a step of the Crier: it reaches no further than the Crier, DUTY_OUT and the host port. -/
theorem completes_crierCommand {i : Instr} {m : Fin 8} {op : Nat} {own : State → Option Refuse} {run : State → State} {p : State → Prop}
    (h : taken s m op own = true) (he : exec i s = .next (serve op m own run s)) (hrow : cmdRow op ≠ none)
    (hrun : run (acceptHead m s) = crierStep f (reply m [0] (acceptHead m s)))
    (hstep : ∀ u : State, u.crier = s.crier → u.vigil = s.vigil → u.aon = s.aon →
      sameExcept [.crier, .twin] u (crierStep f u) ∧ (crierStep f u).crier = (f u.crier).settle)
    (hp : ∀ t, t.crier = (f s.crier).settle → p t) :
    completes i s fun t => sameExcept [.crier, .twin, .host] s t ∧ answered s t m [0] ∧ p t := by
  obtain ⟨hsame, hcrier⟩ := hstep (reply m [0] (acceptHead m s)) (by simp) (by simp) (by simp)
  refine completes_serve h he ?_
  rw [hrun]
  refine ⟨?_, answered_of h hrow (by decide) (mbox_of_same hsame (by simp) m) (arg_acceptHead s m m 0), hp _ ?_⟩
  · rw [same_skipAll _ _ _ (by simp)]
    exact same_trans (by simp) (same_weaken hsame (by simp))
  · rw [skipAll_crier, hcrier]
    simp

/-- Without a trigger a Crier does not become ACTIVE. -/
theorem steady_untriggered {c : Crier} (h : c.triggered = false) : c.state = .active ∨ c.settle.state ≠ .active := by
  match hstate : c.state with
  | .active => exact .inl rfl
  | .armed => exact .inr (by rw [settle_quiet hstate h, hstate]; decide)
  | .off => exact .inr (by rw [settle_off hstate, hstate]; decide)

/-- CRIER_PLAY while nothing plays (R281). -/
theorem playHost_silent {c : Crier} {q : List Nat} {rep : Option Nat} (h : c.play = none) :
    c.playHost q rep = { c with host := true, hostSeq := q, hostRepeat := rep, begun := c.begun &&& 5#3 } := by
  simp only [Crier.playHost, h]

theorem not_alarmed_of_crierStopChecks (h : crierStopChecks s = none) : s.crier.alarm = false ∧ s.crier.internal = false := by
  unfold crierStopChecks at h
  split at h
  · exact absurd h (by simp)
  · next hn => simpa using hn

end
end Sys2Proof.Machine
end

section

open Sys2Proof Sys2Proof.Machine Sys2Proof.Safety

/-- Settles O53: an alarm by `settle_starts` (what an ARMED Crier starts) and by what `crierStep` reaches in a device that is awake,
asleep or about to enter SLEEP; the end of a trigger by `settle_ends` and `settle_finishing`; a block by `blockRead_good`,
`blockRead_bad` and `bytes_crierRead`; a message's end by the cases of `Crier.advance`, settling what it leaves twice; a sample period by
`nextSample_silent`, `nextSample_plays` and `begins_startCrierFrames`; the commands by `completes_crierCommand`. -/
theorem crierWorks : Obligations.CrierWorks := by
  unfold Obligations.CrierWorks
  intro s c only begins calm noEntry begun ended alarms
  refine ⟨?short, ?off, ?alarm, ?asleep, ?entering, ?alarmEnd, ?alarmFinish, ?block, ?next, ?last, ?once, ?idle, ?sample, ?play, ?stop, ?verify⟩
  case short => exact fun a b held h => ⟨_, exec_alarmTrigger_short h, by simp, rfl⟩
  case off =>
    intro a b h hoff hmode hentry
    have hsettle : (Crier.alarmed a b c).settle = Crier.alarmed a b c := settle_off hoff
    have hsteady : c.state = .active ∨ (Crier.alarmed a b c).settle.state ≠ .active := by
      rw [hsettle]
      exact .inr (by rw [show (Crier.alarmed a b c).state = .off from hoff]; decide)
    have hreached : sameExcept [.crier, .twin] s (crierReached (Crier.alarmed a b) s) := by
      rw [crierReached_steady hsteady]
      simp
    obtain ⟨hsame, hcrier⟩ := crierOnly_crierStep hsteady (crierStep_awake hreached hmode hentry)
    exact ⟨_, exec_alarmTrigger h, hsame, hcrier.trans hsettle⟩
  case alarm =>
    intro a b h harmed hplay hbegun ⟨hvigil, hmode⟩ hentry
    obtain ⟨hsame, hcrier⟩ := same_crierStep hvigil (crierStep_awake (f := Crier.alarmed a b) (same_crierReached_state hvigil) hmode hentry)
    have hstarts := settle_starts (c := Crier.alarmed a b c) (r := 0) harmed hplay (by decide) rfl (by simp) hbegun
    refine ⟨_, exec_alarmTrigger h, hsame, ?_, ?_, ?_, ?_⟩
    · rw [hcrier, settle_alarm]
      rfl
    · rw [hcrier, settle_reqA]
      rfl
    · rw [hcrier, settle_reqB]
      rfl
    · simp only [begun, hcrier]
      exact hstarts
  case asleep =>
    intro a b h harmed hvigil hmode hphase hentry halarm
    have hreached := same_crierReached_state (f := Crier.alarmed a b) hvigil
    have haon : (crierReached (Crier.alarmed a b) s).aon = s.aon := hreached .aon (by simp)
    have hgate : (crierReached (Crier.alarmed a b) s).gate = s.gate := hreached .gate (by simp)
    refine ⟨_, exec_alarmTrigger h, ?_⟩
    rw [crierStep_alarm halarm rfl, alarmCame_asleep (by rw [haon]; exact hmode) (by rw [hgate]; exact hphase)
      ((acceptedOf_of_same hreached (by simp) _).trans hentry), haon, hgate]
    refine ⟨?_, ?_, rfl, rfl⟩
    · rw [same_updateDuty _ _ _ (by simp)]
      simpa using same_weaken hreached (by simp)
    · exact (congrArg Crier.state (crier_crierReached hvigil)).trans (state_settle_armed (c := Crier.alarmed a b c) harmed rfl)
  case entering =>
    intro a b m h harmed hplay hbegun ⟨hvigil, hmode⟩ halarm hentry
    have hreached := same_crierReached_state (f := Crier.alarmed a b) hvigil
    have haon : (crierReached (Crier.alarmed a b) s).aon = s.aon := hreached .aon (by simp)
    refine ⟨_, exec_alarmTrigger h, ?_⟩
    rw [crierStep_alarm halarm rfl, alarmCame_entering (by rw [haon]; exact hmode) ((acceptedOf_of_same hreached (by simp) _).trans hentry)]
    have hstarts := settle_starts (c := Crier.alarmed a b c) (r := 0) harmed hplay (by decide) rfl (by simp) hbegun
    rw [← crier_crierReached hvigil] at hstarts
    refine ⟨?_, hstarts, ?_, ?_, ?_, ?_⟩
    · rw [same_updateDuty _ _ _ (by simp), same_refuse _ _ _ _ _ (by simp)]
      exact same_trans (same_weaken hreached (by simp)) (same_weaken (same_stopSleep _) (by simp))
    · change { (crierReached (Crier.alarmed a b) s).aon with sleeping := false, sleepTick := none, timer := none } = _
      rw [haon]
    · simp [updateDuty, refuse]
    · simp only [updateDuty, modTwin_eq, arg_setTwin, refuse, arg_replyWith]
      rw [arg_of_same (same_stopSleep _) (by simp), arg_of_same hreached (by simp)]
      rfl
    · simp only [updateDuty, modTwin_eq, arg_setTwin, refuse, arg_replyWith]
      exact fld_word_stateRefused (by decide)
  case alarmEnd =>
    intro hactive hhost hinternal hplay
    have ht : c.released.triggered = false := triggered_eq_false rfl hhost hinternal
    refine completes_crierStep (f := Crier.released) rfl (.inl hactive) (.inr rfl) fun t hcrier => ?_
    simp only [ended, hcrier, settle_alarm, settle_reqA, settle_reqB]
    exact ⟨settle_ends hactive hplay ht, rfl, rfl, rfl⟩
  case alarmFinish =>
    intro p hactive hhost hinternal hplay hgap
    have ht : c.released.triggered = false := triggered_eq_false rfl hhost hinternal
    refine completes_crierStep (f := Crier.released) rfl (.inl hactive) (.inr rfl) fun t hcrier => ?_
    rw [hcrier, settle_finishing (c := c.released) hactive hplay hgap ht]
    exact ⟨hactive, rfl, rfl⟩
  case block =>
    intro p hplay hgap hread hfrozen hsample
    have hwants : p.wantsBlock c := ⟨hgap, hread, hfrozen, hsample⟩
    have hresult : c.blockRead (crierBlockGood s) = if crierBlockGood s = true then { c with play := some { p with blockOk := true } }
        else { c with
          blockErr := true
          badMsg := c.badMsg ||| BitVec.ofNat 8 (2 ^ p.seq.getD p.pos 0)
          play := some { p with ramp := 32, rampLen := 32, rampNext := if p.ramp = 0 then 1 else p.rampNext, frozen := true } } := by
      cases crierBlockGood s
      · exact blockRead_bad hplay hwants
      · exact blockRead_good hplay hwants
    rcases Option.eq_none_or_eq_some c.copy with hcopy | ⟨k, hcopy⟩
    · exact ⟨_, exec_crierBlockRead_noCopy hcopy, by simp, rfl, fun k hk => absurd (hcopy.symm.trans hk) (by simp), hresult⟩
    · refine ⟨_, exec_crierBlockRead hcopy (crierReads_wants hplay hwants), by simp [blockPort], bytes_crierRead _ _ _, fun k' hk' => ?_, hresult⟩
      cases hcopy.symm.trans hk'
      exact ⟨rfl, rfl⟩
  case next =>
    intro p hplay hactive hholds hbegun at_
    have hplays : ∀ (q : CrierPlay) (w : Nat), q.rank = p.rank →
        ({ c with play := some q, msg := w } : Crier).settle.settle = ({ c with play := some q, msg := w } : Crier).recall.recall :=
      fun q w hq => settle_settle_holding (c := { c with play := some q, msg := w }) hactive rfl (hq ▸ hholds) (hq ▸ hbegun)
    refine ⟨fun hgap hramp hlen hfinish => ⟨fun k hk => ?_, fun k hnone hk hrep => ?_⟩, fun hgap => ?_⟩
    · have hend : c.messageEnd = (c.beginAt p k).settle := by
        rw [messageEnd_due hplay hgap hramp hlen, advance_next hfinish hk]
      refine completes_crierStep (f := Crier.messageEnd) rfl (.inl hactive) (.inl ?_) fun t hcrier => ?_
      · rw [hend, settle_alarm]
        rfl
      · rw [hcrier, hend, show (c.beginAt p k).settle.settle = _ from hplays (p.from_ k) _ rfl]
        exact ⟨hactive, rfl, rfl⟩
    · have hend := messageEnd_due hplay hgap hramp hlen
      rw [advance_again hfinish hnone hrep hk] at hend
      refine completes_crierStep (f := Crier.messageEnd) rfl (.inl hactive) (.inl ?_) fun t hcrier => ?_
      · rw [hend, settle_alarm]
        split <;> rfl
      · by_cases hgapMs : (c.copy.map (·.gapMs)).getD 0 = 0
        · have hnow := hplays (CrierPlay.from_ { p with repeats := p.repeats.map (· - 1) } k) (p.seq.getD k 0) rfl
          rw [if_pos hgapMs] at hend ⊢
          rw [hcrier, hend, show (c.beginAt { p with repeats := p.repeats.map (· - 1) } k).settle.settle = _ from hnow]
          exact ⟨hactive, rfl⟩
        · have hnow := hplays { p with repeats := p.repeats.map (· - 1), gap := true, pos := k } c.msg rfl
          rw [if_neg hgapMs] at hend ⊢
          rw [hcrier, hend, hnow]
          exact ⟨hactive, rfl⟩
    · have hend : c.gapEnd = c.beginAt p p.pos := gapEnd_gap hplay hgap
      refine completes_crierStep (f := Crier.gapEnd) rfl (.inl hactive) (.inl (by rw [hend]; rfl)) fun t hcrier => ?_
      rw [hcrier, hend, settle_holding (c := c.beginAt p p.pos) hactive rfl hholds hbegun]
      exact ⟨hactive, rfl, rfl⟩
  case last =>
    intro p hplay hactive hgap hramp hlen halarm hinternal hlast
    have hstop : c.advance p = { c with play := none, host := false } := by
      rcases hlast with ⟨hfinish, hhost⟩ | ⟨hfinish, hrank, hrep, hnone⟩
      · rw [advance_finishing hfinish, ← hhost]
      · rw [advance_done hfinish hnone hrep, if_pos hrank]
    have hend : c.messageEnd = ({ c with play := none, host := false } : Crier).settle := by
      rw [messageEnd_due hplay hgap hramp hlen, hstop]
    have ht : ({ c with play := none, host := false } : Crier).triggered = false := triggered_eq_false halarm rfl hinternal
    refine completes_crierStep (f := Crier.messageEnd) rfl (.inl hactive) (.inl ?_) fun t hcrier => ?_
    · rw [hend, settle_alarm]
    · rw [hend, settle_settle_ends (c := { c with play := none, host := false }) hactive rfl ht] at hcrier
      simp only [ended, hcrier, settle_host]
      exact ⟨settle_ends (c := { c with play := none, host := false }) hactive rfl ht, trivial⟩
  case once =>
    intro p hplay hactive hgap hramp hlen hrank hrep hfinish hnone hinternal halarm hhost hbegun
    have hend : c.messageEnd = ({ c with play := none } : Crier).settle := by
      rw [messageEnd_due hplay hgap hramp hlen, advance_done hfinish hnone hrep, if_neg (by omega)]
    have hall : ∀ r, r < 3 → c.holds r = true → c.begun.getLsbD r = true := fun r hr hholds => by
      match r, hr with
      | 0, _ => exact absurd (halarm.symm.trans hholds) (by decide)
      | 1, _ => exact absurd (hhost.symm.trans hholds) (by decide)
      | 2, _ => exact hbegun
    refine completes_crierStep (f := Crier.messageEnd) rfl (.inl hactive) (.inl ?_) fun t hcrier => ?_
    · rw [hend, settle_alarm]
    · rw [hcrier, hend, settle_settle_silent (c := { c with play := none }) hactive rfl (triggered_of_holds (c := c) (r := 2) hinternal) hall]
      exact ⟨hactive, rfl⟩
  case idle =>
    intro mic valid clk hidle
    refine ⟨_, rfl, ?_⟩
    rw [crierSample_idle hidle]
    have hframes := same_startCrierFrames (List.range 8) (updateDuty s)
    refine ⟨?_, ?_, begins_startCrierFrames rfl⟩
    · exact same_trans ((same_updateDuty [.twin, .audio] s s (by simp)).mpr (same_refl _ s)) (same_weaken hframes (by simp))
    · have htwin : (startCrierFrames (updateDuty s)).twin = (updateDuty s).twin := hframes .twin (by simp)
      rw [htwin]
      rfl
  case sample =>
    intro mic valid clk hactive
    have hframes := same_startCrierFrames (List.range 8) (updateDuty (crierSample mic valid clk s))
    have haudio : (crierSample mic valid clk s).audio = s.audio := same_crierSample .audio (by simp)
    have hsame : sameExcept [.crier, .twin, .audio, .fresh] s (updateDuty (crierSample mic valid clk s)) :=
      (same_updateDuty _ _ _ (by simp)).mpr (same_weaken same_crierSample (by simp))
    refine ⟨_, rfl, same_trans hsame (same_weaken hframes (by simp)), begins_startCrierFrames haudio, ?_⟩
    have hcrier : (startCrierFrames (updateDuty (crierSample mic valid clk s))).crier = (crierSample mic valid clk s).crier :=
      hframes .crier (by simp)
    have hfresh : (startCrierFrames (updateDuty (crierSample mic valid clk s))).fresh = (crierSample mic valid clk s).fresh :=
      hframes .fresh (by simp)
    rw [hcrier, hfresh, crierSample_active hactive]
    refine ⟨rfl, rfl, ?_, rfl, rfl, rfl, fun hplay => ?_, fun p hplay hgap hramp hfrozen hblock hlen => ?_⟩
    · exact congrArg (· || badClocks s clk != 0) (groupErr_nextSample _ _)
    · simp only [show s.crier.nextSample (crierDue s) = _ from nextSample_silent hplay]
      exact sat20_toInt _
    · simp only [show s.crier.nextSample (crierDue s) = _ from nextSample_plays hplay hgap hramp hfrozen hblock hlen]
      exact ⟨sat20_toInt _, rfl⟩
  case play =>
    intro m htaken harmed hplay halarm hinternal ⟨hvigil, hmode⟩
    have hplays : s.crier.playHost (namedSeq s m) (repeatsOf (fld (arg s m 1) 8 8)) = _ := playHost_silent hplay
    have hrun : crierPlayRun m (acceptHead m s) =
        crierStep (Crier.playHost (namedSeq s m) (repeatsOf (fld (arg s m 1) 8 8))) (reply m [0] (acceptHead m s)) := by
      rw [crierPlayRun, arg_acceptHead, namedSeq_of_same (by simp) fun i => arg_acceptHead s m m i]
    refine completes_crierCommand htaken rfl (by decide) hrun (fun u hu huv hua => ?_) fun t hcrier => ?_
    · refine same_crierStep (by rw [huv]; exact hvigil) (crierStep_noAlarm (.inr ?_))
      rw [hu, hplays]
      exact halarm
    · have hstarts := settle_starts (c := c.playHost (namedSeq s m) (repeatsOf (fld (arg s m 1) 8 8))) (r := 1)
        (by rw [hplays]; exact harmed) (by rw [hplays]; exact hplay) (by decide) (by rw [hplays]; rfl)
        (fun k hk => by rw [hplays, Nat.lt_one_iff.mp hk]; exact halarm) (by rw [hplays]; simp)
      rw [hplays] at hstarts
      simp only [begun, hcrier, hplays, settle_host, settle_hostSeq]
      exact ⟨trivial, trivial, hstarts⟩
  case stop =>
    intro m htaken
    obtain ⟨halarm, hinternal⟩ := not_alarmed_of_crierStopChecks (taken_own htaken)
    simp only [acceptHead_crier] at halarm hinternal
    have ht : ({ s.crier with host := false } : Crier).triggered = false := triggered_eq_false halarm rfl hinternal
    refine completes_crierCommand (f := fun c => { c with host := false }) htaken rfl (by decide) rfl (fun u hu huv hua => ?_) fun t hcrier => ?_
    · have hsteady : u.crier.state = .active ∨ ({ u.crier with host := false } : Crier).settle.state ≠ .active := by
        rw [hu]
        exact steady_untriggered ht
      obtain ⟨⟨hsame, -⟩, hnow⟩ := crierOnly_crierStep (f := fun c => { c with host := false }) hsteady
        (crierStep_noAlarm (.inr ((congrArg Crier.alarm hu).trans halarm)))
      exact ⟨hsame, hnow⟩
    · rw [hcrier, settle_host]
      refine ⟨rfl, fun hactive hplay => ?_, fun p hactive hplay hgap => ?_⟩
      · simp only [ended, hcrier]
        exact settle_ends (c := { c with host := false }) hactive hplay ht
      · rw [settle_finishing (c := { c with host := false }) hactive hplay hgap ht]
        exact ⟨hactive, rfl⟩
  case verify =>
    exact fun m htaken => reports_of htaken rfl (by decide) (by simp) rfl

end

section
/-! SUPPORT. What only the watchdog, an entry to FALLBACK or an entry to SLEEP changes of its own accord: mode, Crier, seal, the Reeves' run
states, SERVED, the pair's role and one mailbox. The device's other work, leave, scheduling, DMA, the peripheral port and the flash ports,
keeps it (R36, R277, R329). -/

namespace Sys2Proof.Machine

open Sys2Proof.Safety

/-- The part of the state that the firmware's watch turns on. -/
structure Firm where
  aon : Aon
  crier : Crier
  gate : Gate
  wdog : Bool
  wdogReeve : Nat
  served : Bool
  started : Bool
  restricted : Bool
  role : Role
  selfFault : Bool
  handover : Option Handover
  runs : Nat → ReeveRun
  box : Mailbox

/-- That part of s, with mailbox m. -/
def State.firm (m : Nat) (s : State) : Firm where
  aon := s.aon
  crier := s.crier
  gate := s.gate
  wdog := s.faults.hwWdog
  wdogReeve := s.faults.wdogReeve
  served := s.host.served
  started := s.jex.started
  restricted := s.jex.restricted
  role := s.twin.role
  selfFault := s.twin.selfFault
  handover := s.twin.handover
  runs := fun r => (reeve s r).run
  box := mbox s m

section
variable (m : Nat) (s : State)

theorem role_firm : (s.firm m).role = s.twin.role := rfl
theorem crier_firm : (s.firm m).crier = s.crier := rfl
theorem aon_firm : (s.firm m).aon = s.aon := rfl
theorem gate_firm : (s.firm m).gate = s.gate := rfl
theorem box_firm : (s.firm m).box = mbox s m := rfl

theorem firm_foldl {β : Type} {g : State → β → State} (h : ∀ t x, (g t x).firm m = t.firm m) (l : List β) (s : State) :
    (l.foldl g s).firm m = s.firm m := foldl_keeps (State.firm m) h l s

theorem firm_forEach {g : State → Nat → State} (h : ∀ t x, (g t x).firm m = t.firm m) (l : List Nat) (s : State) :
    (forEach l g s).firm m = s.firm m := firm_foldl m h l s

/-! ### Parts of the state that it does not hold -/

@[simp] theorem firm_setQuerns (v : Tab Quern) : (s.setQuerns v).firm m = s.firm m := rfl
@[simp] theorem firm_setDomains (v : Tab Domain) : (s.setDomains v).firm m = s.firm m := rfl
@[simp] theorem firm_setBanks (v : Tab Bank) : (s.setBanks v).firm m = s.firm m := rfl
@[simp] theorem firm_setGranary (v : Tab Sample) : (s.setGranary v).firm m = s.firm m := rfl
@[simp] theorem firm_setStew (v : Steward) : (s.setStew v).firm m = s.firm m := rfl
@[simp] theorem firm_setDma (v : Dma) : (s.setDma v).firm m = s.firm m := rfl
@[simp] theorem firm_setCtrlRam (v : Tab Word) : (s.setCtrlRam v).firm m = s.firm m := rfl
@[simp] theorem firm_setPer (v : Per) : (s.setPer v).firm m = s.firm m := rfl
@[simp] theorem firm_setFlash (v : Flash) : (s.setFlash v).firm m = s.firm m := rfl
@[simp] theorem firm_setVigil (v : Vigil) : (s.setVigil v).firm m = s.firm m := rfl
@[simp] theorem firm_setFresh (v : Nat) : (s.setFresh v).firm m = s.firm m := rfl

/-! ### Changes that keep its share of a part -/

@[simp] theorem firm_setJex {s : State} {v : Jex} (hs : v.started = s.jex.started) (hr : v.restricted = s.jex.restricted) :
    (s.setJex v).firm m = s.firm m := by
  simp [State.firm, State.setJex, hs, hr, reeve, mbox]

@[simp] theorem firm_setTwin {s : State} {v : Twin} (hr : v.role = s.twin.role) (hs : v.selfFault = s.twin.selfFault)
    (hh : v.handover = s.twin.handover) : (s.setTwin v).firm m = s.firm m := by
  simp [State.firm, State.setTwin, hs, hr, hh, reeve, mbox]

theorem reeve_modReeve (r k : Nat) (f : Reeve → Reeve) : reeve (modReeve s r f) k = if k = r then f (reeve s r) else reeve s k :=
  Tab.get_mod _ _ _ _ _

theorem firm_modReeve {f : Reeve → Reeve} (r : Nat) (h : ∀ x, (f x).run = x.run) : (modReeve s r f).firm m = s.firm m := by
  have hruns : (fun k => (reeve (modReeve s r f) k).run) = fun k => (reeve s k).run := funext fun k => by
    rw [reeve_modReeve]
    split
    · next hk => rw [h, hk]
    · rfl
  simp only [State.firm, hruns]
  rfl

/-! ### Leave and events -/

theorem firm_of_leaveOnly {s t : State} (h : leaveOnly s t) : t.firm m = s.firm m := by
  obtain ⟨hsame, -, hjex, htwin⟩ := h
  have haon : t.aon = s.aon := hsame .aon (by simp)
  have hcrier : t.crier = s.crier := hsame .crier (by simp)
  have hgate : t.gate = s.gate := hsame .gate (by simp)
  have hfaults : t.faults = s.faults := hsame .faults (by simp)
  have hhost : t.host = s.host := hsame .host (by simp)
  have hreeves : t.reeves = s.reeves := hsame .reeves (by simp)
  rw [State.firm, hjex, htwin]
  simp only [State.firm, reeve, mbox, haon, hcrier, hgate, hfaults, hhost, hreeves]

@[simp] theorem firm_requestLeave (cls key : Nat) : (requestLeave cls key s).firm m = s.firm m :=
  firm_of_leaveOnly m (leaveOnly_requestLeave cls key s)
@[simp] theorem firm_releaseLeave (cls key : Nat) : (releaseLeave cls key s).firm m = s.firm m :=
  firm_of_leaveOnly m (leaveOnly_releaseLeave cls key s)

theorem served_appendEvent (c : Nat) (p : List Word) : (appendEvent c p s).1.host.served = s.host.served := by
  unfold appendEvent
  extract_lets h entry
  (repeat' split) <;> rfl

theorem served_postEvent (c : Nat) (p : List Word) : (postEvent c p s).host.served = s.host.served := by
  have hlost : (postLost s).host.served = s.host.served := by
    unfold postLost
    split
    · rfl
    · exact served_appendEvent _ _ _
  unfold postEvent
  dsimp only
  (repeat' split) <;> simp [noteRefused, served_appendEvent, hlost]

@[simp] theorem firm_postEvent (c : Nat) (p : List Word) : (postEvent c p s).firm m = s.firm m := by
  simp [State.firm, served_postEvent, reeve]

end
end Sys2Proof.Machine
end

section
/-! SUPPORT. Scheduling, DMA, tasks and the peripheral port keep what the firmware's watch turns on (R381 to R403, R470 to R474). -/

namespace Sys2Proof.Machine

section
variable (m : Nat) (s : State)

/-! ### The Steward -/

@[simp] theorem firm_traceRec (kind : Nat) (byDma : Bool) (r task other cause : Nat) :
    (traceRec kind byDma r task other cause s).firm m = s.firm m := by
  unfold traceRec
  dsimp only
  split <;> simp

theorem firm_chargeGroup (g t : Nat) : (chargeGroup g t s).firm m = s.firm m := by
  unfold chargeGroup
  split <;> simp

theorem firm_newRound : (newRound s).firm m = s.firm m := rfl

@[simp] theorem firm_selectTask (r : Nat) : (selectTask r s).1.firm m = s.firm m := by
  unfold selectTask
  dsimp only
  (repeat' split) <;> simp only [firm_chargeGroup, firm_newRound]

@[simp] theorem firm_dispatchTo (r t old : Nat) : (dispatchTo r t old s).firm m = s.firm m := by
  unfold dispatchTo
  dsimp only
  rw [firm_traceRec, firm_modReeve]
  · simp
  · exact fun _ => rfl

@[simp] theorem firm_dispatch (r old : Nat) : (dispatch r old s).firm m = s.firm m := by
  unfold dispatch
  extract_lets s0
  have h0 : s0.firm m = s.firm m := by
    unfold s0
    rw [firm_modReeve]
    · simp [modSport]
    · exact fun _ => rfl
  have hselect : (selectTask r s0).1.firm m = s.firm m := (firm_selectTask m s0 r).trans h0
  split
  · split
    · next s1 t hs => simpa [hs] using hselect
    · next s1 hs => simpa [hs] using hselect
  · exact h0

@[simp] theorem firm_placeIn (n t : Nat) : (placeIn n t s).firm m = s.firm m := by
  induction n generalizing t s with
  | zero => rfl
  | succ n ih =>
    unfold placeIn
    (repeat' split) <;> simp [ih, preempt]

@[simp] theorem firm_makeReady (t cause : Nat) (wake : Option (Nat × Word)) : (makeReady t cause wake s).firm m = s.firm m := by
  unfold makeReady place
  split <;> simp

@[simp] theorem firm_setFlags (t : Nat) (f : Word) : (setFlags t f s).firm m = s.firm m := by
  unfold setFlags putFlags
  dsimp only
  (repeat' split) <;> simp [modTslot]

@[simp] theorem firm_queuePost (n : Nat) (entry : BitVec 64) (byDma : Bool) (r who cause : Nat) :
    (queuePost n entry byDma r who cause s).firm m = s.firm m := by
  unfold queuePost
  dsimp only
  (repeat' split) <;> simp [modSqueue]

@[simp] theorem firm_takeOff (t : Nat) (st : TState) : (takeOff t st s).firm m = s.firm m := by
  unfold takeOff
  dsimp only
  split <;> simp [unlist, modTslot]

/-! ### The DMA engine -/

theorem firm_ctrlPut (a : Nat) (v : Word) : (ctrlPut a v s).firm m = s.firm m := by
  unfold ctrlPut
  split <;> simp

@[simp] theorem firm_appendRecord (c : Nat) (k : DmaRec) : (appendRecord c k s).firm m = s.firm m := by
  unfold appendRecord
  dsimp only [modChan, modRing]
  rw [modDma_eq, modDma_eq, firm_setDma, firm_setDma]
  exact firm_foldl m (fun _ _ => firm_ctrlPut m _ _ _) _ s

@[simp] theorem firm_endChannel (c status count : Nat) (offset : Word) : (endChannel c status count offset s).firm m = s.firm m := by
  unfold endChannel
  dsimp only
  split <;> simp [modChan]

theorem firm_dmaWrite {s t : State} {c a : Nat} {v : Word} (h : dmaWrite c a v s = some t) : t.firm m = s.firm m := by
  unfold dmaWrite at h
  split at h
  · split at h
    · cases h
      simp [granPut, cellPut]
    · cases h
  · cases h
    exact firm_modReeve m _ _ fun _ => rfl
  · cases h
    exact firm_ctrlPut m _ _ _

@[simp] theorem firm_dmaBusErr (a : Nat) : (dmaBusErr a s).firm m = s.firm m := by
  unfold dmaBusErr
  split <;> simp [bankErr]

@[simp] theorem firm_moveWord (c i : Nat) : (moveWord c i s).1.firm m = s.firm m := by
  unfold moveWord
  dsimp only
  split
  · split <;> simp
  · split
    · next hw => exact firm_dmaWrite m hw
    · simp
  · split
    · simp
    · split
      · next hw => exact firm_dmaWrite m hw
      · simp

@[simp] theorem firm_postBlock (c : Nat) : (postBlock c s).firm m = s.firm m := by
  unfold postBlock
  dsimp only
  (repeat' split) <;> simp [modChan]

@[simp] theorem firm_pump (c n : Nat) : (pump c n s).firm m = s.firm m := by
  induction n generalizing s with
  | zero => rfl
  | succ n ih =>
    unfold pump
    dsimp only
    (repeat' split) <;> simp [ih, modChan]

@[simp] theorem firm_stopPoint (c : Nat) : (stopPoint c s).firm m = s.firm m := by
  simp [stopPoint, takeFresh]

theorem firm_stopChannel (c : Nat) : (stopChannel c s).firm m = s.firm m := by
  unfold stopChannel
  dsimp only
  (repeat' split) <;> simp

@[simp] theorem firm_stopAllDma : (stopAllDma s).firm m = s.firm m := firm_forEach m (fun t c => firm_stopChannel m t c) _ s

/-! ### Tasks -/

theorem firm_dropChannel (c : Nat) : (dropChannel c s).firm m = s.firm m := by
  unfold dropChannel
  dsimp only
  split <;> simp [modChan]

theorem firm_lendQueues (k : Task) (on : Bool) : (lendQueues k on s).firm m = s.firm m :=
  firm_forEach m (fun t q => by simp [modSqueue]) _ s

theorem firm_stopTask (i st : Nat) : (stopTask i st s).firm m = s.firm m := by
  unfold stopTask
  refine (firm_setJex m rfl rfl).trans ?_
  rw [firm_lendQueues, firm_takeOff]
  exact firm_forEach m (fun t c => firm_dropChannel m t c) _ s

@[simp] theorem firm_stopTasks : (stopTasks s).firm m = s.firm m := firm_forEach m (fun t i => firm_stopTask m t i 2) _ s

/-! ### The peripheral port -/

theorem firm_replyTask (kind status replyQ seq : Nat) (res : Word) : (replyTask kind status replyQ seq res s).firm m = s.firm m := by
  unfold replyTask
  dsimp only
  (repeat' split) <;> simp

@[simp] theorem firm_endTicket (st : Nat) : (endTicket st s).firm m = s.firm m := by
  unfold endTicket
  dsimp only
  (repeat' split) <;> simp [firm_replyTask]

@[simp] theorem firm_cancelTickets : (cancelTickets s).firm m = s.firm m := firm_forEach m (fun t _ => firm_endTicket m t 4) _ s

theorem firm_cancelQueued (x : Ticket) : (cancelQueued x s).firm m = s.firm m := by
  unfold cancelQueued
  dsimp only
  split <;> simp [firm_replyTask]

@[simp] theorem firm_quietPort : (quietPort s).firm m = s.firm m := by
  unfold quietPort
  split
  · rw [modPer_eq, firm_setPer]
    exact firm_foldl m (fun t x => firm_cancelQueued m t x) _ s
  · simp

end
end Sys2Proof.Machine
end

section
/-! SUPPORT. The end of an arming, of the commands that a mode does not allow and of what was staged keep what the firmware's watch turns on
(R36, R302, R307, R439); a new MODE, the entry to FALLBACK and the halted Reeves change it (R20, R33, R277). -/

namespace Sys2Proof.Machine

open Sys2Proof.Safety

section
variable (m : Nat) (s : State)

/-! ### The pair (R302, R307) -/

theorem firm_setOwner (b owner chan : Nat) : (setOwner b owner chan s).firm m = s.firm m := by
  unfold setOwner
  dsimp only
  split <;> simp

theorem firm_changeSource (d src grp : Nat) : (changeSource d src grp s).firm m = s.firm m := by
  have hlose : (loseReference d s).firm m = s.firm m := by
    unfold loseReference
    split <;> simp
  unfold changeSource
  extract_lets x set
  split
  · rfl
  · split
    · rw [modDom_eq, firm_setDomains]
    · rw [modDom_eq, firm_setDomains, hlose]

theorem firm_ownSources : (ownSources s).firm m = s.firm m := by
  refine firm_forEach m (fun t d => ?_) _ s
  dsimp only
  split
  · exact firm_changeSource m t _ _ _
  · rfl

theorem firm_freeCopyBanks : (freeCopyBanks s).firm m = s.firm m := firm_foldl m (fun t _ => firm_setOwner m t _ _ _) _ _

theorem firm_twinEvent (i : Nat) : (twinEvent i s).firm m = s.firm m := firm_setTwin m rfl rfl rfl

@[simp] theorem firm_failArming (code : Nat) : (failArming code s).firm m = s.firm m := by
  unfold failArming
  split
  · rfl
  · rw [firm_postEvent, firm_twinEvent, firm_releaseLeave, firm_ownSources, firm_freeCopyBanks]
    exact (firm_setTwin m rfl rfl rfl).trans (firm_setQuerns m s _)

/-! ### Commands that a mode ends (R439) -/

theorem firm_beginFlash (o : FlashOp) : (beginFlash o s).firm m = s.firm m := by simp [beginFlash]

theorem firm_endFlash (sel : Nat) : (endFlash sel s).firm m = s.firm m := by
  unfold endFlash
  extract_lets s1 s2
  have h2 : s2.firm m = s.firm m := by
    unfold s2
    split <;> simp [s1]
  split <;> simp [firm_beginFlash, h2]

@[simp] theorem firm_dropFlash (k : Nat) : (dropFlash k s).firm m = s.firm m := by
  refine (firm_foldl m (fun t _ => firm_endFlash m t _) _ _).trans ?_
  simp

theorem firm_dropSwap (w : Swap) : (dropSwap w s).firm m = s.firm m := by
  unfold dropSwap
  extract_lets s1
  have h1 : s1.firm m = s.firm m := firm_setJex m rfl rfl
  split
  · rw [dropSwapLeave, firm_releaseLeave, firm_foldl m fun t p => firm_releaseLeave m t _ _]
    exact h1
  · exact h1

theorem firm_nextLoad : (nextLoad s).firm m = s.firm m := by
  unfold nextLoad
  split <;> simp

@[simp] theorem firm_dropWork (k : Nat) : (dropWork k s).firm m = s.firm m := by
  unfold dropWork
  extract_lets mine s0 waits s1
  have h0 : s0.firm m = s.firm m := by
    unfold s0
    split <;> simp
  have h1 : s1.firm m = s.firm m := by
    refine (firm_foldl m (fun t w => firm_dropSwap m t w) _ _).trans ?_
    cases waits <;> cases mine <;> simp [h0]
  rw [firm_nextLoad, firm_dropFlash, modVigil_eq, firm_setVigil, modJex_eq]
  exact (firm_setJex m rfl rfl).trans h1

/-! ### A new mode -/

/-- Work over a list keeps what each of its elements keeps. -/
theorem firm_foldl_mem {β : Type} {g : State → β → State} (l : List β) (h : ∀ t, ∀ x ∈ l, (g t x).firm m = t.firm m) (s : State) :
    (l.foldl g s).firm m = s.firm m := by
  induction l generalizing s with
  | nil => rfl
  | cons a l ih =>
    rw [List.foldl_cons, ih (fun t x hx => h t x (List.mem_cons_of_mem a hx)), h s a (List.mem_cons_self)]

theorem firm_refuse_other (k : Nat) (r : Refuse) (h : m ≠ k) : (refuse k r s).firm m = s.firm m := by
  have hbox : mbox (refuse k r s) m = mbox s m := by
    rw [refuse, mbox_replyWith, if_neg h]
  simp only [State.firm, hbox]
  rfl

/-- The end of the commands that a mode does not allow concerns mailboxes of ACCEPTED commands alone. -/
theorem firm_endDisallowed (mode : Mode) (h : (mbox s m).state ≠ .accepted) : (endDisallowed mode s).firm m = s.firm m := by
  refine firm_foldl_mem m _ (fun t k hk => ?_) s
  have hne : m ≠ k := by
    rintro rfl
    exact h (by simpa [acceptedMbs] using (List.mem_filter.mp hk).2)
  (repeat' split)
  · rfl
  · simp [stopFlash]
  · rw [firm_refuse_other m _ _ _ hne, firm_dropWork]

theorem firm_setAon (a : Aon) : (s.setAon a).firm m = { s.firm m with aon := a } := rfl

/-- MODE and LAST_MODE change, and nothing else of it. -/
theorem firm_setMode {new : Mode} (cause : Nat) (hnew : s.aon.mode ≠ new) (h : (mbox s m).state ≠ .accepted) :
    (setMode new cause s).firm m = { s.firm m with aon := { s.aon with mode := new, lastMode := s.aon.mode.code } } := by
  unfold setMode
  extract_lets old
  rw [if_neg hnew, firm_postEvent, firm_endDisallowed m _ _ (by simpa using h), modAon_eq, firm_setAon]

/-! ### The entry to FALLBACK (R36, R277) -/

theorem firm_stopQuern (q : Nat) : (stopQuern q s).firm m = s.firm m :=
  (firm_foldl m (fun t _ => firm_releaseLeave m t _ _) _ _).trans (firm_setQuerns m s _)

@[simp] theorem firm_haltQuerns : (haltQuerns s).firm m = s.firm m := by
  refine firm_foldl m (fun t e => ?_) _ s
  split
  · rw [modQuern_eq, firm_setQuerns]
  · exact firm_stopQuern m t _

theorem firm_dropArmed : (dropArmed s).firm m = s.firm m := by
  unfold dropArmed
  extract_lets s1 s2
  have h1 : s1.firm m = s.firm m := firm_forEach m (fun t d => by rw [modDom_eq, firm_setDomains]) _ s
  have h2 : s2.firm m = s.firm m := by
    refine (firm_foldl m (fun t w => firm_dropSwap m t w) _ _).trans ?_
    split <;> simp [h1]
  exact (firm_setJex m rfl rfl).trans h2

theorem firm_haltFlash : (haltFlash s).firm m = s.firm m := by
  unfold haltFlash
  extract_lets waiting s1
  exact (firm_foldl m (fun t _ => firm_releaseLeave m t _ _) _ _).trans (firm_setFlash m s _)

theorem firm_updateDuty : (updateDuty s).firm m = s.firm m := firm_setTwin m rfl rfl rfl

/-- The always-on record after an entry to FALLBACK. -/
def Aon.fellBack (a : Aon) : Aon := { a with sleeping := false, sleepTick := none, timer := none, mode := .fallback, lastMode := a.mode.code }

/-- The device with the work of MAINTENANCE, SERVICE or VIGIL ended, the Reeves aside. -/
def State.fallen (s : State) : State :=
  stopAllDma (stopTasks (loseCampaign (dropArmed (haltQuerns (failArming 0x84 (setMode .fallback 0 (stopSleep (quietPort s))))))))

theorem firm_stopSleep :
    (stopSleep s).firm m = { s.firm m with aon := { s.aon with sleeping := false, sleepTick := none, timer := none } } := rfl

theorem firm_fallen (hmode : s.aon.mode ≠ .fallback) (h : (mbox s m).state ≠ .accepted) :
    s.fallen.firm m = { s.firm m with aon := s.aon.fellBack } := by
  have hquiet := firm_quietPort m s
  have haon : (quietPort s).aon = s.aon := congrArg Firm.aon hquiet
  have hbox : mbox (quietPort s) m = mbox s m := congrArg Firm.box hquiet
  have hstop : (stopSleep (quietPort s)).aon = { s.aon with sleeping := false, sleepTick := none, timer := none } :=
    congrArg (fun a : Aon => { a with sleeping := false, sleepTick := none, timer := none }) haon
  have hset := firm_setMode m (stopSleep (quietPort s)) (new := .fallback) 0
    (by rw [hstop]; exact hmode) (by rw [show mbox (stopSleep (quietPort s)) m = mbox s m from hbox]; exact h)
  rw [hstop] at hset
  rw [State.fallen, firm_stopAllDma, firm_stopTasks, loseCampaign, modVigil_eq, firm_setVigil, firm_dropArmed, firm_haltQuerns,
    firm_failArming, hset, firm_stopSleep, hquiet]
  rfl

/-! ### The Reeves (R277) -/

/-- The run states after a watchdog expiry. -/
def haltedRuns (f : Nat → ReeveRun) (r : Nat) : ReeveRun := if r < 4 then .halted else f r

/-- The run states after FALLBACK_ENTER. -/
def restrictedRuns (f : Nat → ReeveRun) (r : Nat) : ReeveRun :=
  if r = 0 then .restricted else if r = 1 then .halted else if r < 4 then .inReset else f r

theorem firm_setRun {s : State} {r : Nat} {f : Reeve → Reeve} (v : ReeveRun) (h : ∀ x, (f x).run = v) :
    (modReeve s r f).firm m = { s.firm m with runs := Function.update (s.firm m).runs r v } := by
  have hruns : (fun k => (reeve (modReeve s r f) k).run) = Function.update (fun k => (reeve s k).run) r v := funext fun k => by
    rw [reeve_modReeve, apply_ite Reeve.run, h, Function.update_apply]
  have hfirm : (modReeve s r f).firm m = { s.firm m with runs := fun k => (reeve (modReeve s r f) k).run } := rfl
  rw [hfirm, hruns]
  rfl

theorem firm_haltReeves_halt : (haltReeves true s).firm m =
    { s.firm m with served := false, started := false, restricted := false, runs := haltedRuns (s.firm m).runs, box := {} } := by
  have hserved : ∀ t : State, (clearServed (modJex t fun j => { j with started := false, restricted := false })).firm m =
      { t.firm m with served := false, started := false, restricted := false, box := {} } := fun _ => rfl
  have hruns : Function.update (Function.update (Function.update (Function.update (s.firm m).runs 0 .halted) 1 .halted) 2 .halted) 3 .halted =
      haltedRuns (s.firm m).runs := funext fun r => by
    simp only [Function.update_apply, haltedRuns]
    grind
  simp only [haltReeves, if_true, List.foldl_cons, List.foldl_nil, hserved]
  rw [firm_setRun m .halted, firm_setRun m .halted, firm_setRun m .halted, firm_setRun m .halted, ← hruns]
  all_goals exact fun _ => rfl

theorem firm_haltReeves_restricted : (haltReeves false s).firm m =
    { s.firm m with restricted := true, runs := restrictedRuns (s.firm m).runs } := by
  have hjex : ∀ t : State, (modJex t fun j => { j with restricted := true }).firm m = { t.firm m with restricted := true } := fun _ => rfl
  have hruns : Function.update (Function.update (Function.update (Function.update (s.firm m).runs 0 .restricted) 1 .halted) 2 .inReset) 3
      .inReset = restrictedRuns (s.firm m).runs := funext fun r => by
    simp only [Function.update_apply, restrictedRuns]
    grind
  simp only [haltReeves, Bool.false_eq_true, if_false, List.foldl_cons, List.foldl_nil, hjex]
  rw [firm_setRun m .inReset, firm_setRun m .inReset, firm_setRun m .halted, firm_setRun m .restricted, ← hruns]
  all_goals exact fun _ => rfl

/-! ### The entry as a whole -/

/-- The modes from which a device falls back. -/
def fallsBack (s : State) : Prop := s.aon.mode = .service ∨ s.aon.mode = .vigil ∨ s.aon.mode = .maintenance

theorem ne_fallback_of_fallsBack {s : State} (h : fallsBack s) : s.aon.mode ≠ .fallback := by
  rcases h with h | h | h <;> rw [h] <;> decide

theorem enterFallback_halt {s : State} (hlive : fallsBack s) (hrole : (haltFlash (haltReeves true s)).fallen.twin.role ≠ .standby) :
    enterFallback true s = updateDuty (haltFlash (haltReeves true s)).fallen := by
  unfold State.fallen at *
  rw [enterFallback, if_pos (show _ ∨ _ ∨ _ from hlive)]
  simp only [if_true, if_neg hrole]

theorem enterFallback_restricted {s : State} (hlive : fallsBack s) (hrole : s.fallen.twin.role ≠ .standby) :
    enterFallback false s = updateDuty (haltReeves false s.fallen) := by
  unfold State.fallen at *
  rw [enterFallback, if_pos (show _ ∨ _ ∨ _ from hlive)]
  simp only [Bool.false_eq_true, if_false, if_neg hrole]

/-- After a watchdog expiry. -/
theorem firm_enterFallback_halt (hlive : fallsBack s) (hrole : s.twin.role ≠ .standby) :
    (enterFallback true s).firm m = { (haltReeves true s).firm m with aon := s.aon.fellBack } := by
  have h0 : (haltFlash (haltReeves true s)).firm m = (haltReeves true s).firm m := firm_haltFlash m _
  have hhalt := firm_haltReeves_halt m s
  have haon : (haltFlash (haltReeves true s)).aon = s.aon := congrArg Firm.aon (h0.trans hhalt)
  have hbox : mbox (haltFlash (haltReeves true s)) m = {} := congrArg Firm.box (h0.trans hhalt)
  have hfallen := firm_fallen m (haltFlash (haltReeves true s)) (by rw [haon]; exact ne_fallback_of_fallsBack hlive) (by rw [hbox]; decide)
  have hduty : (haltFlash (haltReeves true s)).fallen.twin.role = s.twin.role := by
    rw [← role_firm m, hfallen, h0, hhalt]
    rfl
  rw [enterFallback_halt hlive (by rw [hduty]; exact hrole), firm_updateDuty, hfallen, h0, haon]

/-- After FALLBACK_ENTER. -/
theorem firm_enterFallback_restricted (hlive : fallsBack s) (hrole : s.twin.role ≠ .standby) (h : (mbox s m).state ≠ .accepted) :
    (enterFallback false s).firm m =
      { s.firm m with aon := s.aon.fellBack, restricted := true, runs := restrictedRuns (s.firm m).runs } := by
  have hfallen := firm_fallen m s (ne_fallback_of_fallsBack hlive) h
  have hduty : s.fallen.twin.role = s.twin.role := by
    rw [← role_firm m, hfallen]
    rfl
  rw [enterFallback_restricted hlive (by rw [hduty]; exact hrole), firm_updateDuty, firm_haltReeves_restricted, hfallen]

end
end Sys2Proof.Machine
end

section
/-! SUPPORT. The firmware watchdog's expiry, FALLBACK_ENTER and the steps of SLEEP_ENTER (R265, R277, R299, R329, R361, R378, R486). -/

namespace Sys2Proof.Machine

open Sys2Proof.Safety

/-! ### Internal triggers of the Crier (R264, R299) -/

section
variable (m : Nat) (s : State)

theorem firm_crierReached (f : Crier → Crier) (h : s.vigil.state ≠ .running) :
    (crierReached f s).firm m = { s.firm m with crier := (f s.crier).settle } := by
  have hreached : ∀ t : State, t.vigil.state ≠ .running → (crierActivated t).firm m = t.firm m := fun t ht => by
    unfold crierActivated
    extract_lets t1
    have h1 : t1.firm m = t.firm m := by
      unfold t1
      split
      · rfl
      · exact firm_setTwin m rfl rfl rfl
    have hcalm : t1.vigil.state ≠ .running := by
      unfold t1
      split <;> exact ht
    rw [abortZones_calm hcalm, h1]
  unfold crierReached
  split
  · exact (hreached (modCrier s fun c => (f c).settle) h).trans rfl
  · rfl

/-- The internal trigger of a device that is not in DUTY settles its Crier. -/
theorem firm_internalTrigger (k : Internal) (hv : s.vigil.state ≠ .running) (hr : s.twin.role ≠ .duty) :
    (internalTrigger k s).firm m = { s.firm m with crier := (s.crier.trigger k).settle } := by
  have halarm : s.crier.alarm = true ∨ (s.crier.trigger k).alarm = false := by
    rw [show (s.crier.trigger k).alarm = s.crier.alarm by cases k <;> rfl]
    exact Bool.eq_false_or_eq_true _
  rw [internalTrigger, if_neg hr, crierStep_noAlarm halarm, firm_updateDuty, firm_crierReached m s _ hv]

/-- Mode, pair and watchdog record are not the trigger's. -/
theorem internalTrigger_spec (k : Internal) (hv : s.vigil.state ≠ .running) (hr : s.twin.role ≠ .duty) :
    (internalTrigger k s).crier = (s.crier.trigger k).settle ∧ (internalTrigger k s).aon = s.aon ∧
      (internalTrigger k s).twin.role = s.twin.role ∧ mbox (internalTrigger k s) m = mbox s m ∧
      (internalTrigger k s).faults.hwWdog = s.faults.hwWdog ∧ (internalTrigger k s).faults.wdogReeve = s.faults.wdogReeve := by
  have h := firm_internalTrigger m s k hv hr
  simp only [State.firm, Firm.mk.injEq] at h
  obtain ⟨haon, hcrier, -, hwdog, hwho, -, -, -, hrole, -, -, -, hbox⟩ := h
  exact ⟨hcrier, haon, hrole, hbox, hwdog, hwho⟩

theorem triggered_trigger (k : Internal) (c : Crier) : (c.trigger k).triggered = true := by
  cases k <;> simp [Crier.trigger, Crier.triggered, Crier.internal]

theorem startHandover_single (d : Option Nat) (h : s.twin.role ≠ .duty) : startHandover d s = s := if_neg fun k => h k.1

/-- Self-fault raised, the handover stated for the second Bell of domain d from here (R296, R297). -/
def State.selfFaulted (s : State) (d : Nat) : State :=
  modTwin s fun t => { t with selfFault := true, handover := some { domain := d, bell := (dom s d).bell + 2 } }

theorem startHandover_duty {s : State} {d : Nat} (hr : s.twin.role = .duty) (hh : s.twin.handover = none) :
    startHandover (some d) s = s.selfFaulted d := if_pos ⟨hr, hh⟩

/-- A DUTY device's trigger waits for the handover (R299). -/
theorem internalTrigger_duty {s : State} (k : Internal) (h : s.twin.role = .duty) : internalTrigger k s = modCrier s (Crier.hold k) := if_pos h

end

/-! ### The watchdog's expiry (R277, R378, R486) -/

section
variable {s t u : State} {r : Fin 2}

theorem wdogDue_unwatched (h : (reeve s r).run ≠ .running) (h' : (reeve s r).run ≠ .restricted) : wdogDue s r = false := by
  simp [wdogDue, watched, h, h']

theorem wdogDue_held (h : (reeve s r).held = true) (h' : s.gate.lc = 1) : wdogDue s r = false := by
  simp [wdogDue, watched, h, h']

theorem wdogDue_early (h : ¬ 1000 ≤ (reeve s r).wdog) : wdogDue s r = false := by
  simp [wdogDue, h]

theorem wdogDue_running (hrun : (reeve s r).run = .running) (hheld : ((reeve s r).held && s.gate.lc == 1) = false)
    (hdue : 1000 ≤ (reeve s r).wdog) : wdogDue s r = true := by
  rw [wdogDue, watched, hheld, hrun]
  simp [hdue, r.isLt]

theorem wdogDue_restricted (hrun : (reeve s 0).run = .restricted) (hheld : ((reeve s 0).held && s.gate.lc == 1) = false)
    (hdue : 1000 ≤ (reeve s 0).wdog) : wdogDue s 0 = true := by
  rw [wdogDue, watched, hheld, hrun]
  simp [hdue]

theorem setWdog_faults (n : Nat) (s : State) :
    (setWdog n s).faults.hwWdog = true ∧ (setWdog n s).faults.wdogReeve = if s.faults.hwWdog then s.faults.wdogReeve else n := by
  rw [setWdog, modFaults_eq, State.setFaults_faults]
  split
  · next h => exact ⟨h, rfl⟩
  · exact ⟨rfl, rfl⟩

/-- The state t is u with its Reeves halted and its Crier and mode those given. -/
def haltedAs (u t : State) (a : Aon) (c : Crier) : Prop := t.firm 0 = { (haltReeves true u).firm 0 with aon := a, crier := c }

theorem haltedAs_spec {a : Aon} {c : Crier} (h : haltedAs u t a c) :
    ((∀ r : Fin 4, (reeve t r).run = .halted) ∧ t.host.served = false ∧ t.jex.started = false) ∧
      (t.faults.hwWdog = u.faults.hwWdog ∧ t.faults.wdogReeve = u.faults.wdogReeve) ∧ t.aon = a ∧ t.crier = c ∧
      t.twin.selfFault = u.twin.selfFault ∧ t.twin.handover = u.twin.handover := by
  rw [haltedAs, firm_haltReeves_halt] at h
  simp only [State.firm, Firm.mk.injEq] at h
  obtain ⟨haon, hcrier, -, hwdog, hwho, hserved, hstarted, -, -, hself, hover, hruns, -⟩ := h
  refine ⟨⟨fun r => ?_, hserved, hstarted⟩, ⟨hwdog, hwho⟩, haon, hcrier, hself, hover⟩
  rw [show (reeve t r).run = _ from congrFun hruns r.val, haltedRuns, if_pos r.isLt]

theorem vigil_haltFlash (s : State) : (haltFlash s).vigil = s.vigil := by
  unfold haltFlash
  extract_lets waiting s1
  have hleave : ∀ (t : State) (x : Nat × FlashOp), (releaseLeave x.2.cls x.2.sel t).vigil = t.vigil :=
    fun t x => (leaveOnly_releaseLeave _ _ t).1 .vigil (by simp)
  exact foldl_keeps State.vigil hleave waiting s1

theorem vigil_haltReeves (s : State) : (haltReeves true s).vigil = s.vigil := by
  simp only [haltReeves, if_true, clearServed, modHost_eq, modJex_eq, modReeve_eq, List.foldl_cons, List.foldl_nil, State.setHost_vigil,
    State.setJex_vigil, State.setReeves_vigil]

/-- An expiry in the restricted loop (R277). -/
theorem haltedAs_expireWdog_restricted (hrun : (reeve s 0).run = .restricted) (hv : s.vigil.state ≠ .running) (hr : s.twin.role ≠ .duty) :
    haltedAs (setWdog 0 s) (expireWdog 0 s) s.aon (s.crier.trigger .wdog).settle := by
  have hflash := firm_haltFlash 0 (haltReeves true (setWdog 0 s))
  have hvigil : (haltFlash (haltReeves true (setWdog 0 s))).vigil = s.vigil := by
    rw [vigil_haltFlash, vigil_haltReeves]
    rfl
  have hrole : (haltFlash (haltReeves true (setWdog 0 s))).twin.role = s.twin.role := by
    rw [← role_firm 0, hflash, firm_haltReeves_halt]
    rfl
  have hcrier : (haltFlash (haltReeves true (setWdog 0 s))).crier = s.crier := by
    rw [← crier_firm 0, hflash, firm_haltReeves_halt]
    rfl
  rw [haltedAs, expireWdog, if_pos hrun, ite_self,
    firm_internalTrigger 0 _ .wdog (by rw [hvigil]; exact hv) (by rw [hrole]; exact hr), hflash, hcrier, firm_haltReeves_halt]
  rfl

/-- An expiry elsewhere: the device falls back with its Reeves halted (R36, R277). -/
theorem haltedAs_expireWdog {n : Nat} (hrun : (reeve s n).run ≠ .restricted)
    (hu : u = internalTrigger .wdog (startHandover (faultDomain s) (setWdog (if wdogDue s 0 then 0 else n) s)))
    (hlive : fallsBack u) (hrole : u.twin.role ≠ .standby) : haltedAs u (expireWdog n s) u.aon.fellBack u.crier := by
  have hexpire : expireWdog n s = enterFallback true u := by
    rw [expireWdog, if_neg hrun, hu]
    rfl
  rw [haltedAs, hexpire, firm_enterFallback_halt 0 u hlive hrole, firm_haltReeves_halt]
  rfl

end
end Sys2Proof.Machine
end

section
/-! SUPPORT. FALLBACK_ENTER and the steps of SLEEP_ENTER as they are accepted and go on (R277, R299, R329, R361). -/

namespace Sys2Proof.Machine

open Sys2Proof.Safety

/-! ### What acceptance and the end of a command leave alone -/

section
variable {s : State} {m : Fin 8}

/-- FALLBACK_ENTER is accepted in the modes from which a device falls back alone. -/
theorem fallsBack_of_taken (h : taken s m 0xD5 noChecks = true) : fallsBack s := by
  simp only [taken, Bool.and_eq_true, Option.isNone_iff_eq_none] at h
  obtain ⟨⟨-, hgeneral⟩, -⟩ := h
  have hmode : 7 &&& modeBit s.aon.mode ≠ 0 := fun hz => by
    rw [generalRefusal, show cmdRow 0xD5 = some (7, 1, 1, []) from by decide] at hgeneral
    simp only [acceptHead_aon, hz, if_true] at hgeneral
    split at hgeneral <;> exact absurd hgeneral (by simp)
  unfold fallsBack
  revert hmode
  cases s.aon.mode <;> decide

/-- The entry to FALLBACK of FALLBACK_ENTER on a SINGLE device (R277). -/
theorem enterFallback_fbCmd {u : State} {k : Nat} (hlive : fallsBack u) (hv : u.vigil.state ≠ .running) (hr : u.twin.role = .single)
    (hbox : (mbox u k).state ≠ .accepted) : let t := enterFallback false (internalTrigger .fbCmd u)
    t.aon = u.aon.fellBack ∧ t.crier = (u.crier.trigger .fbCmd).settle ∧ t.jex.restricted = true ∧ mbox t k = mbox u k ∧
      ∀ r, (reeve t r).run = restrictedRuns (fun r => (reeve (internalTrigger .fbCmd u) r).run) r := by
  obtain ⟨hucrier, huaon, hurole, hubox, -⟩ := internalTrigger_spec k u .fbCmd hv (by rw [hr]; decide)
  have hfall := firm_enterFallback_restricted k (internalTrigger .fbCmd u) (by unfold fallsBack; rw [huaon]; exact hlive)
    (by rw [hurole, hr]; decide) (by rw [hubox]; exact hbox)
  simp only [State.firm, Firm.mk.injEq] at hfall
  obtain ⟨haon, hcrier, -, -, -, -, -, hrestricted, -, -, -, hruns, hmbox⟩ := hfall
  exact ⟨by rw [haon, huaon], hcrier.trans hucrier, hrestricted, hmbox.trans hubox, fun r => congrFun hruns r⟩

theorem faultDomain_acceptHead : faultDomain (acceptHead m s) = faultDomain s := by
  simp only [faultDomain, dom, acceptHead_domains]

end

/-! ### The ramp of SLEEP_ENTER (R302, R329, R474) -/

section
variable {m : Nat} {s : State}

theorem firm_armFailed {c : Nat} (h : s.twin.armMb ≠ some m) : (armFailed c s).firm m = s.firm m := by
  unfold armFailed
  split
  · next k hk =>
    rw [firm_refuse_other m _ _ _ fun he => h (by rw [hk, he]), firm_failArming]
  · exact firm_failArming m s c

theorem per_releaseLeave (cls key : Nat) (s : State) : (releaseLeave cls key s).per = s.per :=
  (leaveOnly_releaseLeave cls key s).1 .per (by simp)

theorem per_setOwner (b owner chan : Nat) (s : State) : (setOwner b owner chan s).per = s.per := by
  unfold setOwner
  extract_lets s1
  split
  · exact (leaveOnly_requestLeave 9 b s1).1 .per (by simp)
  · exact per_releaseLeave 9 b s1

theorem per_changeSource (d src grp : Nat) (s : State) : (changeSource d src grp s).per = s.per := by
  have hlose : (loseReference d s).per = s.per := by
    unfold loseReference
    split <;> simp
  unfold changeSource
  extract_lets x set
  split
  · rfl
  · split
    · rw [modDom_eq, State.setDomains_per]
    · rw [modDom_eq, State.setDomains_per, hlose]

theorem per_ownSources (s : State) : (ownSources s).per = s.per := by
  refine foldl_keeps State.per (fun t d => ?_) _ s
  dsimp only
  split
  · exact per_changeSource _ _ _ t
  · rfl

theorem per_freeCopyBanks (s : State) : (freeCopyBanks s).per = s.per := foldl_keeps State.per (fun t _ => per_setOwner _ _ _ t) _ _

theorem per_armFailed (c : Nat) (s : State) : (armFailed c s).per = s.per := by
  have hfail : (failArming c s).per = s.per := by
    unfold failArming
    split
    · rfl
    · rw [postEvent_per, twinEvent, modTwin_eq, State.setTwin_per, per_releaseLeave, per_ownSources, per_freeCopyBanks]
      rfl
  unfold armFailed
  split
  · rw [refuse_only]
    exact hfail
  · exact hfail

/-- An entry on the port ends at its next word. -/
theorem ending_quietPort (h : s.per.active = true) : (quietPort s).per.ending = true := by
  rw [quietPort, if_pos h]
  rfl

/-- The ramp begins, and nothing else where neither pair nor port has anything to end. -/
theorem sleepRamp_rest (ha : s.twin.arm = .idle) (hm : s.twin.armMb = none) (hp : s.per.active = false) (ht : s.per.tickets = []) :
    sleepRamp s = s.setAon { s.aon with sleepTick := some s.aon.tick } := by
  have harm : armFailed 0x84 s = s := by
    simp only [armFailed, hm, failArming, ha, if_true]
  have hport : quietPort s = s := by
    simp [quietPort, hp, cancelTickets, ht, forEach]
  rw [sleepRamp, harm, hport, modAon_eq]

theorem firm_sleepRamp (h : s.twin.armMb ≠ some m) :
    (sleepRamp s).firm m = { s.firm m with aon := { s.aon with sleepTick := some s.aon.tick } } := by
  have hquiet : (quietPort (armFailed 0x84 s)).firm m = s.firm m := by rw [firm_quietPort, firm_armFailed h]
  have haon : (quietPort (armFailed 0x84 s)).aon = s.aon := by
    rw [← aon_firm m, hquiet]
    rfl
  rw [sleepRamp, modAon_eq, firm_setAon, haon, hquiet]

/-! ### The end of SLEEP_ENTER (R329, R361) -/

/-- Querns, tickets, tasks and channels stopped. -/
def State.rested (s : State) : State := stopAllDma (stopTasks (cancelTickets (haltQuerns s)))

theorem firm_rested : s.rested.firm m = s.firm m := by
  rw [State.rested, firm_stopAllDma, firm_stopTasks, firm_cancelTickets, firm_haltQuerns]

/-- The tag of R361 covers the memory and of the Gatehouse's record no more than the named fields. -/
theorem wakeTag_congr {t u : State} {x : BitVec 384} {y : Bool} {z : Nat} (hr : t.ctrlRam = u.ctrlRam)
    (hg : t.gate = { u.gate with sealTag := x, sealHeld := y, sleepGpio := z }) : wakeTag t = wakeTag u := by
  simp only [wakeTag, hg, ctrlBytes, ctrlByte, ctrlWord, hr]

/-- The resume state captured, and the seal made over the resume region. -/
def State.sealed (s : State) : State := makeWakeSeal 0x10100000 0x100000 (modJex s fun j => { j with resume := some (captureResume s) })

theorem aon_sealed (s : State) : s.sealed.aon = s.aon := rfl
theorem arg_sealed (s : State) (i : Nat) : arg s.sealed m i = arg s m i := rfl
theorem resume_sealed (s : State) : s.sealed.jex.resume.isSome = true := rfl

theorem gate_sealed (s : State) : s.sealed.gate = { s.gate with
    wakeCount := (s.gate.wakeCount + 1) % 4294967296, resBase := 0x10100000, resLen := 0x100000, sealHeld := true
    sealTag := wakeTag s.sealed } := by
  have htag : wakeTag s.sealed = s.sealed.gate.sealTag :=
    wakeTag_congr (u := modGate (modJex s fun j => { j with resume := some (captureResume s) }) fun g =>
      { g with wakeCount := (g.wakeCount + 1) % 4294967296, resBase := 0x10100000, resLen := 0x100000 })
      (x := s.sealed.gate.sealTag) (y := true) (z := s.gate.sleepGpio) rfl rfl
  rw [htag]
  rfl

theorem sleepSeal_eq : sleepSeal m s = reply m [0] (modGate (modAon s.rested.sealed fun a =>
    { a with sleeping := true, sleepTick := none, timer := if (arg s m 1).toNat = 0 then none else some (arg s m 1).toNat })
    fun g => { g with sleepGpio := fld (arg s m 2) 0 4 }) := rfl

theorem aon_rested : s.rested.aon = s.aon := by rw [← aon_firm 0 s.rested, firm_rested, aon_firm]

theorem gate_rested : s.rested.gate = s.gate := by rw [← gate_firm 0 s.rested, firm_rested, gate_firm]

theorem arg_rested (i : Nat) : arg s.rested m i = arg s m i := by
  rw [arg, ← box_firm m s.rested, firm_rested, box_firm, arg]

theorem resume_sleepSeal : (sleepSeal m s).jex.resume.isSome = true := by
  rw [sleepSeal_eq, reply_jex, modGate_eq, State.setGate_jex, modAon_eq, State.setAon_jex]
  exact resume_sealed _

theorem aon_sleepSeal : (sleepSeal m s).aon =
    { s.aon with sleeping := true, sleepTick := none, timer := if (arg s m 1).toNat = 0 then none else some (arg s m 1).toNat } := by
  rw [sleepSeal_eq, reply_aon, modGate_eq, State.setGate_aon, modAon_eq, State.setAon_aon, aon_sealed, aon_rested]

theorem answered_sleepSeal {m : Fin 8} : answered s (sleepSeal m s) m [0] := by
  rw [sleepSeal_eq]
  refine ⟨?_, fun i => ?_⟩
  · rw [reply, mbox_replyWith, if_pos rfl]
  · rw [reply, arg_replyWith, modGate_eq, arg_setGate, modAon_eq, arg_setAon, arg_sealed, arg_rested]

theorem gate_sleepSeal : (sleepSeal m s).gate = { s.gate with
    wakeCount := (s.gate.wakeCount + 1) % 4294967296, resBase := 0x10100000, resLen := 0x100000, sealHeld := true
    sealTag := wakeTag (sleepSeal m s), sleepGpio := fld (arg s m 2) 0 4 } := by
  have hgate : (sleepSeal m s).gate = { s.rested.sealed.gate with sleepGpio := fld (arg s m 2) 0 4 } := by
    rw [sleepSeal_eq, reply_gate, modGate_eq, State.setGate_gate, modAon_eq, State.setAon_gate]
  have hram : (sleepSeal m s).ctrlRam = s.rested.sealed.ctrlRam := by
    rw [sleepSeal_eq, reply_ctrlRam, modGate_eq, State.setGate_ctrlRam, modAon_eq, State.setAon_ctrlRam]
  rw [wakeTag_congr (x := s.rested.sealed.gate.sealTag) (y := s.rested.sealed.gate.sealHeld) hram hgate, hgate, gate_sealed, gate_rested]

end
end Sys2Proof.Machine
end

section

open Sys2Proof Sys2Proof.Machine Sys2Proof.Safety

/-- Settles O54: the effects of an expiry, of FALLBACK_ENTER and of SLEEP_ENTER are read off `State.firm`, the part of the state that the
firmware's watch turns on, which the device's other work keeps (`firm_fallen`, `firm_rested`) and which `firm_haltReeves_halt`,
`firm_haltReeves_restricted`, `firm_setMode` and `firm_internalTrigger` change; the seal's tag is that of the state left by `wakeTag_congr`. -/
theorem watchdogAndFallback : Obligations.WatchdogAndFallback := by
  unfold Obligations.WatchdogAndFallback
  intro s calm held live halted named due edge
  refine ⟨?service, ?other, ?unwatched, ?debug, ?early, ?loop, ?single, ?duty, ?fallback, ?ramp, ?handover, ?settle, ?begins⟩
  case service =>
    intro who n v hwho hruns hv
    refine ⟨modReeve s n fun x => { x with wdog := 0 }, congrArg Host.Outcome.next (if_pos ⟨hwho, hruns, hv⟩), by simp, ?_, fun j hj => ?_⟩
    · rw [reeve_modReeve, if_pos rfl]
    · rw [reeve_modReeve, if_neg hj]
  case other =>
    intro who n v h
    refine ⟨s, congrArg Host.Outcome.next (if_neg ?_), rfl⟩
    rintro ⟨hwho, hruns, hv⟩
    rcases h with h | h | h
    · exact h hwho
    · rw [hruns] at h
      exact absurd h (by decide)
    · exact h hv
  case unwatched => exact fun r h h' => ⟨_, rfl, wdogEnds_early (wdogDue_unwatched h h')⟩
  case debug => exact fun r h h' => ⟨_, rfl, wdogEnds_early (wdogDue_held h h')⟩
  case early => exact fun r h => ⟨_, rfl, wdogEnds_early (wdogDue_early h)⟩
  case loop =>
    intro hcalm hrole hrun hheld hdue
    have hends : wdogEnds 0 s = expireWdog 0 s := wdogEnds_due (wdogDue_restricted hrun hheld hdue)
    obtain ⟨hhalted, ⟨hwdog, hwho⟩, haon, hcrier, -⟩ := haltedAs_spec (haltedAs_expireWdog_restricted hrun hcalm hrole)
    obtain ⟨hset, hnames⟩ := setWdog_faults 0 s
    refine ⟨_, congrArg Host.Outcome.next hends, hhalted, ⟨hwdog.trans hset, ?_⟩, ?_, fun harmed => ?_⟩
    · rw [hwho, hnames]
      simp
    · rw [hcrier, settle_wdog]
      rfl
    · rw [hcrier]
      exact state_settle_armed (c := s.crier.trigger .wdog) harmed (triggered_trigger _ _)
  case single =>
    intro r hcalm hlive hsingle hrun hheld hdue
    have hrole : s.twin.role ≠ .duty := by
      rw [hsingle]
      decide
    obtain ⟨hset, hnames⟩ := setWdog_faults (if wdogDue s 0 then 0 else r.val) s
    obtain ⟨hucrier, huaon, hurole, -, huwdog, huwho⟩ :=
      internalTrigger_spec 0 (setWdog (if wdogDue s 0 then 0 else r.val) s) .wdog hcalm hrole
    have hexpire := haltedAs_expireWdog (s := s) (n := r) (u := internalTrigger .wdog (setWdog (if wdogDue s 0 then 0 else r.val) s))
      (by rw [hrun]; decide) (congrArg (internalTrigger .wdog) (startHandover_single (setWdog _ s) _ hrole).symm)
      (by unfold fallsBack; rw [huaon]; exact hlive)
      (by rw [hurole, show (setWdog _ s).twin.role = s.twin.role from rfl, hsingle]; decide)
    obtain ⟨hhalted, ⟨hwdog, hwho⟩, haon, hcrier, -⟩ := haltedAs_spec hexpire
    refine ⟨_, congrArg Host.Outcome.next (wdogEnds_due (wdogDue_running hrun hheld hdue)), hhalted,
      ⟨hwdog.trans (huwdog.trans hset), hwho.trans (huwho.trans hnames)⟩, ?_, ?_, ?_, fun harmed => ?_⟩
    · rw [haon]
      rfl
    · rw [haon, huaon]
      rfl
    · rw [hcrier, hucrier, settle_wdog]
      rfl
    · rw [hcrier, hucrier]
      exact state_settle_armed (c := s.crier.trigger .wdog) harmed (triggered_trigger _ _)
  case duty =>
    intro r d hlive hduty hnone hdom hrun hheld hdue
    obtain ⟨hset, hnames⟩ := setWdog_faults (if wdogDue s 0 then 0 else r.val) s
    have hexpire := haltedAs_expireWdog (s := s) (n := r)
      (u := modCrier ((setWdog (if wdogDue s 0 then 0 else r.val) s).selfFaulted d) (Crier.hold .wdog)) (by rw [hrun]; decide)
      (by rw [hdom, startHandover_duty (s := setWdog _ s) hduty hnone, internalTrigger_duty (s := (setWdog _ s).selfFaulted d) _ hduty])
      hlive (fun h => absurd (hduty.symm.trans h) (by decide))
    obtain ⟨hhalted, ⟨hwdog, hwho⟩, haon, hcrier, hself, hover⟩ := haltedAs_spec hexpire
    refine ⟨_, congrArg Host.Outcome.next (wdogEnds_due (wdogDue_running hrun hheld hdue)), hhalted,
      ⟨hwdog.trans hset, hwho.trans hnames⟩, ?_, hcrier, hself, hover⟩
    rw [haon]
    rfl
  case fallback =>
    intro m htaken hcalm hsingle
    have hrole : s.twin.role ≠ .duty := by
      rw [hsingle]
      decide
    have hready : (mbox (reply m [0] (acceptHead m s)) m).state ≠ .accepted := by
      rw [reply, mbox_replyWith, if_pos rfl]
      exact (by decide : MbState.ready ≠ .accepted)
    obtain ⟨haon, hcrier, hrestricted, hmbox, hruns⟩ := enterFallback_fbCmd (u := reply m [0] (acceptHead m s))
      (by simpa [fallsBack] using fallsBack_of_taken htaken) (by simpa using hcalm) (by simpa using hsingle) hready
    have hrun : fallbackEnterRun m (acceptHead m s) = enterFallback false (internalTrigger .fbCmd (reply m [0] (acceptHead m s))) := by
      rw [fallbackEnterRun, startHandover_single _ _ (by simpa using hrole)]
    have hreeve : ∀ r, (reeve (skipAll (fallbackEnterRun m (acceptHead m s))) r).run = _ := fun r => by
      rw [reeve, skipAll_reeves, ← reeve, hrun, hruns]
    refine completes_serve htaken rfl ⟨answered_of htaken (by decide) (by decide) (by rw [hrun]; exact hmbox) (arg_acceptHead s m m 0),
      ?_, ?_, ?_, fun harmed => ?_, hreeve 0, hreeve 1, hreeve 2, hreeve 3, ?_⟩
    · rw [skipAll_aon, hrun, haon]
      rfl
    · rw [skipAll_aon, hrun, haon, reply_aon, acceptHead_aon]
      rfl
    · rw [skipAll_crier, hrun, hcrier, settle_fbCmd]
      rfl
    · rw [skipAll_crier, hrun, hcrier, reply_crier, acceptHead_crier]
      exact state_settle_armed (c := s.crier.trigger .fbCmd) harmed (triggered_trigger _ _)
    · rw [skipAll_jex, hrun]
      exact hrestricted
  case ramp =>
    intro m htaken hduty harm
    have hrole : (acceptHead m s).twin.role ≠ .duty := by simpa using hduty
    have hrun : sleepRun (acceptHead m s) = sleepRamp (acceptHead m s) := by
      rw [sleepRun, startHandover_single _ _ hrole]
      exact if_neg hrole
    have hfirm := firm_sleepRamp (m := m) (s := acceptHead m s) (by simpa using harm)
    refine completes_serve htaken rfl ?_
    rw [hrun]
    refine ⟨pending_of htaken (by decide) ?_, ?_, fun hactive => ?_, fun hidle hmb hrest htickets => ?_⟩
    · rw [← box_firm m (sleepRamp _), hfirm]
      rfl
    · rw [skipAll_aon, ← aon_firm m (sleepRamp _), hfirm]
      simp
    · rw [skipAll_per, sleepRamp, modAon_eq, State.setAon_per]
      refine ending_quietPort ?_
      rw [per_armFailed, acceptHead_per]
      exact hactive
    · rw [sleepRamp_rest (by simpa using hidle) (by simpa using hmb) (by simpa using hrest) (by simpa using htickets)]
      exact same_taken (m := m) (ps := [.aon]) (by simp) (by simp) (by simp)
  case handover =>
    intro m d htaken hduty hnone hdom
    have hrole : (acceptHead m s).twin.role = .duty := by simpa using hduty
    have hbegin : sleepRun (acceptHead m s) = (acceptHead m s).selfFaulted d := by
      rw [sleepRun, faultDomain_acceptHead, hdom, startHandover_duty hrole (by simpa using hnone)]
      exact if_pos hrole
    refine pends_of (ps := [.twin]) htaken rfl (by decide) ?_ (by simp) (by simp) (by simp) ?_
    · rw [hbegin]
      simp [State.selfFaulted]
    · rw [hbegin, skipAll_twin]
      exact ⟨rfl, rfl⟩
  case settle =>
    intro m t0 ht0
    refine ⟨fun h => ?_, fun h hbox hchans => ?_⟩
    · rw [sleepSettle, ht0]
      exact if_neg (by omega)
    · have hseal : sleepSettle m s = sleepSeal m s := by
        rw [sleepSettle, ht0]
        exact if_pos h
      rw [hseal]
      exact ⟨answered_sleepSeal, resume_sleepSeal, aon_sleepSeal, gate_sleepSeal⟩
  case begins =>
    intro m hnone harm hmb hactive htickets
    rw [sleepSettle, hnone]
    exact sleepRamp_rest harm hmb hactive htickets

end
